-- ==== Sys2Proof/Word.lean ====
section
/-! DEFINITION. The word types of the device: 32-bit registers (R4), bytes, and the sparse table every array of the state
is held in. -/

namespace Sys2Proof

/-- A register or memory word of 32 bits (R4). -/
abbrev Word := BitVec 32

/-- One byte of memory. -/
abbrev Byte := BitVec 8

/-- A sparse table from numbers to values: pairs in strictly rising key order, holding no entry equal to what an unlisted
key reads as. Memory is one (its pairs are Host.Cell). -/
abbrev Table (α : Type) := List (Nat × α)

/-- The register pages in the order of interrupt sources 0 to 26 (R54). -/
inductive Page where
  | sys | life | jrnl | mem | dma | afe | dfc | grid | svs | phe | pea | trm | fio | hka | lge | evr | drc | sto | tim
  | mac0 | mac1 | mac2 | mac3 | gos | gal | dup | pci
  deriving DecidableEq, Repr

/-- The source number of a page's block interrupt (R54); also the index the state keeps the page's header under. -/
def Page.idx : Page → Nat
  | .sys => 0 | .life => 1 | .jrnl => 2 | .mem => 3 | .dma => 4 | .afe => 5 | .dfc => 6 | .grid => 7 | .svs => 8
  | .phe => 9 | .pea => 10 | .trm => 11 | .fio => 12 | .hka => 13 | .lge => 14 | .evr => 15 | .drc => 16 | .sto => 17
  | .tim => 18 | .mac0 => 19 | .mac1 => 20 | .mac2 => 21 | .mac3 => 22 | .gos => 23 | .gal => 24 | .dup => 25 | .pci => 26

/-- All pages. -/
def Page.all : List Page :=
  [.sys, .life, .jrnl, .mem, .dma, .afe, .dfc, .grid, .svs, .phe, .pea, .trm, .fio, .hka, .lge, .evr, .drc, .sto, .tim,
   .mac0, .mac1, .mac2, .mac3, .gos, .gal, .dup, .pci]

/-- The master IDs 0 to 8 (R9). -/
abbrev Master := Fin 9

end Sys2Proof
end

