-- ==== Sys2Proof/Machine/StateInputs.lean ====
section
/-! DEFINITION. State of the input side that no register shows: the analog front end (chapter 03), the filter chain
(chapter 04), and the GRID island (chapter 05). Every field's reset value stands beside it. -/

namespace Sys2Proof.Machine

/-- One 1-bit sample with its tags (R61): the bit, OVR and INVALID. -/
structure ModBit where
  bit : Bool := false
  ovr : Bool := false
  invalid : Bool := false
  deriving DecidableEq, Repr

/-- One multi-bit sample of a chain stage with the tags ORed into it (R61). -/
structure Tagged where
  val : Int := 0
  ovr : Bool := false
  invalid : Bool := true
  deriving DecidableEq, Repr

/-- The front end of one AIN channel (AIN0 to AIN31). -/
structure AinChan where
  /-- R60: the modulator has settled since EN and MOD_EN were last set. -/
  settled : Bool := false
  /-- R62: the over-range window comparator is tripped. -/
  tripped : Bool := false
  /-- R62: modulator clocks of mid-scale output still to come from a loop reset. -/
  midscale : Nat := 0
  /-- R65: current run of consecutive detections. -/
  owRun : Nat := 0
  /-- R65: current run of consecutive measurements below OW_THR / 2. -/
  owClear : Nat := 0
  /-- R67: a probe pulse is running or its measurement has not yet been taken. -/
  pulse : Bool := false
  /-- R67: the row (sample j) a probe pulse replaces, with the row after it. -/
  pulseRow : Option Nat := none
  /-- R68: a due pulse has been deferred. -/
  deferred : Bool := false
  /-- R68: the probe mode that stays in force until the next grid cycle, after OW_MODE has changed during a pulse. -/
  owMode : Option Nat := none
  /-- R67: a pulse has run, and the modulator clock at which the last one started. -/
  pulsed : Bool := false
  pulseClk : Nat := 0
  /-- R65: the last 512 sinc samples before the SINC shift, newest first, and the modulator clock of the newest. -/
  sincs : List Tagged := []
  sincClk : Nat := 0
  /-- R65: sum and number of the sinc samples of the running grid cycle, and whether one carries OVR. -/
  sum : Int := 0
  cnt : Nat := 0
  sumOvr : Bool := false
  /-- R65: the same of the last whole cycle, until it is measured. -/
  mean : Option (Int × Nat × Bool) := none
  /-- R67: values of the last two rows as produced, newest first. -/
  made : List Int := []
  deriving DecidableEq, Repr

/-- The capture of one BSI channel (BSI0 to BSI31). -/
structure BsiChan where
  /-- R69: the captured bit, which repeats until the next. -/
  bit : Bool := false
  /-- R72: the captured bit carries OVR. -/
  ovr : Bool := false
  /-- R72: identical bits in a row, up to 4096. -/
  run : Nat := 0
  /-- R70: the returned clock's last level. -/
  ck : Bool := false
  /-- R70: level in the first half of the Manchester bit. -/
  half : Bool := false
  /-- R70: bits in the synchroniser of CD_RET, newest first. -/
  pipe : List (Option Bool) := []
  /-- R72: the stream is lost for a cause of its own. -/
  lost : Bool := false
  deriving DecidableEq, Repr

/-- The analog front end. -/
structure AfeState where
  /-- AIN0 to AIN31. -/
  ain : Table AinChan := []
  /-- BSI0 to BSI31. -/
  bsi : Table BsiChan := []
  /-- R71: SAMP_DLY of each BSI channel as taken up by the last configuration load. -/
  sampDly : Table Nat := []
  /-- R71: RET_DLY with the device figure of each BSI channel as taken up by the last configuration load, in 0.1 ns. -/
  retDly : Table Int := []
  deriving DecidableEq, Repr

/-- The chain of one local channel: the newest samples at the input of every stage, newest first (R73, R76). -/
structure ChainChan where
  /-- R75: the last 156 bits (newest first), as the SINC stage sees them. -/
  bits : List ModBit := []
  /-- R74: SINC outputs that the channel's strike comparator has not judged yet, newest first. -/
  sinc : List Tagged := []
  /-- R76: inputs of HB1, HB2, HB3, HB4 and HB5, newest first. -/
  hb : List (List Tagged) := [[], [], [], [], []]
  /-- R77: inputs of TAIL, newest first. -/
  tail : List Tagged := []
  /-- R81: integrator state y[n−1] (64 bits, 22 of them fraction bits). -/
  y : BitVec 64 := 0
  /-- R81: previous integrator input x[n−1]. -/
  x1 : Tagged := {}
  /-- R83: the integrator output carries INVALID for 5 τ after start or the last INVALID input. -/
  settling : Bool := true
  /-- R120: 96 kHz samples for the publisher, newest first, and the modulator clock of the newest. -/
  pub : List Tagged := []
  pubClk : Nat := 0
  /-- R120: the publisher's own integrator in a preset: state, input before, settling. -/
  py : BitVec 64 := 0
  px1 : Tagged := {}
  psettling : Bool := true
  /-- Chain outputs, newest first (input of the resampler, R92). -/
  out : List Tagged := []
  /-- Modulator clock of the newest chain output. -/
  outClk : Nat := 0
  /-- R86: stages (SINC, HB1 to HB5, TAIL) whose next output takes the INVALID tag because their phase moved. -/
  moved : List Bool := [false, false, false, false, false, false, false]
  deriving DecidableEq, Repr

/-- The filter chain. -/
structure DfcState where
  /-- LC0 to LC63. -/
  chan : Table ChainChan := []
  /-- R85: modulator clocks of grid time up to which the chain has run. -/
  clk : Nat := 0
  /-- R85: the phase origin in the same count. -/
  origin : Nat := 0
  /-- R85: phase of SINC, HB1 to HB5 and TAIL: the clock count, modulo the stage's output period, at which it gives outputs. -/
  phase : List Nat := [0, 0, 0, 0, 0, 0, 0]
  /-- R85: the origin instant (modulator clocks) of a SYNC or start that is pending. -/
  syncAt : Option Nat := none
  /-- R88: a start of the chain waits for its origin. -/
  startPend : Bool := false
  /-- R86: grid time (ns) of the last accepted ball edge. -/
  lastEdge : Option Nat := none
  /-- R87: ball edges ignored since the last completion, saturating at 0xFFFF. -/
  ignored : Nat := 0
  deriving DecidableEq, Repr

/-- A row between its grid instant and its seal (R104). -/
structure RowRec where
  row : Nat := 0
  /-- R103 word 1: TSTAMP32 of the grid instant. -/
  tstamp : Word := 0
  /-- R103 words 4 and 5: the increment in force. -/
  inc : Nat := 0
  /-- R103 word 2: f_tracked in units of 2^-32 Hz. -/
  freq : Nat := 0
  /-- R98: a follower's update was there for this row. -/
  updated : Bool := true
  /-- R98: local quantities of the row carry INVALID because an ALIGN moved the position. -/
  moved : Bool := false
  /-- R98: the row is an ALIGN point. -/
  align : Bool := false
  deriving DecidableEq, Repr

/-- The GRID island. -/
structure GridState where
  /-- R90: number of the next row. -/
  row : Nat := 0
  /-- R91: position of the next grid instant in 2^-32 input samples since the grid origin; its low 48 bits are the
  accumulator. -/
  pos : Nat := 0
  /-- R91, R383: the grid origin in modulator clocks of grid time. -/
  origin : Nat := 0
  /-- R91: the increment in force. -/
  inc : Nat := 0
  /-- R94: the frequency whose INC is in force (f_now), in 2^-32 Hz. -/
  freq : Nat := 0
  /-- R94: the frequency in force over the cycle before (f_prev). -/
  freqPrev : Nat := 0
  /-- R94, R98: an increment with its frequency waiting for the row with c = 0 at which it applies: row, INC, frequency. -/
  next : Option (Nat × Nat × Nat) := none
  /-- R104: rows written and not yet sealed, oldest first. -/
  inflight : List RowRec := []
  /-- R107: grid time (ns) at which EN fell; rows whose instants lie before it are still produced and sealed. -/
  stopAt : Option Nat := none
  /-- R94: the source's phasor (V1 or the single quantity) at the previous cycle start, on a fixed scale. -/
  prevPhasor : Option (Int × Int) := none
  /-- R95: consecutive cycles with the source valid and not frozen (NOMINAL), or within 0.01 Hz (ACQUIRE, RELEASE). -/
  goodCycles : Nat := 0
  /-- R95: consecutive cycles without a freeze condition in FROZEN. -/
  clearCycles : Nat := 0
  /-- R95: the measurement at the last cycle start in FROZEN: its ROW, f_meas and f_now in 2^-32 Hz. -/
  relMeas : Option (Nat × Int × Int) := none
  /-- R95: grid time (ns) at which FROZEN was entered. -/
  frozenAt : Nat := 0
  /-- R98: consecutive missing updates of a follower. -/
  missing : Nat := 0
  /-- R98: the follower has passed an ALIGN point since its start. -/
  aligned : Bool := false
  /-- R98: an ALIGN whose point has not been reached: its row, and the position at which local quantities are good again after
  the move. -/
  align : Option (Nat × Nat) := none
  /-- R98: where ROW does not follow on: a row with the row before it, newest first. -/
  jumps : List (Nat × Nat) := []
  /-- R107: of the rows in flight, those of the run before the last grid start. -/
  old : Nat := 0
  /-- R68: the last row in which a channel's local value carried OVR, plus 1. -/
  ovrRow : Table Nat := []
  /-- Rows sealed since grid start. -/
  sealed : Nat := 0
  /-- R105: the last good value of each quantity and the length of its INVALID run. -/
  hold : Table (Int × Bool × Nat) := []
  deriving DecidableEq, Repr

/-- One stream sample in the jitter buffer or released to the resampler (R112, R114, R116). -/
structure SvSample where
  /-- Sample number: whole grid-time seconds × rate + smpCnt (R112). -/
  num : Nat := 0
  vals : List Int := []
  /-- Quality bytes of the entries (R118). -/
  quals : List Nat := []
  /-- R116: the sample counts as INVALID (missing and not predicted, or unsynchronised under UNSYNC = 0). -/
  invalid : Bool := false
  deriving DecidableEq, Repr

/-- State of a stream slot (R118). -/
inductive SlotRun where
  | off | wait | run | gap | lost
  deriving DecidableEq, Repr

/-- A stream slot of the subscriber. -/
structure SvSlot where
  /-- R109: the svID read from the svID table when EN rose. -/
  svid : List Byte := []
  /-- R118. -/
  st : SlotRun := .off
  /-- R114: number of the next sample to release, none until the first after EN rises or a grid set. -/
  next : Option Nat := none
  /-- R114: samples held in the jitter buffer. -/
  held : List SvSample := []
  /-- R114: samples released to the resampler, newest first. -/
  released : List SvSample := []
  /-- R116: consecutive missing samples. -/
  missing : Nat := 0
  /-- R118: consecutive good or INTERP samples released in WAIT. -/
  good : Nat := 0
  /-- SVS_SLk_ST word 1 flags of the running interval: CONFREV, DSLEN, UNSYNC, SIMDROP, BADCNT at bits 3 to 7. -/
  flags : Nat := 0
  /-- Samples dropped under the same-instant rule in the interval. -/
  dup : Nat := 0
  /-- Samples accepted in the interval. -/
  rx : Nat := 0
  /-- Smallest and largest age (µs) of an accepted sample in the interval. -/
  ages : Option (Nat × Nat) := none
  missed : Nat := 0
  late : Nat := 0
  early : Nat := 0
  deriving DecidableEq, Repr

/-- The sampled-value subscriber (chapter 06). -/
structure SvsState where
  /-- Slots 0 to 63. -/
  slot : Table SvSlot := []
  /-- R111: for each source MAC address the sequence numbers seen with the grid time (ns) of each. -/
  prp : List (Nat × List (Nat × Nat)) := []
  /-- SVS_RX_CNT: cumulative counters. -/
  accept : Nat := 0
  noslot : Nat := 0
  dupDisc : Nat := 0
  wrongLan : Nat := 0
  hsrDrop : Nat := 0
  tblFull : Nat := 0
  deriving DecidableEq, Repr

/-- One tick of a group's frequency span (R129, R130). -/
structure GroupTick where
  /-- V1 in counts, on a common fixed scale: real and imaginary part. -/
  re : Int := 0
  im : Int := 0
  /-- TSTAMP32 of the tick row's grid instant. -/
  time : Word := 0
  /-- |V1| met VMIN and V1 was not INVALID. -/
  good : Bool := false
  /-- Sequence quality byte. -/
  qual : Nat := 0
  /-- R129: f in Hz: numerator and denominator. -/
  freq : Int × Nat := (0, 1)
  deriving DecidableEq, Repr

/-- The phasor engine (chapter 07). -/
structure PheState where
  /-- R123: rows counted since grid start, for the cycle position in preset mode. -/
  rows : Nat := 0
  /-- R125, R137: rows a quantity's sums have filled since its last restart. -/
  fill : Table Nat := []
  /-- R137: rows each bin (0 to 15) or RMS (16) of a quantity has filled since it was enabled, by 32 q + bin. -/
  binFill : Table Nat := []
  /-- R137: the PHE_Qq_CFG words in force since the last tick. -/
  cfg : Table Word := []
  /-- R129: the PHE_FCFG word in force since the last tick. -/
  fcfg : Word := 0x000000A2#32
  /-- R129, R130: groups 0 to 191. -/
  grp : Table (List GroupTick) := []
  /-- IRQ sources FINV and SCALE_MIX of the last tick. -/
  finv : Bool := false
  mix : Bool := false
  /-- R131: a tick's results are written and its buffer waits for PHE_DONE: ROW of the tick row. -/
  busy : Option Nat := none
  deriving DecidableEq, Repr

end Sys2Proof.Machine
end

