-- ==== Sys2Proof/Machine/StateLogic.lean ====
section
/-! DEFINITION. The Triov logic engine (chapters 13 and 14): programs as data, and the state that no register shows. -/

namespace Sys2Proof.Machine

/-- Types of a variable (R222). -/
inductive LTy where
  | bool | int32 | real32 | time
  deriving DecidableEq, Repr

/-- Where an instance input comes from. -/
inductive LSrc where
  /-- A constant, 64 bits for TIME. -/
  | const (v : BitVec 64)
  /-- Bit `b` of word `w` of member `m`'s input image (R220). -/
  | imgBit (m w b : Nat)
  /-- Word `w` of member `m`'s input image. -/
  | imgWord (m w : Nat)
  /-- Output 0, 1 or 2 of instance `i` of the execution list. -/
  | out (i k : Nat)
  deriving DecidableEq, Repr

/-- The fields of one instance (R222, R237): outputs, timer START and ET, counter value, edge memories. -/
structure LCell where
  /-- Output 0: the value, Q or QU. -/
  out : Word := 0
  /-- Output 1: ET (TIME) or the counter value. -/
  out2 : BitVec 64 := 0
  /-- Output 2: QD of a CTUD. -/
  out3 : Word := 0
  start : Nat := 0
  et : Nat := 0
  /-- The START of a timer is to be taken at the first NOW (R231). -/
  restart : Bool := true
  cv : Int := 0
  /-- Edge memories, one bit for each edge input. -/
  prev : Nat := 0
  primed : Bool := true
  deriving DecidableEq, Repr

/-- One entry of the execution list: a function-block instance (R222, R223). -/
structure LInst where
  sym : Word := 0
  type : Nat := 0
  retain : Bool := false
  /-- Compare and arithmetic types: REAL32 in place of INT32. -/
  real : Bool := false
  ins : List LSrc := []
  /-- The fields in INIT. -/
  init : LCell := {}
  /-- Where the instance begins in instance memory (R222). -/
  addr : Nat := 0
  deriving DecidableEq, Repr

/-- A field of a member's output slice (R220). -/
structure LOut where
  mbr : Nat := 0
  /-- AOUT `idx` in place of LGO bit `idx`. -/
  aout : Bool := false
  idx : Nat := 0
  src : LSrc := .const 0
  deriving DecidableEq, Repr

/-- Where a variable lies (R233): an input-image word, a field of an instance, a field of an output slice. -/
inductive LLoc where
  | image (m w : Nat)
  | field (i k : Nat)
  | slice (m : Nat) (aout : Bool) (idx : Nat)
  deriving DecidableEq, Repr

/-- An entry of the SYMBOLS section (R221). -/
structure LSym where
  sym : Word := 0
  ty : LTy := .bool
  forceable : Bool := false
  loc : LLoc := .field 0 0
  deriving DecidableEq, Repr

/-- A member's selections (the IOMAP section, R220): 64 element slots; for each of 32 values, an address offset in the PHE
buffer. -/
structure LIomap where
  slots : List Nat := []
  phe : List Nat := []
  deriving DecidableEq, Repr

/-- The Triov part of an image (R221). -/
structure LProg where
  progId : BitVec 64 := 0
  retainId : Word := 0
  /-- Units of 0.1 µs. -/
  wcet : Nat := 0
  wdt : Nat := 0x64
  mincyc : Nat := 0
  savePer : Nat := 0x64
  insts : List LInst := []
  outs : List LOut := []
  syms : List LSym := []
  iomap : List (Nat × LIomap) := []
  /-- Safe slices of the members, 192 bytes each. -/
  safe : List (Nat × List Byte) := []
  /-- The CODE and INIT sections as bytes, and the ranges of RETAINMAP (offset in instance memory, length). -/
  code : List Byte := []
  initBytes : List Byte := []
  retainMap : List (Nat × Nat) := []
  /-- Bytes of instance memory and of the RETAIN segment. -/
  memBytes : Nat := 0
  retainBytes : Nat := 0
  deriving DecidableEq, Repr

/-- A copy in the MRAM retain area (R230). -/
structure RetainCopy where
  retainId : Word := 0
  seq : Nat := 0
  size : Nat := 0
  cells : List (Word × Nat × LCell) := []
  deriving DecidableEq, Repr

/-- Phases of the engine's cycle (R226), and where the engine stands between commands. -/
inductive LPhase where
  | idle | lead | gather | exec | out
  deriving DecidableEq, Repr

/-- A force command that waits for its cycle (R233): the operation, symbol and value. -/
structure LForceCmd where
  op : Nat := 0
  sym : Word := 0
  val : Word := 0
  deriving DecidableEq, Repr

/-- A prepare (R235): the status found so far, members yet to acknowledge, and the figures of LGE_RC_PREP. -/
structure LPrep where
  status : Nat := 0
  waits : List Nat := []
  tSwap : Nat := 0
  matched : Nat := 0
  fresh : Nat := 0
  fdrop : Nat := 0
  retyped : Nat := 0
  prog : Word := 0
  deriving DecidableEq, Repr

/-- A recast between its role switch and DONE (R236). -/
structure LSwap where
  time : Word := 0
  cycles : Nat := 0
  fdrop : Nat := 0
  rollback : Bool := false
  deriving DecidableEq, Repr

/-- A signed image as verification finds it (R221, R235): the Triov part, and the role, master and domain it names. -/
structure LImage where
  signed : Bool := false
  prog : LProg := {}
  role : Nat := 0
  master : Nat := 0
  dom : Nat := 0
  deriving DecidableEq, Repr

/-- The Triov engine. -/
structure LgeState where
  prog : Option LProg := none
  cells : List LCell := []
  /-- R234: the staged or previous program with its instance memory. -/
  stage : Option LProg := none
  stageCells : List LCell := []
  /-- A slice that waits for the OUTSYNC instant. -/
  held : Option (List Byte) := none
  /-- This member's own safe slice (R219, R221). -/
  safe : List Byte := []
  iomap : LIomap := {}
  /-- R240: selection and safe slice of a new generation, with that generation. -/
  newMap : Option (Nat × LIomap × List Byte) := none
  /-- Generation number of the snapshot commands. -/
  gen : Nat := 0
  /-- Active forces, oldest first (R233): symbol and value. -/
  forces : List (Word × Word) := []
  /-- Force commands that wait for the next cycle. -/
  fcmd : List LForceCmd := []
  /-- R233: the result of a command in force that LGE_FORCE_RES shows at the next cycle's start. -/
  fres : Option Word := none
  phase : LPhase := .idle
  /-- R225: grid-class time at which logic time was 0, moved by every grid set, in 2^-32 ns. -/
  ofs : Int := 0
  /-- TIME tick of the running cycle's LEAD start; of the last slice from the master. -/
  lead : Nat := 0
  sliceAt : Nat := 0
  /-- NOW of the running cycle. -/
  now : Nat := 0
  /-- Members whose image has arrived in the running exchange. -/
  valid : Nat := 0
  cycMax : Nat := 0
  cycMin : Option Nat := none
  ncyc : Nat := 0
  exec : Nat := 0
  /-- R230: the retain shadow, the two MRAM copies, and the copy being written. -/
  shadow : List (Word × Nat × LCell) := []
  dirty : Bool := false
  frozen : Bool := false
  copyA : Option RetainCopy := none
  copyB : Option RetainCopy := none
  saving : Option RetainCopy := none
  saveAt : Nat := 0
  saveSeq : Nat := 0
  /-- R235: a prepare that runs. -/
  prep : Option LPrep := none
  prepProg : Option LProg := none
  /-- R242: a rollback is in PREPARING or SWAP_PEND; AT is ignored. -/
  rollback : Bool := false
  /-- R236: a recast that has switched roles and is not DONE. -/
  swap : Option LSwap := none
  /-- A RETAIN save is due at the next OUT (R236 step 7). -/
  saveNow : Bool := false
  deriving DecidableEq, Repr

end Sys2Proof.Machine
end

