-- ==== Sys2Proof/Machine/StateNet.lean ====
section
/-! DEFINITION. State of the network ports (chapter 18) that no register or table in memory shows. -/

namespace Sys2Proof.Machine

/-- A published dataset (R300, R301). -/
structure DsPub where
  /-- The dataset is enabled and its state is defined. -/
  on : Bool := false
  stNum : Nat := 0
  sqNum : Nat := 0
  /-- The interval to the next frame, in 10 µs units. -/
  ivl : Nat := 0
  /-- Entry values of the state. -/
  vals : List Word := []
  /-- Time of the state: wall seconds, ns, wall state. -/
  sec : Word := 0
  ns : Nat := 0
  wall : Nat := 0
  /-- R301: largest stNum heard. -/
  heard : Nat := 0
  deriving DecidableEq, Repr

/-- A published GOOSE frame by content (R299, R300). -/
structure GooseTx where
  ds : Nat := 0
  /-- A first frame of a state. -/
  first : Bool := false
  src : Nat := 0
  stNum : Nat := 0
  sqNum : Nat := 0
  /-- timeAllowedtoLive in 10 µs units. -/
  tal : Nat := 0
  sim : Bool := false
  sec : Word := 0
  ns : Nat := 0
  wall : Nat := 0
  vals : List Word := []
  /-- R299: the frame's template, in which the publisher writes the fields above and the lengths. -/
  template : List Byte := []
  /-- PRP trailer: sequence number, and LAN B where true. -/
  prp : Option (Nat × Bool) := none
  deriving DecidableEq, Repr

/-- A published SV frame by content (R119 to R122). -/
structure SvTx where
  stream : Nat := 0
  src : Nat := 0
  svid : List Byte := []
  confRev : Nat := 0
  smpSynch : Nat := 0
  tagged : Bool := false
  pcp : Nat := 0
  vid : Nat := 0
  dmac : Nat := 0
  appid : Nat := 0
  /-- TIME tick of the scheduled instant (R297). -/
  due : Nat := 0
  /-- For each ASDU: smpCnt, and a value with a quality word for each entry. -/
  asdus : List (Nat × List (Int × Word)) := []
  /-- smpRate (R108). -/
  smpRate : Nat := 0
  prp : Option (Nat × Bool) := none
  deriving DecidableEq, Repr

/-- Entries of a received dataset (R303, R304). -/
inductive GVal where
  | bool (b : Bool)
  /-- A quality: validity good, test. -/
  | quality (good test : Bool)
  | other
  deriving DecidableEq, Repr

/-- A GOOSE subscription. Its STATE, flags and numbers are in the status table in memory. -/
structure GSub where
  /-- 0 OFF, 1 WAIT, 2 RUN, 3 STALE, 4 FAILED. -/
  st : Nat := 0
  stNum : Nat := 0
  sqNum : Nat := 0
  some_ : Bool := false
  ts : Word := 0
  flags : Nat := 0
  sim : Bool := false
  vals : List GVal := []
  deriving DecidableEq, Repr

/-- One GOOSE input bit (R304). -/
structure GinBit where
  val : Bool := false
  test : Bool := false
  valid : Bool := false
  /-- The 1 µs hold runs. -/
  hold : Bool := false
  /-- Values that wait for the hold's end. -/
  pend : List (Bool × Bool) := []
  deriving DecidableEq, Repr

/-- An SV publisher stream (R119, R122). -/
structure SvpState where
  on : Bool := false
  svid : List Byte := []
  /-- Grid time (ns) of the enable. -/
  enAt : Nat := 0
  /-- Sample number (whole seconds × rate + smpCnt) of the next ASDU, none until the history is full. -/
  next : Option Nat := none
  deriving DecidableEq, Repr

/-- The GOOSE and SV functions. -/
structure GosState where
  ds : Table DsPub := []
  sub : Table GSub := []
  gin : Table GinBit := []
  svp : Table SvpState := []
  states : Nat := 0
  frames : Nat := 0
  merged : Nat := 0
  rxAccept : Nat := 0
  rxDup : Nat := 0
  svpDrop : Nat := 0
  /-- PRP sequence numbers of the frames published with trailers. -/
  prpSeq : Nat := 0
  deriving DecidableEq, Repr

/-- A frame of a host transmit ring (R295): its frames on the wire, several under large send. -/
structure HostTx where
  ring : Nat := 0
  /-- Descriptor indices from SOF to EOF. -/
  idx : List Nat := []
  frames : List (List Byte) := []
  /-- Frames that have started. -/
  next : Nat := 0
  /-- STATUS (R295). -/
  status : Nat := 0
  /-- Wall seconds and nanoseconds captured at the timestamp point, where TS_REQ asks for them. -/
  ts : Option (Word × Word) := none
  deriving DecidableEq, Repr

/-- What waits on or is on the wire of a port (R297). -/
inductive TxItem where
  | ptp (kind : Nat) (domain : Nat) (seq : Nat) (oneStep : Bool)
  | goose (f : GooseTx)
  | sv (f : SvTx)
  | host (f : HostTx)
  deriving DecidableEq, Repr

/-- One MAC. -/
structure MacPort where
  /-- Waiting frames of the hardware functions, oldest first. -/
  ptpQ : List TxItem := []
  gooseQ : List TxItem := []
  svQ : List TxItem := []
  /-- The host frame whose completion is to follow. -/
  wire : Option HostTx := none
  /-- R297: the large send of each ring that has segments left. -/
  part : Table (Option HostTx) := []
  /-- R297: TIME tick at which the honoured PAUSE began. -/
  pausedAt : Nat := 0
  /-- The counters of MAC_CNT, in its order. -/
  cnt : List Nat := [0, 0, 0, 0, 0, 0, 0, 0, 0, 0, 0, 0]
  deriving DecidableEq, Repr

/-- A GOOSE frame as decoded (R303). -/
structure GooseRx where
  port : Nat := 0
  dmac : Nat := 0
  src : Nat := 0
  appid : Nat := 0
  ref : List Byte := []
  /-- timeAllowedtoLive in ms. -/
  tal : Nat := 0
  stNum : Nat := 0
  sqNum : Nat := 0
  sim : Bool := false
  confRev : Nat := 0
  ndsCom : Bool := false
  vals : List GVal := []
  deriving DecidableEq, Repr

/-- The MACs. -/
structure MacState where
  port : Table MacPort := []
  deriving DecidableEq, Repr

end Sys2Proof.Machine
end

