-- ==== Sys2Proof/Machine/StateSys.lean ====
section
/-! DEFINITION. State of power, reset, boot and configuration (chapter 21) that no register shows. -/

namespace Sys2Proof.Machine

/-- A signed configuration image as verification and the loader read it (R350, R351). -/
structure CfgImage where
  secver : Nat := 0
  /-- The fused slot whose hash is that of the image's key. -/
  key : Option (Fin 4) := none
  /-- The signature checks. -/
  signed : Bool := false
  /-- The format is valid. -/
  format : Bool := false
  /-- MEMBER_ID, 0 for none. -/
  member : Nat := 0
  advance : Bool := false
  /-- The eight words of the configuration digest. -/
  digest : List Word := []
  /-- Configuration registers: member offset and value. -/
  regs : List (Nat × Word) := []
  /-- Tables in SRAM: address and bytes. -/
  mem : List (Nat × List Byte) := []
  /-- R384: each non-empty slot with its pair, in the order of the lists. -/
  pairs : List (Nat × Nat) := []
  /-- R18: the requested seal, 10 ns units. -/
  reqSeal : Nat := 0
  /-- The image holds a program (R221). -/
  hasProg : Bool := false
  lge : LImage := {}
  /-- R218: the logic domains of the system: master and members. -/
  domains : List (Nat × Nat) := []
  /-- R273: the grid mode and N that each Cumulus set is built for. -/
  sets : List (Nat × Nat × Nat) := []
  deriving DecidableEq, Repr

/-- What boot finds wrong in the MRAM and in the banks (R333, R357, R362). -/
structure BootFinds where
  /-- Banks that fail their march test. -/
  fails : BitVec 48 := 0
  /-- Ring places whose copy A or copy B of a journal entry has a bad CRC. -/
  badA : List Nat := []
  badB : List Nat := []
  /-- The lifetime copies and image slots that fail. -/
  lifeA : Bool := false
  lifeB : Bool := false
  slotA : Bool := false
  slotB : Bool := false
  /-- Release to boot complete, 10 µs units. -/
  time : Nat := 7500
  deriving DecidableEq, Repr

/-- A configuration operation that runs (R352). -/
structure CfgOp where
  op : Nat := 0
  /-- STATUS found so far. -/
  status : Nat := 0
  /-- The image that a WRITE is putting into the inactive slot. -/
  img : Option CfgImage := none
  /-- Slot B is written or loaded. -/
  slotB : Bool := false
  digest : Word := 0
  /-- TIME tick of the command. -/
  start : Nat := 0
  deriving DecidableEq, Repr

/-- A Ladle that runs (R354): what its first step takes and captures. -/
structure LadleRun where
  first : Nat := 0
  count : Nat := 0
  counts : Table Nat := []
  /-- R230: the frozen shadow, as the next copy. -/
  retain : Option RetainCopy := none
  /-- R354 step 2: the entries that the AON queue held. -/
  queued : Nat := 0
  /-- Boot was complete at the trigger. -/
  booted : Bool := false
  deriving DecidableEq, Repr

/-- Power, reset, boot and configuration. -/
structure SysState where
  /-- The member is held in reset, or reset has been released and boot is not complete. -/
  inReset : Bool := true
  /-- R345: CAUSE of that reset. -/
  cause : Nat := 1
  /-- R350: image slots A and B, and the boot record's active slot. -/
  slotA : Option CfgImage := none
  slotB : Option CfgImage := none
  active : Bool := false
  /-- R350: sequence of the boot record's copies. -/
  seq : Nat := 0
  op : Option CfgOp := none
  ladle : Option LadleRun := none
  /-- R344, R345: the member reset, with its CAUSE, that follows the Ladle's seal. -/
  after : Option Nat := none
  /-- R345: the thermal source is asserted. -/
  thermal : Bool := false
  deriving DecidableEq, Repr

end Sys2Proof.Machine
end

