-- ==== Sys2Proof/Machine/StateTime.lean ====
section
/-! DEFINITION. State of the TIME island that no register shows (chapter 15). -/

namespace Sys2Proof.Machine

/-- A PTP Announce message as decoded (R247). -/
structure PtpAnnounce where
  /-- domainNumber. -/
  dom : Nat := 0
  /-- sourcePortIdentity. -/
  sender : Nat := 0
  gm : BitVec 64 := 0
  prio1 : Nat := 0
  cls : Nat := 0
  accuracy : Nat := 0
  variance : Nat := 0
  prio2 : Nat := 0
  steps : Nat := 0
  /-- logMessageInterval. -/
  logIvl : Int := 0
  utcOffset : Int := 0
  /-- leap61, leap59. -/
  leap : Nat := 0
  deriving DecidableEq, Repr

/-- A master heard on a port of a domain: its newest Announce, how many have followed each other, when the last came. -/
structure PtpForeign where
  a : PtpAnnounce := {}
  port : Nat := 0
  count : Nat := 0
  at_ : Nat := 0
  deriving DecidableEq, Repr

/-- One PTP domain (R249). Its state is STAT.Dd. -/
structure PtpDom where
  /-- The domain clock, in units of 2^-32 ns. -/
  clock : Int := 0
  /-- Its rate: units per 4 ns beyond the reference. -/
  adj : Int := 0
  /-- Consecutive offsets within ±250 ns. -/
  run : Nat := 0
  /-- Masters heard. -/
  foreign : List PtpForeign := []
  /-- The best master. -/
  parent : Option PtpForeign := none
  deriving DecidableEq, Repr

/-- What the source member's last message said (R255): its times in units of 2^-32 ns and rates, kept running, and its states. -/
structure FabTime where
  grid : Int := 0
  gridAdj : Int := 0
  gridSt : Nat := 0
  deriving DecidableEq, Repr

/-- The TIME island. -/
structure TimeState where
  /-- R245: grid-class time, in units of 2^-32 ns since its epoch. -/
  grid : Nat := 0
  /-- R245: wall-class time, in the same unit. -/
  wall : Nat := 0
  /-- R13: 4 ns ticks of the TIME clock since power-on. -/
  ticks : Nat := 0
  /-- Rates of both classes: units per 4 ns beyond the reference. -/
  gridAdj : Int := 0
  wallAdj : Int := 0
  /-- R253: the last rate in TRACK. -/
  trackAdj : Int := 0
  /-- The grid class's own state (R252); STAT.GRID shows it with that of a FABRIC source. -/
  gridSt : Nat := 0
  /-- R253: an ACCEPT has been given since entry to OVERCAST. -/
  accepted : Bool := false
  /-- The source was lost at the last update, or has been changed since (R253, R254). -/
  srcLost : Bool := false
  /-- The source has stepped since the last update (R254). -/
  stepped : Bool := false
  /-- R250: a lock since reset. -/
  locked : Bool := false
  /-- R251: accepted PPS edges, up to 4. -/
  ppsRun : Nat := 0
  /-- R256: PPS_OUT is high. -/
  ppsOut : Bool := false
  /-- The PTP domains. -/
  dom : Table PtpDom := []
  /-- Mean link delay of each port, ns (R247). -/
  pdelay : Table Int := []
  fab : FabTime := {}
  deriving DecidableEq, Repr

end Sys2Proof.Machine
end

