-- ==== Sys2Proof/Syntax.lean ====
section
/-! DEFINITION. The commands the block takes from outside: one constructor for each row of the opcode table. -/

namespace Sys2Proof

open Sys2Proof.Machine (ModBit Tagged LImage LIomap LProg PtpAnnounce GooseRx CfgImage BootFinds)

/-- One ASDU of a sampled-value frame as decoded (R108, R110). -/
structure SvAsdu where
  svid : List Byte
  smpCnt : Nat
  confRev : Nat
  smpSynch : Nat
  /-- The dataset: a value and a 32-bit quality for each entry; none where the ASDU fails to decode. -/
  data : Option (List (Int × Nat))
  deriving DecidableEq, Repr

/-- A sampled-value frame from MAC0 or MAC1 (R108 to R111). -/
structure SvFrame where
  /-- 0 for MAC0, 1 for MAC1. -/
  port : Nat
  /-- Destination address, byte 0 lowest. -/
  dmac : Nat
  /-- Source address. -/
  src : Nat
  appid : Nat
  /-- The simulation bit of the frame header. -/
  sim : Bool
  /-- An HSR tag is present. -/
  hsr : Bool
  /-- The PRP trailer: sequence number and whether the LAN identifier is B. -/
  prp : Option (Nat × Bool)
  asdus : List SvAsdu
  deriving DecidableEq, Repr


/-- What engine B of a pair finds on a slot (R148, R149): its decisions, whether it disagrees on BLOCKED, its compared values,
and whether its margins lie inside the bands. A slot that no verdict names agrees. -/
structure BVerdict where
  slot : Nat
  pickup : Bool
  operate : Bool
  dir : Bool
  blockedDiff : Bool
  cv0 : Word
  cv1 : Word
  inP : Bool
  inO : Bool
  inD : Bool
  deriving DecidableEq, Repr

/-- A member that discovery has met (R261, R262): its serial number, the ID its image stores, the ID it already holds, and
whether its PCIe link is up with boot complete. -/
structure Found where
  serial : BitVec 64
  stored : Option (Fin 64)
  held : Option (Fin 64)
  pcie : Bool
  deriving DecidableEq, Repr

/-- The commands: one constructor for each row of the opcode table. A register write carries the master (R9) and the word
written; an event carries what the world outside the model supplies. -/
inductive Instr where
  /-- REGISTER_WRITE (R47): A master writes a register that has no step of its own; the write is checked against LOCK, width and mapping and then stored. -/
  | registerWrite (m : Master) (addr : Nat) (bytes : Nat) (v : BitVec 64)
  /-- LOCK_WRITE (R46): A write to a page's LOCK register moves that page's lock state between LOCKED, ARMED and UNLOCKED. -/
  | lockWrite (m : Master) (p : Page) (v : Word)
  /-- ERR_WRITE (R48): Any write to a page's ERR register clears CODE, MASTER and MORE. -/
  | errWrite (m : Master) (p : Page) (v : Word)
  /-- IRQ_PEND_CLEAR (R45): A W1C write to IRQ_PEND clears latched interrupt bits; LEVEL bits whose source still reads 1 stay at 1. -/
  | irqPendClear (m : Master) (p : Page) (v : Word)
  /-- IRQ_EN_WRITE (R45): A write to IRQ_EN enables sources, and raises the block interrupt at once if a matching IRQ_PEND bit is already set. -/
  | irqEnWrite (m : Master) (p : Page) (v : Word)
  /-- RESULT_LOW_WORD_READ (R52): A read of the low word of a 64-bit result field latches that field's high word for the reading master. -/
  | resultLowWordRead (m : Master) (addr : Nat)
  /-- PERST_RELEASE (R33): PERST# is released; the endpoint answers configuration requests within 100 ms and serves only SYS, PCI and LIFE until boot is complete. -/
  | perstRelease
  /-- PCIE_LINK_DOWN (R34): The PCIe link goes down or takes a hot reset; protection continues and host reads in flight to remote members are discarded. -/
  | pcieLinkDown
  /-- PCIE_D3HOT (R34): The function enters D3hot; BAR requests are refused and MSI-X messages are held as pending. -/
  | pcieD3hot
  /-- FUNCTION_LEVEL_RESET (R34): A function level reset returns the PCI page, the MSI-X table and the vector states to reset values, and stops DMA descriptors that address host memory. -/
  | functionLevelReset
  /-- BUS_MASTER_ENABLE (R34): Bus Master Enable is set, and messages held as pending are sent. -/
  | busMasterEnable
  /-- HOST_REMOTE_ACCESS (R37): A host access through BAR2 is forwarded to member n as a master-6 access, or is served locally for member 0. -/
  | hostRemoteAccess (bar0 : Bool) (off : BitVec 31) (len : Nat) (data : Option (List Byte)) (errs : List (Nat × Bool)) (ans : Option (List Byte))
  /-- REMOTE_ACCESS_TIMEOUT (R267): A remote access has no answer within 40 µs; a read returns all-ones, a write is dropped and NORESP is recorded. -/
  | remoteAccessTimeout (tag : Nat)
  /-- LATE_ANSWER_DISCARD (R267): An answer that arrives after the 40 µs limit is discarded. -/
  | lateAnswerDiscard (tag : Nat)
  /-- VECTOR_ASSERT (R55): An enabled interrupt source mapped to vector v asserts, and the vector's state machine acts on it. -/
  | vectorAssert (v : Fin 64)
  /-- MSIX_UNMASK (R55): An MSI-X entry is unmasked; a pending message is sent if the vector is still asserted, otherwise the pending bit is cleared. -/
  | msixUnmask (v : Option (Fin 64))
  /-- MSIX_DISABLE (R55): MSI-X is disabled; every vector returns to IDLE and the pending bits are cleared. -/
  | msixDisable
  /-- SYS_IRQ_ACK (R55): A write to SYS_IRQ_ACK ends service of a vector; a new message is sent if the vector is still asserted, otherwise it returns to IDLE. -/
  | sysIrqAck (m : Master) (v : Word)
  /-- FORWARD_MESSAGE (R56): An interrupt forward message from member m reaches the root and sets m's bit in SYS_RMT_PEND. -/
  | forwardMessage (m : Fin 64)
  /-- FORWARD_REPEAT (R56): A non-root member repeats its forward message every 100 µs while the OR of its enabled sources stays 1. -/
  | forwardRepeat
  /-- AFE_AIN_CFG_WRITE (R60): A write to AFE_AINn_CFG changes the channel's enable, range or open-wire settings under the live-change rules. -/
  | afeAinCfgWrite (m : Master) (n : Fin 32) (v : Word)
  /-- AFE_CTRL_WRITE (R69): A write to AFE CTRL powers the modulators or starts, stops or changes MCLK_OUT. -/
  | afeCtrlWrite (m : Master) (v : Word)
  /-- AFE_BSI_CFG_WRITE (R70): A write to AFE_BSIn_CFG configures a bitstream input's capture mode and delays. -/
  | afeBsiCfgWrite (m : Master) (n : Fin 32) (v : Word)
  /-- MODULATOR_SETTLED (R60): An enabled modulator settles within 50 µs and AFE_STAT.MOD_READY rises. -/
  | modulatorSettled (n : Fin 32)
  /-- OVERRANGE_DETECT (R62): The analog window comparator trips at ±1.05 × range, and every modulator output bit carries OVR while it is tripped. -/
  | overrangeDetect (n : Fin 32)
  /-- MODULATOR_LOOP_RESET (R62): After 16 identical quantiser bits the modulator resets its loop and emits 8 clocks of mid-scale with OVR, setting MODRST. -/
  | modulatorLoopReset (n : Fin 32)
  /-- OPEN_WIRE_MEASUREMENT (R65): A probe measurement completes for a channel, and the OW_CNT run toward setting or clearing OPENW is updated. -/
  | openWireMeasurement (n : Fin 32)
  /-- PROBE_PULSE (R67): A pulsed open-wire probe runs for 20 µs once every 2^OW_PER cycles, and its two grid samples are replaced by predicted values with INTERP. -/
  | probePulse (n : Fin 32)
  /-- RETURNED_CLOCK_LOST (R72): No rising edge appears on BSI_CKg for 4 MCLK_OUT periods, so CKLOST is set and the group's channels carry INVALID. -/
  | returnedClockLost (g : Fin 4)
  /-- RETURNED_CLOCK_RECOVERED (R72): After 64 consecutive good periods of the returned clock, CKLOST clears. -/
  | returnedClockRecovered (g : Fin 4)
  /-- MANCHESTER_TRANSITION_LOST (R72): No mid-bit transition for 4 bit periods makes the channel INVALID and sets its AFE_BSI_STAT bit. -/
  | manchesterTransitionLost (n : Fin 32)
  /-- MANCHESTER_VIOLATION (R72): A Manchester violation replaces the bit with the previous bit and tags it OVR, or makes the channel INVALID at 5 or more in 64 bits. -/
  | manchesterViolation (n : Fin 32) (inWindow : Nat)
  /-- BSI_STREAM_RECOVERED (R72): After 64 good bits, a lost bitstream channel clears its AFE_BSI_STAT bit. -/
  | bsiStreamRecovered (n : Fin 32)
  /-- IDENTICAL_BIT_RUN (R72): 32 identical bits in a row tag OVR and set the sticky bit; 4096 make the channel INVALID until a transition. -/
  | identicalBitRun (n : Fin 32) (run : Nat)
  /-- CHAIN_ENABLE (R88): DFC CTRL.EN is set, and the chain starts at the SYNC origin with outputs INVALID until its spans fill. -/
  | chainEnable (m : Master) (v : Word)
  /-- CHAIN_DISABLE (R88): DFC CTRL.EN is cleared, stopping every stage, clearing all history and making local quantities INVALID. -/
  | chainDisable (m : Master) (v : Word)
  /-- HB_SWAP_REQUEST (R84): A W1S write to DFC_HB_SWAP requests a coefficient bank swap for a half-band stage. -/
  | hbSwapRequest (m : Master) (v : Word)
  /-- HB_SWAP_DONE (R84): At the stage's next output boundary the new bank takes effect for all channels, DFC_HB_BANK toggles and SWAP_DONE pulses. -/
  | hbSwapDone (k : Fin 5)
  /-- COEF_WRITE (R84): A coefficient word is written to a half-band bank. -/
  | coefWrite (m : Master) (bank : Fin 2) (k : Fin 41) (v : Word)
  /-- DFC_INT_WRITE (R83): A write to DFC_CHn_INT configures the integrator, and is dropped with INT_LIVE while the chain runs. -/
  | dfcIntWrite (m : Master) (n : Fin 64) (v : Word)
  /-- INTEGRATOR_SETTLED (R83): 5 τ after start or after the last INVALID input, the integrator output stops carrying INVALID. -/
  | integratorSettled (n : Fin 64)
  /-- SYNC_CMD (R87): A write of DFC_SYNC_CMD.GO requests a local SYNC; VALID of DFC_SYNC_RES falls and SYNC_PEND rises. -/
  | syncCmd (m : Master) (v : Word)
  /-- SYNC_BALL_EDGE (R86): A rising edge on the SYNC ball requests a SYNC while SYNC_BALL = 1, or is ignored and counted. -/
  | syncBallEdge
  /-- SYNC_ALIGNMENT (R85): At the origin instant every stage phase is set, moved stages tag their next output INVALID, and DFC_SYNC_RES completes. -/
  | syncAlignment
  /-- GRID_ENABLE (R107): GRID CTRL.EN is set; the grid origin is fixed, ROW is set to 0 and the tracker starts in NOMINAL. -/
  | gridEnable (m : Master) (v : Word)
  /-- GRID_DISABLE (R107): GRID CTRL.EN is cleared; no row is produced from the next grid instant, and rows already started are still sealed. -/
  | gridDisable (m : Master) (v : Word)
  /-- ROW_WRITE (R104): At a grid instant the GRID island clears SEALED in the slot and writes the row's values and quality bytes. -/
  | rowWrite (clocks : Nat) (ain : List (Nat × List ModBit)) (lines : List (Nat × List Bool))
  /-- ROW_SEAL (R18): At the fixed seal delay after its grid instant a row is sealed, and its header is written with SEALED = 1. -/
  | rowSeal
  /-- TRACKER_RELEASE (R95): After HOLD consecutive cycles with no freeze condition, the tracker leaves FROZEN for RELEASE. -/
  | trackerRelease
  /-- TRACKER_STALE (R95): A freeze that lasts FRZ_MAX sets STAT.STALE and IRQ_RAW.STALE. -/
  | trackerStale
  /-- TRACKER_UPDATE (R98): A follower receives an INC broadcast tagged with the ROW at which it applies. -/
  | trackerUpdate (row : Nat) (inc : Nat)
  /-- GRID_ALIGN (R98): An ALIGN broadcast sets a follower's accumulator, ROW and INC equal to the source's at a cycle start. -/
  | gridAlign (row : Nat) (inc : Nat) (pos : Nat)
  /-- GRID_ALIGN_CMD (R98): A write of GRID_ALIGN_CMD.GO on a follower requests a new ALIGN from the source. -/
  | gridAlignCmd (m : Master) (v : Word)
  /-- GRID_TRK_WRITE (R94): A write to GRID_TRK configures the tracker, and is dropped with TRK_LIVE when it changes the source or mode while running. -/
  | gridTrkWrite (m : Master) (v : Word)
  /-- GRID_Q_CFG_WRITE (R105): A write to GRID_Qq_CFG sets substitution and test for a quantity from the next row seal. -/
  | gridQCfgWrite (m : Master) (q : Fin 576) (v : Word)
  /-- SV_FRAME_RECEIVE (R110): A steered SV frame is taken and each ASDU is checked and, if accepted, placed into its slot's jitter buffer. -/
  | svFrameReceive (f : SvFrame)
  /-- SV_SAMPLE_RELEASE (R114): At t_s + JB a held sample is released to the resampler, or the sample is declared missing. -/
  | svSampleRelease (k : Fin 64)
  /-- SVS_SLOT_CFG_WRITE (R109): A write to SVS_SLk_CFG enables or configures a slot; the EN rising edge reads the svID entry, subject to the live, fast-slot, profile and seal checks. -/
  | svsSlotCfgWrite (m : Master) (k : Fin 64) (w : Fin 4) (v : Word)
  /-- SVS_COUNT_INTERVAL (R51): Every 100 ms of grid time, SVS_RX_CNT and each enabled slot's SVS_SLk_ST complete. -/
  | svsCountInterval
  /-- SV_PUBLISH_FRAME (R119): A publisher stream builds and sends an SV frame of resampled local channels on its schedule. -/
  | svPublishFrame (p : Fin 8)
  /-- SV_STREAM_ENABLE (R122): A write to GOS_SVPp_CFG enables a publisher stream, which first sends once its filter history is full. -/
  | svStreamEnable (m : Master) (p : Fin 8) (v : Word)
  /-- PHE_DONE (R131): The phasor engine seals its buffer, PHE_TICK completes and the element pairs may start. -/
  | pheDone (vs : List BVerdict)
  /-- PHE_LATE (R132): The PHE has not completed by the end of the phasor reservation, so STAT.LATE is set and the tick overruns. -/
  | pheLate
  /-- PHE_Q_CFG_WRITE (R137): A write to PHE_Qq_CFG changes a quantity's window, bins or enable from the next tick. -/
  | pheQCfgWrite (m : Master) (q : Fin 576) (v : Word)
  /-- PHE_GRP_CFG_WRITE (R128): A write to PHE_GRPg_CFG declares a group, and is dropped with GRP_BAD when its members are unfit. -/
  | pheGrpCfgWrite (m : Master) (g : Fin 192) (v : Word)
  /-- PHE_FCFG_WRITE (R129): A write to PHE_FCFG changes the frequency spans and restarts every group's frequency span from the next tick. -/
  | pheFcfgWrite (m : Master) (v : Word)
  /-- ELEMENT_PHASE2 (R145): A pair starts its phase-2 slots once phase 1 is done and the tick's Cumulus totals have returned. -/
  | elementPhase2 (p : Fin 8) (vs : List BVerdict)
  /-- CRUCIBLE_COMMIT (R145): A pair finishes its list and runs its crucible commit of at most 200 cycles. -/
  | crucibleCommit (p : Fin 8) (cycles : Nat)
  /-- PEA_LIVE_GO (R152): A write of PEA_LIVE_CMD.GO requests a live setting change of one slot, after the range and state checks. -/
  | peaLiveGo (m : Master) (v : Word)
  /-- PEA_PAIR_STAT_INTERVAL (R147): Every 100 ms of grid time each PEA_PAIRp_STAT group completes with load and disagreement counts. -/
  | peaPairStatInterval
  /-- ELEMENT_TIMER_EXPIRY (R155): A slot's timer accumulator G reaches 1 with PICKUP = 1, and OPERATE sets. -/
  | elementTimerExpiry (e : Fin 4096)
  /-- RESET_TIMER_EXPIRY (R161): Under DEFT reset, HT reaches TR and G returns to 0. -/
  | resetTimerExpiry (e : Fin 4096)
  /-- OPERATE_HOLD_EXPIRY (R169): An OPERATE hold timed by HT (TRST or TP) runs out and OPERATE clears. -/
  | operateHoldExpiry (e : Fin 4096)
  /-- POLARISING_MEMORY_EXPIRY (R162): The memory age AUX1 reaches MEMT, so phases without live polarisation can no longer use the memorised angle. -/
  | polarisingMemoryExpiry (e : Fin 4096)
  /-- QUALITY_HOLD_EXPIRY (R143): From the 17th consecutive quality-blocked tick, a slot under HOLD acts as BLOCK. -/
  | qualityHoldExpiry (e : Fin 4096)
  /-- TRIP_MATRIX_PASS (R385): A trip-matrix pass evaluates all 256 lines and forms FO_CMD, the fabric output bits and the GOOSE inputs. -/
  | tripMatrixPass
  /-- STRIKE_ASSERT (R197): A strike comparator asserts on the CNT-th consecutive exceeding sinc sample. -/
  | strikeAssert (n : Fin 64) (clocks : Nat) (ain : List (Nat × List ModBit)) (lines : List (Nat × List Bool))
  /-- STRIKE_CLEAR (R197): An asserted strike comparator clears after DCNT consecutive samples below the clearing level. -/
  | strikeClear (n : Fin 64) (clocks : Nat) (ain : List (Nat × List ModBit)) (lines : List (Nat × List Bool))
  /-- STRIKE_BLOCK_CHANGE (R198): A strike comparator's block bit changes; while it is 1 the output and both counts are 0. -/
  | strikeBlockChange (n : Fin 64)
  /-- TRM_STK_BLK_WRITE (R198): A write to TRM_STKn_BLK sets a block literal, and is dropped with BLK_KIND for STK or a reserved KIND. -/
  | trmStkBlkWrite (m : Master) (n : Fin 64) (v : Word)
  /-- MINON_EXPIRY (R195): The MINON time of a field output ends and a pass starts that judges the output afresh. -/
  | minonExpiry (k : Fin 16)
  /-- TRM_LATCH_RST (R195): A write to TRM_LATCH_RST resets latched outputs whose selected lines are all 0 at the end of the pass that takes it up. -/
  | trmLatchRst (m : Master) (v : Word)
  /-- OUTPUT_FRAME (R202): The CORE island sends an output frame to a field-I/O die on any change of FO_DRV or the keep-alive, and at least every 1 µs. -/
  | outputFrame (die : Fin 2) (ok : Bool)
  /-- STATUS_FRAME (R203): A die returns a status frame every 1 µs with raw inputs, pin readback and channel states. -/
  | statusFrame (die : Fin 2) (raw : BitVec 16) (pins : BitVec 8) (foh : Bool) (load : BitVec 8)
  /-- LINKLOSS_TIMEOUT (R202): A die receives no valid output frame for 10 µs and enters LINKLOSS, turning its outputs and FOH off. -/
  | linklossTimeout (die : Fin 2)
  /-- FIO_CTRL_WRITE (R202): A write to FIO CTRL starts the field link and the input filters, or stops the link with a last frame that puts both dies in LINKLOSS. -/
  | fioCtrlWrite (m : Master) (v : Word)
  /-- INPUT_FILTER_STEP (R203): At each step boundary a field input's counter filter takes the raw value and may change the filtered state. -/
  | inputFilterStep (n : Fin 32)
  /-- FI_FLT_WRITE (R204): A write to FIO_FIn_FLT changes an input filter at the next step boundary, or inverts it at once for INV. -/
  | fiFltWrite (m : Master) (n : Fin 32) (v : Word)
  /-- FO_CURRENT_LIMIT (R206): A channel's load current reaches 1.5 A while ON, and the channel enters LIMIT. -/
  | foCurrentLimit (k : Fin 16)
  /-- OVL_ENTRY (R206): LIMIT lasts LIM_T ms, so the channel turns off through the clamp in OVL. -/
  | ovlEntry (k : Fin 16)
  /-- OVL_RETRY (R207): After RETRY × 10 ms in OVL, a channel whose FO_DRV bit is still 1 turns on again. -/
  | ovlRetry (k : Fin 16)
  /-- DEMAG_END (R206): The demagnetising current falls below 10 mA and the channel enters OFF. -/
  | demagEnd (k : Fin 16)
  /-- THERMAL_SHUTDOWN (R207): A channel junction reaches 145 °C and the channel acts as OVL. -/
  | thermalShutdown (k : Fin 16)
  /-- THERMAL_COOLED (R207): The channel junction cools below 125 °C and the channel may turn on again. -/
  | thermalCooled (k : Fin 16)
  /-- FO_MISMATCH_TIMER (R208): A readback mismatch condition lasts, or is absent for, 100 µs, and FIO_FO_MISMATCH bit k is set or cleared. -/
  | foMismatchTimer (k : Fin 16)
  /-- CLAMP_EVENT_END (R209): A clamp event ends; FIO_FOk_DEMAG completes, the energy is binned, and an event above 250 mJ is flagged. -/
  | clampEventEnd (k : Fin 16) (energy : BitVec 24)
  /-- CLAMP_AVERAGE (R209): Each second the die sums each group's clamp energy over 10 s and flags CLAMP_AVG above 10 J. -/
  | clampAverage
  /-- TCS_TIMER (R210): The supervision current stays below 1.0 mA, or at or above 1.2 mA, for TCS_T × 10 ms, and FIO_TCS_FAIL is set or cleared. -/
  | tcsTimer (k : Fin 16) (low : Bool)
  /-- VF_LOW (R211): A field supply falls below 18.0 V and VF_LOW is set. -/
  | vfLow (g : Fin 2)
  /-- UVLO (R211): A field supply falls below 14.0 V, so the group turns off through the clamp and UVLO is latched. -/
  | uvlo (g : Fin 2)
  /-- VF_RECOVER (R211): VF rises to 19.0 V or more; VF_LOW clears and the 10 ms recovery timer starts. -/
  | vfRecover (g : Fin 2)
  /-- VF_RECOVERY_TIMER (R211): The recovery timer runs out and, with REARM = AUTO, UVLO clears and driven channels turn on again. -/
  | vfRecoveryTimer (g : Fin 2)
  /-- FIO_REARM (R213): A write to FIO_REARM clears a latched UVLO under MANUAL, or is dropped with REARM_LOW. -/
  | fioRearm (m : Master) (v : Word)
  /-- FOH_KEEPALIVE_LOSS (R214): No keep-alive reaches die A for 500 µs and FOH is de-energised. -/
  | fohKeepaliveLoss
  /-- HKA_GO (R215): Setting HKA CTRL.GO starts a sequencer pass, subject to the SEQ_BAD and DMA_OFF checks. -/
  | hkaGo (m : Master) (v : Word)
  /-- HKA_PASS_PERIOD (R215): Under CONT, a new pass starts every PERIOD µs. -/
  | hkaPassPeriod
  /-- HKA_WARMUP_DONE (R215): The 5 µs wait of a cold converter ends and the conversion starts. -/
  | hkaWarmupDone
  /-- HKA_CONVERSION_DONE (R215): A conversion completes and its result word is pushed into the FIFO. -/
  | hkaConversionDone (code : BitVec 12) (ovr : Bool)
  /-- HKA_URGENT_REQUEST (R217): A write to HKA_URG requests one urgent conversion next, or is dropped with URG_BUSY. -/
  | hkaUrgentRequest (m : Master) (v : Word)
  /-- HKA_FIFO_POP (R215): A read of HKA_FIFO_DATA by master 1 pops the head result. -/
  | hkaFifoPop
  /-- HKA_TEMPERATURE_SAMPLE (R217): Every 1 ms the AON island takes its own temperature conversion for the lifetime histogram. -/
  | hkaTemperatureSample (sensor : Fin 8) (code : BitVec 12) (ovr : Bool)
  /-- LOGIC_CYCLE_LEAD (R226): A logic cycle starts at the end of OUT, or MINCYC after the previous start, and the master schedules a snapshot. -/
  | logicCycleLead
  /-- LOGIC_SNAPSHOT (R226): At the snapshot instant every domain member latches its input image and sends it toward the master. -/
  | logicSnapshot (gen : BitVec 16)
  /-- INPUT_IMAGE_RECEIVED (R220): A member's input image arrives at the master and sets its VALID bit. -/
  | inputImageReceived (m : Fin 64) (image : List Byte)
  /-- LOGIC_EXEC (R226): At the end of GATHER the master applies input forces and runs the instances in program order. -/
  | logicExec (memErr : Option (Fin 8192))
  /-- LOGIC_OUT (R226): After EXEC the output slices are broadcast and the dirty RETAIN lines are copied to the shadow. -/
  | logicOut
  /-- SLICE_RECEIVED (R226): A member receives its output slice and applies it, at once or at the OUTSYNC instant. -/
  | sliceReceived (slice : List Byte)
  /-- SLICE_APPLY_OUTSYNC (R226): Under OUTSYNC, every member applies its slice at the broadcast instant plus the OUT bound. -/
  | sliceApplyOutsync
  /-- LOGIC_WATCHDOG (R228): OUT is not issued by WDT after the cycle's LEAD start, so the engine stops with cause WDT and applies safe slices. -/
  | logicWatchdog (inst : Fin 8192)
  /-- MASTER_LOST (R227): A remote member receives no slice for WDT and applies its safe slice in REMOTE_SAFE. -/
  | masterLost
  /-- STOP_RECEIVED (R228): A remote member receives the master's STOP and applies its safe slice. -/
  | stopReceived (cause : Fin 7)
  /-- LGE_START (R231): LGE_CMD.START starts the engine cold or warm. -/
  | lgeStart (m : Master) (v : Word)
  /-- LGE_STOP (R232): LGE_CMD.STOP stops the engine with cause COMMAND. -/
  | lgeStop (m : Master) (v : Word)
  /-- LGE_CTRL_WRITE (R228): A write to LGE CTRL enables the engine or forcing; clearing EN stops the engine with cause COMMAND. -/
  | lgeCtrlWrite (m : Master) (v : Word)
  /-- LGE_WDT_WRITE (R228): A write to LGE_WDT sets the watchdog, and is dropped with WDT_SHORT below 1.11 × WCET. -/
  | lgeWdtWrite (m : Master) (v : Word)
  /-- RETAIN_SAVE (R230): Every SAVE_PER ms, at the end of an OUT, the frozen retain shadow is written to the older MRAM copy. -/
  | retainSave
  /-- RETAIN_SAVE_DONE (R230): A retain copy is sealed and LGE_RETAIN completes. -/
  | retainSaveDone
  /-- FORCE_SET (R233): A SET force command fixes a forceable variable at a value from the next cycle. -/
  | forceSet (m : Master) (v : Word)
  /-- FORCE_CLEAR (R233): A CLEAR force command removes the force on one symbol. -/
  | forceClear (m : Master) (v : Word)
  /-- FORCE_CLEAR_ALL (R233): A CLEAR_ALL force command removes every active force. -/
  | forceClearAll (m : Master) (v : Word)
  /-- RECAST_PREPARE (R235): PREPARE verifies and stages a new program in the background. -/
  | recastPrepare (m : Master) (v : Word) (img : LImage)
  /-- IOMAP_ACK (R235): A remote member acknowledges its new IOMAP entry and safe slice during a prepare. -/
  | iomapAck (m : Fin 64) (gen : BitVec 16) (map : LIomap) (safe : List Byte)
  /-- NOACK (R235): A remote member does not acknowledge within 10 ms, so the prepare ends with NOACK. -/
  | noack
  /-- RECAST_PREPARE_DONE (R235): The prepare ends, LGE_RC_PREP completes, and PHASE becomes READY or IDLE. -/
  | recastPrepareDone
  /-- RECAST_SWAP (R236): SWAP moves PHASE from READY to SWAP_PEND. -/
  | recastSwap (m : Master) (v : Word)
  /-- SWAP_START (R236): At the end of the first OUT that meets AT and has no retain save running, the SWAP phase begins and RECAST OPEN is journaled. -/
  | swapStart (cycles : BitVec 20)
  /-- SWAP_OVERRUN (R236): SWAP exceeds T_SWAP by more than 10 %, so the engine stops with cause WDT. -/
  | swapOverrun
  /-- RECAST_ABORT (R243): ABORT stops a prepare or discards the staged program, or returns SWAP_PEND to READY. -/
  | recastAbort (m : Master) (v : Word)
  /-- RECAST_ROLLBACK (R242): ROLLBACK swaps back to the previous program held in the staging set. -/
  | recastRollback (m : Master) (v : Word)
  /-- PTP_ANNOUNCE_RECEIVED (R249): A PTP Announce is taken by the PTP engine for best-master selection in its domain. -/
  | ptpAnnounceReceived (p : Fin 4) (a : PtpAnnounce)
  /-- PTP_SYNC_RECEIVED (R249): A PTP Sync, or its Follow_Up, gives an offset that steps or slews the domain clock and may change the domain state. -/
  | ptpSyncReceived (p : Fin 4) (num : BitVec 8) (sender t1 lag : Nat)
  /-- PDELAY_REQ_RECEIVED (R247): A Pdelay_Req is answered by the hardware responder, in one step or two steps. -/
  | pdelayReqReceived (p : Fin 4) (num : BitVec 8) (seq : BitVec 16)
  /-- PDELAY_RESP_RECEIVED (R247): A Pdelay_Resp or Pdelay_Resp_Follow_Up updates the peer link delay. -/
  | pdelayRespReceived (p : Fin 4) (num : BitVec 8) (roundTrip turn : Nat)
  /-- ANNOUNCE_TIMEOUT (R249): No qualified Announce arrives for ANN_TO intervals, so the domain enters HOLDOVER or LISTENING. -/
  | announceTimeout (d : Fin 2)
  /-- SYNC_TIMEOUT (R249): No Sync arrives for SYNC_TO intervals, so the domain enters HOLDOVER. -/
  | syncTimeout (d : Fin 2)
  /-- WALL_REVERT (R250): The preferred domain has been in SLAVE for REVERT_T s, so the wall class returns to it. -/
  | wallRevert
  /-- PPS_IN_EDGE (R256): A rising edge on PPS_IN is timestamped in both classes, and under SRC = PPS steers the wall class. -/
  | ppsInEdge (dev : Int)
  /-- PPS_EDGE_MISSING (R251): Two expected PPS edges are missing, so the wall class enters HOLDOVER. -/
  | ppsEdgeMissing
  /-- TIM_WALL_SET (R251): A write of TIM_WALL_SET.GO steps the wall class under PPS or FREE, or is dropped with WALL_SRC. -/
  | timWallSet (m : Master) (v : Word)
  /-- GRID_TIME_UPDATE (R252): Every 10 ms, and at each source update, the grid class measures its error and tracks or slews. -/
  | gridTimeUpdate
  /-- GRID_SET (R252): TIM_GRID_CMD.SET steps grid time to its source, or is dropped with GRID_LIVE while the grid or chain runs. -/
  | gridSet (m : Master) (v : Word)
  /-- ACCEPT (R253): TIM_GRID_CMD.ACCEPT starts the MANUAL Overcast slew. -/
  | accept (m : Master) (v : Word)
  /-- FABRIC_TIME_MESSAGE (R255): A fabric time message from the source member updates a follower's wall and grid classes. -/
  | fabricTimeMessage (m : Fin 64) (wall grid : Nat) (wallAdj gridAdj : Int) (wallSt gridSt : Fin 3)
  /-- FABRIC_TIME_TIMEOUT (R255): A follower receives no fabric time message for 10 ms and treats its source as lost. -/
  | fabricTimeTimeout
  /-- XO_LOST (R257): XO_IN leaves ±50 ppm or stops for 1 µs, so the reference returns to the internal oscillator and XO_LOST is set. -/
  | xoLost
  /-- TIM_SNAP_CMD (R246): A write of TIM_SNAP_CMD.GO captures both time classes, and TIM_SNAP completes within 0.2 µs. -/
  | timSnapCmd (m : Master) (v : Word)
  /-- PPS_OUT_EDGE (R256): PPS_OUT rises at each whole second of the chosen class, plus PPSO_OFS, for PPSO_W ms. -/
  | ppsOutEdge
  /-- TIM_DOMAIN_CFG_WRITE (R249): A write to TIM_Dd_CFG enables or configures a domain, and is dropped with DOM_LIVE while running. -/
  | timDomainCfgWrite (m : Master) (d : Fin 2) (v : Word)
  /-- PORT_SIGNAL_DETECT (R259): A signal appears on an enabled fabric port and it enters TRAIN. -/
  | portSignalDetect (p : Fin 6)
  /-- PORT_BLOCK_LOSS (R259): An UP port sees no valid block for 2.0 µs and enters DOWN, dropping its queued frames. -/
  | portBlockLoss (p : Fin 6)
  /-- HELLO_RECEIVED (R259): A HELLO frame exchanges serial number, ID and port; a self-loop sends the port to FAULT. -/
  | helloReceived (p : Fin 6) (serial : BitVec 64) (id : Option (Fin 64)) (port : Fin 6)
  /-- PORT_TRAIN_COMPLETE (R259): TRAIN completes in both directions and the port enters UP. -/
  | portTrainComplete (p : Fin 6)
  /-- FRAME_CRC_ERROR (R258): A fabric frame fails its CRC, is answered with a negative acknowledgement, replayed and counted. -/
  | frameCrcError (p : Fin 6)
  /-- PORT_FAULT_RETRY (R259): 10 ms after a FAULT, the port trains again. -/
  | portFaultRetry (p : Fin 6)
  /-- LINK_STATE_FLOOD (R263): A link-state frame is received and flooded, and routes and trees are recomputed. -/
  | linkStateFlood (origin : Fin 64) (seq : Nat) (links : List (Nat × Nat))
  /-- ROUTE_UPDATE (R264): A member starts using its new routes and trees, updating GAL_RTm and GAL_DEPTH. -/
  | routeUpdate
  /-- LINK_DELAY_MEASUREMENT (R260): Every 1 ms an UP link measures its one-way delay. -/
  | linkDelayMeasurement (p : Fin 6) (delay : BitVec 20)
  /-- DISCOVERY (R262): Discovery reaches a member; the root is chosen and numbering conflicts are settled. -/
  | discovery (l : List Found)
  /-- REMOTE_ACCESS_FRAME (R267): A class 3 access frame arrives at member n and acts as a master-6 access under its region registers. -/
  | remoteAccessFrame (src : Fin 64) (off : BitVec 25) (len : Nat) (data : Option (List Byte)) (errs : List (Nat × Bool))
  /-- FABRIC_BITS_FRAME (R268): A fabric-bits frame arrives and updates the mapped fabric input bits. -/
  | fabricBitsFrame (m : Fin 64) (bits : BitVec 64)
  /-- FABRIC_BITS_REFRESH (R268): A member sends its fabric output bits at least every 10 µs. -/
  | fabricBitsRefresh
  /-- FBI_TIMEOUT (R268): No frame comes from an FBI's source for FBI_TO, so the input becomes invalid and reads FAILV. -/
  | fbiTimeout (m : Fin 64)
  /-- FBI_HOLD_END (R268): The 1 µs hold of a fabric input bit ends and a change that arrived during it is taken up. -/
  | fbiHoldEnd (n : Fin 256)
  /-- GAL_FBI_WRITE (R268): A write to GAL_FBIi maps a fabric input bit at once and starts a trip-matrix pass. -/
  | galFbiWrite (m : Master) (n : Fin 256) (v : Word)
  /-- BARRIER (R271): GAL_GOP_CMD with OP = BARRIER issues a barrier on the member set. -/
  | barrier (m : Master) (v : Word)
  /-- BROADCAST (R271): GAL_GOP_CMD with OP = BROADCAST sends up to 56 bytes to the member set. -/
  | broadcast (m : Master) (v : Word)
  /-- SNAPSHOT (R270): GAL_GOP_CMD with OP = SNAPSHOT schedules a snapshot at an instant. -/
  | snapshot (m : Master) (v : Word)
  /-- GOP_RESET (R270): GAL_GOP_CMD with OP = RESET schedules a reset of the SYNC, LATCH and STICKY targets at an instant. -/
  | gopReset (m : Master) (v : Word)
  /-- GOP_DELIVERY (R269): A global operation reaches a member of its set, which acknowledges it or answers LATE. -/
  | gopDelivery (origin : Fin 64) (seq : Nat) (op : Fin 6) (tgt : Fin 8) (atMode : Fin 4) (at_ : BitVec 32) (data : List Word)
  /-- GOP_INSTANT (R270): At the scheduled instant each member latches GAL_SNAP or applies the reset targets. -/
  | gopInstant (row : Bool) (at_ : BitVec 32)
  /-- BROADCAST_RECEIVED (R271): A broadcast is delivered and GAL_BCAST_RX completes. -/
  | broadcastReceived (origin : Fin 64) (seq : Nat) (data : List Word)
  /-- BARRIER_ARRIVE (R271): A write of GAL_BAR_ARRIVE records this member's arrival at the barrier. -/
  | barrierArrive (m : Master) (v : Word)
  /-- BARRIER_RELEASE (R271): Every member has arrived and the release reaches all, raising GOP_DONE. -/
  | barrierRelease (origin : Fin 64) (seq : Nat)
  /-- BARRIER_TIMEOUT (R272): A barrier member has not arrived by BAR_TO, so the operation ends with TIMEOUT and no release. -/
  | barrierTimeout (arrived : BitVec 64)
  /-- GOP_COMPLETE (R272): The acknowledgements of an operation complete, and GAL_GOP_RES completes with STATUS and MISS. -/
  | gopComplete (seq : Nat) (acked late : BitVec 64)
  /-- CUMULUS_FRAME_RECEIVED (R277): A contribution or partial-sum frame is summed with the member's own contribution and its children's sums. -/
  | cumulusFrameReceived (k : Fin 8) (row : BitVec 32) (first : Nat) (chans : List (BitVec 64 × BitVec 64 × BitVec 8 × BitVec 64))
  /-- CUMULUS_CUTOFF (R277): At its cutoff a member forwards what it holds to its parent, whether or not all children have sent. -/
  | cumulusCutoff (k : Fin 8)
  /-- CUMULUS_TOTALS_RECEIVED (R276): A member receives a set's totals and writes them to its totals buffer. -/
  | cumulusTotalsReceived (k : Fin 8) (origin : Fin 64) (row : BitVec 32) (totals : List (Word × Word × Word))
  /-- CUMULUS_RETURN_BOUND (R277): Totals have not arrived by the return bound, so the set's channels are written LATE and phase 2 may start. -/
  | cumulusReturnBound (k : Fin 8)
  /-- CUMULUS_JOIN (R279): A member sends its DHASH to the origin and is joined once the echo matches. -/
  | cumulusJoin (k : Fin 8) (echo : Word)
  /-- EXCLUDE (R280): CUM_CMD with OP = EXCLUDE schedules removal of a member from a set's expected members at a row. -/
  | exclude (m : Master) (v : Word)
  /-- INCLUDE (R280): CUM_CMD with OP = INCLUDE schedules the return of an excluded member at a row. -/
  | include (m : Master) (v : Word)
  /-- PAIRING_FRAME (R282): A duplex pairing frame arrives with the partner's digest, profile and authority state. -/
  | pairingFrame (digest : List Word) (profile : Fin 4) (auth : Fin 16)
  /-- PAIRING_FRAME_SEND (R282): Every 1 ms a paired member sends its pairing frame. -/
  | pairingFrameSend
  /-- PAIRING_TIMEOUT (R282): No pairing frame arrives for 10 ms, so the partner counts as absent and the pair stops being FORMED. -/
  | pairingTimeout
  /-- AUTH_IN_CHANGE (R283): AUTH_IN changes through the synchroniser; a rise closes the gates and may move the authority state. -/
  | authInChange (level : Bool)
  /-- HB_PULSE_RECEIVED (R284): A heartbeat pulse from the partner is seen on HB. -/
  | hbPulseReceived
  /-- HB_PULSE_SEND (R283): An ACTIVE member drives a 0.4 µs HB pulse every 2.0 µs, retriggering its AUTH_OUT monostable. -/
  | hbPulseSend
  /-- AUTH_MONOSTABLE_EXPIRY (R283): AUTH_OUT falls 5.0 µs after the last own pulse. -/
  | authMonostableExpiry
  /-- HEALTH_LOSS (R283): A member stops being healthy; it stops its pulses, drops AUTH_OUT and enters DOWN. -/
  | healthLoss
  /-- HEALTH_RECOVERY (R284): A member in DOWN becomes healthy again and enters GUARD, UNFIT or CONTEND under its latches. -/
  | healthRecovery
  /-- CLAIM_WINDOW_EXPIRY (R284): AUTH_IN has been 0 for 4.0 µs and no HB pulse has come for 6.0 µs, so the member claims. -/
  | claimWindowExpiry
  /-- CLAIM_CONFIRM (R284): After 0.5 µs in CLAIM with AUTH_IN = 0 the member enters ACTIVE, starts pulses and opens the gates. -/
  | claimConfirm
  /-- BACKOFF_RETRY (R285): After a collision, a member claims again once AUTH_IN has been 0 for 2.0 µs or 6.0 µs by ID. -/
  | backoffRetry
  /-- SHADOW_FRAME (R287): A shadow frame from the ACTIVE partner updates the standby's copy of FO_DRV, latches and MINON. -/
  | shadowFrame (drv : BitVec 16) (latch : BitVec 16) (minon : List Byte)
  /-- TRIP_VECTOR_HASH (R288): A partner's trip-vector hash arrives and is compared by ROW, counting toward a mismatch. -/
  | tripVectorHash (row : BitVec 32) (hash : Word)
  /-- HANDOVER (R288): DUP_CMD.HANDOVER makes the ACTIVE member relinquish and enter GUARD, or is dropped with DUP_STATE. -/
  | handover (m : Master) (v : Word)
  /-- CLEAR_UNFIT (R284): DUP_CMD.CLEAR_UNFIT ends UNFIT, or a CONTEND entered from BACKOFF, and enters GUARD. -/
  | clearUnfit (m : Master) (v : Word)
  /-- MAC_RX_FRAME (R290): A received Ethernet frame is checked and steered to PTP, SVS, GOOSE, a host ring, or dropped. -/
  | macRxFrame (p : Fin 4) (bs : List Byte) (fcs : Bool) (ref : List Byte) (full : Bool)
  /-- RX_TAIL_WRITE (R294): A write of a receive ring's TAIL hands buffers to the device. -/
  | rxTailWrite (m : Master) (p r : Fin 4) (v : Word)
  /-- TX_TAIL_WRITE (R295): A write of a transmit ring's TAIL hands frames to the device. -/
  | txTailWrite (m : Master) (p r : Fin 4) (v : Word)
  /-- TX_FRAME (R297): A ring frame whose EOF is owned wins strict priority and is sent on the port. -/
  | txFrame (p : Fin 4)
  /-- TX_FRAME_COMPLETE (R295): A frame has been sent or rejected, and words 5 to 7 of its descriptors are written back. -/
  | txFrameComplete (p : Fin 4)
  /-- PAUSE_RECEIVED (R297): A PAUSE frame is counted and, unless IGNORE_PAUSE, halts transmission after the frame on the wire. -/
  | pauseReceived (p : Fin 4) (quanta : BitVec 16)
  /-- PAUSE_EXPIRY (R297): The pause quanta run out and transmission resumes. -/
  | pauseExpiry (p : Fin 4)
  /-- MAC_LINK_CHANGE (R289): A port's link goes up or down and MAC IRQ_RAW.LINK pulses. -/
  | macLinkChange (p : Fin 4) (up : Bool) (rate : Fin 4)
  /-- MAC_RING_CFG_WRITE (R292): A write to a ring's BASE or CFG sets it up, resets HEAD and TAIL when EN rises, or is dropped with RING_LIVE. -/
  | macRingCfgWrite (m : Master) (p : Fin 4) (q : Fin 8) (w : Fin 3) (v : Word)
  /-- MAC_MAXLEN_WRITE (R291): A write to MAC_MAXLEN sets the limit from the next frame, or is dropped with MAXLEN_BAD. -/
  | macMaxlenWrite (m : Master) (p : Fin 4) (v : Word)
  /-- GOOSE_RETRANSMIT (R300): A dataset's retransmission interval expires and a frame is sent with sqNum + 1 and a doubled interval. -/
  | gooseRetransmit (d : Fin 128)
  /-- GOOSE_FRAME_RECEIVED (R303): A GOOSE frame matched to a subscription is judged and accepted or discarded. -/
  | gooseFrameReceived (f : GooseRx)
  /-- GOOSE_TAL_EXPIRY (R303): No frame is accepted within the last frame's timeAllowedtoLive, so the subscription enters STALE. -/
  | gooseTalExpiry (k : Fin 512)
  /-- GIN_HOLD_END (R304): The 1 µs hold of a GOOSE input bit ends and a later value is taken up. -/
  | ginHoldEnd (n : Fin 1024)
  /-- EVENT_ARRIVAL (R308): A source delivers an event and the EVR writes an entry with the next SEQ. -/
  | eventArrival
  /-- EVENT_FLUSH_PERIOD (R309): PER ms after the last flush ended, with entries unflushed, a flush starts. -/
  | eventFlushPeriod
  /-- EVENT_FLUSH_DONE (R309): A flush reaches U = 0 and ends, and EVR_POS completes. -/
  | eventFlushDone
  /-- EVR_CURSOR_WRITE (R312): A write to EVR_CURSOR starts loading 8 entries into the read window. -/
  | evrCursorWrite (m : Master) (v : Word)
  /-- WINDOW_LOAD_DONE (R312): The window load ends and EVR_WIN_ST completes. -/
  | windowLoadDone
  /-- EVR_CLEAR_ARM (R313): ARM to EVR_CLR generates a key shown for 1 ms. -/
  | evrClearArm (m : Master) (v : Word)
  /-- EVR_CLEAR_CONFIRM (R313): CONFIRM with the right key clears the ring and the journal and writes a CLEARED entry. -/
  | evrClearConfirm (m : Master) (v : Word)
  /-- EVR_CLEAR_KEY_EXPIRY (R313): 1 ms after ARM the key expires and the clear disarms. -/
  | evrClearKeyExpiry
  /-- EVR_USER_EVENT (R307): A write to EVR_USER1 adds a USER event. -/
  | evrUserEvent (m : Master) (v : Word)
  /-- DRC_CTRL_WRITE (R315): A write setting DRC CTRL.EN starts recording, or is dropped with STORE_OFF or RING_SHORT. -/
  | drcCtrlWrite (m : Master) (v : Word)
  /-- DRC_CMD_TRIG (R316): A write of DRC_CMD.TRIG triggers a record by command. -/
  | drcCmdTrig (m : Master) (v : Word)
  /-- DRC_POST_END (R316): A record's post-fault time ends at t0 + POST. -/
  | drcPostEnd
  /-- RECORD_EXTENT_WRITTEN (R319): A data extent of a record is written to the card, with a checkpoint every 16th extent. -/
  | recordExtentWritten
  /-- RECORD_SEAL (R321): After the final checkpoint the directory entry is written SEALED and RECORD_COMMIT DONE is journaled. -/
  | recordSeal
  /-- STO_INIT (R322): The store initialises the card and directory and marks OPEN entries UNSEALED. -/
  | stoInit (sectors : Word) (eol : Byte) (lifeA : Byte) (lifeB : Byte) (mode : Fin 4)
  /-- STO_READ (R324): STO_CMD READ copies bytes of a record to STO_DST. -/
  | stoRead (m : Master) (v : Word) (data : List Byte)
  /-- STO_DELETE (R324): STO_CMD DELETE deletes a record. -/
  | stoDelete (m : Master) (v : Word)
  /-- STO_KEEP (R324): STO_CMD KEEP protects a record from wrap-around. -/
  | stoKeep (m : Master) (v : Word)
  /-- STO_UNKEEP (R324): STO_CMD UNKEEP removes a record's KEEP protection. -/
  | stoUnkeep (m : Master) (v : Word)
  /-- STO_SALVAGE (R322): STO_CMD SALVAGE seals an UNSEALED record at its last good checkpoint. -/
  | stoSalvage (m : Master) (v : Word)
  /-- STO_FORMAT (R324): STO_CMD FORMAT formats the store, or is dropped with STO_KEY. -/
  | stoFormat (m : Master) (v : Word)
  /-- STO_DIRENT (R324): STO_CMD DIRENT copies a 256-byte directory entry to STO_DST. -/
  | stoDirent (m : Master) (v : Word) (data : List Byte)
  /-- STO_COMMAND_DONE (R324): A host store command ends and STO_RES completes. -/
  | stoCommandDone
  /-- CARD_TIMEOUT (R318): A card command not complete within 250 ms is a card error, so open records truncate and READY falls. -/
  | cardTimeout
  /-- MEM_BANK_CFG_WRITE (R327): A write to MEM_BANKnn_CFG changes a bank's state or mode under the state-change rules. -/
  | memBankCfgWrite (m : Master) (b : Fin 48) (v : Word)
  /-- BANK_ZERO_DONE (R327): A powered-up bank finishes zeroing and READY rises. -/
  | bankZeroDone (b : Fin 48)
  /-- SCRUB_PASS (R329): The patrol scrubber reads every word of every ON and RETAIN bank once each SCRUB_H hours. -/
  | scrubPass (errs : List (Nat × Bool))
  /-- MARCH_GO (R334): MEM_MARCH_CMD.GO starts a march test on the named banks. -/
  | marchGo (m : Master) (v : Word)
  /-- MARCH_COMPLETE (R335): A march test ends; MEM_MARCH_RES completes and the lifetime counts are updated. -/
  | marchComplete (fails : BitVec 48)
  /-- ATOMIC_ADD (R332): An access to the ADD window of an ATOMIC bank adds to, or fetches and adds to, the data word. -/
  | atomicAdd (m : Master) (b : Fin 48) (off : BitVec 17) (wide : Bool) (data : Option (BitVec 64))
  /-- ATOMIC_SWAP (R332): A read of the SWAP window returns the old value and stores the master's operand; a write is dropped with ATOM. -/
  | atomicSwap (m : Master) (b : Fin 48) (off : BitVec 17) (wide : Bool) (data : Option (BitVec 64))
  /-- OPERAND_WRITE (R332): A write to the OPERAND window stores the master's operand. -/
  | operandWrite (m : Master) (b : Fin 48) (off : BitVec 17) (wide : Bool) (v : BitVec 64)
  /-- DMA_HEAD_WRITE (R341): A write to DMA_CHn_HEAD names the first descriptor, or is dropped with KICK_STATE outside IDLE. -/
  | dmaHeadWrite (m : Master) (n : Fin 16) (w : Fin 2) (v : Word)
  /-- DMA_KICK (R341): A write to DMA_CHn_KICK starts a chain, sets KPEND, or rereads a kept link word. -/
  | dmaKick (m : Master) (n : Fin 16) (v : Word)
  /-- DMA_ABORT (R341): ABORT ends the element in flight, writes back with ABORTED and returns the channel to IDLE. -/
  | dmaAbort (m : Master) (n : Fin 16) (v : Word) (k : Nat) (ans : List (Option (List Byte)))
  /-- DMA_DESCRIPTOR_FETCH (R338): The engine reads and checks words 0–13 of a descriptor and starts its elements. -/
  | dmaDescriptorFetch (n : Fin 16) (errs : List (Nat × Bool))
  /-- DMA_HKA_REQUEST (R337): Under REQ = 1 an element waits for an HKA FIFO entry and moves when one arrives. -/
  | dmaHkaRequest (n : Fin 16) (ans : List (Option (List Byte)))
  /-- DMA_DESCRIPTOR_DONE (R339): A descriptor's writes complete; words 12 and 13 are written back and the link word is read. -/
  | dmaDescriptorDone (n : Fin 16) (ans : List (Option (List Byte)))
  /-- RAIL_UNDERVOLTAGE (R344): A rail falls below its undervoltage level and resets or triggers the Ladle by rail. -/
  | railUndervoltage (rail : Fin 8)
  /-- RAIL_OVERVOLTAGE (R344): A rail rises above its overvoltage level, triggering the Ladle and then a member reset. -/
  | railOvervoltage (rail : Fin 8)
  /-- POWER_ON_RESET (R345): VAON crosses its undervoltage level and resets AON and the member. -/
  | powerOnReset
  /-- RESET_PIN (R345): RESET_N is low for 1 µs or more and resets the member. -/
  | resetPin
  /-- SYS_RST_CMD (R345): SYS_RST_CMD with GO and the key resets the member, or is dropped with RST_KEY. -/
  | sysRstCmd (m : Master) (v : Word)
  /-- THERMAL_TRIP (R345): The hottest logic sensor reads 135 °C or more for 10 ms, so the Ladle runs and the member is held in reset. -/
  | thermalTrip
  /-- BOOT (R348): After a reset is released, boot scans the journal, runs march tests, verifies and loads the image and restores events. -/
  | boot (f : BootFinds)
  /-- CONFIG_WRITE (R352): SYS_CFG_CMD WRITE verifies an image, writes it to the inactive slot and makes that slot active. -/
  | configWrite (m : Master) (v : Word) (img : CfgImage)
  /-- CONFIG_LOAD (R352): SYS_CFG_CMD LOAD checks the active slot, stops the blocks, applies the image and restarts them. -/
  | configLoad (m : Master) (v : Word)
  /-- CONFIG_WRITE_LOAD (R352): SYS_CFG_CMD WRITE_LOAD runs WRITE and then LOAD. -/
  | configWriteLoad (m : Master) (v : Word) (img : CfgImage)
  /-- SYS_PROFILE_WRITE (R31): A write to SYS_PROFILE stores a pending profile for the next load. -/
  | sysProfileWrite (m : Master) (v : Word)
  /-- PFW_ASSERT (R353): The PFW ball is low for 1 µs, or VMAIN_SNS is below PF_THR for 10 µs, and the Ladle is triggered. -/
  | pfwAssert (vmain : Bool)
  /-- LADLE_SEAL (R354): The Ladle writes its seal entry and STAT.LADLE falls. -/
  | ladleSeal
  /-- RECOVER_RESET (R356): Every trigger has been clear for REC_T after the seal with SUPPLY_OK, so the member resets with cause RECOVER. -/
  | recoverReset
  /-- JOURNAL_DRAIN (R357): The queue writes an entry to copy A and then copy B of the journal ring. -/
  | journalDrain
  /-- TRIP_ISSUE_TIMEOUT (R359): 1 ms after a TRIP_ISSUE OPEN without every MARK, DONE is written PARTIAL or FAILED. -/
  | tripIssueTimeout
  /-- JRNL_RESOLVE (R361): A write to JRNL_RESOLVE appends a RESOLVED entry for an open operation, or is dropped with RES_BAD. -/
  | jrnlResolve (m : Master) (v : Word)
  /-- JRNL_CURSOR_WRITE (R312): A write to JRNL_CURSOR loads 8 journal entries into the JRNL window. -/
  | jrnlCursorWrite (m : Master) (v : Word)
  /-- LIFE_UPDATE (R362): Every 10 min of powered time the live lifetime counts are written to the older record copy. -/
  | lifeUpdate
  /-- LIFE_SEL_WRITE (R362): A write to LIFE_SEL requests one lifetime count, which LIFE_VAL returns within 1 µs. -/
  | lifeSelWrite (m : Master) (v : Word)
  /-- PERST_ASSERT (R345): PERST# is asserted, resetting the PCIe endpoint and the PCI page only. -/
  | perstAssert
  /-- PCIE_LINK_RETRAIN (R34): The PCIe link comes up or retrains, so PCI_LINK.UP rises and host traffic and root selection become possible again. -/
  | pcieLinkRetrain (speed : Fin 3) (wide : Bool)
  /-- D0_ENTRY (R34): The function returns from D3hot to D0, and memory requests to BAR0 and BAR2 are accepted again. -/
  | d0Entry
  /-- MSIX_ENABLE (R55): MSI-X is enabled, so vectors that are asserted in IDLE can send their messages. -/
  | msixEnable (masked : Bool)
  /-- CONFIG_OPERATION_END (R352): A WRITE, LOAD or WRITE_LOAD operation ends, SYS_CFG_RES completes, the CONFIG_WRITE journal entry closes and the CFG_BUSY window ends. -/
  | configOperationEnd (ok : Bool)
  /-- JRNL_WINDOW_LOAD_DONE (R312): A journal window load ends and JRNL_WIN_ST completes. -/
  | jrnlWindowLoadDone
  /-- CURRENT_LIMIT_END (R206): A channel in LIMIT sees its load stop drawing the limit current, so it returns to ON and the LIM_T time restarts. -/
  | currentLimitEnd (k : Fin 16)
  /-- VF_FALL_DURING_RECOVERY (R213): VF falls below 19.0 V while the UVLO recovery timer runs, so the timer stops until VF is at 19.0 V again. -/
  | vfFallDuringRecovery (g : Fin 2)
  /-- OVERRANGE_RELEASE (R62): The over-range window comparator releases when the input returns inside ±1.05 × range, and bits stop carrying OVR. -/
  | overrangeRelease (n : Fin 32)
  /-- BLEND_COMPLETE (R250): The blended offset O reaches 0 after a domain change, and STAT.BLEND falls. -/
  | blendComplete
  /-- PPS_OUT_PULSE_END (R256): PPS_OUT falls PPSO_W ms after its rising edge. -/
  | ppsOutPulseEnd
  /-- MAC_CNT_INTERVAL (R51): Every 100 ms while EN = 1, MAC_CNT completes with the cumulative counters. -/
  | macCntInterval (p : Fin 4)
  /-- GOS_CNT_INTERVAL (R51): Every 100 ms while any GOS CTRL enable is 1, GOS_CNT completes. -/
  | gosCntInterval
  /-- CUM_SET_STAT_INTERVAL (R51): Every 100 ms of grid time, each enabled set's CUM_SETs_ST completes. -/
  | cumSetStatInterval
  /-- DRC_STAT_INTERVAL (R51): Every 100 ms while DRC EN = 1, DRC_ST completes with fill, lag and loss counts. -/
  | drcStatInterval
  /-- EVR_POS_INTERVAL (R51): Every 10 ms, EVR_POS completes with NEXT, UNFL, OLDEST and LOST. -/
  | evrPosInterval
  /-- JRNL_POS_INTERVAL (R51): Every 10 ms, JRNL_POS completes with NEXT, OLDEST, NOPEN and LOST. -/
  | jrnlPosInterval
  /-- MEM_ARB_INTERVAL (R330): Every 1 ms, MEM_ARB completes with the cycles granted and stolen on the selected bank. -/
  | memArbInterval (engine dma stolen other : Word)
  /-- GAL_PORT_STAT_INTERVAL (R51): Every 1 ms while GAL EN = 1, each GAL_PORTp_ST completes with state, delay and error counts. -/
  | galPortStatInterval
  /-- DMA_CUR_INTERVAL (R51): Every 10 µs while a channel is RUNNING, DMA_CHn_CUR completes with the current descriptor and position. -/
  | dmaCurInterval (n : Fin 16) (k : Nat) (ans : List (Option (List Byte)))
  deriving DecidableEq, Repr

end Sys2Proof
end

