-- ==== Sys2Proof/Decode.lean ====
section
/-! DEFINITION. The commands that a word of the opcode table's bits spells. The table gives no command any bits: commands come as
register accesses, frames, pins and events, and no word encodes one. -/

namespace Sys2Proof

/-- The command that a word spells: none, since no row of the opcode table has bits. -/
def decodeTableWord (_nbits _w : Nat) : Option Instr := none

end Sys2Proof
end

