-- ==== Sys2Proof/Config.lean ====
section
/-! DEFINITION. Values the spec leaves open, each a constant with no body, so that no proof can rest on what it is. Each is
named in an entry of the assumption log. -/

namespace Sys2Proof

/-- A value the spec states no number for, drawn afresh: the argument is the state's counter of drawn values. -/
opaque Config.freeValue : Nat → Word

/-- The direction of a rounding that the spec leaves open (the use, its operands): whether the value is rounded up. -/
opaque Config.roundUp : Nat → List Int → Bool

/-- The angle engine A gives a phasor that is 0 or not finite (real, imaginary part): the spec states none. -/
opaque Config.angleOfNone : Word → Word → Word

/-- Engine B's own rounding of a change (slot, value before, change): its formats are its converter's (R140, R155). -/
opaque Config.engineB : List Int → Nat

/-- R161: G after a tick of disk reset with M at −1 or less (M, G before), where the stated reset time is not positive. -/
opaque Config.diskBack : Word → Nat → Nat

/-- Numbers for the factory half-band coefficient h[i] of stage HBs (s from 0), Q0.23; those that meet R76 are taken. -/
opaque Config.hbRaw : Nat → Nat → BitVec 24

/-- Numbers for the factory TAIL coefficients (decimation 2 or 4, distance from the end), Q0.23; those that meet R77 are
taken. -/
opaque Config.tailRaw : Nat → Nat → BitVec 24

/-- Numbers for the two resampler prototypes (which, phase 0 to 1023, tap 0 to 15), Q1.22; phases that meet R92 are taken. -/
opaque Config.protoRaw : Nat → Nat → Nat → BitVec 24

/-- R119: the taps of the publisher's anti-aliasing filter (rate in Hz, tap), Q1.22: the spec gives their number and response. -/
opaque Config.pubRaw : Nat → Nat → BitVec 24

/-- R249: the PTP servo: a domain clock's new rate from the offset (2^-32 ns) and the old rate (2^-32 ns per 4 ns). The spec
gives no law for it. -/
opaque Config.ptpServo : Int → Int → Int

/-- R251: the PPS servo: wall-class time's new rate from the edge's distance from the second (ns) and the old rate. The spec
gives no law for it. -/
opaque Config.ppsServo : Int → Int → Int

/-- R39: 2, 4 or 8 GB of DRAM are populated: the exponent beyond 2 GB. -/
opaque Config.dramSize : Fin 3

/-- R32: the subsystem IDs the part was ordered with, where they differ from the vendor and device ID. -/
opaque Config.orderedSubsystem : Option (BitVec 16 × BitVec 16)

end Sys2Proof
end

