-- ==== Sys2Proof/Machine/F32.lean ====
section
/-! DEFINITION. IEEE 754 binary32 arithmetic on bit patterns, each operation exact on rationals and rounded once to nearest,
ties to even (R123, R139). -/

namespace Sys2Proof.Machine

/-- A binary32 bit pattern. -/
abbrev F32 := BitVec 32

def f32Zero : F32 := 0x00000000#32
def f32One : F32 := 0x3F800000#32
def f32Inf : F32 := 0x7F800000#32
def f32NaN : F32 := 0x7FC00000#32

def F32.neg (x : F32) : Bool := x.getLsbD 31
def F32.expo (x : F32) : Nat := x.toNat / 2 ^ 23 % 256
def F32.frac (x : F32) : Nat := x.toNat % 2 ^ 23
def F32.isNaN (x : F32) : Bool := F32.expo x == 255 && F32.frac x != 0
def F32.isInf (x : F32) : Bool := F32.expo x == 255 && F32.frac x == 0
def F32.isZero (x : F32) : Bool := x.toNat % 2 ^ 31 == 0

/-- A rational: signed numerator over a positive denominator. -/
structure Q where
  num : Int := 0
  den : Nat := 1
  deriving DecidableEq, Repr

def Q.ofInt (n : Int) : Q := ⟨n, 1⟩
def Q.add (a b : Q) : Q := ⟨a.num * b.den + b.num * a.den, a.den * b.den⟩
def Q.sub (a b : Q) : Q := ⟨a.num * b.den - b.num * a.den, a.den * b.den⟩
def Q.mul (a b : Q) : Q := ⟨a.num * b.num, a.den * b.den⟩
def Q.neg (a : Q) : Q := ⟨-a.num, a.den⟩
def Q.div (a b : Q) : Q := ⟨a.num * b.den * b.num.sign, a.den * b.num.natAbs⟩
def Q.lt (a b : Q) : Bool := decide (a.num * b.den < b.num * a.den)
def Q.le (a b : Q) : Bool := decide (a.num * b.den ≤ b.num * a.den)

/-- The value of a finite pattern. -/
def F32.toQ (x : F32) : Q :=
  let e := F32.expo x
  let m := if e = 0 then F32.frac x else F32.frac x + 2 ^ 23
  let e := if e = 0 then 1 else e
  let sg : Int := if F32.neg x then -1 else 1
  if 150 ≤ e then ⟨sg * (m * 2 ^ (e - 150) : Nat), 1⟩ else ⟨sg * m, 2 ^ (150 - e)⟩

/-- A pattern with its sign bit set to `s`. -/
def F32.withSign (s : Bool) (x : Nat) : F32 := BitVec.ofNat 32 (x + if s then 2 ^ 31 else 0)

/-- The magnitude pattern nearest to `n / d`, ties to even; beyond the range, infinity. -/
def roundMag (n d : Nat) : Nat :=
  if n = 0 ∨ d = 0 then 0
  else
    let e0 : Int := (Nat.log2 n : Int) - (Nat.log2 d : Int)
    let ge : Bool := if e0 ≥ 0 then decide (d * 2 ^ e0.toNat ≤ n) else decide (d ≤ n * 2 ^ (-e0).toNat)
    let e := if ge then e0 else e0 - 1
    let q := max (e - 23) (-149)
    let a := if q ≥ 0 then n else n * 2 ^ (-q).toNat
    let b := if q ≥ 0 then d * 2 ^ q.toNat else d
    let m := a / b
    let r := a % b
    let m := if 2 * r > b ∨ (2 * r = b ∧ m % 2 = 1) then m + 1 else m
    let bits := if m < 2 ^ 23 then m else (q + 150).toNat * 2 ^ 23 + (m - 2 ^ 23)
    if bits ≥ 0x7F800000 then 0x7F800000 else bits

/-- The binary32 nearest to a rational. -/
def Q.toF32 (a : Q) : F32 := F32.withSign (decide (a.num < 0)) (roundMag a.num.natAbs a.den)

/-- Floor of the square root, one bit at a time from bit `b − 1` down. -/
def isqrtBits (n : Nat) : Nat → Nat → Nat
  | 0, r => r
  | b + 1, r => isqrtBits n b (if (r + 2 ^ b) * (r + 2 ^ b) ≤ n then r + 2 ^ b else r)

/-- Floor of the square root. -/
def isqrt (n : Nat) : Nat := isqrtBits n (Nat.log2 n / 2 + 1) 0

/-- The binary32 nearest to the square root of `n / d`: the root is taken far below the rounding position, a lost tail kept
as a sticky bit. -/
def sqrtMag (n d : Nat) : Nat :=
  if n = 0 ∨ d = 0 then 0
  else
    let k := 200 + Nat.log2 d
    let v := n * 2 ^ (2 * k) / d
    let m := isqrt v
    let exact := m * m * d == n * 2 ^ (2 * k)
    roundMag (2 * m + if exact then 0 else 1) (2 ^ (k + 1))

def fneg (x : F32) : F32 := x ^^^ 0x80000000#32
def fabs (x : F32) : F32 := x &&& 0x7FFFFFFF#32

/-- Addition. -/
def fadd (x y : F32) : F32 :=
  if F32.isNaN x || F32.isNaN y then f32NaN
  else if F32.isInf x then (if F32.isInf y && F32.neg x != F32.neg y then f32NaN else x)
  else if F32.isInf y then y
  else
    let r := Q.add (F32.toQ x) (F32.toQ y)
    if r.num = 0 then F32.withSign (F32.neg x && F32.neg y) 0 else r.toF32

def fsub (x y : F32) : F32 := fadd x (fneg y)

/-- Multiplication. -/
def fmul (x y : F32) : F32 :=
  if F32.isNaN x || F32.isNaN y then f32NaN
  else
    let s := F32.neg x != F32.neg y
    if F32.isInf x || F32.isInf y then (if F32.isZero x || F32.isZero y then f32NaN else F32.withSign s 0x7F800000)
    else
      let r := Q.mul (F32.toQ x) (F32.toQ y)
      F32.withSign s (roundMag r.num.natAbs r.den)

/-- Division. -/
def fdiv (x y : F32) : F32 :=
  if F32.isNaN x || F32.isNaN y then f32NaN
  else
    let s := F32.neg x != F32.neg y
    if F32.isInf x then (if F32.isInf y then f32NaN else F32.withSign s 0x7F800000)
    else if F32.isInf y then F32.withSign s 0
    else if F32.isZero y then (if F32.isZero x then f32NaN else F32.withSign s 0x7F800000)
    else
      let r := Q.div (F32.toQ x) (F32.toQ y)
      F32.withSign s (roundMag r.num.natAbs r.den)

/-- Square root. -/
def fsqrt (x : F32) : F32 :=
  if F32.isNaN x then f32NaN
  else if F32.isZero x then x
  else if F32.neg x then f32NaN
  else if F32.isInf x then x
  else BitVec.ofNat 32 (sqrtMag (F32.toQ x).num.natAbs (F32.toQ x).den)

/-- Ordered less-than: false with a NaN. -/
def flt (x y : F32) : Bool :=
  if F32.isNaN x || F32.isNaN y then false
  else if F32.isInf x || F32.isInf y then
    (if x = y then false else (F32.isInf x && F32.neg x) || (F32.isInf y && !F32.neg y))
  else Q.lt (F32.toQ x) (F32.toQ y)

def feq (x y : F32) : Bool :=
  !F32.isNaN x && !F32.isNaN y && (x == y || (F32.isZero x && F32.isZero y))

def fle (x y : F32) : Bool := flt x y || feq x y
def fgt (x y : F32) : Bool := flt y x
def fge (x y : F32) : Bool := fle y x
def fmax (x y : F32) : F32 := if flt x y then y else x
def fmin (x y : F32) : F32 := if flt y x then y else x

/-- The binary32 nearest to an integer. -/
def fofInt (n : Int) : F32 := (Q.ofInt n).toF32

/-- The integer part of a finite pattern, toward zero. -/
def ftrunc (x : F32) : Int := (F32.toQ x).num.tdiv (F32.toQ x).den

/-- The binary32 nearest to num / den. -/
def fq (num : Int) (den : Nat) : F32 := (Q.mk num den).toF32

end Sys2Proof.Machine
end

