-- ==== Sys2Proof/Machine/Trig.lean ====
section
/-! DEFINITION. Angles, cosines, sines and roots as numbers: fixed-point values of 320 fraction bits, far below every rounding
position, from which a value is rounded once. -/

namespace Sys2Proof.Machine

/-- Fraction bits of the fixed-point values. -/
def trigBits : Nat := 320

/-- One in fixed point. -/
def fxOne : Nat := 2 ^ trigBits

/-- π in fixed point (Machin's formula gives it, Tests). -/
def piFx : Nat :=
  0x3243F6A8885A308D313198A2E03707344A4093822299F31D0082EFA98EC4E6C89452821E638D01377

/-- Σ (−1)^k x^(2k+i) / (2k+i)!, the alternating series of sine (i = 1) and cosine (i = 0): `t` is the current term. -/
def trigSeries (x2 : Nat) : Nat → Nat → Nat → Int
  | 0, _, _ => 0
  | fuel + 1, j, t => (t : Int) - trigSeries x2 fuel (j + 2) (t * x2 / fxOne / ((j + 1) * (j + 2)))

/-- Sine and cosine in fixed point of an angle in fixed-point radians of at most a quarter turn. -/
def sinFx (x : Nat) : Int := trigSeries (x * x / fxOne) 60 1 x
def cosFx (x : Nat) : Int := trigSeries (x * x / fxOne) 60 0 fxOne

/-- Radians in fixed point of `n / d` degrees. -/
def radFx (n d : Nat) : Nat := n * piFx / (180 * d)

/-- Sine of an angle of 0 to 90 degrees, `n / d`; exact at the ends. -/
def sinQuad (n d : Nat) : Int := if 2 * n ≤ 90 * d then sinFx (radFx n d) else cosFx (radFx (90 * d - n) d)

/-- Sine in fixed point of `n / d` degrees. -/
def sinDeg (n : Int) (d : Nat) : Int :=
  let m := (n % (360 * d : Nat)).toNat
  if m ≤ 90 * d then sinQuad m d
  else if m ≤ 180 * d then sinQuad (180 * d - m) d
  else if m ≤ 270 * d then -sinQuad (m - 180 * d) d
  else -sinQuad (360 * d - m) d

/-- Cosine in fixed point of `n / d` degrees. -/
def cosDeg (n : Int) (d : Nat) : Int := sinDeg (n + (90 * d : Nat)) d

/-- Tangent in fixed point of an angle in fixed-point radians below a quarter turn. -/
def tanFx (x : Nat) : Int := sinFx x * fxOne / cosFx x

/-- Σ (−1)^k x^(2k+1) / (2k+1): `t` is x^j. -/
def atanSeries (x2 : Nat) : Nat → Nat → Nat → Int
  | 0, _, _ => 0
  | fuel + 1, j, t => (t / j : Nat) - atanSeries x2 fuel (j + 2) (t * x2 / fxOne)

def atanFx (x : Nat) : Int := atanSeries (x * x / fxOne) 140 1 x

/-- Degrees in fixed point of atan (a / b) with a ≤ b and b > 0; above tan 22.5° it is taken from 45° down. -/
def atanOct (a b : Nat) : Int :=
  let deg := fun (x : Nat) => atanFx x * 180 * fxOne / piFx
  if 5 * a ≤ 2 * b then deg (a * fxOne / b) else 45 * (fxOne : Int) - deg ((b - a) * fxOne / (a + b))

/-- The angle in fixed-point degrees, above −180 and at most 180, of the point (x, y); 0 for the origin. -/
def atan2Deg (x y : Int) : Int :=
  let a := x.natAbs
  let b := y.natAbs
  let q := if a = 0 ∧ b = 0 then 0 else if b ≤ a then atanOct b a else 90 * (fxOne : Int) - atanOct a b
  let q := if x < 0 then 180 * (fxOne : Int) - q else q
  if y < 0 then -q else q

/-! ## Rounding -/

/-- A fixed-point value that lies within 2^-200 of a multiple of 2^-b is that multiple. -/
def fxNearest (b : Nat) (v : Int) : Int × Bool :=
  let u : Int := (2 ^ (trigBits - b) : Nat)
  let r := (v + u / 2) / u
  (r, decide ((v - r * u).natAbs < 2 ^ 120))

/-- Rounding of a fixed-point value to `b` fraction bits where the spec gives no direction: exact values stay, others take one of
their two neighbours, which is free. `k` names the use, `xs` its operands. -/
def fxRound (k : Nat) (xs : List Int) (b : Nat) (v : Int) : Int :=
  let r := fxNearest b v
  if r.2 then r.1 else v / ((2 ^ (trigBits - b) : Nat) : Int) + (if Config.roundUp k xs then 1 else 0)

/-- Rounding of `n / d` to an integer with a free direction. -/
def qRound (k : Nat) (xs : List Int) (n : Int) (d : Nat) : Int :=
  if n % (d : Int) = 0 then n / d else n / d + (if Config.roundUp k xs then 1 else 0)

/-- The binary32 nearest to a fixed-point value. -/
def fxToF32 (v : Int) : F32 := (Q.mk v fxOne).toF32

/-! ## Engine A's functions, each rounded once to nearest (chapter 08, Crucible check) -/

/-- The angle of a phasor in degrees; that of 0 and of a value that is not finite is not stated. -/
def fAngle (re im : F32) : F32 :=
  if (F32.isZero re && F32.isZero im) || F32.expo re == 255 || F32.expo im == 255 then Config.angleOfNone re im
  else
    let a := F32.toQ re
    let b := F32.toQ im
    fxToF32 (atan2Deg (a.num * b.den) (b.num * a.den))

def fCos (a : F32) : F32 := if F32.expo a == 255 then f32NaN else fxToF32 (cosDeg (F32.toQ a).num (F32.toQ a).den)
def fSin (a : F32) : F32 := if F32.expo a == 255 then f32NaN else fxToF32 (sinDeg (F32.toQ a).num (F32.toQ a).den)

/-- Floor of the 50th root of `n / d`, one bit at a time from bit `b − 1` down. -/
def root50Bits (n d : Nat) : Nat → Nat → Nat
  | 0, r => r
  | b + 1, r => root50Bits n d b (if (r + 2 ^ b) ^ 50 * d ≤ n then r + 2 ^ b else r)

/-- x^0.02, the 50th root, of a number that is not negative. -/
def fPow02 (x : F32) : F32 :=
  if F32.isNaN x || (F32.neg x && !F32.isZero x) then f32NaN
  else if F32.isInf x then x
  else if F32.isZero x then f32Zero
  else
    let q := F32.toQ x
    let n := q.num.natAbs * 2 ^ 3000
    let m := root50Bits n q.den 66 0
    let exact := m ^ 50 * q.den == n
    BitVec.ofNat 32 (roundMag (2 * m + if exact then 0 else 1) (2 ^ 61))

end Sys2Proof.Machine
end

