-- ==== Sys2Proof/Machine/Coef.lean ====
section
/-! DEFINITION. The factory coefficients: free numbers that meet what the spec states of them. Where the free numbers miss a stated
sum, a set that meets it stands in their place, so that the tables range over exactly the sets the spec allows. -/

namespace Sys2Proof.Machine

/-- Number of stored coefficients U of HB1 to HB5 (R76). -/
def hbU (k : Nat) : Nat := match k with | 0 => 3 | 1 => 5 | 2 => 15 | _ => 9

/-- R84, R76: the factory coefficient h[i] of HB stage `k`, Q0.23: the stage's DC gain 0.5 + 2 Σ h is 1 within 2^-23, so that Σ h
is a quarter. -/
def hbFactory (k i : Nat) : BitVec 24 :=
  if ((List.range (hbU k)).map (fun j => (Config.hbRaw k j).toInt)).sum = 2 ^ 21 then Config.hbRaw k i
  else if i = 0 then 0x200000#24 else 0#24

/-- Taps of TAIL: 63 for decimation by 2, 127 for 4 (R77). -/
def tailTaps (d : Nat) : Nat := if d = 2 then 63 else 127

/-- R77: tap `i` of TAIL, Q0.23: symmetric, with a DC gain of 1 within 2^-23. -/
def tailCoef (d i : Nat) : Int :=
  let n := tailTaps d
  let raw := fun (j : Nat) => (Config.tailRaw d (Nat.min j (n - 1 - j))).toInt
  if (((List.range n).map raw).sum - 2 ^ 23).natAbs ≤ 1 then raw i
  else if 2 * i + 1 = n then 2 ^ 23 - 1 else 0

/-- R92, R117: tap `i` of phase `p` of a prototype (0 for R93's, 1 for the slow slots'), Q1.22: every phase's taps sum to 1 within
2^-22, and a sum of 16 products fits the 56-bit accumulator. -/
def protoTap (which p i : Nat) : Int :=
  let raw := fun (j : Nat) => (Config.protoRaw which p j).toInt
  let l := (List.range 16).map raw
  if (l.sum - 2 ^ 22).natAbs ≤ 1 ∧ (l.map Int.natAbs).sum ≤ 2 ^ 24 then raw i else if i = 7 then 2 ^ 22 else 0

/-- R124: entry `m` of the twiddle table of `w1` entries: cosine and sine of 2π · m / W1 as signed Q1.22; the direction of their
rounding is free. -/
def twiddle (w1 m : Nat) : Int × Int :=
  let w := Nat.max 1 w1
  (fxRound 0 [w, m] 22 (cosDeg (360 * m : Nat) w), fxRound 1 [w, m] 22 (sinDeg (360 * m : Nat) w))

/-- 2 cos(2π · n / d) · x − y as an integer, its direction of rounding free (R67, R116). -/
def predictWave (k : Nat) (n d : Nat) (x y : Int) : Int :=
  let c := cosDeg (360 * n : Nat) (Nat.max 1 d)
  fxRound k [n, d, x, y] 0 (2 * c * x - y * (fxOne : Int))

/-- The change of angle from one phasor to the next, above −180° and at most 180°, in 2^-32 turns; its rounding is free (R94,
R129). -/
def angleStep (re0 im0 re1 im1 : Int) : Int :=
  fxRound 3 [re0, im0, re1, im1] 32 (atan2Deg (re1 * re0 + im1 * im0) (im1 * re0 - re1 * im0) / 360)

/-- R81: a = 1 − 2π · f_c / f_o and c = tan(π · f_ref / f_o), fixed point; FC and REF in 0.01 Hz, the rate in Hz. -/
def integA (fc rate : Nat) : Int := (fxOne : Int) - (2 * fc * piFx / (100 * rate) : Nat)
def integC (ref rate : Nat) : Int := tanFx (ref * piFx / (100 * rate))

end Sys2Proof.Machine
end

