-- ==== Sys2Proof/Machine/RegMap.lean ====
section
/-! DEFINITION. The register map of the member (R41, R44 and the register tables of chapters 02 to 21): one row for each
register or run of like registers of a page, with the bits that keep a written value (RW), the W1C and W1S bits and the
reset value, and one name for each register, field and result group. A bit in none of the masks is RO, WO or reserved
(R6, R7). -/

namespace Sys2Proof.Machine

/-- A run of `count` registers `stride` bytes apart, the first at page offset `off` (R6). -/
structure RegRow where
  off : Nat
  stride : Nat
  count : Nat
  rw : Nat
  w1c : Nat
  w1s : Nat
  reset : Nat
  deriving DecidableEq, Repr

/-- A field: the member offset of its register and its bit range [hi:lo] (R4). -/
structure Fld where
  addr : Nat
  hi : Nat
  lo : Nat
  deriving DecidableEq, Repr

/-- A sequenced result group: the member offset of its STAMP and its number of words, STAMP included (R50). -/
structure Grp where
  addr : Nat
  words : Nat
  deriving DecidableEq, Repr

/-- Rows of the SYS page, part 0. -/
def sysRows0 : List RegRow := [
  ⟨0x004, 0x4, 1, 0x00000000, 0x00000000, 0x00000000, 0x0000003C⟩,
  ⟨0x008, 0x4, 1, 0x00000007, 0x00000000, 0x00000000, 0x00000007⟩,
  ⟨0x00C, 0x4, 1, 0x00000000, 0x00000000, 0x00000000, 0x00000000⟩,
  ⟨0x040, 0x4, 1, 0x00000003, 0x00000000, 0x00000000, 0x00000000⟩,
  ⟨0x044, 0x4, 1, 0x0000FFFF, 0x00000000, 0x00000000, 0x00000A64⟩,
  ⟨0x048, 0x4, 1, 0x00000000, 0x00000000, 0x00000000, 0x00000000⟩,
  ⟨0x050, 0x4, 1, 0xFFFFFFFF, 0x00000000, 0x00000000, 0x00000000⟩,
  ⟨0x054, 0x4, 1, 0x0000FFFF, 0x00000000, 0x00000000, 0x00000000⟩,
  ⟨0x058, 0x4, 1, 0x001FFFFF, 0x00000000, 0x00000000, 0x00000000⟩,
  ⟨0x05C, 0x4, 1, 0x00000000, 0x00000000, 0x00000000, 0x00000000⟩,
  ⟨0x060, 0x4, 4, 0x00000000, 0x00000000, 0x00000000, 0x00000000⟩,
  ⟨0x080, 0x4, 4, 0x00000000, 0x00000000, 0x00000000, 0x00000000⟩,
  ⟨0x0A0, 0x4, 8, 0x00000000, 0x00000000, 0x00000000, 0x00000000⟩,
  ⟨0x0C4, 0x4, 1, 0x00000000, 0x0000FFFF, 0x00000000, 0x00000000⟩,
  ⟨0x0C8, 0x4, 1, 0x00000000, 0x00000000, 0x00000000, 0x00000001⟩,
  ⟨0x100, 0x4, 1, 0x00000000, 0x00000000, 0x00000000, 0x00000000⟩,
  ⟨0x104, 0x4, 1, 0x00000000, 0x00000000, 0x00000000, 0x00000000⟩,
  ⟨0x108, 0x4, 1, 0x00000000, 0x00000000, 0x00000000, 0x00000000⟩,
  ⟨0x10C, 0x4, 1, 0x00000000, 0x00000000, 0x00000000, 0x00000000⟩,
  ⟨0x110, 0x4, 1, 0x00000000, 0x00000000, 0x00000000, 0x00000000⟩]
/-- Rows of the SYS page, part 1. -/
def sysRows1 : List RegRow := [
  ⟨0x114, 0x4, 1, 0x00000000, 0xFFFFFFFF, 0x00000000, 0x00000000⟩,
  ⟨0x118, 0x4, 1, 0x00000000, 0xFFFFFFFF, 0x00000000, 0x00000000⟩,
  ⟨0x140, 0x4, 12, 0xBFBFBFBF, 0x00000000, 0x00000000, 0x00000000⟩,
  ⟨0x170, 0x4, 1, 0x000000BF, 0x00000000, 0x00000000, 0x00000000⟩]
/-- Every register of the SYS page at 0x004, 0x008, 0x00C and 0x040 up. -/
def sysRows : List RegRow := sysRows0 ++ sysRows1

/-- Rows of the LIFE page, part 0. -/
def lifeRows0 : List RegRow := [
  ⟨0x004, 0x4, 1, 0x00000000, 0x00000000, 0x00000000, 0x0000011A⟩,
  ⟨0x00C, 0x4, 1, 0x00000000, 0x00000000, 0x00000000, 0x00000000⟩,
  ⟨0x040, 0x4, 1, 0x000001FF, 0x00000000, 0x00000000, 0x00000000⟩,
  ⟨0x048, 0x4, 3, 0x00000000, 0x00000000, 0x00000000, 0x00000000⟩,
  ⟨0x060, 0x4, 4, 0x00000000, 0x00000000, 0x00000000, 0x00000000⟩]
/-- Every register of the LIFE page at 0x004, 0x008, 0x00C and 0x040 up. -/
def lifeRows : List RegRow := lifeRows0

/-- Rows of the JRNL page, part 0. -/
def jrnlRows0 : List RegRow := [
  ⟨0x004, 0x4, 1, 0x00000000, 0x00000000, 0x00000000, 0x00001000⟩,
  ⟨0x00C, 0x4, 1, 0x00000000, 0x00000000, 0x00000000, 0x00000000⟩,
  ⟨0x040, 0x4, 5, 0x00000000, 0x00000000, 0x00000000, 0x00000000⟩,
  ⟨0x060, 0x4, 1, 0xFFFFFFFF, 0x00000000, 0x00000000, 0x00000000⟩,
  ⟨0x070, 0x4, 3, 0x00000000, 0x00000000, 0x00000000, 0x00000000⟩,
  ⟨0x080, 0x4, 5, 0x00000000, 0x00000000, 0x00000000, 0x00000000⟩,
  ⟨0x0B0, 0x4, 1, 0x00000000, 0x00000000, 0x00000000, 0x00000000⟩,
  ⟨0x200, 0x4, 128, 0x00000000, 0x00000000, 0x00000000, 0x00000000⟩]
/-- Every register of the JRNL page at 0x004, 0x008, 0x00C and 0x040 up. -/
def jrnlRows : List RegRow := jrnlRows0

/-- Rows of the MEM page, part 0. -/
def memRows0 : List RegRow := [
  ⟨0x004, 0x4, 1, 0x00000000, 0x00000000, 0x00000000, 0x000009B0⟩,
  ⟨0x008, 0x4, 1, 0x0000FF01, 0x00000000, 0x00000000, 0x00001801⟩,
  ⟨0x00C, 0x4, 1, 0x00000000, 0x00000000, 0x00000000, 0x00000000⟩,
  ⟨0x040, 0x4, 1, 0x0000003F, 0x00000000, 0x00000000, 0x00000000⟩,
  ⟨0x044, 0x4, 1, 0x00000000, 0x00000000, 0x00000000, 0x00000000⟩,
  ⟨0x048, 0x4, 1, 0xFFFFFFFF, 0x00000000, 0x00000000, 0x00000000⟩,
  ⟨0x04C, 0x4, 1, 0x0000FFFF, 0x00000000, 0x00000000, 0x00000000⟩,
  ⟨0x060, 0x4, 5, 0x00000000, 0x00000000, 0x00000000, 0x00000000⟩,
  ⟨0x080, 0x4, 3, 0x00000000, 0x00000000, 0x00000000, 0x00000000⟩,
  ⟨0x090, 0x4, 4, 0x00000000, 0x00000000, 0x00000000, 0x00000000⟩,
  ⟨0x100, 0x4, 48, 0x0000000F, 0x00000000, 0x00000000, 0x00000011⟩,
  ⟨0x200, 0x4, 48, 0x00000000, 0x00000000, 0x00000000, 0x00000000⟩,
  ⟨0x400, 0x10, 15, 0xFFFFF007, 0x00000000, 0x00000000, 0x00000000⟩,
  ⟨0x404, 0x10, 15, 0x0000FFFF, 0x00000000, 0x00000000, 0x00000000⟩,
  ⟨0x408, 0x10, 15, 0xFFFFF000, 0x00000000, 0x00000000, 0x00000000⟩,
  ⟨0x40C, 0x10, 15, 0x0000FFFF, 0x00000000, 0x00000000, 0x00000000⟩,
  ⟨0x4F0, 0x100, 9, 0xFFFFF007, 0x00000000, 0x00000000, 0x00000007⟩,
  ⟨0x4F4, 0x100, 9, 0x0000FFFF, 0x00000000, 0x00000000, 0x00000000⟩,
  ⟨0x4F8, 0x100, 9, 0xFFFFF000, 0x00000000, 0x00000000, 0xFFFFF000⟩,
  ⟨0x4FC, 0x100, 9, 0x0000FFFF, 0x00000000, 0x00000000, 0x0000FFFF⟩]
/-- Rows of the MEM page, part 1. -/
def memRows1 : List RegRow := [
  ⟨0x500, 0x10, 15, 0xFFFFF007, 0x00000000, 0x00000000, 0x00000000⟩,
  ⟨0x504, 0x10, 15, 0x0000FFFF, 0x00000000, 0x00000000, 0x00000000⟩,
  ⟨0x508, 0x10, 15, 0xFFFFF000, 0x00000000, 0x00000000, 0x00000000⟩,
  ⟨0x50C, 0x10, 15, 0x0000FFFF, 0x00000000, 0x00000000, 0x00000000⟩,
  ⟨0x600, 0x10, 15, 0xFFFFF007, 0x00000000, 0x00000000, 0x00000000⟩,
  ⟨0x604, 0x10, 15, 0x0000FFFF, 0x00000000, 0x00000000, 0x00000000⟩,
  ⟨0x608, 0x10, 15, 0xFFFFF000, 0x00000000, 0x00000000, 0x00000000⟩,
  ⟨0x60C, 0x10, 15, 0x0000FFFF, 0x00000000, 0x00000000, 0x00000000⟩,
  ⟨0x700, 0x10, 15, 0xFFFFF007, 0x00000000, 0x00000000, 0x00000000⟩,
  ⟨0x704, 0x10, 15, 0x0000FFFF, 0x00000000, 0x00000000, 0x00000000⟩,
  ⟨0x708, 0x10, 15, 0xFFFFF000, 0x00000000, 0x00000000, 0x00000000⟩,
  ⟨0x70C, 0x10, 15, 0x0000FFFF, 0x00000000, 0x00000000, 0x00000000⟩,
  ⟨0x800, 0x10, 15, 0xFFFFF007, 0x00000000, 0x00000000, 0x00000000⟩,
  ⟨0x804, 0x10, 15, 0x0000FFFF, 0x00000000, 0x00000000, 0x00000000⟩,
  ⟨0x808, 0x10, 15, 0xFFFFF000, 0x00000000, 0x00000000, 0x00000000⟩,
  ⟨0x80C, 0x10, 15, 0x0000FFFF, 0x00000000, 0x00000000, 0x00000000⟩,
  ⟨0x900, 0x10, 15, 0xFFFFF007, 0x00000000, 0x00000000, 0x00000000⟩,
  ⟨0x904, 0x10, 15, 0x0000FFFF, 0x00000000, 0x00000000, 0x00000000⟩,
  ⟨0x908, 0x10, 15, 0xFFFFF000, 0x00000000, 0x00000000, 0x00000000⟩,
  ⟨0x90C, 0x10, 15, 0x0000FFFF, 0x00000000, 0x00000000, 0x00000000⟩]
/-- Rows of the MEM page, part 2. -/
def memRows2 : List RegRow := [
  ⟨0xA00, 0x10, 15, 0xFFFFF007, 0x00000000, 0x00000000, 0x00000000⟩,
  ⟨0xA04, 0x10, 15, 0x0000FFFF, 0x00000000, 0x00000000, 0x00000000⟩,
  ⟨0xA08, 0x10, 15, 0xFFFFF000, 0x00000000, 0x00000000, 0x00000000⟩,
  ⟨0xA0C, 0x10, 15, 0x0000FFFF, 0x00000000, 0x00000000, 0x00000000⟩,
  ⟨0xB00, 0x10, 15, 0xFFFFF007, 0x00000000, 0x00000000, 0x00000000⟩,
  ⟨0xB04, 0x10, 15, 0x0000FFFF, 0x00000000, 0x00000000, 0x00000000⟩,
  ⟨0xB08, 0x10, 15, 0xFFFFF000, 0x00000000, 0x00000000, 0x00000000⟩,
  ⟨0xB0C, 0x10, 15, 0x0000FFFF, 0x00000000, 0x00000000, 0x00000000⟩,
  ⟨0xC00, 0x10, 15, 0xFFFFF007, 0x00000000, 0x00000000, 0x00000000⟩,
  ⟨0xC04, 0x10, 15, 0x0000FFFF, 0x00000000, 0x00000000, 0x00000000⟩,
  ⟨0xC08, 0x10, 15, 0xFFFFF000, 0x00000000, 0x00000000, 0x00000000⟩,
  ⟨0xC0C, 0x10, 15, 0x0000FFFF, 0x00000000, 0x00000000, 0x00000000⟩]
/-- Every register of the MEM page at 0x004, 0x008, 0x00C and 0x040 up. -/
def memRows : List RegRow := memRows0 ++ memRows1 ++ memRows2

/-- Rows of the DMA page, part 0. -/
def dmaRows0 : List RegRow := [
  ⟨0x004, 0x4, 1, 0x00000000, 0x00000000, 0x00000000, 0x00000010⟩,
  ⟨0x008, 0x4, 1, 0x00000001, 0x00000000, 0x00000000, 0x00000000⟩,
  ⟨0x00C, 0x4, 1, 0x00000000, 0x00000000, 0x00000000, 0x00000000⟩,
  ⟨0x1000, 0x100, 16, 0x00000003, 0x00000000, 0x00000004, 0x00000000⟩,
  ⟨0x1004, 0x100, 16, 0x00000000, 0x00000000, 0x00000000, 0x00000000⟩,
  ⟨0x1008, 0x100, 16, 0xFFFFFFC0, 0x00000000, 0x00000000, 0x00000000⟩,
  ⟨0x100C, 0x100, 16, 0x0000FFFF, 0x00000000, 0x00000000, 0x00000000⟩,
  ⟨0x1010, 0x100, 16, 0x00000000, 0x00000000, 0x00000000, 0x00000000⟩,
  ⟨0x1014, 0x100, 16, 0x00000000, 0x00000007, 0x00000000, 0x00000000⟩,
  ⟨0x1018, 0x100, 16, 0x00000007, 0x00000000, 0x00000000, 0x00000000⟩,
  ⟨0x1020, 0x100, 16, 0x00000000, 0x00000000, 0x00000000, 0x00000000⟩,
  ⟨0x1024, 0x100, 16, 0x00000000, 0x00000000, 0x00000000, 0x00000000⟩,
  ⟨0x1028, 0x100, 16, 0x00000000, 0x00000000, 0x00000000, 0x00000000⟩,
  ⟨0x102C, 0x100, 16, 0x00000000, 0x00000000, 0x00000000, 0x00000000⟩,
  ⟨0x1030, 0x100, 16, 0x00000000, 0x00000000, 0x00000000, 0x00000000⟩,
  ⟨0x1040, 0x100, 16, 0x00000000, 0x00000000, 0x00000000, 0x00000000⟩,
  ⟨0x1044, 0x100, 16, 0x00000000, 0x00000000, 0x00000000, 0x00000000⟩]
/-- Every register of the DMA page at 0x004, 0x008, 0x00C and 0x040 up. -/
def dmaRows : List RegRow := dmaRows0

/-- Rows of the AFE page, part 0. -/
def afeRows0 : List RegRow := [
  ⟨0x004, 0x4, 1, 0x00000000, 0x00000000, 0x00000000, 0x00012020⟩,
  ⟨0x008, 0x4, 1, 0x00000007, 0x00000000, 0x00000000, 0x00000000⟩,
  ⟨0x00C, 0x4, 1, 0x00000000, 0x00000000, 0x00000000, 0x00000000⟩,
  ⟨0x040, 0x4, 1, 0x00000000, 0x00000000, 0x00000000, 0x00000000⟩,
  ⟨0x044, 0x4, 1, 0x00000000, 0xFFFFFFFF, 0x00000000, 0x00000000⟩,
  ⟨0x048, 0x4, 1, 0x00000000, 0xFFFFFFFF, 0x00000000, 0x00000000⟩,
  ⟨0x04C, 0x4, 1, 0x00000000, 0x00000000, 0x00000000, 0x00000000⟩,
  ⟨0x100, 0x4, 32, 0x00FFFFFF, 0x00000000, 0x00000000, 0x00034040⟩,
  ⟨0x180, 0x4, 32, 0x00FFFF7F, 0x00000000, 0x00000000, 0x00000000⟩,
  ⟨0x200, 0x8, 32, 0x00000000, 0x00000000, 0x00000000, 0x00000000⟩,
  ⟨0x204, 0x8, 32, 0x00000000, 0x00000000, 0x00000000, 0x00000000⟩]
/-- Every register of the AFE page at 0x004, 0x008, 0x00C and 0x040 up. -/
def afeRows : List RegRow := afeRows0

/-- Rows of the DFC page, part 0. -/
def dfcRows0 : List RegRow := [
  ⟨0x004, 0x4, 1, 0x00000000, 0x00000000, 0x00000000, 0x00001D40⟩,
  ⟨0x008, 0x4, 1, 0x00000007, 0x00000000, 0x00000000, 0x00000000⟩,
  ⟨0x00C, 0x4, 1, 0x00000000, 0x00000000, 0x00000000, 0x00000000⟩,
  ⟨0x040, 0x4, 1, 0x00000000, 0x00000000, 0x0000001F, 0x00000000⟩,
  ⟨0x044, 0x4, 1, 0x00000000, 0x00000000, 0x00000000, 0x00000000⟩,
  ⟨0x048, 0x4, 1, 0x00000000, 0x00000000, 0x00000000, 0x00000000⟩,
  ⟨0x050, 0x4, 3, 0x00000000, 0x00000000, 0x00000000, 0x00000000⟩,
  ⟨0x060, 0x4, 1, 0x00000000, 0xFFFFFFFF, 0x00000000, 0x00000000⟩,
  ⟨0x064, 0x4, 1, 0x00000000, 0xFFFFFFFF, 0x00000000, 0x00000000⟩,
  ⟨0x100, 0x4, 64, 0xFFFFFFFF, 0x00000000, 0x00000000, 0x00000000⟩,
  ⟨0x200, 0x4, 64, 0x007FFFFF, 0x00000000, 0x00000000, 0x004E2064⟩,
  ⟨0x400, 0x4, 3, 0x00FFFFFF, 0x00000000, 0x00000000, 0x00000000⟩,
  ⟨0x410, 0x4, 5, 0x00FFFFFF, 0x00000000, 0x00000000, 0x00000000⟩,
  ⟨0x430, 0x4, 15, 0x00FFFFFF, 0x00000000, 0x00000000, 0x00000000⟩,
  ⟨0x470, 0x4, 9, 0x00FFFFFF, 0x00000000, 0x00000000, 0x00000000⟩,
  ⟨0x4A0, 0x4, 9, 0x00FFFFFF, 0x00000000, 0x00000000, 0x00000000⟩,
  ⟨0x500, 0x4, 3, 0x00FFFFFF, 0x00000000, 0x00000000, 0x00000000⟩,
  ⟨0x510, 0x4, 5, 0x00FFFFFF, 0x00000000, 0x00000000, 0x00000000⟩,
  ⟨0x530, 0x4, 15, 0x00FFFFFF, 0x00000000, 0x00000000, 0x00000000⟩,
  ⟨0x570, 0x4, 9, 0x00FFFFFF, 0x00000000, 0x00000000, 0x00000000⟩]
/-- Rows of the DFC page, part 1. -/
def dfcRows1 : List RegRow := [
  ⟨0x5A0, 0x4, 9, 0x00FFFFFF, 0x00000000, 0x00000000, 0x00000000⟩]
/-- Every register of the DFC page at 0x004, 0x008, 0x00C and 0x040 up. -/
def dfcRows : List RegRow := dfcRows0 ++ dfcRows1

/-- Rows of the GRID page, part 0. -/
def gridRows0 : List RegRow := [
  ⟨0x004, 0x4, 1, 0x00000000, 0x00000000, 0x00000000, 0x00042A40⟩,
  ⟨0x008, 0x4, 1, 0x00000003, 0x00000000, 0x00000000, 0x00000000⟩,
  ⟨0x00C, 0x4, 1, 0x00000000, 0x00000000, 0x00000000, 0x00000000⟩,
  ⟨0x040, 0x4, 1, 0x00000000, 0x00000000, 0x00000000, 0x00138828⟩,
  ⟨0x044, 0x4, 1, 0x3FFF7FFF, 0x00000000, 0x00000000, 0x00642000⟩,
  ⟨0x048, 0x4, 1, 0xFFFFFFFF, 0x00000000, 0x00000000, 0x64201800⟩,
  ⟨0x04C, 0x4, 1, 0x00FFFFFF, 0x00000000, 0x00000000, 0x00141405⟩,
  ⟨0x050, 0x4, 1, 0x000001FF, 0x00000000, 0x00000000, 0x00000000⟩,
  ⟨0x054, 0x4, 1, 0x00000000, 0x00000000, 0x00000000, 0x000067E8⟩,
  ⟨0x058, 0x4, 1, 0x00000000, 0x00000000, 0x00000000, 0x00000000⟩,
  ⟨0x060, 0x4, 6, 0x00000000, 0x00000000, 0x00000000, 0x00000000⟩,
  ⟨0x080, 0x4, 1, 0x00000000, 0xFFFFFFFF, 0x00000000, 0x00000000⟩,
  ⟨0x084, 0x4, 1, 0x00000000, 0xFFFFFFFF, 0x00000000, 0x00000000⟩,
  ⟨0x100, 0x4, 576, 0x0000FF07, 0x00000000, 0x00000000, 0x00000000⟩]
/-- Every register of the GRID page at 0x004, 0x008, 0x00C and 0x040 up. -/
def gridRows : List RegRow := gridRows0

/-- Rows of the SVS page, part 0. -/
def svsRows0 : List RegRow := [
  ⟨0x004, 0x4, 1, 0x00000000, 0x00000000, 0x00000000, 0x00001840⟩,
  ⟨0x008, 0x4, 1, 0x00000003, 0x00000000, 0x00000000, 0x00000000⟩,
  ⟨0x00C, 0x4, 1, 0x00000000, 0x00000000, 0x00000000, 0x00000000⟩,
  ⟨0x040, 0x4, 1, 0x00000000, 0x00000000, 0x00000000, 0x00000000⟩,
  ⟨0x044, 0x4, 1, 0x00000000, 0x00000000, 0x00000000, 0x00000000⟩,
  ⟨0x060, 0x4, 6, 0x00000000, 0x00000000, 0x00000000, 0x00000000⟩,
  ⟨0x100, 0x10, 64, 0x01FF03FF, 0x00000000, 0x00000000, 0x00C80040⟩,
  ⟨0x104, 0x10, 64, 0xFFFFFFFF, 0x00000000, 0x00000000, 0x00000000⟩,
  ⟨0x108, 0x10, 64, 0xFFFFFFFF, 0x00000000, 0x00000000, 0x40000000⟩,
  ⟨0x10C, 0x10, 64, 0xFFFFFFFF, 0x00000000, 0x00000000, 0x00000001⟩,
  ⟨0x500, 0x10, 64, 0x00000000, 0x00000000, 0x00000000, 0x00000000⟩,
  ⟨0x504, 0x10, 64, 0x00000000, 0x00000000, 0x00000000, 0x00000000⟩,
  ⟨0x508, 0x10, 64, 0x00000000, 0x00000000, 0x00000000, 0x00000000⟩,
  ⟨0x50C, 0x10, 64, 0x00000000, 0x00000000, 0x00000000, 0x00000000⟩]
/-- Every register of the SVS page at 0x004, 0x008, 0x00C and 0x040 up. -/
def svsRows : List RegRow := svsRows0

/-- Rows of the PHE page, part 0. -/
def pheRows0 : List RegRow := [
  ⟨0x004, 0x4, 1, 0x00000000, 0x00000000, 0x00000000, 0x10830240⟩,
  ⟨0x008, 0x4, 1, 0x00000001, 0x00000000, 0x00000000, 0x00000000⟩,
  ⟨0x00C, 0x4, 1, 0x00000000, 0x00000000, 0x00000000, 0x00000000⟩,
  ⟨0x040, 0x4, 1, 0x00000FFF, 0x00000000, 0x00000000, 0x000000A2⟩,
  ⟨0x044, 0x4, 1, 0x00000000, 0x00000000, 0x00000000, 0x00000028⟩,
  ⟨0x060, 0x4, 4, 0x00000000, 0x00000000, 0x00000000, 0x00000000⟩,
  ⟨0x100, 0x4, 576, 0x000FFFF7, 0x00000000, 0x00000000, 0x00000020⟩,
  ⟨0xA00, 0x8, 192, 0xFFFFFFFF, 0x00000000, 0x00000000, 0x00000000⟩,
  ⟨0xA04, 0x8, 192, 0xFFFFFFFF, 0x00000000, 0x00000000, 0x00000000⟩]
/-- Every register of the PHE page at 0x004, 0x008, 0x00C and 0x040 up. -/
def pheRows : List RegRow := pheRows0

/-- Rows of the PEA page, part 0. -/
def peaRows0 : List RegRow := [
  ⟨0x004, 0x4, 1, 0x00000000, 0x00000000, 0x00000000, 0x00811000⟩,
  ⟨0x008, 0x4, 1, 0x00000001, 0x00000000, 0x00000000, 0x00000000⟩,
  ⟨0x00C, 0x4, 1, 0x00000000, 0x00000000, 0x00000000, 0x00000000⟩,
  ⟨0x040, 0x4, 1, 0x0000FFFF, 0x00000000, 0x00000000, 0x00000690⟩,
  ⟨0x080, 0x4, 8, 0x00000000, 0x00000000, 0x00000000, 0x00000000⟩,
  ⟨0x0A0, 0x4, 8, 0x00000000, 0x00000000, 0x00000000, 0x00000000⟩,
  ⟨0x0C0, 0x4, 4, 0x00000000, 0x00000000, 0x00000000, 0x00000000⟩,
  ⟨0x0E0, 0x4, 3, 0x00000000, 0x00000000, 0x00000000, 0x00000000⟩,
  ⟨0x100, 0x10, 8, 0x00000000, 0x00000000, 0x00000000, 0x00000000⟩,
  ⟨0x104, 0x10, 8, 0x00000000, 0x00000000, 0x00000000, 0x00000000⟩,
  ⟨0x108, 0x10, 8, 0x00000000, 0x00000000, 0x00000000, 0x00000000⟩,
  ⟨0x10C, 0x10, 8, 0x00000000, 0x00000000, 0x00000000, 0x00000000⟩,
  ⟨0x300, 0x4, 1, 0xFEFF0FFF, 0x00000000, 0x00000000, 0x01000000⟩,
  ⟨0x320, 0x4, 8, 0xFFFFFFFF, 0x00000000, 0x00000000, 0x00000000⟩,
  ⟨0x340, 0x4, 1, 0x00000000, 0x00000000, 0x00000000, 0x00000000⟩,
  ⟨0x350, 0x4, 3, 0x00000000, 0x00000000, 0x00000000, 0x00000000⟩]
/-- Every register of the PEA page at 0x004, 0x008, 0x00C and 0x040 up. -/
def peaRows : List RegRow := peaRows0

/-- Rows of the TRM page, part 0. -/
def trmRows0 : List RegRow := [
  ⟨0x004, 0x4, 1, 0x00000000, 0x00000000, 0x00000000, 0x08108100⟩,
  ⟨0x008, 0x4, 1, 0x00000003, 0x00000000, 0x00000000, 0x00000000⟩,
  ⟨0x00C, 0x4, 1, 0x00000000, 0x00000000, 0x00000000, 0x00000000⟩,
  ⟨0x040, 0x4, 1, 0x00000000, 0x00000000, 0x00000000, 0x00000000⟩,
  ⟨0x044, 0x4, 1, 0x00000000, 0x00000000, 0x00000000, 0x00000000⟩,
  ⟨0x048, 0x4, 1, 0x00000000, 0x00000000, 0x00000000, 0x00000000⟩,
  ⟨0x050, 0x4, 1, 0xFFFFFFFF, 0x00000000, 0x00000000, 0x00000000⟩,
  ⟨0x054, 0x4, 1, 0xFFFFFFFF, 0x00000000, 0x00000000, 0x00000000⟩,
  ⟨0x060, 0x4, 1, 0x00000000, 0x00000000, 0x00000000, 0x00000000⟩,
  ⟨0x064, 0x4, 1, 0x00000000, 0x00000000, 0x00000000, 0x00000000⟩,
  ⟨0x068, 0x4, 1, 0x00000000, 0xFFFFFFFF, 0x00000000, 0x00000000⟩,
  ⟨0x06C, 0x4, 1, 0x00000000, 0xFFFFFFFF, 0x00000000, 0x00000000⟩,
  ⟨0x080, 0x4, 10, 0x00000000, 0x00000000, 0x00000000, 0x00000000⟩,
  ⟨0x0C0, 0x4, 16, 0xFFFFFFFF, 0x00000000, 0x00000000, 0x00000000⟩,
  ⟨0x100, 0x4, 16, 0x0000FF07, 0x00000000, 0x00000000, 0x00000000⟩,
  ⟨0x200, 0x4, 128, 0xFFFFFFFF, 0x00000000, 0x00000000, 0x00000000⟩,
  ⟨0x400, 0x10, 64, 0x0FFFFF1F, 0x00000000, 0x00000000, 0x0E080408⟩,
  ⟨0x404, 0x10, 64, 0x7FFFFFFF, 0x00000000, 0x00000000, 0x7FFFFFFF⟩,
  ⟨0x408, 0x10, 64, 0xFFFFFFFF, 0x00000000, 0x00000000, 0x00000000⟩]
/-- Every register of the TRM page at 0x004, 0x008, 0x00C and 0x040 up. -/
def trmRows : List RegRow := trmRows0

/-- Rows of the FIO page, part 0. -/
def fioRows0 : List RegRow := [
  ⟨0x004, 0x4, 1, 0x00000000, 0x00000000, 0x00000000, 0x00000C20⟩,
  ⟨0x008, 0x4, 1, 0x0000000F, 0x00000000, 0x00000000, 0x00000000⟩,
  ⟨0x00C, 0x4, 1, 0x00000000, 0x00000000, 0x00000000, 0x00000000⟩,
  ⟨0x040, 0x4, 1, 0x00000000, 0x00000000, 0x00000000, 0x00000000⟩,
  ⟨0x044, 0x4, 1, 0x00000000, 0x00000000, 0x00000000, 0x00000000⟩,
  ⟨0x048, 0x4, 1, 0x00000000, 0xFFFFFFFF, 0x00000000, 0x00000000⟩,
  ⟨0x04C, 0x4, 1, 0x00000000, 0x00000000, 0x00000000, 0x00000000⟩,
  ⟨0x050, 0x4, 1, 0x00000000, 0x00000000, 0x00000000, 0x00000000⟩,
  ⟨0x054, 0x4, 1, 0x00000000, 0x00000000, 0x00000000, 0x00000000⟩,
  ⟨0x058, 0x4, 1, 0x00000000, 0x00000000, 0x00000000, 0x00000000⟩,
  ⟨0x05C, 0x4, 1, 0x00000000, 0x0000FFFF, 0x00000000, 0x00000000⟩,
  ⟨0x060, 0x4, 1, 0x00000000, 0x0003FFFF, 0x00000000, 0x00000000⟩,
  ⟨0x100, 0x4, 32, 0x0FFFFFFF, 0x00000000, 0x00000000, 0x0020A064⟩,
  ⟨0x180, 0x4, 16, 0xFFFFFF03, 0x00000000, 0x00000000, 0x0A050A00⟩,
  ⟨0x1C0, 0x4, 16, 0x00000000, 0x00000000, 0x00000000, 0x00000000⟩,
  ⟨0x200, 0x10, 16, 0x00000000, 0x00000000, 0x00000000, 0x00000000⟩,
  ⟨0x204, 0x10, 16, 0x00000000, 0x00000000, 0x00000000, 0x00000000⟩,
  ⟨0x208, 0x10, 16, 0x00000000, 0x00000000, 0x00000000, 0x00000000⟩,
  ⟨0x20C, 0x10, 16, 0x00000000, 0x00000000, 0x00000000, 0x00000000⟩,
  ⟨0x300, 0x8, 2, 0x00000000, 0x00000000, 0x00000000, 0x00000000⟩]
/-- Rows of the FIO page, part 1. -/
def fioRows1 : List RegRow := [
  ⟨0x304, 0x8, 2, 0x00000000, 0x00000000, 0x00000000, 0x00000000⟩]
/-- Every register of the FIO page at 0x004, 0x008, 0x00C and 0x040 up. -/
def fioRows : List RegRow := fioRows0 ++ fioRows1

/-- Rows of the HKA page, part 0. -/
def hkaRows0 : List RegRow := [
  ⟨0x004, 0x4, 1, 0x00000000, 0x00000000, 0x00000000, 0x00001028⟩,
  ⟨0x008, 0x4, 1, 0x00FFFFFD, 0x00000000, 0x00000002, 0x00000000⟩,
  ⟨0x00C, 0x4, 1, 0x00000000, 0x00000000, 0x00000000, 0x00000000⟩,
  ⟨0x040, 0x4, 1, 0x0000003F, 0x00000000, 0x00000000, 0x00000000⟩,
  ⟨0x044, 0x4, 1, 0x00000000, 0x00000000, 0x00000000, 0x00000000⟩,
  ⟨0x060, 0x4, 1, 0x00000000, 0x00000000, 0x00000000, 0x00000000⟩,
  ⟨0x070, 0x4, 2, 0x00000000, 0x00000000, 0x00000000, 0x00000000⟩,
  ⟨0x080, 0x4, 10, 0x3F3F3F3F, 0x00000000, 0x00000000, 0x00000000⟩,
  ⟨0x100, 0x8, 40, 0x00000000, 0x00000000, 0x00000000, 0x00000000⟩,
  ⟨0x104, 0x8, 40, 0x00000000, 0x00000000, 0x00000000, 0x00000000⟩]
/-- Every register of the HKA page at 0x004, 0x008, 0x00C and 0x040 up. -/
def hkaRows : List RegRow := hkaRows0

/-- Rows of the LGE page, part 0. -/
def lgeRows0 : List RegRow := [
  ⟨0x004, 0x4, 1, 0x00000000, 0x00000000, 0x00000000, 0x040A2000⟩,
  ⟨0x008, 0x4, 1, 0x00000003, 0x00000000, 0x00000000, 0x00000000⟩,
  ⟨0x00C, 0x4, 1, 0x00000000, 0x00000000, 0x00000000, 0x00000000⟩,
  ⟨0x044, 0x4, 1, 0x000003FF, 0x00000000, 0x00000000, 0x00000064⟩,
  ⟨0x048, 0x4, 1, 0x0000FFFF, 0x00000000, 0x00000000, 0x00000000⟩,
  ⟨0x04C, 0x4, 1, 0x000003FF, 0x00000000, 0x00000000, 0x00000064⟩,
  ⟨0x050, 0x4, 1, 0x00000000, 0x00000000, 0x00000000, 0x00000000⟩,
  ⟨0x054, 0x4, 1, 0x00000000, 0x00000000, 0x00000000, 0x00000000⟩,
  ⟨0x058, 0x4, 1, 0x00000000, 0x00000000, 0x00000000, 0x00000000⟩,
  ⟨0x05C, 0x4, 1, 0x00000000, 0x00000000, 0x00000000, 0x00000000⟩,
  ⟨0x060, 0x4, 1, 0x00000000, 0x00000000, 0x00000000, 0x00000000⟩,
  ⟨0x064, 0x4, 1, 0x00000000, 0x00000000, 0x00000000, 0x00000000⟩,
  ⟨0x068, 0x4, 1, 0x00000000, 0x00000000, 0x00000000, 0x00000000⟩,
  ⟨0x070, 0x4, 3, 0x00000000, 0x00000000, 0x00000000, 0x00000000⟩,
  ⟨0x080, 0x4, 6, 0x00000000, 0x00000000, 0x00000000, 0x00000000⟩,
  ⟨0x0A0, 0x4, 4, 0x00000000, 0x00000000, 0x00000000, 0x00000000⟩,
  ⟨0x0B0, 0x4, 4, 0x00000000, 0x00000000, 0x00000000, 0x00000000⟩,
  ⟨0x0C0, 0x4, 1, 0xFFFFFFFF, 0x00000000, 0x00000000, 0x00000000⟩,
  ⟨0x0C4, 0x4, 1, 0xFFFFFFFF, 0x00000000, 0x00000000, 0x00000000⟩,
  ⟨0x0C8, 0x4, 1, 0x00000000, 0x00000000, 0x00000000, 0x00000000⟩]
/-- Rows of the LGE page, part 1. -/
def lgeRows1 : List RegRow := [
  ⟨0x0D0, 0x4, 3, 0x00000000, 0x00000000, 0x00000000, 0x00000000⟩,
  ⟨0x100, 0x4, 1, 0xFFFFFFFF, 0x00000000, 0x00000000, 0x00000000⟩,
  ⟨0x104, 0x4, 1, 0x0000FFFF, 0x00000000, 0x00000000, 0x00000000⟩,
  ⟨0x108, 0x4, 1, 0x007FFFFF, 0x00000000, 0x00000000, 0x00000000⟩,
  ⟨0x10C, 0x4, 1, 0x00000000, 0x00000000, 0x00000000, 0x00000000⟩,
  ⟨0x110, 0x4, 1, 0x00001FFF, 0x00000000, 0x00000000, 0x000001F4⟩,
  ⟨0x114, 0x4, 1, 0xFFFFFFFF, 0x00000000, 0x00000000, 0x00000000⟩,
  ⟨0x118, 0x4, 1, 0x00000000, 0x00000000, 0x00000000, 0x00000000⟩,
  ⟨0x120, 0x4, 6, 0x00000000, 0x00000000, 0x00000000, 0x00000000⟩,
  ⟨0x140, 0x4, 5, 0x00000000, 0x00000000, 0x00000000, 0x00000000⟩]
/-- Every register of the LGE page at 0x004, 0x008, 0x00C and 0x040 up. -/
def lgeRows : List RegRow := lgeRows0 ++ lgeRows1

/-- Rows of the EVR page, part 0. -/
def evrRows0 : List RegRow := [
  ⟨0x004, 0x4, 1, 0x00000000, 0x00000000, 0x00000000, 0x00010040⟩,
  ⟨0x008, 0x4, 1, 0x00000003, 0x00000000, 0x00000000, 0x00000002⟩,
  ⟨0x00C, 0x4, 1, 0x00000000, 0x00000000, 0x00000000, 0x00000000⟩,
  ⟨0x040, 0x4, 1, 0xFFFFFFFF, 0x00000000, 0x00000000, 0x01000064⟩,
  ⟨0x044, 0x4, 1, 0xFFFFFFFF, 0x00000000, 0x00000000, 0x08002000⟩,
  ⟨0x048, 0x4, 1, 0xFFFFFFFF, 0x00000000, 0x00000000, 0x00000000⟩,
  ⟨0x04C, 0x4, 1, 0x00000000, 0x00000000, 0x00000000, 0x00000000⟩,
  ⟨0x050, 0x4, 1, 0x00000000, 0x00000000, 0x00000000, 0x00000000⟩,
  ⟨0x054, 0x4, 1, 0xFFFFFFFF, 0x00000000, 0x00000000, 0x00000000⟩,
  ⟨0x058, 0x4, 1, 0x00000000, 0x00000000, 0x00000000, 0x00000000⟩,
  ⟨0x060, 0x4, 5, 0x00000000, 0x00000000, 0x00000000, 0x00000000⟩,
  ⟨0x080, 0x4, 3, 0x00000000, 0x00000000, 0x00000000, 0x00000000⟩,
  ⟨0x100, 0x4, 64, 0x00000000, 0x00000000, 0x00000000, 0x00000000⟩]
/-- Every register of the EVR page at 0x004, 0x008, 0x00C and 0x040 up. -/
def evrRows : List RegRow := evrRows0

/-- Rows of the DRC page, part 0. -/
def drcRows0 : List RegRow := [
  ⟨0x004, 0x4, 1, 0x00000000, 0x00000000, 0x00000000, 0x00000204⟩,
  ⟨0x008, 0x4, 1, 0x00000003, 0x00000000, 0x00000000, 0x00000002⟩,
  ⟨0x00C, 0x4, 1, 0x00000000, 0x00000000, 0x00000000, 0x00000000⟩,
  ⟨0x040, 0x4, 1, 0xFFFFFFFF, 0x00000000, 0x00000000, 0x00000000⟩,
  ⟨0x044, 0x4, 1, 0x0000FFFF, 0x00000000, 0x00000000, 0x00000000⟩,
  ⟨0x048, 0x4, 1, 0x00003FFF, 0x00000000, 0x00000000, 0x00000000⟩,
  ⟨0x04C, 0x4, 1, 0x001FFFFF, 0x00000000, 0x00000000, 0x00032140⟩,
  ⟨0x050, 0x4, 1, 0x00000000, 0x00000000, 0x00000000, 0x00000000⟩,
  ⟨0x060, 0x4, 8, 0xFFFFFFFF, 0x00000000, 0x00000000, 0x00000000⟩,
  ⟨0x080, 0x4, 6, 0x00000000, 0x00000000, 0x00000000, 0x00000000⟩,
  ⟨0x0A0, 0x4, 4, 0x00000000, 0x00000000, 0x00000000, 0x00000000⟩,
  ⟨0x100, 0x4, 32, 0x0FFF0FFF, 0x00000000, 0x00000000, 0x00000000⟩]
/-- Every register of the DRC page at 0x004, 0x008, 0x00C and 0x040 up. -/
def drcRows : List RegRow := drcRows0

/-- Rows of the STO page, part 0. -/
def stoRows0 : List RegRow := [
  ⟨0x004, 0x4, 1, 0x00000000, 0x00000000, 0x00000000, 0x00000C40⟩,
  ⟨0x008, 0x4, 1, 0x00000003, 0x00000000, 0x00000000, 0x00000002⟩,
  ⟨0x00C, 0x4, 1, 0x00000000, 0x00000000, 0x00000000, 0x00000000⟩,
  ⟨0x040, 0x4, 1, 0x00000000, 0x00000000, 0x00000000, 0x00000000⟩,
  ⟨0x044, 0x4, 1, 0xFFFFFFFF, 0x00000000, 0x00000000, 0x00000000⟩,
  ⟨0x048, 0x4, 1, 0xFFFFFFFF, 0x00000000, 0x00000000, 0x00000000⟩,
  ⟨0x04C, 0x4, 1, 0x01FFFFFF, 0x00000000, 0x00000000, 0x00000000⟩,
  ⟨0x050, 0x4, 1, 0xFFFFFFFF, 0x00000000, 0x00000000, 0x00000000⟩,
  ⟨0x054, 0x4, 1, 0x0000FFFF, 0x00000000, 0x00000000, 0x00000000⟩,
  ⟨0x080, 0x4, 4, 0x00000000, 0x00000000, 0x00000000, 0x00000000⟩,
  ⟨0x0A0, 0x4, 5, 0x00000000, 0x00000000, 0x00000000, 0x00000000⟩,
  ⟨0x0C0, 0x4, 3, 0x00000000, 0x00000000, 0x00000000, 0x00000000⟩]
/-- Every register of the STO page at 0x004, 0x008, 0x00C and 0x040 up. -/
def stoRows : List RegRow := stoRows0

/-- Rows of the TIM page, part 0. -/
def timRows0 : List RegRow := [
  ⟨0x004, 0x4, 1, 0x00000000, 0x00000000, 0x00000000, 0x000001FE⟩,
  ⟨0x008, 0x4, 1, 0x00000FFF, 0x00000000, 0x00000000, 0x00000003⟩,
  ⟨0x00C, 0x4, 1, 0x00000000, 0x00000000, 0x00000000, 0x00000000⟩,
  ⟨0x040, 0x10, 2, 0x003FFFFF, 0x00000000, 0x00000000, 0x000CC000⟩,
  ⟨0x060, 0x4, 1, 0x0003FFFF, 0x00000000, 0x00000000, 0x00000064⟩,
  ⟨0x064, 0x4, 1, 0x00000000, 0x00000000, 0x00000000, 0x00000000⟩,
  ⟨0x068, 0x4, 1, 0x0003FFFF, 0x00000000, 0x00000000, 0x000028C8⟩,
  ⟨0x070, 0x4, 1, 0xFFFFFFFF, 0x00000000, 0x00000000, 0x00000000⟩,
  ⟨0x074, 0x4, 1, 0x0000FFFF, 0x00000000, 0x00000000, 0x00000000⟩,
  ⟨0x078, 0x4, 1, 0x3FFFFFFF, 0x00000000, 0x00000000, 0x00000000⟩,
  ⟨0x07C, 0x4, 1, 0x00000000, 0x00000000, 0x00000000, 0x00000000⟩,
  ⟨0x080, 0x4, 1, 0x00000000, 0x00000000, 0x00000000, 0x00000000⟩,
  ⟨0x090, 0x4, 8, 0x00000000, 0x00000000, 0x00000000, 0x00000000⟩,
  ⟨0x0B0, 0x4, 1, 0x000001FF, 0x00000000, 0x00000000, 0x00000064⟩,
  ⟨0x0B4, 0x4, 1, 0xFFFFFFFF, 0x00000000, 0x00000000, 0x00000000⟩,
  ⟨0x0C0, 0x4, 4, 0x00000000, 0x00000000, 0x00000000, 0x00000000⟩,
  ⟨0x0E0, 0x4, 4, 0xFFFFFFFF, 0x00000000, 0x00000000, 0x00000000⟩,
  ⟨0x0F0, 0x4, 4, 0xFFFFFFFF, 0x00000000, 0x00000000, 0x00000000⟩,
  ⟨0x100, 0x20, 2, 0x00000000, 0x00000000, 0x00000000, 0x00000000⟩,
  ⟨0x104, 0x20, 2, 0x00000000, 0x00000000, 0x00000000, 0x00000000⟩]
/-- Rows of the TIM page, part 1. -/
def timRows1 : List RegRow := [
  ⟨0x108, 0x20, 2, 0x00000000, 0x00000000, 0x00000000, 0x00000000⟩,
  ⟨0x10C, 0x20, 2, 0x00000000, 0x00000000, 0x00000000, 0x00000000⟩,
  ⟨0x110, 0x20, 2, 0x00000000, 0x00000000, 0x00000000, 0x00000000⟩,
  ⟨0x114, 0x20, 2, 0x00000000, 0x00000000, 0x00000000, 0x00000000⟩,
  ⟨0x118, 0x20, 2, 0x00000000, 0x00000000, 0x00000000, 0x00000000⟩,
  ⟨0x140, 0x4, 4, 0x00000000, 0x00000000, 0x00000000, 0x00000000⟩,
  ⟨0x150, 0x4, 2, 0x00000000, 0x00000000, 0x00000000, 0x00000000⟩]
/-- Every register of the TIM page at 0x004, 0x008, 0x00C and 0x040 up. -/
def timRows : List RegRow := timRows0 ++ timRows1

/-- Rows of the MAC0 page, part 0. -/
def macFastRows0 : List RegRow := [
  ⟨0x004, 0x4, 1, 0x00000000, 0x00000000, 0x00000000, 0x00000093⟩,
  ⟨0x008, 0x4, 1, 0x0000003F, 0x00000000, 0x00000000, 0x00000020⟩,
  ⟨0x00C, 0x4, 1, 0x00000000, 0x00000000, 0x00000000, 0x00000000⟩,
  ⟨0x040, 0x4, 1, 0xFFFFFFFF, 0x00000000, 0x00000000, 0x00000000⟩,
  ⟨0x044, 0x4, 1, 0x0000FFFF, 0x00000000, 0x00000000, 0x00000000⟩,
  ⟨0x048, 0x4, 1, 0x00003FFF, 0x00000000, 0x00000000, 0x000005F2⟩,
  ⟨0x04C, 0x4, 1, 0x07FFFFFF, 0x00000000, 0x00000000, 0x00000000⟩,
  ⟨0x050, 0x4, 1, 0xFFFFFFFF, 0x00000000, 0x00000000, 0x00000000⟩,
  ⟨0x054, 0x4, 1, 0xFFFFFFFF, 0x00000000, 0x00000000, 0x00000000⟩,
  ⟨0x080, 0x10, 8, 0xFFFFFFFF, 0x00000000, 0x00000000, 0x00000000⟩,
  ⟨0x084, 0x10, 8, 0x0000FFFF, 0x00000000, 0x00000000, 0x00000000⟩,
  ⟨0x088, 0x10, 8, 0x0000001F, 0x00000000, 0x00000000, 0x00000008⟩,
  ⟨0x08C, 0x10, 8, 0xFFFF0000, 0x00000000, 0x00000000, 0x00000000⟩,
  ⟨0x100, 0x4, 13, 0x00000000, 0x00000000, 0x00000000, 0x00000000⟩]
/-- Every register of the MAC0 page at 0x004, 0x008, 0x00C and 0x040 up. -/
def macFastRows : List RegRow := macFastRows0

/-- Rows of the MAC2 page, part 0. -/
def macSlowRows0 : List RegRow := [
  ⟨0x004, 0x4, 1, 0x00000000, 0x00000000, 0x00000000, 0x00000090⟩,
  ⟨0x008, 0x4, 1, 0x000001FF, 0x00000000, 0x00000000, 0x00000020⟩,
  ⟨0x00C, 0x4, 1, 0x00000000, 0x00000000, 0x00000000, 0x00000000⟩,
  ⟨0x040, 0x4, 1, 0xFFFFFFFF, 0x00000000, 0x00000000, 0x00000000⟩,
  ⟨0x044, 0x4, 1, 0x0000FFFF, 0x00000000, 0x00000000, 0x00000000⟩,
  ⟨0x048, 0x4, 1, 0x00003FFF, 0x00000000, 0x00000000, 0x000005F2⟩,
  ⟨0x04C, 0x4, 1, 0x07FFFFFF, 0x00000000, 0x00000000, 0x00000000⟩,
  ⟨0x050, 0x4, 1, 0xFFFFFFFF, 0x00000000, 0x00000000, 0x00000000⟩,
  ⟨0x054, 0x4, 1, 0xFFFFFFFF, 0x00000000, 0x00000000, 0x00000000⟩,
  ⟨0x080, 0x10, 8, 0xFFFFFFFF, 0x00000000, 0x00000000, 0x00000000⟩,
  ⟨0x084, 0x10, 8, 0x0000FFFF, 0x00000000, 0x00000000, 0x00000000⟩,
  ⟨0x088, 0x10, 8, 0x0000001F, 0x00000000, 0x00000000, 0x00000008⟩,
  ⟨0x08C, 0x10, 8, 0xFFFF0000, 0x00000000, 0x00000000, 0x00000000⟩,
  ⟨0x100, 0x4, 13, 0x00000000, 0x00000000, 0x00000000, 0x00000000⟩]
/-- Every register of the MAC2 page at 0x004, 0x008, 0x00C and 0x040 up. -/
def macSlowRows : List RegRow := macSlowRows0

/-- Rows of the GOS page, part 0. -/
def gosRows0 : List RegRow := [
  ⟨0x004, 0x4, 1, 0x00000000, 0x00000000, 0x00000000, 0x10020080⟩,
  ⟨0x008, 0x4, 1, 0x0000000F, 0x00000000, 0x00000000, 0x00000000⟩,
  ⟨0x00C, 0x4, 1, 0x00000000, 0x00000000, 0x00000000, 0x00000000⟩,
  ⟨0x040, 0x4, 16, 0x00000000, 0x00000000, 0x00000000, 0x00000000⟩,
  ⟨0x080, 0x4, 32, 0x00000000, 0x00000000, 0x00000000, 0x00000000⟩,
  ⟨0x100, 0x4, 32, 0x00000000, 0x00000000, 0x00000000, 0x00000000⟩,
  ⟨0x180, 0x4, 7, 0x00000000, 0x00000000, 0x00000000, 0x00000000⟩,
  ⟨0x200, 0x10, 8, 0x00FFFFFF, 0x00000000, 0x00000000, 0x00000C12⟩,
  ⟨0x204, 0x10, 8, 0xFFFFFFFF, 0x00000000, 0x00000000, 0x00000000⟩,
  ⟨0x208, 0x10, 8, 0xFFFFFFFF, 0x00000000, 0x00000000, 0x40000000⟩,
  ⟨0x20C, 0x10, 8, 0xFFFFFFFF, 0x00000000, 0x00000000, 0x00000001⟩]
/-- Every register of the GOS page at 0x004, 0x008, 0x00C and 0x040 up. -/
def gosRows : List RegRow := gosRows0

/-- Rows of the GAL page, part 0. -/
def galRows0 : List RegRow := [
  ⟨0x004, 0x4, 1, 0x00000000, 0x00000000, 0x00000000, 0x02040206⟩,
  ⟨0x008, 0x4, 1, 0x0000007F, 0x00000000, 0x00000000, 0x0000007E⟩,
  ⟨0x00C, 0x4, 1, 0x00000000, 0x00000000, 0x00000000, 0x00000000⟩,
  ⟨0x040, 0x4, 1, 0x00000000, 0x00000000, 0x00000000, 0x00000000⟩,
  ⟨0x044, 0x4, 1, 0x00000000, 0x00000000, 0x00000000, 0x00000000⟩,
  ⟨0x048, 0x4, 1, 0x00000000, 0x00000000, 0x00000000, 0x00000000⟩,
  ⟨0x04C, 0x4, 1, 0x00000000, 0x00000000, 0x00000000, 0x00000000⟩,
  ⟨0x050, 0x4, 1, 0x00000000, 0x00000000, 0x00000000, 0x00001900⟩,
  ⟨0x054, 0x4, 1, 0x0000FFFF, 0x00000000, 0x00000000, 0x00000A1E⟩,
  ⟨0x060, 0x4, 1, 0xFFFFFFFF, 0x00000000, 0x00000000, 0x00000000⟩,
  ⟨0x064, 0x4, 1, 0xFFFFFFFF, 0x00000000, 0x00000000, 0x00000000⟩,
  ⟨0x068, 0x4, 1, 0xFFFFFFFF, 0x00000000, 0x00000000, 0x00000000⟩,
  ⟨0x06C, 0x4, 1, 0x00000000, 0x00000000, 0x00000000, 0x00000000⟩,
  ⟨0x070, 0x4, 1, 0x00000000, 0x00000000, 0x00000000, 0x00000000⟩,
  ⟨0x080, 0x4, 14, 0xFFFFFFFF, 0x00000000, 0x00000000, 0x00000000⟩,
  ⟨0x0C0, 0x4, 5, 0x00000000, 0x00000000, 0x00000000, 0x00000000⟩,
  ⟨0x100, 0x4, 16, 0x00000000, 0x00000000, 0x00000000, 0x00000000⟩,
  ⟨0x140, 0x4, 13, 0x00000000, 0x00000000, 0x00000000, 0x00000000⟩,
  ⟨0x180, 0x10, 6, 0x00000000, 0x00000000, 0x00000000, 0x00000000⟩,
  ⟨0x184, 0x10, 6, 0x00000000, 0x00000000, 0x00000000, 0x00000000⟩]
/-- Rows of the GAL page, part 1. -/
def galRows1 : List RegRow := [
  ⟨0x188, 0x10, 6, 0x00000000, 0x00000000, 0x00000000, 0x00000000⟩,
  ⟨0x18C, 0x10, 6, 0x00000000, 0x00000000, 0x00000000, 0x00000000⟩,
  ⟨0x200, 0x4, 32, 0x00000000, 0x00000000, 0x00000000, 0x00070007⟩,
  ⟨0x300, 0x4, 8, 0x00000000, 0x00000000, 0x00000000, 0x00000000⟩,
  ⟨0x320, 0x4, 8, 0x00000000, 0x00000000, 0x00000000, 0x00000000⟩,
  ⟨0x400, 0x4, 256, 0x00001FFF, 0x00000000, 0x00000000, 0x00000000⟩]
/-- Every register of the GAL page at 0x004, 0x008, 0x00C and 0x040 up. -/
def galRows : List RegRow := galRows0 ++ galRows1

/-- Rows of the DUP page, part 0. -/
def dupRows0 : List RegRow := [
  ⟨0x004, 0x4, 1, 0x00000000, 0x00000000, 0x00000000, 0x00020408⟩,
  ⟨0x008, 0x4, 1, 0x00000001, 0x00000000, 0x00000000, 0x00000000⟩,
  ⟨0x00C, 0x4, 1, 0x00000000, 0x00000000, 0x00000000, 0x00000000⟩,
  ⟨0x040, 0x4, 1, 0x00000000, 0x00000000, 0x00000000, 0x00000000⟩,
  ⟨0x060, 0x4, 8, 0xFFFFFFFF, 0x00000000, 0x00000000, 0xFFFFFFFF⟩,
  ⟨0x080, 0x4, 1, 0x00000000, 0x00000000, 0x00000000, 0x00000000⟩,
  ⟨0x0A0, 0x4, 1, 0x00000000, 0x00000000, 0x00000000, 0x00000000⟩,
  ⟨0x0A4, 0x4, 1, 0xFFFFFFFF, 0x00000000, 0x00000000, 0x00000000⟩,
  ⟨0x0B0, 0x4, 3, 0x00000000, 0x00000000, 0x00000000, 0x00000000⟩,
  ⟨0x0C0, 0x8, 8, 0x00000000, 0x00000000, 0x00000000, 0x00000000⟩,
  ⟨0x0C4, 0x8, 8, 0x00000000, 0x00000000, 0x00000000, 0x00000000⟩,
  ⟨0x100, 0x10, 8, 0x00000000, 0x00000000, 0x00000000, 0x00000000⟩,
  ⟨0x104, 0x10, 8, 0x00000000, 0x00000000, 0x00000000, 0x00000000⟩,
  ⟨0x108, 0x10, 8, 0x00000000, 0x00000000, 0x00000000, 0x00000000⟩,
  ⟨0x10C, 0x10, 8, 0x00000000, 0x00000000, 0x00000000, 0x00000000⟩,
  ⟨0x200, 0x4, 4, 0x00000000, 0x00000000, 0x00000000, 0x00000000⟩,
  ⟨0x220, 0x4, 3, 0x00000000, 0x00000000, 0x00000000, 0x00000000⟩,
  ⟨0x240, 0x4, 4, 0x00000000, 0x00000000, 0x00000000, 0x00000000⟩]
/-- Every register of the DUP page at 0x004, 0x008, 0x00C and 0x040 up. -/
def dupRows : List RegRow := dupRows0

/-- Rows of the PCI page, part 0. -/
def pciRows0 : List RegRow := [
  ⟨0x040, 0x4, 1, 0x00000000, 0x00000000, 0x00000000, 0x00000000⟩,
  ⟨0x400, 0x4, 256, 0xFFFFFFFF, 0x00000000, 0x00000000, 0x00000000⟩,
  ⟨0x800, 0x4, 2, 0x00000000, 0x00000000, 0x00000000, 0x00000000⟩]
/-- Every register of the PCI page at 0x004, 0x008, 0x00C and 0x040 up. -/
def pciRows : List RegRow := pciRows0

end Sys2Proof.Machine
end

