-- ==== Sys2Proof/Machine/RegNames.lean ====
section
/-! DEFINITION. A name for every register, field and result group of the register map (chapters 02 to 21). A register is
named by its member offset (page offset plus the R41 page address); n is the index in an indexed name (R11), p the MAC. -/

namespace Sys2Proof.Machine.R

/-- SYS_CAP -/
def sysCap : Nat := 0x00004
def sysCap_nkey : Fld := ⟨sysCap, 2, 0⟩
def sysCap_prof : Fld := ⟨sysCap, 5, 3⟩
/-- SYS_CTRL -/
def sysCtrl : Nat := 0x00008
def sysCtrl_pfw_en : Fld := ⟨sysCtrl, 0, 0⟩
def sysCtrl_vmain_en : Fld := ⟨sysCtrl, 1, 1⟩
def sysCtrl_therm_en : Fld := ⟨sysCtrl, 2, 2⟩
/-- SYS_STAT -/
def sysStat : Nat := 0x0000C
def sysStat_booted : Fld := ⟨sysStat, 0, 0⟩
def sysStat_supply_ok : Fld := ⟨sysStat, 1, 1⟩
def sysStat_ladle : Fld := ⟨sysStat, 2, 2⟩
def sysStat_safe : Fld := ⟨sysStat, 3, 3⟩
def sysStat_slot : Fld := ⟨sysStat, 4, 4⟩
def sysStat_fallback : Fld := ⟨sysStat, 5, 5⟩
def sysStat_healthy : Fld := ⟨sysStat, 6, 6⟩
/-- SYS_PROFILE -/
def sysProfile : Nat := 0x00040
def sysProfile_pend : Fld := ⟨sysProfile, 1, 0⟩
def sysProfile_active : Fld := ⟨sysProfile, 5, 4⟩
/-- SYS_PF_CFG -/
def sysPfCfg : Nat := 0x00044
def sysPfCfg_pf_thr : Fld := ⟨sysPfCfg, 7, 0⟩
def sysPfCfg_rec_t : Fld := ⟨sysPfCfg, 15, 8⟩
/-- SYS_RST_CMD -/
def sysRstCmd : Nat := 0x00048
def sysRstCmd_go : Fld := ⟨sysRstCmd, 0, 0⟩
def sysRstCmd_key : Fld := ⟨sysRstCmd, 31, 16⟩
/-- SYS_CFG_SRC_LO -/
def sysCfgSrcLo : Nat := 0x00050
def sysCfgSrcLo_addr : Fld := ⟨sysCfgSrcLo, 31, 0⟩
/-- SYS_CFG_SRC_HI -/
def sysCfgSrcHi : Nat := 0x00054
def sysCfgSrcHi_addr : Fld := ⟨sysCfgSrcHi, 15, 0⟩
/-- SYS_CFG_LEN -/
def sysCfgLen : Nat := 0x00058
def sysCfgLen_len : Fld := ⟨sysCfgLen, 20, 0⟩
/-- SYS_CFG_CMD -/
def sysCfgCmd : Nat := 0x0005C
def sysCfgCmd_op : Fld := ⟨sysCfgCmd, 1, 0⟩
/-- SYS_CFG_RES: requested result group of 4 words. -/
def sysCfgRes : Grp := ⟨0x00060, 4⟩
/-- SYS_BOOT: periodic result group of 4 words. -/
def sysBoot : Grp := ⟨0x00080, 4⟩
/-- SYS_DIGEST -/
def sysDigest (n : Nat) : Nat := 0x000A0 + 0x4 * n
def sysDigest_digest (n : Nat) : Fld := ⟨sysDigest n, 31, 0⟩
/-- SYS_SUPPLY -/
def sysSupply : Nat := 0x000C4
def sysSupply_uv : Fld := ⟨sysSupply, 7, 0⟩
def sysSupply_ov : Fld := ⟨sysSupply, 15, 8⟩
/-- SYS_FUSE -/
def sysFuse : Nat := 0x000C8
def sysFuse_valid : Fld := ⟨sysFuse, 3, 0⟩
def sysFuse_revoked : Fld := ⟨sysFuse, 7, 4⟩
def sysFuse_secver_min : Fld := ⟨sysFuse, 15, 8⟩
/-- SYS_IRQ_SRC_LO -/
def sysIrqSrcLo : Nat := 0x00100
def sysIrqSrcLo_src : Fld := ⟨sysIrqSrcLo, 31, 0⟩
/-- SYS_IRQ_SRC_HI -/
def sysIrqSrcHi : Nat := 0x00104
def sysIrqSrcHi_src : Fld := ⟨sysIrqSrcHi, 16, 0⟩
/-- SYS_IRQ_ACK -/
def sysIrqAck : Nat := 0x00108
def sysIrqAck_vec : Fld := ⟨sysIrqAck, 5, 0⟩
/-- SYS_IRQ_VSTAT_LO -/
def sysIrqVstatLo : Nat := 0x0010C
def sysIrqVstatLo_sent : Fld := ⟨sysIrqVstatLo, 31, 0⟩
/-- SYS_IRQ_VSTAT_HI -/
def sysIrqVstatHi : Nat := 0x00110
def sysIrqVstatHi_sent : Fld := ⟨sysIrqVstatHi, 31, 0⟩
/-- SYS_RMT_PEND_LO -/
def sysRmtPendLo : Nat := 0x00114
def sysRmtPendLo_mbr : Fld := ⟨sysRmtPendLo, 31, 0⟩
/-- SYS_RMT_PEND_HI -/
def sysRmtPendHi : Nat := 0x00118
def sysRmtPendHi_mbr : Fld := ⟨sysRmtPendHi, 31, 0⟩
/-- SYS_IRQ_MAP -/
def sysIrqMap (n : Nat) : Nat := 0x00140 + 0x4 * n
def sysIrqMap_vec0 (n : Nat) : Fld := ⟨sysIrqMap n, 5, 0⟩
def sysIrqMap_en0 (n : Nat) : Fld := ⟨sysIrqMap n, 7, 7⟩
def sysIrqMap_vec1 (n : Nat) : Fld := ⟨sysIrqMap n, 13, 8⟩
def sysIrqMap_en1 (n : Nat) : Fld := ⟨sysIrqMap n, 15, 15⟩
def sysIrqMap_vec2 (n : Nat) : Fld := ⟨sysIrqMap n, 21, 16⟩
def sysIrqMap_en2 (n : Nat) : Fld := ⟨sysIrqMap n, 23, 23⟩
def sysIrqMap_vec3 (n : Nat) : Fld := ⟨sysIrqMap n, 29, 24⟩
def sysIrqMap_en3 (n : Nat) : Fld := ⟨sysIrqMap n, 31, 31⟩
/-- SYS_IRQ_MAP12 -/
def sysIrqMap12 : Nat := 0x00170
def sysIrqMap12_vec : Fld := ⟨sysIrqMap12, 5, 0⟩
def sysIrqMap12_en : Fld := ⟨sysIrqMap12, 7, 7⟩
/-- LIFE_CAP -/
def lifeCap : Nat := 0x01004
def lifeCap_ncnt : Fld := ⟨lifeCap, 8, 0⟩
/-- LIFE_STAT -/
def lifeStat : Nat := 0x0100C
def lifeStat_restored_ok : Fld := ⟨lifeStat, 0, 0⟩
def lifeStat_newest : Fld := ⟨lifeStat, 1, 1⟩
/-- LIFE_SEL -/
def lifeSel : Nat := 0x01040
def lifeSel_index : Fld := ⟨lifeSel, 8, 0⟩
/-- LIFE_VAL: requested result group of 3 words. -/
def lifeVal : Grp := ⟨0x01048, 3⟩
/-- LIFE_LAST: periodic result group of 4 words. -/
def lifeLast : Grp := ⟨0x01060, 4⟩
/-- JRNL_CAP -/
def jrnlCap : Nat := 0x02004
def jrnlCap_nent : Fld := ⟨jrnlCap, 12, 0⟩
/-- JRNL_STAT -/
def jrnlStat : Nat := 0x0200C
def jrnlStat_scanned : Fld := ⟨jrnlStat, 0, 0⟩
/-- JRNL_POS: periodic result group of 5 words. -/
def jrnlPos : Grp := ⟨0x02040, 5⟩
/-- JRNL_CURSOR -/
def jrnlCursor : Nat := 0x02060
def jrnlCursor_seq : Fld := ⟨jrnlCursor, 31, 0⟩
/-- JRNL_WIN_ST: requested result group of 3 words. -/
def jrnlWinSt : Grp := ⟨0x02070, 3⟩
/-- JRNL_OPEN: periodic result group of 5 words. -/
def jrnlOpen : Grp := ⟨0x02080, 5⟩
/-- JRNL_RESOLVE -/
def jrnlResolve : Nat := 0x020B0
def jrnlResolve_opid : Fld := ⟨jrnlResolve, 31, 0⟩
/-- JRNL_WIN -/
def jrnlWin (n : Nat) : Nat := 0x02200 + 0x4 * n
def jrnlWin_w (n : Nat) : Fld := ⟨jrnlWin n, 31, 0⟩
/-- MEM_CAP -/
def memCap : Nat := 0x03004
def memCap_nbank : Fld := ⟨memCap, 5, 0⟩
def memCap_ndual : Fld := ⟨memCap, 7, 6⟩
def memCap_nmstr : Fld := ⟨memCap, 11, 8⟩
/-- MEM_CTRL -/
def memCtrl : Nat := 0x03008
def memCtrl_scrub_en : Fld := ⟨memCtrl, 0, 0⟩
def memCtrl_scrub_h : Fld := ⟨memCtrl, 15, 8⟩
/-- MEM_STAT -/
def memStat : Nat := 0x0300C
def memStat_march_busy : Fld := ⟨memStat, 0, 0⟩
def memStat_scrub_busy : Fld := ⟨memStat, 1, 1⟩
/-- MEM_ARB_SEL -/
def memArbSel : Nat := 0x03040
def memArbSel_bank : Fld := ⟨memArbSel, 5, 0⟩
/-- MEM_MARCH_CMD -/
def memMarchCmd : Nat := 0x03044
def memMarchCmd_go : Fld := ⟨memMarchCmd, 0, 0⟩
def memMarchCmd_mode : Fld := ⟨memMarchCmd, 1, 1⟩
/-- MEM_MARCH_LO -/
def memMarchLo : Nat := 0x03048
def memMarchLo_banks : Fld := ⟨memMarchLo, 31, 0⟩
/-- MEM_MARCH_HI -/
def memMarchHi : Nat := 0x0304C
def memMarchHi_banks : Fld := ⟨memMarchHi, 15, 0⟩
/-- MEM_ARB: periodic result group of 5 words. -/
def memArb : Grp := ⟨0x03060, 5⟩
/-- MEM_FAULT: periodic result group of 3 words. -/
def memFault : Grp := ⟨0x03080, 3⟩
/-- MEM_MARCH_RES: requested result group of 4 words. -/
def memMarchRes : Grp := ⟨0x03090, 4⟩
/-- MEM_BANK_CFG -/
def memBankCfg (n : Nat) : Nat := 0x03100 + 0x4 * n
def memBankCfg_state (n : Nat) : Fld := ⟨memBankCfg n, 1, 0⟩
def memBankCfg_mode (n : Nat) : Fld := ⟨memBankCfg n, 3, 2⟩
def memBankCfg_ready (n : Nat) : Fld := ⟨memBankCfg n, 4, 4⟩
def memBankCfg_claimed (n : Nat) : Fld := ⟨memBankCfg n, 5, 5⟩
/-- MEM_ECC_CNT -/
def memEccCnt (n : Nat) : Nat := 0x03200 + 0x4 * n
def memEccCnt_corr (n : Nat) : Fld := ⟨memEccCnt n, 15, 0⟩
def memEccCnt_uncorr (n : Nat) : Fld := ⟨memEccCnt n, 31, 16⟩
/-- MEM_RGN0 -/
def memRgn0 (m n : Nat) : Nat := 0x03400 + 0x100 * m + 0x10 * n
def memRgn0_en (m n : Nat) : Fld := ⟨memRgn0 m n, 0, 0⟩
def memRgn0_r (m n : Nat) : Fld := ⟨memRgn0 m n, 1, 1⟩
def memRgn0_w (m n : Nat) : Fld := ⟨memRgn0 m n, 2, 2⟩
def memRgn0_base (m n : Nat) : Fld := ⟨memRgn0 m n, 31, 12⟩
/-- MEM_RGN1 -/
def memRgn1 (m n : Nat) : Nat := 0x03404 + 0x100 * m + 0x10 * n
def memRgn1_base_hi (m n : Nat) : Fld := ⟨memRgn1 m n, 15, 0⟩
/-- MEM_RGN2 -/
def memRgn2 (m n : Nat) : Nat := 0x03408 + 0x100 * m + 0x10 * n
def memRgn2_limit (m n : Nat) : Fld := ⟨memRgn2 m n, 31, 12⟩
/-- MEM_RGN3 -/
def memRgn3 (m n : Nat) : Nat := 0x0340C + 0x100 * m + 0x10 * n
def memRgn3_limit_hi (m n : Nat) : Fld := ⟨memRgn3 m n, 15, 0⟩
/-- MEM_RGN15_0 -/
def memRgn150 (n : Nat) : Nat := 0x034F0 + 0x100 * n
def memRgn150_en (n : Nat) : Fld := ⟨memRgn150 n, 0, 0⟩
def memRgn150_r (n : Nat) : Fld := ⟨memRgn150 n, 1, 1⟩
def memRgn150_w (n : Nat) : Fld := ⟨memRgn150 n, 2, 2⟩
def memRgn150_base (n : Nat) : Fld := ⟨memRgn150 n, 31, 12⟩
/-- MEM_RGN15_1 -/
def memRgn151 (n : Nat) : Nat := 0x034F4 + 0x100 * n
def memRgn151_base_hi (n : Nat) : Fld := ⟨memRgn151 n, 15, 0⟩
/-- MEM_RGN15_2 -/
def memRgn152 (n : Nat) : Nat := 0x034F8 + 0x100 * n
def memRgn152_limit (n : Nat) : Fld := ⟨memRgn152 n, 31, 12⟩
/-- MEM_RGN15_3 -/
def memRgn153 (n : Nat) : Nat := 0x034FC + 0x100 * n
def memRgn153_limit_hi (n : Nat) : Fld := ⟨memRgn153 n, 15, 0⟩
/-- DMA_CAP -/
def dmaCap : Nat := 0x04004
def dmaCap_nch : Fld := ⟨dmaCap, 4, 0⟩
/-- DMA_CTRL -/
def dmaCtrl : Nat := 0x04008
def dmaCtrl_en : Fld := ⟨dmaCtrl, 0, 0⟩
/-- DMA_STAT -/
def dmaStat : Nat := 0x0400C
def dmaStat_busy : Fld := ⟨dmaStat, 15, 0⟩
/-- DMA_CH_CTRL -/
def dmaChCtrl (n : Nat) : Nat := 0x05000 + 0x100 * n
def dmaChCtrl_en (n : Nat) : Fld := ⟨dmaChCtrl n, 0, 0⟩
def dmaChCtrl_prio (n : Nat) : Fld := ⟨dmaChCtrl n, 1, 1⟩
def dmaChCtrl_abort (n : Nat) : Fld := ⟨dmaChCtrl n, 2, 2⟩
/-- DMA_CH_STAT -/
def dmaChStat (n : Nat) : Nat := 0x05004 + 0x100 * n
def dmaChStat_state (n : Nat) : Fld := ⟨dmaChStat n, 1, 0⟩
def dmaChStat_kpend (n : Nat) : Fld := ⟨dmaChStat n, 2, 2⟩
def dmaChStat_code (n : Nat) : Fld := ⟨dmaChStat n, 6, 3⟩
/-- DMA_CH_HEAD_LO -/
def dmaChHeadLo (n : Nat) : Nat := 0x05008 + 0x100 * n
def dmaChHeadLo_head (n : Nat) : Fld := ⟨dmaChHeadLo n, 31, 6⟩
/-- DMA_CH_HEAD_HI -/
def dmaChHeadHi (n : Nat) : Nat := 0x0500C + 0x100 * n
def dmaChHeadHi_head (n : Nat) : Fld := ⟨dmaChHeadHi n, 15, 0⟩
/-- DMA_CH_KICK -/
def dmaChKick (n : Nat) : Nat := 0x05010 + 0x100 * n
def dmaChKick_go (n : Nat) : Fld := ⟨dmaChKick n, 0, 0⟩
/-- DMA_CH_IRQ -/
def dmaChIrq (n : Nat) : Nat := 0x05014 + 0x100 * n
def dmaChIrq_pend (n : Nat) : Fld := ⟨dmaChIrq n, 2, 0⟩
/-- DMA_CH_IRQEN -/
def dmaChIrqen (n : Nat) : Nat := 0x05018 + 0x100 * n
def dmaChIrqen_en (n : Nat) : Fld := ⟨dmaChIrqen n, 2, 0⟩
/-- DMA_CH_CUR: periodic result group of 5 words. -/
def dmaChCur (n : Nat) : Grp := ⟨0x05020 + 0x100 * n, 5⟩
/-- DMA_CH_LAST_LO -/
def dmaChLastLo (n : Nat) : Nat := 0x05040 + 0x100 * n
def dmaChLastLo_last (n : Nat) : Fld := ⟨dmaChLastLo n, 31, 0⟩
/-- DMA_CH_LAST_HI -/
def dmaChLastHi (n : Nat) : Nat := 0x05044 + 0x100 * n
def dmaChLastHi_last (n : Nat) : Fld := ⟨dmaChLastHi n, 15, 0⟩
/-- AFE_CAP -/
def afeCap : Nat := 0x08004
def afeCap_nain : Fld := ⟨afeCap, 7, 0⟩
def afeCap_nbsi : Fld := ⟨afeCap, 15, 8⟩
def afeCap_man : Fld := ⟨afeCap, 16, 16⟩
/-- AFE_CTRL -/
def afeCtrl : Nat := 0x08008
def afeCtrl_mod_en : Fld := ⟨afeCtrl, 0, 0⟩
def afeCtrl_mclk_div : Fld := ⟨afeCtrl, 2, 1⟩
/-- AFE_STAT -/
def afeStat : Nat := 0x0800C
def afeStat_mod_ready : Fld := ⟨afeStat, 0, 0⟩
def afeStat_mclk_run : Fld := ⟨afeStat, 1, 1⟩
def afeStat_cklost : Fld := ⟨afeStat, 5, 2⟩
/-- AFE_OW_STAT -/
def afeOwStat : Nat := 0x08040
def afeOwStat_openw : Fld := ⟨afeOwStat, 31, 0⟩
/-- AFE_OVR_STICKY -/
def afeOvrSticky : Nat := 0x08044
def afeOvrSticky_ovr : Fld := ⟨afeOvrSticky, 31, 0⟩
/-- AFE_BSI_OVR_STICKY -/
def afeBsiOvrSticky : Nat := 0x08048
def afeBsiOvrSticky_ovr : Fld := ⟨afeBsiOvrSticky, 31, 0⟩
/-- AFE_BSI_STAT -/
def afeBsiStat : Nat := 0x0804C
def afeBsiStat_lost : Fld := ⟨afeBsiStat, 31, 0⟩
/-- AFE_AIN_CFG -/
def afeAinCfg (n : Nat) : Nat := 0x08100 + 0x4 * n
def afeAinCfg_en (n : Nat) : Fld := ⟨afeAinCfg n, 0, 0⟩
def afeAinCfg_range (n : Nat) : Fld := ⟨afeAinCfg n, 1, 1⟩
def afeAinCfg_ow_mode (n : Nat) : Fld := ⟨afeAinCfg n, 3, 2⟩
def afeAinCfg_ow_per (n : Nat) : Fld := ⟨afeAinCfg n, 7, 4⟩
def afeAinCfg_ow_thr (n : Nat) : Fld := ⟨afeAinCfg n, 15, 8⟩
def afeAinCfg_ow_cnt (n : Nat) : Fld := ⟨afeAinCfg n, 23, 16⟩
/-- AFE_BSI_CFG -/
def afeBsiCfg (n : Nat) : Nat := 0x08180 + 0x4 * n
def afeBsiCfg_en (n : Nat) : Fld := ⟨afeBsiCfg n, 0, 0⟩
def afeBsiCfg_mode (n : Nat) : Fld := ⟨afeBsiCfg n, 2, 1⟩
def afeBsiCfg_inv (n : Nat) : Fld := ⟨afeBsiCfg n, 3, 3⟩
def afeBsiCfg_loc_phase (n : Nat) : Fld := ⟨afeBsiCfg n, 6, 4⟩
def afeBsiCfg_samp_dly (n : Nat) : Fld := ⟨afeBsiCfg n, 15, 8⟩
def afeBsiCfg_ret_dly (n : Nat) : Fld := ⟨afeBsiCfg n, 23, 16⟩
/-- AFE_OW_MEAS: periodic result group of 2 words. -/
def afeOwMeas (n : Nat) : Grp := ⟨0x08200 + 0x8 * n, 2⟩
/-- DFC_CAP -/
def dfcCap : Nat := 0x09004
def dfcCap_nch : Fld := ⟨dfcCap, 7, 0⟩
def dfcCap_nhb : Fld := ⟨dfcCap, 10, 8⟩
def dfcCap_tail : Fld := ⟨dfcCap, 11, 11⟩
def dfcCap_int : Fld := ⟨dfcCap, 12, 12⟩
/-- DFC_CTRL -/
def dfcCtrl : Nat := 0x09008
def dfcCtrl_en : Fld := ⟨dfcCtrl, 0, 0⟩
def dfcCtrl_sync_ball : Fld := ⟨dfcCtrl, 1, 1⟩
def dfcCtrl_align : Fld := ⟨dfcCtrl, 2, 2⟩
/-- DFC_STAT -/
def dfcStat : Nat := 0x0900C
def dfcStat_run : Fld := ⟨dfcStat, 0, 0⟩
def dfcStat_synced : Fld := ⟨dfcStat, 1, 1⟩
def dfcStat_sync_pend : Fld := ⟨dfcStat, 2, 2⟩
def dfcStat_swap_pend : Fld := ⟨dfcStat, 3, 3⟩
def dfcStat_path : Fld := ⟨dfcStat, 10, 8⟩
/-- DFC_HB_SWAP -/
def dfcHbSwap : Nat := 0x09040
def dfcHbSwap_swap : Fld := ⟨dfcHbSwap, 4, 0⟩
/-- DFC_HB_BANK -/
def dfcHbBank : Nat := 0x09044
def dfcHbBank_bank : Fld := ⟨dfcHbBank, 4, 0⟩
/-- DFC_SYNC_CMD -/
def dfcSyncCmd : Nat := 0x09048
def dfcSyncCmd_go : Fld := ⟨dfcSyncCmd, 0, 0⟩
/-- DFC_SYNC_RES: requested result group of 3 words. -/
def dfcSyncRes : Grp := ⟨0x09050, 3⟩
/-- DFC_SAT_STICKY_LO -/
def dfcSatStickyLo : Nat := 0x09060
def dfcSatStickyLo_sat : Fld := ⟨dfcSatStickyLo, 31, 0⟩
/-- DFC_SAT_STICKY_HI -/
def dfcSatStickyHi : Nat := 0x09064
def dfcSatStickyHi_sat : Fld := ⟨dfcSatStickyHi, 31, 0⟩
/-- DFC_CH_SHIFT -/
def dfcChShift (n : Nat) : Nat := 0x09100 + 0x4 * n
def dfcChShift_shifts (n : Nat) : Fld := ⟨dfcChShift n, 31, 0⟩
/-- DFC_CH_INT -/
def dfcChInt (n : Nat) : Nat := 0x09200 + 0x4 * n
def dfcChInt_en (n : Nat) : Fld := ⟨dfcChInt n, 0, 0⟩
def dfcChInt_fc (n : Nat) : Fld := ⟨dfcChInt n, 9, 1⟩
def dfcChInt_ref (n : Nat) : Fld := ⟨dfcChInt n, 22, 10⟩
/-- DFC_HB1_B0 -/
def dfcHb1B0 (n : Nat) : Nat := 0x09400 + 0x4 * n
def dfcHb1B0_h (n : Nat) : Fld := ⟨dfcHb1B0 n, 23, 0⟩
/-- DFC_HB2_B0 -/
def dfcHb2B0 (n : Nat) : Nat := 0x09410 + 0x4 * n
def dfcHb2B0_h (n : Nat) : Fld := ⟨dfcHb2B0 n, 23, 0⟩
/-- DFC_HB3_B0 -/
def dfcHb3B0 (n : Nat) : Nat := 0x09430 + 0x4 * n
def dfcHb3B0_h (n : Nat) : Fld := ⟨dfcHb3B0 n, 23, 0⟩
/-- DFC_HB4_B0 -/
def dfcHb4B0 (n : Nat) : Nat := 0x09470 + 0x4 * n
def dfcHb4B0_h (n : Nat) : Fld := ⟨dfcHb4B0 n, 23, 0⟩
/-- DFC_HB5_B0 -/
def dfcHb5B0 (n : Nat) : Nat := 0x094A0 + 0x4 * n
def dfcHb5B0_h (n : Nat) : Fld := ⟨dfcHb5B0 n, 23, 0⟩
/-- DFC_HB1_B1 -/
def dfcHb1B1 (n : Nat) : Nat := 0x09500 + 0x4 * n
def dfcHb1B1_h (n : Nat) : Fld := ⟨dfcHb1B1 n, 23, 0⟩
/-- DFC_HB2_B1 -/
def dfcHb2B1 (n : Nat) : Nat := 0x09510 + 0x4 * n
def dfcHb2B1_h (n : Nat) : Fld := ⟨dfcHb2B1 n, 23, 0⟩
/-- DFC_HB3_B1 -/
def dfcHb3B1 (n : Nat) : Nat := 0x09530 + 0x4 * n
def dfcHb3B1_h (n : Nat) : Fld := ⟨dfcHb3B1 n, 23, 0⟩
/-- DFC_HB4_B1 -/
def dfcHb4B1 (n : Nat) : Nat := 0x09570 + 0x4 * n
def dfcHb4B1_h (n : Nat) : Fld := ⟨dfcHb4B1 n, 23, 0⟩
/-- DFC_HB5_B1 -/
def dfcHb5B1 (n : Nat) : Nat := 0x095A0 + 0x4 * n
def dfcHb5B1_h (n : Nat) : Fld := ⟨dfcHb5B1 n, 23, 0⟩
/-- GRID_CAP -/
def gridCap : Nat := 0x0A004
def gridCap_nq : Fld := ⟨gridCap, 9, 0⟩
def gridCap_phases : Fld := ⟨gridCap, 13, 10⟩
def gridCap_taps : Fld := ⟨gridCap, 18, 14⟩
/-- GRID_CTRL -/
def gridCtrl : Nat := 0x0A008
def gridCtrl_en : Fld := ⟨gridCtrl, 0, 0⟩
def gridCtrl_force_frz : Fld := ⟨gridCtrl, 1, 1⟩
/-- GRID_STAT -/
def gridStat : Nat := 0x0A00C
def gridStat_run : Fld := ⟨gridStat, 0, 0⟩
def gridStat_trk : Fld := ⟨gridStat, 3, 1⟩
def gridStat_clamp : Fld := ⟨gridStat, 4, 4⟩
def gridStat_stale : Fld := ⟨gridStat, 5, 5⟩
def gridStat_desync : Fld := ⟨gridStat, 6, 6⟩
def gridStat_overcast : Fld := ⟨gridStat, 7, 7⟩
/-- GRID_CFG -/
def gridCfg : Nat := 0x0A040
def gridCfg_mode : Fld := ⟨gridCfg, 2, 0⟩
def gridCfg_nsel : Fld := ⟨gridCfg, 4, 3⟩
def gridCfg_quest_local : Fld := ⟨gridCfg, 5, 5⟩
def gridCfg_fnom : Fld := ⟨gridCfg, 20, 8⟩
/-- GRID_TRK -/
def gridTrk : Nat := 0x0A044
def gridTrk_mode : Fld := ⟨gridTrk, 1, 0⟩
def gridTrk_src_kind : Fld := ⟨gridTrk, 2, 2⟩
def gridTrk_src : Fld := ⟨gridTrk, 12, 3⟩
def gridTrk_gain : Fld := ⟨gridTrk, 14, 13⟩
def gridTrk_slew : Fld := ⟨gridTrk, 23, 16⟩
def gridTrk_trk_mbr : Fld := ⟨gridTrk, 29, 24⟩
/-- GRID_FRZ -/
def gridFrz : Nat := 0x0A048
def gridFrz_vmin : Fld := ⟨gridFrz, 15, 0⟩
def gridFrz_neg : Fld := ⟨gridFrz, 23, 16⟩
def gridFrz_df : Fld := ⟨gridFrz, 31, 24⟩
/-- GRID_FRZ2 -/
def gridFrz2 : Nat := 0x0A04C
def gridFrz2_hold : Fld := ⟨gridFrz2, 7, 0⟩
def gridFrz2_rel_slew : Fld := ⟨gridFrz2, 15, 8⟩
def gridFrz2_frz_max : Fld := ⟨gridFrz2, 23, 16⟩
/-- GRID_FRZ_TL -/
def gridFrzTl : Nat := 0x0A050
def gridFrzTl_tl : Fld := ⟨gridFrzTl, 7, 0⟩
def gridFrzTl_en : Fld := ⟨gridFrzTl, 8, 8⟩
/-- GRID_SEAL -/
def gridSeal : Nat := 0x0A054
def gridSeal_delay : Fld := ⟨gridSeal, 19, 0⟩
/-- GRID_ALIGN_CMD -/
def gridAlignCmd : Nat := 0x0A058
def gridAlignCmd_go : Fld := ⟨gridAlignCmd, 0, 0⟩
/-- GRID_NOW: periodic result group of 6 words. -/
def gridNow : Grp := ⟨0x0A060, 6⟩
/-- GRID_SAT_STICKY_LO -/
def gridSatStickyLo : Nat := 0x0A080
def gridSatStickyLo_sat : Fld := ⟨gridSatStickyLo, 31, 0⟩
/-- GRID_SAT_STICKY_HI -/
def gridSatStickyHi : Nat := 0x0A084
def gridSatStickyHi_sat : Fld := ⟨gridSatStickyHi, 31, 0⟩
/-- GRID_Q_CFG -/
def gridQCfg (n : Nat) : Nat := 0x0A100 + 0x4 * n
def gridQCfg_sub (n : Nat) : Fld := ⟨gridQCfg n, 1, 0⟩
def gridQCfg_test (n : Nat) : Fld := ⟨gridQCfg n, 2, 2⟩
def gridQCfg_hold_max (n : Nat) : Fld := ⟨gridQCfg n, 15, 8⟩
/-- SVS_CAP -/
def svsCap : Nat := 0x0B004
def svsCap_nslot : Fld := ⟨svsCap, 7, 0⟩
def svsCap_nfast : Fld := ⟨svsCap, 11, 8⟩
def svsCap_prp : Fld := ⟨svsCap, 12, 12⟩
def svsCap_hsr : Fld := ⟨svsCap, 13, 13⟩
/-- SVS_CTRL -/
def svsCtrl : Nat := 0x0B008
def svsCtrl_en : Fld := ⟨svsCtrl, 0, 0⟩
def svsCtrl_prp_en : Fld := ⟨svsCtrl, 1, 1⟩
/-- SVS_STAT -/
def svsStat : Nat := 0x0B00C
def svsStat_run : Fld := ⟨svsStat, 0, 0⟩
def svsStat_nact : Fld := ⟨svsStat, 7, 1⟩
def svsStat_nfast : Fld := ⟨svsStat, 11, 8⟩
/-- SVS_LOST_LO -/
def svsLostLo : Nat := 0x0B040
def svsLostLo_slot : Fld := ⟨svsLostLo, 31, 0⟩
/-- SVS_LOST_HI -/
def svsLostHi : Nat := 0x0B044
def svsLostHi_slot : Fld := ⟨svsLostHi, 31, 0⟩
/-- SVS_RX_CNT: periodic result group of 6 words. -/
def svsRxCnt : Grp := ⟨0x0B060, 6⟩
/-- SVS_SL_CFG -/
def svsSlCfg (n : Nat) : Nat := 0x0B100 + 0x10 * n
def svsSlCfg_en (n : Nat) : Fld := ⟨svsSlCfg n, 0, 0⟩
def svsSlCfg_rate (n : Nat) : Fld := ⟨svsSlCfg n, 2, 1⟩
def svsSlCfg_nent (n : Nat) : Fld := ⟨svsSlCfg n, 6, 3⟩
def svsSlCfg_sim (n : Nat) : Fld := ⟨svsSlCfg n, 7, 7⟩
def svsSlCfg_unsync (n : Nat) : Fld := ⟨svsSlCfg n, 8, 8⟩
def svsSlCfg_local_ok (n : Nat) : Fld := ⟨svsSlCfg n, 9, 9⟩
def svsSlCfg_jb (n : Nat) : Fld := ⟨svsSlCfg n, 24, 16⟩
/-- SVS_SL_DMAC -/
def svsSlDmac (n : Nat) : Nat := 0x0B104 + 0x10 * n
def svsSlDmac_dmac_lo (n : Nat) : Fld := ⟨svsSlDmac n, 31, 0⟩
/-- SVS_SL_ADDR -/
def svsSlAddr (n : Nat) : Nat := 0x0B108 + 0x10 * n
def svsSlAddr_dmac_hi (n : Nat) : Fld := ⟨svsSlAddr n, 15, 0⟩
def svsSlAddr_appid (n : Nat) : Fld := ⟨svsSlAddr n, 31, 16⟩
/-- SVS_SL_CONFREV -/
def svsSlConfrev (n : Nat) : Nat := 0x0B10C + 0x10 * n
def svsSlConfrev_confrev (n : Nat) : Fld := ⟨svsSlConfrev n, 31, 0⟩
/-- SVS_SL_ST: periodic result group of 4 words. -/
def svsSlSt (n : Nat) : Grp := ⟨0x0B500 + 0x10 * n, 4⟩
/-- PHE_CAP -/
def pheCap : Nat := 0x0C004
def pheCap_nq : Fld := ⟨pheCap, 9, 0⟩
def pheCap_ngrp : Fld := ⟨pheCap, 17, 10⟩
def pheCap_lanes : Fld := ⟨pheCap, 23, 18⟩
def pheCap_nbin : Fld := ⟨pheCap, 28, 24⟩
/-- PHE_CTRL -/
def pheCtrl : Nat := 0x0C008
def pheCtrl_en : Fld := ⟨pheCtrl, 0, 0⟩
/-- PHE_STAT -/
def pheStat : Nat := 0x0C00C
def pheStat_run : Fld := ⟨pheStat, 0, 0⟩
def pheStat_buf : Fld := ⟨pheStat, 1, 1⟩
def pheStat_late : Fld := ⟨pheStat, 2, 2⟩
/-- PHE_FCFG -/
def pheFcfg : Nat := 0x0C040
def pheFcfg_favg : Fld := ⟨pheFcfg, 3, 0⟩
def pheFcfg_rwin : Fld := ⟨pheFcfg, 11, 4⟩
/-- PHE_COST -/
def pheCost : Nat := 0x0C044
def pheCost_rowcyc : Fld := ⟨pheCost, 12, 0⟩
/-- PHE_TICK: periodic result group of 4 words. -/
def pheTick : Grp := ⟨0x0C060, 4⟩
/-- PHE_Q_CFG -/
def pheQCfg (n : Nat) : Nat := 0x0C100 + 0x4 * n
def pheQCfg_en (n : Nat) : Fld := ⟨pheQCfg n, 0, 0⟩
def pheQCfg_win (n : Nat) : Fld := ⟨pheQCfg n, 1, 1⟩
def pheQCfg_rms (n : Nat) : Fld := ⟨pheQCfg n, 2, 2⟩
def pheQCfg_bins (n : Nat) : Fld := ⟨pheQCfg n, 19, 4⟩
/-- PHE_GRP_CFG -/
def pheGrpCfg (n : Nat) : Nat := 0x0CA00 + 0x8 * n
def pheGrpCfg_qa (n : Nat) : Fld := ⟨pheGrpCfg n, 9, 0⟩
def pheGrpCfg_qb (n : Nat) : Fld := ⟨pheGrpCfg n, 19, 10⟩
def pheGrpCfg_qc (n : Nat) : Fld := ⟨pheGrpCfg n, 29, 20⟩
def pheGrpCfg_rot (n : Nat) : Fld := ⟨pheGrpCfg n, 30, 30⟩
def pheGrpCfg_en (n : Nat) : Fld := ⟨pheGrpCfg n, 31, 31⟩
/-- PHE_GRP_VMIN -/
def pheGrpVmin (n : Nat) : Nat := 0x0CA04 + 0x8 * n
def pheGrpVmin_vmin (n : Nat) : Fld := ⟨pheGrpVmin n, 31, 0⟩
/-- PEA_CAP -/
def peaCap : Nat := 0x0D004
def peaCap_nslot : Fld := ⟨peaCap, 12, 0⟩
def peaCap_npair : Fld := ⟨peaCap, 16, 13⟩
def peaCap_slotb : Fld := ⟨peaCap, 23, 17⟩
/-- PEA_CTRL -/
def peaCtrl : Nat := 0x0D008
def peaCtrl_en : Fld := ⟨peaCtrl, 0, 0⟩
/-- PEA_STAT -/
def peaStat : Nat := 0x0D00C
def peaStat_run : Fld := ⟨peaStat, 0, 0⟩
def peaStat_fault : Fld := ⟨peaStat, 1, 1⟩
def peaStat_fcause : Fld := ⟨peaStat, 4, 2⟩
def peaStat_live_pend : Fld := ⟨peaStat, 5, 5⟩
/-- PEA_TOL -/
def peaTol : Nat := 0x0D040
def peaTol_rel : Fld := ⟨peaTol, 15, 0⟩
/-- PEA_PAIR_LIST -/
def peaPairList (n : Nat) : Nat := 0x0D080 + 0x4 * n
def peaPairList_start (n : Nat) : Fld := ⟨peaPairList n, 11, 0⟩
def peaPairList_count (n : Nat) : Fld := ⟨peaPairList n, 24, 12⟩
/-- PEA_PAIR_PH2 -/
def peaPairPh2 (n : Nat) : Nat := 0x0D0A0 + 0x4 * n
def peaPairPh2_first (n : Nat) : Fld := ⟨peaPairPh2 n, 12, 0⟩
/-- PEA_TICK: periodic result group of 4 words. -/
def peaTick : Grp := ⟨0x0D0C0, 4⟩
/-- PEA_FAULT_INFO: periodic result group of 3 words. -/
def peaFaultInfo : Grp := ⟨0x0D0E0, 3⟩
/-- PEA_PAIR_STAT: periodic result group of 4 words. -/
def peaPairStat (n : Nat) : Grp := ⟨0x0D100 + 0x10 * n, 4⟩
/-- PEA_LIVE_SLOT -/
def peaLiveSlot : Nat := 0x0D300
def peaLiveSlot_slot : Fld := ⟨peaLiveSlot, 11, 0⟩
def peaLiveSlot_flags : Fld := ⟨peaLiveSlot, 23, 16⟩
def peaLiveSlot_qmask : Fld := ⟨peaLiveSlot, 31, 24⟩
def peaLiveSlot_qmask0 : Fld := ⟨peaLiveSlot, 24, 24⟩
/-- PEA_LIVE_DATA -/
def peaLiveData (n : Nat) : Nat := 0x0D320 + 0x4 * n
def peaLiveData_set (n : Nat) : Fld := ⟨peaLiveData n, 31, 0⟩
/-- PEA_LIVE_CMD -/
def peaLiveCmd : Nat := 0x0D340
def peaLiveCmd_go : Fld := ⟨peaLiveCmd, 0, 0⟩
def peaLiveCmd_keep : Fld := ⟨peaLiveCmd, 1, 1⟩
/-- PEA_LIVE_RES: requested result group of 3 words. -/
def peaLiveRes : Grp := ⟨0x0D350, 3⟩
/-- TRM_CAP -/
def trmCap : Nat := 0x0E004
def trmCap_ntl : Fld := ⟨trmCap, 8, 0⟩
def trmCap_nstk : Fld := ⟨trmCap, 15, 9⟩
def trmCap_nfo : Fld := ⟨trmCap, 20, 16⟩
def trmCap_nfb : Fld := ⟨trmCap, 27, 21⟩
/-- TRM_CTRL -/
def trmCtrl : Nat := 0x0E008
def trmCtrl_en : Fld := ⟨trmCtrl, 0, 0⟩
def trmCtrl_test_fab : Fld := ⟨trmCtrl, 1, 1⟩
/-- TRM_STAT -/
def trmStat : Nat := 0x0E00C
def trmStat_run : Fld := ⟨trmStat, 0, 0⟩
def trmStat_fo_gate : Fld := ⟨trmStat, 1, 1⟩
def trmStat_net_gate : Fld := ⟨trmStat, 2, 2⟩
/-- TRM_FO_CMD -/
def trmFoCmd : Nat := 0x0E040
def trmFoCmd_cmd : Fld := ⟨trmFoCmd, 15, 0⟩
/-- TRM_FO_DRV -/
def trmFoDrv : Nat := 0x0E044
def trmFoDrv_drv : Fld := ⟨trmFoDrv, 15, 0⟩
/-- TRM_LATCH_RST -/
def trmLatchRst : Nat := 0x0E048
def trmLatchRst_rst : Fld := ⟨trmLatchRst, 15, 0⟩
/-- TRM_FB_EN_LO -/
def trmFbEnLo : Nat := 0x0E050
def trmFbEnLo_en : Fld := ⟨trmFbEnLo, 31, 0⟩
/-- TRM_FB_EN_HI -/
def trmFbEnHi : Nat := 0x0E054
def trmFbEnHi_en : Fld := ⟨trmFbEnHi, 31, 0⟩
/-- TRM_STK_LIVE_LO -/
def trmStkLiveLo : Nat := 0x0E060
def trmStkLiveLo_stk : Fld := ⟨trmStkLiveLo, 31, 0⟩
/-- TRM_STK_LIVE_HI -/
def trmStkLiveHi : Nat := 0x0E064
def trmStkLiveHi_stk : Fld := ⟨trmStkLiveHi, 31, 0⟩
/-- TRM_STK_STICKY_LO -/
def trmStkStickyLo : Nat := 0x0E068
def trmStkStickyLo_stk : Fld := ⟨trmStkStickyLo, 31, 0⟩
/-- TRM_STK_STICKY_HI -/
def trmStkStickyHi : Nat := 0x0E06C
def trmStkStickyHi_stk : Fld := ⟨trmStkStickyHi, 31, 0⟩
/-- TRM_TL_SNAP: periodic result group of 10 words. -/
def trmTlSnap : Grp := ⟨0x0E080, 10⟩
/-- TRM_FB_SEL -/
def trmFbSel (n : Nat) : Nat := 0x0E0C0 + 0x4 * n
def trmFbSel_tl (n : Nat) : Fld := ⟨trmFbSel n, 31, 0⟩
/-- TRM_FO_CFG -/
def trmFoCfg (n : Nat) : Nat := 0x0E100 + 0x4 * n
def trmFoCfg_en (n : Nat) : Fld := ⟨trmFoCfg n, 0, 0⟩
def trmFoCfg_latch (n : Nat) : Fld := ⟨trmFoCfg n, 1, 1⟩
def trmFoCfg_test_ok (n : Nat) : Fld := ⟨trmFoCfg n, 2, 2⟩
def trmFoCfg_minon (n : Nat) : Fld := ⟨trmFoCfg n, 15, 8⟩
/-- TRM_FO_MAP -/
def trmFoMap (n : Nat) : Nat := 0x0E200 + 0x4 * n
def trmFoMap_sel (n : Nat) : Fld := ⟨trmFoMap n, 31, 0⟩
/-- TRM_STK_CFG -/
def trmStkCfg (n : Nat) : Nat := 0x0E400 + 0x10 * n
def trmStkCfg_en (n : Nat) : Fld := ⟨trmStkCfg n, 0, 0⟩
def trmStkCfg_pol (n : Nat) : Fld := ⟨trmStkCfg n, 2, 1⟩
def trmStkCfg_ovr_exc (n : Nat) : Fld := ⟨trmStkCfg n, 3, 3⟩
def trmStkCfg_evt (n : Nat) : Fld := ⟨trmStkCfg n, 4, 4⟩
def trmStkCfg_cnt (n : Nat) : Fld := ⟨trmStkCfg n, 15, 8⟩
def trmStkCfg_dcnt (n : Nat) : Fld := ⟨trmStkCfg n, 23, 16⟩
def trmStkCfg_dr (n : Nat) : Fld := ⟨trmStkCfg n, 27, 24⟩
/-- TRM_STK_THR -/
def trmStkThr (n : Nat) : Nat := 0x0E404 + 0x10 * n
def trmStkThr_thr (n : Nat) : Fld := ⟨trmStkThr n, 30, 0⟩
/-- TRM_STK_BLK -/
def trmStkBlk (n : Nat) : Nat := 0x0E408 + 0x10 * n
def trmStkBlk_lit (n : Nat) : Fld := ⟨trmStkBlk n, 31, 0⟩
/-- FIO_CAP -/
def fioCap : Nat := 0x0F004
def fioCap_nfi : Fld := ⟨fioCap, 5, 0⟩
def fioCap_nfo : Fld := ⟨fioCap, 10, 6⟩
def fioCap_foh : Fld := ⟨fioCap, 11, 11⟩
/-- FIO_CTRL -/
def fioCtrl : Nat := 0x0F008
def fioCtrl_en : Fld := ⟨fioCtrl, 0, 0⟩
def fioCtrl_foh_en : Fld := ⟨fioCtrl, 1, 1⟩
def fioCtrl_rearm_a : Fld := ⟨fioCtrl, 2, 2⟩
def fioCtrl_rearm_b : Fld := ⟨fioCtrl, 3, 3⟩
/-- FIO_STAT -/
def fioStat : Nat := 0x0F00C
def fioStat_link_a : Fld := ⟨fioStat, 0, 0⟩
def fioStat_link_b : Fld := ⟨fioStat, 1, 1⟩
def fioStat_foh : Fld := ⟨fioStat, 2, 2⟩
def fioStat_vf_low_a : Fld := ⟨fioStat, 3, 3⟩
def fioStat_vf_low_b : Fld := ⟨fioStat, 4, 4⟩
def fioStat_uvlo_a : Fld := ⟨fioStat, 5, 5⟩
def fioStat_uvlo_b : Fld := ⟨fioStat, 6, 6⟩
/-- FIO_FI_STATE -/
def fioFiState : Nat := 0x0F040
def fioFiState_state : Fld := ⟨fioFiState, 31, 0⟩
/-- FIO_FI_RAW -/
def fioFiRaw : Nat := 0x0F044
def fioFiRaw_raw : Fld := ⟨fioFiRaw, 31, 0⟩
/-- FIO_FI_CHG -/
def fioFiChg : Nat := 0x0F048
def fioFiChg_chg : Fld := ⟨fioFiChg, 31, 0⟩
/-- FIO_REARM -/
def fioRearm : Nat := 0x0F04C
def fioRearm_a : Fld := ⟨fioRearm, 0, 0⟩
def fioRearm_b : Fld := ⟨fioRearm, 1, 1⟩
/-- FIO_FO_PIN -/
def fioFoPin : Nat := 0x0F050
def fioFoPin_pin : Fld := ⟨fioFoPin, 15, 0⟩
def fioFoPin_foh : Fld := ⟨fioFoPin, 16, 16⟩
/-- FIO_FO_MISMATCH -/
def fioFoMismatch : Nat := 0x0F054
def fioFoMismatch_mis : Fld := ⟨fioFoMismatch, 15, 0⟩
/-- FIO_TCS_FAIL -/
def fioTcsFail : Nat := 0x0F058
def fioTcsFail_fail : Fld := ⟨fioTcsFail, 15, 0⟩
/-- FIO_OVL_STICKY -/
def fioOvlSticky : Nat := 0x0F05C
def fioOvlSticky_ovl : Fld := ⟨fioOvlSticky, 15, 0⟩
/-- FIO_CLAMP_STICKY -/
def fioClampSticky : Nat := 0x0F060
def fioClampSticky_over : Fld := ⟨fioClampSticky, 15, 0⟩
def fioClampSticky_avg : Fld := ⟨fioClampSticky, 17, 16⟩
/-- FIO_FI_FLT -/
def fioFiFlt (n : Nat) : Nat := 0x0F100 + 0x4 * n
def fioFiFlt_step (n : Nat) : Fld := ⟨fioFiFlt n, 9, 0⟩
def fioFiFlt_inv (n : Nat) : Fld := ⟨fioFiFlt n, 10, 10⟩
def fioFiFlt_evt (n : Nat) : Fld := ⟨fioFiFlt n, 11, 11⟩
def fioFiFlt_on (n : Nat) : Fld := ⟨fioFiFlt n, 19, 12⟩
def fioFiFlt_off (n : Nat) : Fld := ⟨fioFiFlt n, 27, 20⟩
/-- FIO_FO_CFG -/
def fioFoCfg (n : Nat) : Nat := 0x0F180 + 0x4 * n
def fioFoCfg_tcs_en (n : Nat) : Fld := ⟨fioFoCfg n, 0, 0⟩
def fioFoCfg_par (n : Nat) : Fld := ⟨fioFoCfg n, 1, 1⟩
def fioFoCfg_tcs_t (n : Nat) : Fld := ⟨fioFoCfg n, 15, 8⟩
def fioFoCfg_lim_t (n : Nat) : Fld := ⟨fioFoCfg n, 23, 16⟩
def fioFoCfg_retry (n : Nat) : Fld := ⟨fioFoCfg n, 31, 24⟩
/-- FIO_FO_STAT -/
def fioFoStat (n : Nat) : Nat := 0x0F1C0 + 0x4 * n
def fioFoStat_state (n : Nat) : Fld := ⟨fioFoStat n, 2, 0⟩
def fioFoStat_tcs_fail (n : Nat) : Fld := ⟨fioFoStat n, 3, 3⟩
def fioFoStat_pin (n : Nat) : Fld := ⟨fioFoStat n, 4, 4⟩
/-- FIO_FO_DEMAG: periodic result group of 4 words. -/
def fioFoDemag (n : Nat) : Grp := ⟨0x0F200 + 0x10 * n, 4⟩
/-- FIO_GRP_CLAMPAVG: periodic result group of 2 words. -/
def fioGrpClampavg (n : Nat) : Grp := ⟨0x0F300 + 0x8 * n, 2⟩
/-- HKA_CAP -/
def hkaCap : Nat := 0x10004
def hkaCap_nin : Fld := ⟨hkaCap, 5, 0⟩
def hkaCap_fifo : Fld := ⟨hkaCap, 12, 6⟩
/-- HKA_CTRL -/
def hkaCtrl : Nat := 0x10008
def hkaCtrl_en : Fld := ⟨hkaCtrl, 0, 0⟩
def hkaCtrl_go : Fld := ⟨hkaCtrl, 1, 1⟩
def hkaCtrl_cont : Fld := ⟨hkaCtrl, 2, 2⟩
def hkaCtrl_keep_warm : Fld := ⟨hkaCtrl, 3, 3⟩
def hkaCtrl_dma_ch : Fld := ⟨hkaCtrl, 7, 4⟩
def hkaCtrl_period : Fld := ⟨hkaCtrl, 23, 8⟩
/-- HKA_STAT -/
def hkaStat : Nat := 0x1000C
def hkaStat_busy : Fld := ⟨hkaStat, 0, 0⟩
def hkaStat_warm : Fld := ⟨hkaStat, 1, 1⟩
def hkaStat_fifo_ovf : Fld := ⟨hkaStat, 2, 2⟩
def hkaStat_level : Fld := ⟨hkaStat, 9, 3⟩
/-- HKA_SEQ_LEN -/
def hkaSeqLen : Nat := 0x10040
def hkaSeqLen_len : Fld := ⟨hkaSeqLen, 5, 0⟩
/-- HKA_URG -/
def hkaUrg : Nat := 0x10044
def hkaUrg_in : Fld := ⟨hkaUrg, 5, 0⟩
def hkaUrg_go : Fld := ⟨hkaUrg, 8, 8⟩
/-- HKA_FIFO_DATA -/
def hkaFifoData : Nat := 0x10060
def hkaFifoData_result : Fld := ⟨hkaFifoData, 31, 0⟩
/-- HKA_URG_RES: requested result group of 2 words. -/
def hkaUrgRes : Grp := ⟨0x10070, 2⟩
/-- HKA_SEQ -/
def hkaSeq (n : Nat) : Nat := 0x10080 + 0x4 * n
def hkaSeq_in0 (n : Nat) : Fld := ⟨hkaSeq n, 5, 0⟩
def hkaSeq_in1 (n : Nat) : Fld := ⟨hkaSeq n, 13, 8⟩
def hkaSeq_in2 (n : Nat) : Fld := ⟨hkaSeq n, 21, 16⟩
def hkaSeq_in3 (n : Nat) : Fld := ⟨hkaSeq n, 29, 24⟩
/-- HKA_IN: periodic result group of 2 words. -/
def hkaIn (n : Nat) : Grp := ⟨0x10100 + 0x8 * n, 2⟩
/-- LGE_CAP -/
def lgeCap : Nat := 0x11004
def lgeCap_ninst : Fld := ⟨lgeCap, 13, 0⟩
def lgeCap_ntype : Fld := ⟨lgeCap, 19, 14⟩
def lgeCap_nmbr : Fld := ⟨lgeCap, 26, 20⟩
/-- LGE_CTRL -/
def lgeCtrl : Nat := 0x11008
def lgeCtrl_en : Fld := ⟨lgeCtrl, 0, 0⟩
def lgeCtrl_force_en : Fld := ⟨lgeCtrl, 1, 1⟩
/-- LGE_STAT -/
def lgeStat : Nat := 0x1100C
def lgeStat_state : Fld := ⟨lgeStat, 2, 0⟩
def lgeStat_cause : Fld := ⟨lgeStat, 6, 3⟩
def lgeStat_forced : Fld := ⟨lgeStat, 7, 7⟩
def lgeStat_retain_lost : Fld := ⟨lgeStat, 8, 8⟩
def lgeStat_arith : Fld := ⟨lgeStat, 9, 9⟩
def lgeStat_save_busy : Fld := ⟨lgeStat, 10, 10⟩
/-- LGE_WDT -/
def lgeWdt : Nat := 0x11044
def lgeWdt_wdt : Fld := ⟨lgeWdt, 9, 0⟩
/-- LGE_PACE -/
def lgePace : Nat := 0x11048
def lgePace_mincyc : Fld := ⟨lgePace, 15, 0⟩
/-- LGE_SAVE -/
def lgeSave : Nat := 0x1104C
def lgeSave_save_per : Fld := ⟨lgeSave, 9, 0⟩
/-- LGE_CMD -/
def lgeCmd : Nat := 0x11050
def lgeCmd_start : Fld := ⟨lgeCmd, 0, 0⟩
def lgeCmd_stop : Fld := ⟨lgeCmd, 1, 1⟩
def lgeCmd_mode : Fld := ⟨lgeCmd, 2, 2⟩
/-- LGE_CFG -/
def lgeCfg : Nat := 0x11054
def lgeCfg_role : Fld := ⟨lgeCfg, 1, 0⟩
def lgeCfg_master_mbr : Fld := ⟨lgeCfg, 7, 2⟩
def lgeCfg_outsync : Fld := ⟨lgeCfg, 8, 8⟩
def lgeCfg_autostart : Fld := ⟨lgeCfg, 10, 9⟩
/-- LGE_DOM_LO -/
def lgeDomLo : Nat := 0x11058
def lgeDomLo_mbr : Fld := ⟨lgeDomLo, 31, 0⟩
/-- LGE_DOM_HI -/
def lgeDomHi : Nat := 0x1105C
def lgeDomHi_mbr : Fld := ⟨lgeDomHi, 31, 0⟩
/-- LGE_VALID_LO -/
def lgeValidLo : Nat := 0x11060
def lgeValidLo_valid : Fld := ⟨lgeValidLo, 31, 0⟩
/-- LGE_VALID_HI -/
def lgeValidHi : Nat := 0x11064
def lgeValidHi_valid : Fld := ⟨lgeValidHi, 31, 0⟩
/-- LGE_WCET -/
def lgeWcet : Nat := 0x11068
def lgeWcet_wcet : Fld := ⟨lgeWcet, 19, 0⟩
/-- LGE_NOW: periodic result group of 3 words. -/
def lgeNow : Grp := ⟨0x11070, 3⟩
/-- LGE_CYC: periodic result group of 6 words. -/
def lgeCyc : Grp := ⟨0x11080, 6⟩
/-- LGE_STOP_INFO: periodic result group of 4 words. -/
def lgeStopInfo : Grp := ⟨0x110A0, 4⟩
/-- LGE_RETAIN: periodic result group of 4 words. -/
def lgeRetain : Grp := ⟨0x110B0, 4⟩
/-- LGE_FORCE_SYM -/
def lgeForceSym : Nat := 0x110C0
def lgeForceSym_sym : Fld := ⟨lgeForceSym, 31, 0⟩
/-- LGE_FORCE_VAL -/
def lgeForceVal : Nat := 0x110C4
def lgeForceVal_val : Fld := ⟨lgeForceVal, 31, 0⟩
/-- LGE_FORCE_CMD -/
def lgeForceCmd : Nat := 0x110C8
def lgeForceCmd_op : Fld := ⟨lgeForceCmd, 1, 0⟩
/-- LGE_FORCE_RES: requested result group of 3 words. -/
def lgeForceRes : Grp := ⟨0x110D0, 3⟩
/-- LGE_RC_SRC_LO -/
def lgeRcSrcLo : Nat := 0x11100
def lgeRcSrcLo_addr_lo : Fld := ⟨lgeRcSrcLo, 31, 0⟩
/-- LGE_RC_SRC_HI -/
def lgeRcSrcHi : Nat := 0x11104
def lgeRcSrcHi_addr_hi : Fld := ⟨lgeRcSrcHi, 15, 0⟩
/-- LGE_RC_LEN -/
def lgeRcLen : Nat := 0x11108
def lgeRcLen_len : Fld := ⟨lgeRcLen, 22, 0⟩
/-- LGE_RC_CMD -/
def lgeRcCmd : Nat := 0x1110C
def lgeRcCmd_op : Fld := ⟨lgeRcCmd, 2, 0⟩
/-- LGE_RC_LIM -/
def lgeRcLim : Nat := 0x11110
def lgeRcLim_swap_max : Fld := ⟨lgeRcLim, 12, 0⟩
/-- LGE_RC_AT -/
def lgeRcAt : Nat := 0x11114
def lgeRcAt_at : Fld := ⟨lgeRcAt, 31, 0⟩
/-- LGE_RC_STAT -/
def lgeRcStat : Nat := 0x11118
def lgeRcStat_phase : Fld := ⟨lgeRcStat, 2, 0⟩
def lgeRcStat_rb_avail : Fld := ⟨lgeRcStat, 3, 3⟩
def lgeRcStat_gen : Fld := ⟨lgeRcStat, 31, 16⟩
/-- LGE_RC_PREP: requested result group of 6 words. -/
def lgeRcPrep : Grp := ⟨0x11120, 6⟩
/-- LGE_RC_RES: requested result group of 5 words. -/
def lgeRcRes : Grp := ⟨0x11140, 5⟩
/-- EVR_CAP -/
def evrCap : Nat := 0x12004
def evrCap_ring : Fld := ⟨evrCap, 7, 0⟩
def evrCap_jrnl : Fld := ⟨evrCap, 16, 8⟩
/-- EVR_CTRL -/
def evrCtrl : Nat := 0x12008
def evrCtrl_en : Fld := ⟨evrCtrl, 0, 0⟩
def evrCtrl_sq_en : Fld := ⟨evrCtrl, 1, 1⟩
/-- EVR_STAT -/
def evrStat : Nat := 0x1200C
def evrStat_run : Fld := ⟨evrStat, 0, 0⟩
def evrStat_squall : Fld := ⟨evrStat, 1, 1⟩
def evrStat_flushing : Fld := ⟨evrStat, 2, 2⟩
def evrStat_overflow : Fld := ⟨evrStat, 3, 3⟩
def evrStat_restored : Fld := ⟨evrStat, 4, 4⟩
/-- EVR_FLUSH -/
def evrFlush : Nat := 0x12040
def evrFlush_per : Fld := ⟨evrFlush, 15, 0⟩
def evrFlush_thr : Fld := ⟨evrFlush, 31, 16⟩
/-- EVR_SQ -/
def evrSq : Nat := 0x12044
def evrSq_sq_on : Fld := ⟨evrSq, 15, 0⟩
def evrSq_sq_off : Fld := ⟨evrSq, 31, 16⟩
/-- EVR_CURSOR -/
def evrCursor : Nat := 0x12048
def evrCursor_seq : Fld := ⟨evrCursor, 31, 0⟩
/-- EVR_CLR -/
def evrClr : Nat := 0x1204C
def evrClr_op : Fld := ⟨evrClr, 1, 0⟩
def evrClr_key : Fld := ⟨evrClr, 31, 16⟩
/-- EVR_CLRKEY -/
def evrClrkey : Nat := 0x12050
def evrClrkey_key : Fld := ⟨evrClrkey, 15, 0⟩
/-- EVR_USER0 -/
def evrUser0 : Nat := 0x12054
def evrUser0_data0 : Fld := ⟨evrUser0, 31, 0⟩
/-- EVR_USER1 -/
def evrUser1 : Nat := 0x12058
def evrUser1_data1 : Fld := ⟨evrUser1, 31, 0⟩
/-- EVR_POS: periodic result group of 5 words. -/
def evrPos : Grp := ⟨0x12060, 5⟩
/-- EVR_WIN_ST: requested result group of 3 words. -/
def evrWinSt : Grp := ⟨0x12080, 3⟩
/-- EVR_WIN -/
def evrWin (n : Nat) : Nat := 0x12100 + 0x4 * n
def evrWin_w (n : Nat) : Fld := ⟨evrWin n, 31, 0⟩
/-- DRC_CAP -/
def drcCap : Nat := 0x13004
def drcCap_nopen : Fld := ⟨drcCap, 2, 0⟩
def drcCap_nesel : Fld := ⟨drcCap, 9, 3⟩
/-- DRC_CTRL -/
def drcCtrl : Nat := 0x13008
def drcCtrl_en : Fld := ⟨drcCtrl, 0, 0⟩
def drcCtrl_retrig : Fld := ⟨drcCtrl, 1, 1⟩
/-- DRC_STAT -/
def drcStat : Nat := 0x1300C
def drcStat_run : Fld := ⟨drcStat, 0, 0⟩
def drcStat_recording : Fld := ⟨drcStat, 1, 1⟩
def drcStat_committing : Fld := ⟨drcStat, 2, 2⟩
def drcStat_open : Fld := ⟨drcStat, 5, 3⟩
/-- DRC_RING_LO -/
def drcRingLo : Nat := 0x13040
def drcRingLo_base : Fld := ⟨drcRingLo, 31, 0⟩
/-- DRC_RING_HI -/
def drcRingHi : Nat := 0x13044
def drcRingHi_base : Fld := ⟨drcRingHi, 15, 0⟩
/-- DRC_RING_LEN -/
def drcRingLen : Nat := 0x13048
def drcRingLen_len : Fld := ⟨drcRingLen, 13, 0⟩
/-- DRC_CFG -/
def drcCfg : Nat := 0x1304C
def drcCfg_dec : Fld := ⟨drcCfg, 3, 0⟩
def drcCfg_pre : Fld := ⟨drcCfg, 10, 4⟩
def drcCfg_post : Fld := ⟨drcCfg, 20, 11⟩
/-- DRC_CMD -/
def drcCmd : Nat := 0x13050
def drcCmd_trig : Fld := ⟨drcCmd, 0, 0⟩
/-- DRC_TRIG -/
def drcTrig (n : Nat) : Nat := 0x13060 + 0x4 * n
def drcTrig_sel (n : Nat) : Fld := ⟨drcTrig n, 31, 0⟩
/-- DRC_LAST: periodic result group of 6 words. -/
def drcLast : Grp := ⟨0x13080, 6⟩
/-- DRC_ST: periodic result group of 4 words. -/
def drcSt : Grp := ⟨0x130A0, 4⟩
/-- DRC_ESEL -/
def drcEsel (n : Nat) : Nat := 0x13100 + 0x4 * n
def drcEsel_slot0 (n : Nat) : Fld := ⟨drcEsel n, 11, 0⟩
def drcEsel_slot1 (n : Nat) : Fld := ⟨drcEsel n, 27, 16⟩
/-- STO_CAP -/
def stoCap : Nat := 0x14004
def stoCap_maxgb : Fld := ⟨stoCap, 7, 0⟩
def stoCap_dirlog2 : Fld := ⟨stoCap, 12, 8⟩
/-- STO_CTRL -/
def stoCtrl : Nat := 0x14008
def stoCtrl_en : Fld := ⟨stoCtrl, 0, 0⟩
def stoCtrl_wrap : Fld := ⟨stoCtrl, 1, 1⟩
/-- STO_STAT -/
def stoStat : Nat := 0x1400C
def stoStat_ready : Fld := ⟨stoStat, 0, 0⟩
def stoStat_mode : Fld := ⟨stoStat, 2, 1⟩
def stoStat_busy : Fld := ⟨stoStat, 3, 3⟩
def stoStat_full : Fld := ⟨stoStat, 4, 4⟩
/-- STO_CMD -/
def stoCmd : Nat := 0x14040
def stoCmd_op : Fld := ⟨stoCmd, 3, 0⟩
def stoCmd_key : Fld := ⟨stoCmd, 31, 16⟩
/-- STO_REC -/
def stoRec : Nat := 0x14044
def stoRec_rec : Fld := ⟨stoRec, 31, 0⟩
/-- STO_OFS -/
def stoOfs : Nat := 0x14048
def stoOfs_ofs : Fld := ⟨stoOfs, 31, 0⟩
/-- STO_LEN -/
def stoLen : Nat := 0x1404C
def stoLen_len : Fld := ⟨stoLen, 24, 0⟩
/-- STO_DST_LO -/
def stoDstLo : Nat := 0x14050
def stoDstLo_dst : Fld := ⟨stoDstLo, 31, 0⟩
/-- STO_DST_HI -/
def stoDstHi : Nat := 0x14054
def stoDstHi_dst : Fld := ⟨stoDstHi, 15, 0⟩
/-- STO_RES: requested result group of 4 words. -/
def stoRes : Grp := ⟨0x14080, 4⟩
/-- STO_DIR: periodic result group of 5 words. -/
def stoDir : Grp := ⟨0x140A0, 5⟩
/-- STO_CARD: periodic result group of 3 words. -/
def stoCard : Grp := ⟨0x140C0, 3⟩
/-- TIM_CAP -/
def timCap : Nat := 0x15004
def timCap_ndom : Fld := ⟨timCap, 1, 0⟩
def timCap_ports : Fld := ⟨timCap, 5, 2⟩
def timCap_onestep : Fld := ⟨timCap, 6, 6⟩
def timCap_pps : Fld := ⟨timCap, 7, 7⟩
def timCap_xo : Fld := ⟨timCap, 8, 8⟩
/-- TIM_CTRL -/
def timCtrl : Nat := 0x15008
def timCtrl_src : Fld := ⟨timCtrl, 1, 0⟩
def timCtrl_src_mbr : Fld := ⟨timCtrl, 7, 2⟩
def timCtrl_xo_en : Fld := ⟨timCtrl, 8, 8⟩
def timCtrl_ppso_en : Fld := ⟨timCtrl, 9, 9⟩
def timCtrl_ppso_class : Fld := ⟨timCtrl, 10, 10⟩
def timCtrl_ppsi_en : Fld := ⟨timCtrl, 11, 11⟩
/-- TIM_STAT -/
def timStat : Nat := 0x1500C
def timStat_grid : Fld := ⟨timStat, 1, 0⟩
def timStat_wall : Fld := ⟨timStat, 3, 2⟩
def timStat_wall_dom : Fld := ⟨timStat, 4, 4⟩
def timStat_d0 : Fld := ⟨timStat, 7, 5⟩
def timStat_d1 : Fld := ⟨timStat, 10, 8⟩
def timStat_xo_active : Fld := ⟨timStat, 11, 11⟩
def timStat_xo_lost : Fld := ⟨timStat, 12, 12⟩
def timStat_blend : Fld := ⟨timStat, 13, 13⟩
def timStat_fab_ok : Fld := ⟨timStat, 14, 14⟩
/-- TIM_D_CFG -/
def timDCfg (n : Nat) : Nat := 0x15040 + 0x10 * n
def timDCfg_en (n : Nat) : Fld := ⟨timDCfg n, 0, 0⟩
def timDCfg_ports (n : Nat) : Fld := ⟨timDCfg n, 4, 1⟩
def timDCfg_domnum (n : Nat) : Fld := ⟨timDCfg n, 12, 5⟩
def timDCfg_pd_2step (n : Nat) : Fld := ⟨timDCfg n, 13, 13⟩
def timDCfg_ann_to (n : Nat) : Fld := ⟨timDCfg n, 17, 14⟩
def timDCfg_sync_to (n : Nat) : Fld := ⟨timDCfg n, 21, 18⟩
/-- TIM_GRID_CFG -/
def timGridCfg : Nat := 0x15060
def timGridCfg_step_lim : Fld := ⟨timGridCfg, 16, 0⟩
def timGridCfg_ovc_mode : Fld := ⟨timGridCfg, 17, 17⟩
/-- TIM_GRID_CMD -/
def timGridCmd : Nat := 0x15064
def timGridCmd_accept : Fld := ⟨timGridCmd, 0, 0⟩
def timGridCmd_set : Fld := ⟨timGridCmd, 1, 1⟩
/-- TIM_WALL_CFG -/
def timWallCfg : Nat := 0x15068
def timWallCfg_pref : Fld := ⟨timWallCfg, 0, 0⟩
def timWallCfg_revert_en : Fld := ⟨timWallCfg, 1, 1⟩
def timWallCfg_blend : Fld := ⟨timWallCfg, 9, 2⟩
def timWallCfg_revert_t : Fld := ⟨timWallCfg, 17, 10⟩
/-- TIM_WALL_SET_LO -/
def timWallSetLo : Nat := 0x15070
def timWallSetLo_sec_lo : Fld := ⟨timWallSetLo, 31, 0⟩
/-- TIM_WALL_SET_HI -/
def timWallSetHi : Nat := 0x15074
def timWallSetHi_sec_hi : Fld := ⟨timWallSetHi, 15, 0⟩
/-- TIM_WALL_SET_NS -/
def timWallSetNs : Nat := 0x15078
def timWallSetNs_ns : Fld := ⟨timWallSetNs, 29, 0⟩
/-- TIM_WALL_SET_GO -/
def timWallSetGo : Nat := 0x1507C
def timWallSetGo_go : Fld := ⟨timWallSetGo, 0, 0⟩
/-- TIM_SNAP_CMD -/
def timSnapCmd : Nat := 0x15080
def timSnapCmd_go : Fld := ⟨timSnapCmd, 0, 0⟩
/-- TIM_SNAP: requested result group of 8 words. -/
def timSnap : Grp := ⟨0x15090, 8⟩
/-- TIM_PPS_CFG -/
def timPpsCfg : Nat := 0x150B0
def timPpsCfg_ppso_w : Fld := ⟨timPpsCfg, 8, 0⟩
/-- TIM_PPSO_OFS -/
def timPpsoOfs : Nat := 0x150B4
def timPpsoOfs_ofs : Fld := ⟨timPpsoOfs, 31, 0⟩
/-- TIM_PPS_IN: periodic result group of 4 words. -/
def timPpsIn : Grp := ⟨0x150C0, 4⟩
/-- TIM_PORT_DLY -/
def timPortDly (n : Nat) : Nat := 0x150E0 + 0x4 * n
def timPortDly_rx (n : Nat) : Fld := ⟨timPortDly n, 15, 0⟩
def timPortDly_tx (n : Nat) : Fld := ⟨timPortDly n, 31, 16⟩
/-- TIM_PORT_ASYM -/
def timPortAsym (n : Nat) : Nat := 0x150F0 + 0x4 * n
def timPortAsym_asym (n : Nat) : Fld := ⟨timPortAsym n, 31, 0⟩
/-- TIM_D_ST: periodic result group of 7 words. -/
def timDSt (n : Nat) : Grp := ⟨0x15100 + 0x20 * n, 7⟩
/-- TIM_REFUSED: periodic result group of 4 words. -/
def timRefused : Grp := ⟨0x15140, 4⟩
/-- TIM_GRID_ERR: periodic result group of 2 words. -/
def timGridErr : Grp := ⟨0x15150, 2⟩
/-- MAC_CAP -/
def macCap (p : Nat) : Nat := 0x16004 + 0x1000 * p
def macCap_teng (p : Nat) : Fld := ⟨macCap p, 0, 0⟩
def macCap_svsteer (p : Nat) : Fld := ⟨macCap p, 1, 1⟩
def macCap_nrxr (p : Nat) : Fld := ⟨macCap p, 4, 2⟩
def macCap_ntxr (p : Nat) : Fld := ⟨macCap p, 7, 5⟩
/-- MAC_CTRL -/
def macCtrl (p : Nat) : Nat := 0x16008 + 0x1000 * p
def macCtrl_en (p : Nat) : Fld := ⟨macCtrl p, 0, 0⟩
def macCtrl_pad_en (p : Nat) : Fld := ⟨macCtrl p, 1, 1⟩
def macCtrl_ignore_pause (p : Nat) : Fld := ⟨macCtrl p, 2, 2⟩
def macCtrl_promisc (p : Nat) : Fld := ⟨macCtrl p, 3, 3⟩
def macCtrl_allmulti (p : Nat) : Fld := ⟨macCtrl p, 4, 4⟩
def macCtrl_bcast_en (p : Nat) : Fld := ⟨macCtrl p, 5, 5⟩
def macCtrl_speed (p : Nat) : Fld := ⟨macCtrl p, 7, 6⟩
def macCtrl_sgmii (p : Nat) : Fld := ⟨macCtrl p, 8, 8⟩
/-- MAC_STAT -/
def macStat (p : Nat) : Nat := 0x1600C + 0x1000 * p
def macStat_link (p : Nat) : Fld := ⟨macStat p, 0, 0⟩
def macStat_rate (p : Nat) : Fld := ⟨macStat p, 2, 1⟩
def macStat_paused (p : Nat) : Fld := ⟨macStat p, 3, 3⟩
/-- MAC_ADDR_LO -/
def macAddrLo (p : Nat) : Nat := 0x16040 + 0x1000 * p
def macAddrLo_addr (p : Nat) : Fld := ⟨macAddrLo p, 31, 0⟩
/-- MAC_ADDR_HI -/
def macAddrHi (p : Nat) : Nat := 0x16044 + 0x1000 * p
def macAddrHi_addr (p : Nat) : Fld := ⟨macAddrHi p, 15, 0⟩
/-- MAC_MAXLEN -/
def macMaxlen (p : Nat) : Nat := 0x16048 + 0x1000 * p
def macMaxlen_maxlen (p : Nat) : Fld := ⟨macMaxlen p, 13, 0⟩
/-- MAC_STEER -/
def macSteer (p : Nat) : Nat := 0x1604C + 0x1000 * p
def macSteer_sv_ring (p : Nat) : Fld := ⟨macSteer p, 1, 0⟩
def macSteer_goose_ring (p : Nat) : Fld := ⟨macSteer p, 3, 2⟩
def macSteer_ptp_ring (p : Nat) : Fld := ⟨macSteer p, 5, 4⟩
def macSteer_drop_sv (p : Nat) : Fld := ⟨macSteer p, 6, 6⟩
def macSteer_drop_goose (p : Nat) : Fld := ⟨macSteer p, 7, 7⟩
def macSteer_pcpmap (p : Nat) : Fld := ⟨macSteer p, 23, 8⟩
def macSteer_def_pcp (p : Nat) : Fld := ⟨macSteer p, 26, 24⟩
/-- MAC_MCHASH_LO -/
def macMchashLo (p : Nat) : Nat := 0x16050 + 0x1000 * p
def macMchashLo_hash (p : Nat) : Fld := ⟨macMchashLo p, 31, 0⟩
/-- MAC_MCHASH_HI -/
def macMchashHi (p : Nat) : Nat := 0x16054 + 0x1000 * p
def macMchashHi_hash (p : Nat) : Fld := ⟨macMchashHi p, 31, 0⟩
/-- MAC_RING_BASE_LO -/
def macRingBaseLo (p : Nat) (n : Nat) : Nat := 0x16080 + 0x1000 * p + 0x10 * n
def macRingBaseLo_base (p : Nat) (n : Nat) : Fld := ⟨macRingBaseLo p n, 31, 0⟩
/-- MAC_RING_BASE_HI -/
def macRingBaseHi (p : Nat) (n : Nat) : Nat := 0x16084 + 0x1000 * p + 0x10 * n
def macRingBaseHi_base (p : Nat) (n : Nat) : Fld := ⟨macRingBaseHi p n, 15, 0⟩
/-- MAC_RING_CFG -/
def macRingCfg (p : Nat) (n : Nat) : Nat := 0x16088 + 0x1000 * p + 0x10 * n
def macRingCfg_en (p : Nat) (n : Nat) : Fld := ⟨macRingCfg p n, 0, 0⟩
def macRingCfg_log2 (p : Nat) (n : Nat) : Fld := ⟨macRingCfg p n, 4, 1⟩
/-- MAC_RING_IDX -/
def macRingIdx (p : Nat) (n : Nat) : Nat := 0x1608C + 0x1000 * p + 0x10 * n
def macRingIdx_head (p : Nat) (n : Nat) : Fld := ⟨macRingIdx p n, 15, 0⟩
def macRingIdx_tail (p : Nat) (n : Nat) : Fld := ⟨macRingIdx p n, 31, 16⟩
/-- MAC_CNT: periodic result group of 13 words. -/
def macCnt (p : Nat) : Grp := ⟨0x16100 + 0x1000 * p, 13⟩
/-- GOS_CAP -/
def gosCap : Nat := 0x1A004
def gosCap_ngd : Fld := ⟨gosCap, 7, 0⟩
def gosCap_ngs : Fld := ⟨gosCap, 17, 8⟩
def gosCap_ngin : Fld := ⟨gosCap, 28, 18⟩
/-- GOS_CTRL -/
def gosCtrl : Nat := 0x1A008
def gosCtrl_gp_en : Fld := ⟨gosCtrl, 0, 0⟩
def gosCtrl_gs_en : Fld := ⟨gosCtrl, 1, 1⟩
def gosCtrl_svp_en : Fld := ⟨gosCtrl, 2, 2⟩
def gosCtrl_sim : Fld := ⟨gosCtrl, 3, 3⟩
/-- GOS_STAT -/
def gosStat : Nat := 0x1A00C
def gosStat_net_gate : Fld := ⟨gosStat, 0, 0⟩
def gosStat_nstale : Fld := ⟨gosStat, 8, 1⟩
/-- GOS_GS_STALE -/
def gosGsStale (n : Nat) : Nat := 0x1A040 + 0x4 * n
def gosGsStale_stale (n : Nat) : Fld := ⟨gosGsStale n, 31, 0⟩
/-- GOS_GIN_STATE -/
def gosGinState (n : Nat) : Nat := 0x1A080 + 0x4 * n
def gosGinState_val (n : Nat) : Fld := ⟨gosGinState n, 31, 0⟩
/-- GOS_GIN_INV -/
def gosGinInv (n : Nat) : Nat := 0x1A100 + 0x4 * n
def gosGinInv_inv (n : Nat) : Fld := ⟨gosGinInv n, 31, 0⟩
/-- GOS_CNT: periodic result group of 7 words. -/
def gosCnt : Grp := ⟨0x1A180, 7⟩
/-- GOS_SVP_CFG -/
def gosSvpCfg (n : Nat) : Nat := 0x1A200 + 0x10 * n
def gosSvpCfg_en (n : Nat) : Fld := ⟨gosSvpCfg n, 0, 0⟩
def gosSvpCfg_ports (n : Nat) : Fld := ⟨gosSvpCfg n, 2, 1⟩
def gosSvpCfg_rate (n : Nat) : Fld := ⟨gosSvpCfg n, 3, 3⟩
def gosSvpCfg_nasdu (n : Nat) : Fld := ⟨gosSvpCfg n, 7, 4⟩
def gosSvpCfg_pcp (n : Nat) : Fld := ⟨gosSvpCfg n, 10, 8⟩
def gosSvpCfg_tagged (n : Nat) : Fld := ⟨gosSvpCfg n, 11, 11⟩
def gosSvpCfg_vid (n : Nat) : Fld := ⟨gosSvpCfg n, 23, 12⟩
/-- GOS_SVP_DMAC -/
def gosSvpDmac (n : Nat) : Nat := 0x1A204 + 0x10 * n
def gosSvpDmac_dmac_lo (n : Nat) : Fld := ⟨gosSvpDmac n, 31, 0⟩
/-- GOS_SVP_ADDR -/
def gosSvpAddr (n : Nat) : Nat := 0x1A208 + 0x10 * n
def gosSvpAddr_dmac_hi (n : Nat) : Fld := ⟨gosSvpAddr n, 15, 0⟩
def gosSvpAddr_appid (n : Nat) : Fld := ⟨gosSvpAddr n, 31, 16⟩
/-- GOS_SVP_CONFREV -/
def gosSvpConfrev (n : Nat) : Nat := 0x1A20C + 0x10 * n
def gosSvpConfrev_confrev (n : Nat) : Fld := ⟨gosSvpConfrev n, 31, 0⟩
/-- GAL_CAP -/
def galCap : Nat := 0x1B004
def galCap_nport : Fld := ⟨galCap, 2, 0⟩
def galCap_nmbr : Fld := ⟨galCap, 9, 3⟩
def galCap_nfbi : Fld := ⟨galCap, 18, 10⟩
def galCap_nfbo : Fld := ⟨galCap, 25, 19⟩
/-- GAL_CTRL -/
def galCtrl : Nat := 0x1B008
def galCtrl_en : Fld := ⟨galCtrl, 0, 0⟩
def galCtrl_port_en : Fld := ⟨galCtrl, 6, 1⟩
/-- GAL_STAT -/
def galStat : Nat := 0x1B00C
def galStat_id : Fld := ⟨galStat, 5, 0⟩
def galStat_root : Fld := ⟨galStat, 6, 6⟩
def galStat_num : Fld := ⟨galStat, 8, 7⟩
def galStat_up : Fld := ⟨galStat, 14, 9⟩
/-- GAL_SERIAL_LO -/
def galSerialLo : Nat := 0x1B040
def galSerialLo_serial : Fld := ⟨galSerialLo, 31, 0⟩
/-- GAL_SERIAL_HI -/
def galSerialHi : Nat := 0x1B044
def galSerialHi_serial : Fld := ⟨galSerialHi, 31, 0⟩
/-- GAL_MBR_LO -/
def galMbrLo : Nat := 0x1B048
def galMbrLo_mbr : Fld := ⟨galMbrLo, 31, 0⟩
/-- GAL_MBR_HI -/
def galMbrHi : Nat := 0x1B04C
def galMbrHi_mbr : Fld := ⟨galMbrHi, 31, 0⟩
/-- GAL_DEPTH -/
def galDepth : Nat := 0x1B050
def galDepth_depth : Fld := ⟨galDepth, 5, 0⟩
def galDepth_t : Fld := ⟨galDepth, 17, 6⟩
def galDepth_diam : Fld := ⟨galDepth, 23, 18⟩
/-- GAL_TMO -/
def galTmo : Nat := 0x1B054
def galTmo_fbi_to : Fld := ⟨galTmo, 7, 0⟩
def galTmo_bar_to : Fld := ⟨galTmo, 15, 8⟩
/-- GAL_GOP_SET_LO -/
def galGopSetLo : Nat := 0x1B060
def galGopSetLo_set : Fld := ⟨galGopSetLo, 31, 0⟩
/-- GAL_GOP_SET_HI -/
def galGopSetHi : Nat := 0x1B064
def galGopSetHi_set : Fld := ⟨galGopSetHi, 31, 0⟩
/-- GAL_GOP_AT -/
def galGopAt : Nat := 0x1B068
def galGopAt_at : Fld := ⟨galGopAt, 31, 0⟩
/-- GAL_GOP_CMD -/
def galGopCmd : Nat := 0x1B06C
def galGopCmd_op : Fld := ⟨galGopCmd, 2, 0⟩
def galGopCmd_atmode : Fld := ⟨galGopCmd, 4, 3⟩
def galGopCmd_tgt : Fld := ⟨galGopCmd, 10, 8⟩
def galGopCmd_len : Fld := ⟨galGopCmd, 14, 11⟩
/-- GAL_BAR_ARRIVE -/
def galBarArrive : Nat := 0x1B070
def galBarArrive_go : Fld := ⟨galBarArrive, 0, 0⟩
/-- GAL_GOP_DATA -/
def galGopData (n : Nat) : Nat := 0x1B080 + 0x4 * n
def galGopData_data (n : Nat) : Fld := ⟨galGopData n, 31, 0⟩
/-- GAL_GOP_RES: requested result group of 5 words. -/
def galGopRes : Grp := ⟨0x1B0C0, 5⟩
/-- GAL_BCAST_RX: periodic result group of 16 words. -/
def galBcastRx : Grp := ⟨0x1B100, 16⟩
/-- GAL_SNAP: periodic result group of 13 words. -/
def galSnap : Grp := ⟨0x1B140, 13⟩
/-- GAL_PORT_ST: periodic result group of 4 words. -/
def galPortSt (n : Nat) : Grp := ⟨0x1B180 + 0x10 * n, 4⟩
/-- GAL_RT -/
def galRt (n : Nat) : Nat := 0x1B200 + 0x4 * n
def galRt_port0 (n : Nat) : Fld := ⟨galRt n, 2, 0⟩
def galRt_hops0 (n : Nat) : Fld := ⟨galRt n, 8, 3⟩
def galRt_port1 (n : Nat) : Fld := ⟨galRt n, 18, 16⟩
def galRt_hops1 (n : Nat) : Fld := ⟨galRt n, 24, 19⟩
/-- GAL_FBI_STATE -/
def galFbiState (n : Nat) : Nat := 0x1B300 + 0x4 * n
def galFbiState_val (n : Nat) : Fld := ⟨galFbiState n, 31, 0⟩
/-- GAL_FBI_INV -/
def galFbiInv (n : Nat) : Nat := 0x1B320 + 0x4 * n
def galFbiInv_inv (n : Nat) : Fld := ⟨galFbiInv n, 31, 0⟩
/-- GAL_FBI -/
def galFbi (n : Nat) : Nat := 0x1B400 + 0x4 * n
def galFbi_src_mbr (n : Nat) : Fld := ⟨galFbi n, 5, 0⟩
def galFbi_src_bit (n : Nat) : Fld := ⟨galFbi n, 11, 6⟩
def galFbi_en (n : Nat) : Fld := ⟨galFbi n, 12, 12⟩
/-- DUP_CAP -/
def dupCap : Nat := 0x1C004
def dupCap_nset : Fld := ⟨dupCap, 3, 0⟩
def dupCap_npc : Fld := ⟨dupCap, 10, 4⟩
def dupCap_nic : Fld := ⟨dupCap, 17, 11⟩
/-- DUP_CTRL -/
def dupCtrl : Nat := 0x1C008
def dupCtrl_cum_en : Fld := ⟨dupCtrl, 0, 0⟩
/-- DUP_STAT -/
def dupStat : Nat := 0x1C00C
def dupStat_auth : Fld := ⟨dupStat, 3, 0⟩
def dupStat_formed : Fld := ⟨dupStat, 4, 4⟩
def dupStat_mismatch : Fld := ⟨dupStat, 5, 5⟩
def dupStat_silent : Fld := ⟨dupStat, 6, 6⟩
def dupStat_shadow_ok : Fld := ⟨dupStat, 7, 7⟩
def dupStat_joined : Fld := ⟨dupStat, 15, 8⟩
/-- DUP_CFG -/
def dupCfg : Nat := 0x1C040
def dupCfg_paired : Fld := ⟨dupCfg, 0, 0⟩
def dupCfg_partner : Fld := ⟨dupCfg, 6, 1⟩
def dupCfg_policy : Fld := ⟨dupCfg, 8, 7⟩
/-- DUP_HMASK -/
def dupHmask (n : Nat) : Nat := 0x1C060 + 0x4 * n
def dupHmask_mask (n : Nat) : Fld := ⟨dupHmask n, 31, 0⟩
/-- DUP_CMD -/
def dupCmd : Nat := 0x1C080
def dupCmd_handover : Fld := ⟨dupCmd, 0, 0⟩
def dupCmd_clear_unfit : Fld := ⟨dupCmd, 1, 1⟩
/-- CUM_CMD -/
def cumCmd : Nat := 0x1C0A0
def cumCmd_set : Fld := ⟨cumCmd, 2, 0⟩
def cumCmd_op : Fld := ⟨cumCmd, 3, 3⟩
def cumCmd_mbr : Fld := ⟨cumCmd, 9, 4⟩
def cumCmd_go : Fld := ⟨cumCmd, 10, 10⟩
/-- CUM_AT -/
def cumAt : Nat := 0x1C0A4
def cumAt_row : Fld := ⟨cumAt, 31, 0⟩
/-- CUM_CMD_RES: requested result group of 3 words. -/
def cumCmdRes : Grp := ⟨0x1C0B0, 3⟩
/-- CUM_SET_EXP_LO -/
def cumSetExpLo (n : Nat) : Nat := 0x1C0C0 + 0x8 * n
def cumSetExpLo_mbr (n : Nat) : Fld := ⟨cumSetExpLo n, 31, 0⟩
/-- CUM_SET_EXP_HI -/
def cumSetExpHi (n : Nat) : Nat := 0x1C0C4 + 0x8 * n
def cumSetExpHi_mbr (n : Nat) : Fld := ⟨cumSetExpHi n, 31, 0⟩
/-- CUM_SET_ST: periodic result group of 4 words. -/
def cumSetSt (n : Nat) : Grp := ⟨0x1C100 + 0x10 * n, 4⟩
/-- DUP_HASH: periodic result group of 4 words. -/
def dupHash : Grp := ⟨0x1C200, 4⟩
/-- DUP_SHADOW: periodic result group of 3 words. -/
def dupShadow : Grp := ⟨0x1C220, 3⟩
/-- DUP_TAKE: periodic result group of 4 words. -/
def dupTake : Grp := ⟨0x1C240, 4⟩
/-- PCI_LINK -/
def pciLink : Nat := 0x1D040
def pciLink_speed : Fld := ⟨pciLink, 3, 0⟩
def pciLink_width : Fld := ⟨pciLink, 7, 4⟩
def pciLink_up : Fld := ⟨pciLink, 8, 8⟩
def pciLink_root : Fld := ⟨pciLink, 9, 9⟩
/-- PCI_MSIX -/
def pciMsix (n : Nat) : Nat := 0x1D400 + 0x4 * n
def pciMsix_entry (n : Nat) : Fld := ⟨pciMsix n, 31, 0⟩
/-- PCI_PBA -/
def pciPba (n : Nat) : Nat := 0x1D800 + 0x4 * n
def pciPba_pba (n : Nat) : Fld := ⟨pciPba n, 31, 0⟩

end Sys2Proof.Machine.R
end

