-- ==== Sys2Proof/Machine/StateCommon.lean ====
section
/-! DEFINITION. State every page shares (chapter 02): the page header, the PCIe endpoint, and the record of what the device
has sent out. -/

namespace Sys2Proof.Machine

/-- LOCK.STATE (R44, R46). -/
inductive LockState where
  | locked | armed | unlocked
  deriving DecidableEq, Repr

/-- The header registers of one page that are not fixed (R44). CTRL and STAT are in the register store. -/
structure PageHdr where
  /-- R46: LOCK.STATE. -/
  lock : LockState := .locked
  /-- R44: IRQ_EN. -/
  irqEn : Word := 0
  /-- R44: IRQ_PEND. -/
  irqPend : Word := 0
  /-- R48: ERR.CODE. -/
  errCode : BitVec 16 := 0
  /-- R48: ERR.MASTER. -/
  errMaster : BitVec 4 := 0
  /-- R48: ERR.MORE. -/
  errMore : Bool := false
  /-- R44: SEQ.COUNT. -/
  seq : Word := 0
  deriving DecidableEq, Repr

/-- A remote access in flight (R37, R267). -/
structure RemoteReq where
  tag : Nat := 0
  member : Nat := 0
  addr : Nat := 0
  write : Bool := false
  len : Nat := 0
  deriving DecidableEq, Repr

/-- The PCIe endpoint (R32 to R34, R55, R56). The pending bits are PCI_PBA, the SENT states SYS_IRQ_VSTAT, the link state
PCI_LINK. -/
structure HostState where
  /-- R345: PERST# holds the endpoint in reset. -/
  perst : Bool := true
  /-- R34: the function is in D3hot. -/
  d3hot : Bool := false
  /-- R34: the Bus Master Enable bit. -/
  busMaster : Bool := false
  /-- R55: MSI-X Enable. -/
  msixEn : Bool := false
  /-- R55: MSI-X Function Mask. -/
  funcMask : Bool := false
  /-- R56: the OR of enabled sources for which a forward message has been sent. -/
  fwdOr : Bool := false
  /-- R267: remote accesses that wait for an answer, oldest first. -/
  remote : List RemoteReq := []
  /-- R267: accesses whose 40 µs ran out; a late answer to one is discarded. -/
  late : List Nat := []
  /-- The next tag for a remote access (the model's own field). -/
  nextTag : Nat := 0
  deriving DecidableEq, Repr

/-- What the device has sent or driven outward, in order (the model's own record; no rule reads it back). -/
inductive Emit where
  /-- R55: an MSI-X message on vector v. -/
  | msix (v : Nat)
  /-- R56: a forward message to the root. -/
  | forward
  /-- An answer to a read: master, device address, bytes. -/
  | readData (m : Nat) (addr : Nat) (data : List Byte)
  /-- R37, R267: an access sent to a remote member. -/
  | remoteReq (tag : Nat) (member : Nat) (addr : Nat) (write : Bool) (data : List Byte)
  /-- R267: the answer to an access of member `m`: the bytes of a read, none for a write. -/
  | remoteAnswer (m : Nat) (addr : Nat) (data : List Byte)
  /-- R255: this member's wall and grid time in 2^-32 ns, and both states. -/
  | timeMsg (wall grid wallSt gridSt : Nat)
  /-- R260: this side's part of a delay measurement on port p. -/
  | delayMeas (p : Nat)
  /-- R98: an INC broadcast: the row at which it applies and the increment. -/
  | trackInc (row : Nat) (inc : Nat)
  /-- R98: an ALIGN broadcast a source sends at a follower's request: row, increment, grid instant. -/
  | align (row : Nat) (inc : Nat) (instant : Nat)
  /-- R98: a follower asks its source for an ALIGN. -/
  | alignReq (member : Nat)
  /-- R268: this member's 64 fabric output bits after the NET gate. -/
  | fabricBits (bits : Nat)
  /-- R287: a shadow frame: FO_DRV, latches, remaining MINON of each output in ms. -/
  | shadow (drv latch : Nat) (minon : List Nat)
  /-- R288: a trip-vector hash. -/
  | tripHash (row : Nat) (hash : Word)
  /-- R282: a pairing frame: digest, profile, AUTH. -/
  | pairing (digest : List Word) (profile auth : Nat)
  /-- R283: a heartbeat pulse on HB. -/
  | hbPulse
  /-- R263: this member's link state, or one that it floods on: origin, number, links. -/
  | linkState (origin seq : Nat) (links : List (Nat × Nat))
  /-- R258: a negative acknowledgement on port p. -/
  | nak (p : Nat)
  /-- R269: a global operation: origin, number, set, operation, targets, ATMODE, instant, payload. -/
  | gop (origin seq set op tgt atMode at_ : Nat) (data : List Word)
  /-- R269: an answer to a global operation: origin, number; LATE where true. -/
  | gopAck (origin seq : Nat) (late : Bool)
  /-- R271: this member's arrival at a barrier, or the origin's release. -/
  | barrier (origin seq : Nat) (release : Bool)
  /-- R277: contributions or partial sums toward the origin: set, row, first place, channels (two parts, quality, mask). -/
  | cumFrame (set row first : Nat) (chans : List (BitVec 64 × BitVec 64 × Nat × Nat))
  /-- R277: totals down the tree: set, row, channels (two parts and a status word). -/
  | cumTotals (set row : Nat) (chans : List (Word × Word × Word))
  /-- R279: DHASH sent to an origin. -/
  | cumJoin (set : Nat) (hash : Word)
  /-- R226, R240: the master's snapshot command with its generation. -/
  | logicSnap (gen : Nat)
  /-- R226: an input image toward the master. -/
  | logicImage (master : Nat) (bytes : List Byte)
  /-- R226, R233: a member's output slice with its forced flag. -/
  | logicSlice (m : Nat) (bytes : List Byte) (forced : Bool)
  /-- R228: a STOP to the domain. -/
  | logicStop (cause : Nat)
  /-- R235: a remote member's new selections and safe slice, for a generation. -/
  | logicMap (m gen : Nat) (map : LIomap) (safe : List Byte)
  /-- R235: a remote member acknowledges them. -/
  | logicMapAck (gen : Nat)
  /-- R297: a frame of a hardware function starts on port p. -/
  | frame (p : Nat) (f : TxItem)
  deriving DecidableEq, Repr

end Sys2Proof.Machine
end

