-- ==== Sys2Proof/Machine/StateDma.lean ====
section
/-! DEFINITION. State of the SRAM banks and of the DMA that no register shows (chapter 20). -/

namespace Sys2Proof.Machine

/-- A march test that runs (R333, R334). -/
structure MarchRun where
  banks : List Nat := []
  transparent : Bool := false
  deriving DecidableEq, Repr

/-- The banks. -/
structure SramState where
  /-- R332: operands, by bank × 16 + master ID. -/
  operand : Table (BitVec 64) := []
  /-- R329: addresses of 64-bit words that hold a double-bit error. -/
  poison : List Nat := []
  march : Option MarchRun := none
  deriving DecidableEq, Repr

/-- One DMA channel (R337 to R341). DMA_CHn_STAT holds its state. -/
structure DmaChan where
  /-- The current descriptor. -/
  desc : Nat := 0
  /-- Words 0 to 13 as read at its start, none before. -/
  words : Option (List Word) := none
  /-- Elements moved. -/
  moved : Nat := 0
  /-- CODE of a failure, 0 for none. -/
  code : Nat := 0
  /-- The copy runs from the last element to the first (R340). -/
  backward : Bool := false
  /-- OVLP (R340). -/
  ovlp : Bool := false
  deriving DecidableEq, Repr

/-- The DMA. -/
structure DmaState where
  ch : Table DmaChan := []
  deriving DecidableEq, Repr

end Sys2Proof.Machine
end

