-- ==== Sys2Proof/Machine/StateFabric.lean ====
section
/-! DEFINITION. State of the Galer fabric (chapter 16) that no register shows. -/

namespace Sys2Proof.Machine

/-- Port states (R259). -/
inductive PortRun where
  | down | train | up | fault
  deriving DecidableEq, Repr

/-- A frame of a port (R266): its class, its payload in bytes, what it carries, and which part of it. -/
structure PortFrame where
  cls : Nat := 0
  bytes : Nat := 0
  what : Emit := .forward
  part : Nat := 0
  deriving DecidableEq, Repr

/-- One fabric port (R258 to R260). -/
structure GalPort where
  st : PortRun := .down
  /-- The neighbour's serial number, ID and port, from its HELLO. -/
  nSerial : BitVec 64 := 0
  nId : Nat := 63
  nPort : Nat := 0
  hello : Bool := false
  /-- The HELLO of a self-loop sent the port to FAULT. -/
  selfLoop : Bool := false
  crc : Nat := 0
  /-- TIME ticks of the CRC errors of the last millisecond. -/
  crcMs : List Nat := []
  replay : Nat := 0
  /-- One-way delay in 0.1 ns. -/
  delay : Nat := 0
  /-- R266: frames that wait, oldest first; the frame on the wire with the 4 ns ticks it still takes; bytes that classes 0 to 2 have sent
  while a class 3 frame waited. -/
  queue : List PortFrame := []
  wire : Option (PortFrame × Nat) := none
  owed : Nat := 0
  deriving DecidableEq, Repr

/-- A link-state record (R263): origin, sequence number, and its links: port, neighbour. -/
structure LinkState where
  origin : Nat := 0
  seq : Nat := 0
  links : List (Nat × Nat) := []
  deriving DecidableEq, Repr

/-- A global operation at its origin (R269 to R272). -/
structure Gop where
  op : Nat := 0
  seq : Nat := 0
  /-- Members of the set, those that have acknowledged, those that answered LATE. -/
  set : Nat := 0
  acked : Nat := 0
  late : Nat := 0
  data : List Word := []
  tgt : Nat := 0
  atMode : Nat := 0
  at_ : Nat := 0
  /-- GAL_MBR at issue. -/
  reach : Nat := 0
  /-- TIME tick of issue. -/
  issued : Nat := 0
  deriving DecidableEq, Repr

/-- A scheduled operation that has been delivered here and waits for its instant (R270). -/
structure GopDue where
  op : Nat := 0
  origin : Nat := 0
  seq : Nat := 0
  tgt : Nat := 0
  atMode : Nat := 0
  at_ : Nat := 0
  deriving DecidableEq, Repr

/-- The fabric. -/
structure GalState where
  port : Table GalPort := []
  /-- R263: the newest link state of every member. -/
  links : List LinkState := []
  seq : Nat := 0
  /-- R261: the ID stored in the image, none where it stores none. -/
  stored : Option Nat := none
  /-- R261: the member has lost the root role since its reset. -/
  lostRoot : Bool := false
  /-- R262: serial number of the root the fabric has had. -/
  rootSerial : Option (BitVec 64) := none
  /-- R266: how much of State.out has been given to the ports. -/
  taken : Nat := 0
  /-- R264: a change of link state whose routes are not in use yet. -/
  changed : Bool := false
  /-- R268: the newest bits of each source. -/
  src : Table (Option Nat) := []
  fbi : Table GinBit := []
  /-- R268: bits last sent. -/
  sent : Nat := 0
  /-- The operation this member has issued, and its number. -/
  gop : Option Gop := none
  gopSeq : Nat := 0
  due : List GopDue := []
  /-- R271: an arrival that precedes the barrier message is held, one per member. -/
  arrived : Bool := false
  /-- R271: barriers delivered here and not released, oldest first: origin, number, and whether this member has arrived. -/
  barriers : List (Nat × Nat × Bool) := []
  deriving DecidableEq, Repr

end Sys2Proof.Machine
end

