-- ==== Sys2Proof/Machine/StateField.lean ====
section
/-! DEFINITION. State of the field inputs and outputs and of the housekeeping ADC (chapter 12) that no register shows. -/

namespace Sys2Proof.Machine

/-- One field input's filter (R203, R204). -/
structure FiFilter where
  /-- The count C. -/
  c : Nat := 0
  /-- ON as the filter applies it. -/
  on : Nat := 10
  deriving DecidableEq, Repr

/-- One field output (R205 to R210). FIO_FOk_STAT holds its state. -/
structure FoChan where
  /-- The FO_DRV bit of the last frame sent. -/
  sent : Bool := false
  /-- 10 mA or more flows. -/
  load : Bool := false
  /-- R207: thermal shutdown, until the junction has cooled. -/
  hot : Bool := false
  /-- Clamp energy since the turn-off, in 10 µJ. -/
  energy : Nat := 0
  /-- R209: clamp events since member reset. -/
  events : Nat := 0
  deriving DecidableEq, Repr

/-- Field I/O. Group and die 0 is A, 1 is B. -/
structure FioState where
  fi : Table FiFilter := []
  /-- R203: EN has been set, so step boundaries come. -/
  stepping : Bool := false
  fo : Table FoChan := []
  /-- R211: VF has been at 19.0 V or more for 10 ms since UVLO. -/
  recovered : Table Bool := []
  /-- R211: the recovery timer runs. -/
  timing : Table Bool := []
  /-- R212: FOH is held off from below 14.0 V until VF_A reaches 19.0 V. -/
  fohLow : Bool := false
  /-- R209: clamp events of each group in the last 10 s: TIME tick and energy in 10 µJ. -/
  clamps : Table (List (Nat × Nat)) := []
  deriving DecidableEq, Repr

/-- What the converter is doing (R215, R217). -/
inductive HkaRun where
  | idle
  /-- A conversion of entry `i` of the sequence. -/
  | seq (i : Nat)
  | urgent (input : Nat)
  deriving DecidableEq, Repr

/-- The housekeeping ADC. -/
structure HkaState where
  fifo : List Word := []
  run : HkaRun := .idle
  /-- The 5 µs wait of a cold converter runs. -/
  warming : Bool := false
  /-- The next entry of the running pass, none between passes. -/
  next : Option Nat := none
  urg : Option Nat := none
  /-- R217: codes of TS0 to TS7 from the AON island's own conversions, and how many it has taken. -/
  temps : Table Nat := []
  samples : Nat := 0
  deriving DecidableEq, Repr

end Sys2Proof.Machine
end

