-- ==== Sys2Proof/Machine/StateProtect.lean ====
section
/-! DEFINITION. State of the protection side that no register shows: the element array (chapter 08), the trip matrix (chapter
11), the Cumulus sums and the duplex pair (chapter 17). -/

namespace Sys2Proof.Machine

/-- A live setting change that has been accepted (R152). -/
structure LiveChange where
  slot : Nat := 0
  flags : Nat := 0
  qmask : Nat := 1
  set : List Word := []
  keep : Bool := false
  /-- Grid time (ns) of the GO write. -/
  time : Nat := 0
  deriving DecidableEq, Repr

/-- One diverse pair in the running tick (R145, R147). -/
structure PairRun where
  /-- Phase 1 has been evaluated. -/
  ph1 : Bool := false
  /-- Phase 2 has been evaluated. -/
  ph2 : Bool := false
  /-- The crucible commit has ended. -/
  finished : Bool := false
  /-- CORE cycles used in the tick. -/
  cycles : Nat := 0
  /-- The most cycles in a tick of the interval. -/
  cycMax : Nat := 0
  /-- Tolerated disagreements and single-tick analog misses of the interval. -/
  softDec : Nat := 0
  softAna : Nat := 0
  deriving DecidableEq, Repr

/-- The element array (chapter 08). -/
structure PeaState where
  /-- R142: the committed byte of every slot. -/
  committed : Table Nat := []
  /-- R145: the byte every slot has in the running tick. -/
  work : Table Nat := []
  /-- R143: consecutive quality-blocked ticks of every slot. -/
  qHold : Table Nat := []
  /-- R149: consecutive ticks with a tolerated disagreement on a slot. -/
  tolerated : Table Nat := []
  /-- R148: the slot's last compared tick had a compared value that did not agree. -/
  anaMiss : Table Bool := []
  /-- R19: the tick row being processed. -/
  tick : Option Nat := none
  /-- R155: TSTAMP32 of the previous tick row, none where Δt is to be 0. -/
  lastTick : Option Word := none
  /-- R155: Δt of the running tick in 4 ns units. -/
  dt : Nat := 0
  /-- R137: the PHE gives results in the running tick. -/
  inputs : Bool := false
  /-- R148: REL as the running tick takes it. -/
  rel : Nat := 0x0690
  /-- R168: engine B's θ of every THERM slot, Q4.36. -/
  thetaB : Table Int := []
  /-- Pairs 0 to 7. -/
  pair : Table PairRun := []
  /-- R150: faults of the running tick: pair, list place, slot, cause. -/
  faults : List (Nat × Nat × Nat × Nat) := []
  /-- R150: faults counted since member reset. -/
  faultCount : Nat := 0
  /-- R152: the pending live change. -/
  live : Option LiveChange := none
  /-- R152: the live change applied in the running tick: slot, SETVER, ROW. -/
  liveDone : Option (Nat × Nat × Nat) := none
  /-- R141: trip lines at the end of the last pass before the row seal, and field inputs at the seal. -/
  tlSeal : Nat := 0
  finSeal : Word := 0
  deriving DecidableEq, Repr

/-- One strike comparator (R197, R198). -/
structure StrikeState where
  on : Bool := false
  /-- Consecutive exceeding samples, and consecutive clearing samples. -/
  cnt : Nat := 0
  dcnt : Nat := 0
  /-- The block bit as the comparator applies it. -/
  blk : Bool := false
  deriving DecidableEq, Repr

/-- The trip matrix (chapter 11). -/
structure TrmState where
  /-- TL0 to TL255 at the end of the last pass, bit l for TLl. -/
  lines : Nat := 0
  /-- R194: the lines that carry TEST. -/
  test : Nat := 0
  /-- R190: the lines whose value is undefined. -/
  undef : Nat := 0
  /-- R195: latched outputs. -/
  latch : Nat := 0
  /-- R195: latch resets that the next pass judges. -/
  latchRst : Nat := 0
  /-- R195: for each output in its least on-time, the TIME tick at which that time ends. -/
  minon : Table (Option Nat) := []
  /-- R195: fabric output bits before the NET gate. -/
  fb : Nat := 0
  /-- R197: LC0 to LC63. -/
  strike : Table StrikeState := []
  /-- R27, R385: a pass is due. -/
  request : Bool := false
  /-- R288: ROW of an output commit whose first pass has not run. -/
  hashRow : Option Nat := none
  /-- R288: DUP_HMASK0 to 7 as that commit took them. -/
  hashMask : List Word := []
  /-- R200: a literal in use read FAILV in the last pass. -/
  failsrc : Bool := false
  /-- R287: bits ORed into FO_CMD until the first output commit after a takeover. -/
  shadowOr : Nat := 0
  /-- R352: a configuration load holds the gates closed. -/
  loading : Bool := false
  deriving DecidableEq, Repr

/-- The partner's shadow vector (R287). -/
structure Shadow where
  drv : Nat := 0
  latch : Nat := 0
  /-- Remaining MINON of FO0 to FO15 in ms. -/
  minon : List Nat := []
  /-- TIME tick of receipt. -/
  at_ : Nat := 0
  deriving DecidableEq, Repr

/-- What the partner's last pairing frame says (R282). -/
structure Partner where
  digest : List Word := []
  profile : Nat := 0
  auth : Nat := 0
  deriving DecidableEq, Repr

/-- One channel of a Cumulus set in the running tick (R277): binary64 parts, the OR of the quality bytes, contributors; `open_`
where a partial sum held an excluded member's share that it does not separate (R280). -/
structure CumChan where
  re : BitVec 64 := 0
  im : BitVec 64 := 0
  qual : Nat := 0
  mask : Nat := 0
  open_ : Bool := false
  deriving DecidableEq, Repr

/-- A Cumulus set in the running tick and over its interval (R277 to R281). -/
structure CumSet where
  /-- R280: members excluded, on the origin and ALT. -/
  excluded : Nat := 0
  /-- R280: the origin role has moved to ALT. -/
  moved : Bool := false
  /-- R277: the tick row whose sums are held, and the TIME tick of its seal. -/
  row : Nat := 0
  start : Nat := 0
  /-- Channels by place: phasor channels, then instantaneous channels. -/
  chans : Table CumChan := []
  /-- R277: the member has forwarded its partial sum for the tick, or sent the totals as origin. -/
  sent : Bool := true
  /-- R277: totals have been written, or the return bound has passed, for the tick. -/
  returned : Bool := true
  /-- R279: the last totals carried MISSING, LATE or DOUBLE. -/
  bad : Bool := false
  /-- Interval counts. -/
  missing : Nat := 0
  late : Nat := 0
  retMax : Nat := 0
  discard : Nat := 0
  deep : Bool := false
  deriving DecidableEq, Repr

/-- A change of member set that waits for its row (R280). -/
structure CumChange where
  set : Nat := 0
  include_ : Bool := false
  mbr : Nat := 0
  row : Nat := 0
  deriving DecidableEq, Repr

/-- This member's own member-set command (R280): its operation number, set and row, and the answers of its own delivery. -/
structure CumCmd where
  seq : Nat := 0
  set : Nat := 0
  row : Nat := 0
  acked : Nat := 0
  late : Nat := 0
  deriving DecidableEq, Repr

/-- Cumulus sets and the duplex pair (chapter 17). DUP STAT.AUTH is in the register store. -/
structure DupState where
  set : Table CumSet := []
  changes : List CumChange := []
  /-- R280: this member's own command until origin and ALT have answered. -/
  cmd : Option CumCmd := none
  /-- R282: the partner's last frame, none while absent. -/
  partner : Option Partner := none
  /-- R283: AUTH_IN through the synchroniser. -/
  authIn : Bool := false
  /-- R283: AUTH_OUT. -/
  authOut : Bool := false
  /-- R284: the latches, and whether a CONTEND was entered from ACTIVE. -/
  unfit : Bool := false
  contend : Bool := false
  contendActive : Bool := false
  /-- R285: collisions since GUARD. -/
  collisions : Nat := 0
  /-- R285: GUARD was entered after a relinquish. -/
  relinquished : Bool := false
  /-- TIME tick at which the present state was entered. -/
  entered : Nat := 0
  /-- TIME tick of the last change of AUTH_IN, and of the end of the partner's last pulse. -/
  authInAt : Nat := 0
  pulseAt : Option Nat := none
  /-- R286: AUTH_IN fell this long (ticks) after the partner's last pulse. -/
  fellAfter : Option Nat := none
  /-- R286: the claim follows a collision. -/
  afterBackoff : Bool := false
  /-- R287. -/
  shadow : Option Shadow := none
  /-- R288: own hashes not yet compared, and the partner's. -/
  own : List (Nat × Word) := []
  theirs : List (Nat × Word) := []
  /-- R288: consecutive mismatches, matches, ticks without a partner hash. -/
  misRun : Nat := 0
  okRun : Nat := 0
  silentRun : Nat := 0
  deriving DecidableEq, Repr

end Sys2Proof.Machine
end

