-- ==== Sys2Proof/Machine/StateRecord.lean ====
section
/-! DEFINITION. State of the recorders and the AON island that no register shows: events, disturbance records and the record
store (chapter 19), the in-flight journal, the lifetime counts, boot and configuration (chapter 21). -/

namespace Sys2Proof.Machine

/-- An event on its way to the EVR, stamped at its occurrence (R306, R307). -/
structure Event where
  ts : Word := 0
  wsec : Word := 0
  wns : Nat := 0
  wstate : Nat := 0
  cls : Nat := 0
  code : Nat := 0
  index : Nat := 0
  test : Bool := false
  coal : Bool := false
  ladle : Bool := false
  restored : Bool := false
  d0 : Word := 0
  d1 : Word := 0
  d2 : Nat := 0
  deriving DecidableEq, Repr

/-- The event recorder. The ring's entries are in SRAM (R305); its pointers are in the AON island (R311). -/
structure EvrState where
  /-- R308: arrivals not yet accepted, oldest first. -/
  queue : List Event := []
  /-- R306: SEQ of the next entry. -/
  next : Nat := 0
  /-- R309: oldest unflushed SEQ. -/
  unfl : Nat := 0
  /-- R312: oldest readable SEQ. -/
  oldest : Nat := 0
  /-- R310: entries lost since first power-up. -/
  lost : Nat := 0
  /-- R310: drops that await their marker: count, TS32 of the first and of the last. -/
  drops : Nat := 0
  dropFirst : Word := 0
  dropLast : Word := 0
  /-- R310: repeats coalesced and entries lost in this Squall. -/
  sqRep : Nat := 0
  sqLost : Nat := 0
  /-- R309: the running flush was started by a trip. -/
  tripFlush : Bool := false
  /-- R305: the journal in MRAM: the eight words of an entry by SEQ modulo 262144. -/
  journal : Table (List Word) := []
  /-- R312: SEQ of the window load that runs. -/
  load : Option Nat := none
  /-- R313: master that armed a clear. -/
  armed : Option Nat := none
  /-- R354: the Ladle has closed the event intake. -/
  closed : Bool := false
  deriving DecidableEq, Repr

/-- A record the DRC has open (R316, R317, R321). -/
structure DrcRec where
  id : Nat := 0
  cause : Nat := 0
  /-- ROW and time of t0 in grid nanoseconds. -/
  row : Nat := 0
  t0 : Nat := 0
  /-- End of the post-fault time in grid nanoseconds. -/
  end_ : Nat := 0
  /-- Number of the first row of the record, and of the next row to copy, counted since recording began. -/
  first : Nat := 0
  copied : Nat := 0
  /-- Number of the row after the last, once the record has ended. -/
  last : Option Nat := none
  /-- Data extents written. -/
  extents : Nat := 0
  /-- Number from which the newest scale table that the record's extents carry applies (R320). -/
  carried : Nat := 0
  trunc : Bool := false
  /-- OPID of its RECORD_COMMIT operation. -/
  opid : Nat := 0
  deriving DecidableEq, Repr

/-- The disturbance recorder. The ring's rows are in DRAM (R315). -/
structure DrcState where
  /-- Rows written since recording began. -/
  written : Nat := 0
  /-- Rows that the ring holds, and their grid times (ns) newest first. -/
  times : List Nat := []
  /-- Open records, oldest first. -/
  recs : List DrcRec := []
  /-- R314: lines at 1 at some pass end, and strikes asserted, since the last record row. -/
  tlSeen : Nat := 0
  stkSeen : Nat := 0
  /-- R102, R320: the scale tables of the rows the ring holds, newest first: the number of the first row of each, its ROW, the
  table. -/
  scales : List (Nat × Nat × List Word) := []
  lost : Nat := 0
  trunc : Nat := 0
  /-- Largest lag of the interval. -/
  lagMax : Nat := 0
  deriving DecidableEq, Repr

/-- The header extent of a record (R320). -/
structure JxrHeader where
  magic : List Byte := [0x4A#8, 0x58#8, 0x52#8, 0x31#8]
  version : Nat := 1
  serialLo : Word := 0
  serialHi : Word := 0
  member : Nat := 0
  id : Nat := 0
  /-- t0: ROW, TS32, grid time in ns, and the wall − grid offset at t0 in ns. -/
  row : Nat := 0
  ts : Word := 0
  gridTime : Nat := 0
  offset : Int := 0
  cause : Nat := 0
  /-- The triggering lines, TL0 in bit 0. -/
  lines : Nat := 0
  mode : Nat := 0
  n : Nat := 0
  dec : Nat := 0
  nq : Nat := 0
  rowSize : Nat := 0
  pre : Nat := 0
  post : Nat := 0
  scales : List Word := []
  /-- The PHE and GRID quantity configurations and the ESEL list. -/
  pheCfg : List Word := []
  gridCfg : List Word := []
  esel : List Word := []
  deriving DecidableEq, Repr

/-- A checkpoint (R319): the rows of the record up to it, and a CRC-32 over the trailers since the one before; R320: a new scale table
and the ROW from which it applies. -/
structure Checkpoint where
  rows : Nat := 0
  crc : Word := 0
  scales : Option (Nat × List Word) := none
  deriving DecidableEq, Repr

/-- A data extent on the card (R319): its rows' bytes, the CRC-32 of its trailer, and its checkpoint. -/
structure DataExtent where
  rows : List Byte := []
  crc : Word := 0
  check : Option Checkpoint := none
  deriving DecidableEq, Repr

/-- State of a directory entry (R319, R322). -/
inductive RecordState where
  | open_ | unsealed | sealed_ | salvaged
  deriving DecidableEq, Repr

/-- A record in the store's directory (R319). -/
structure StoRec where
  id : Nat := 0
  st : RecordState := .open_
  keep : Bool := false
  trunc : Bool := false
  /-- Rows stored. -/
  rows : Nat := 0
  /-- t0 in grid ns, the cause, and the entry sequence number (R319). -/
  t0 : Nat := 0
  cause : Nat := 0
  seq : Nat := 0
  extents : Nat := 1
  /-- First extent and count of each run. -/
  runs : List (Nat × Nat) := []
  /-- R319, R320: what the record's extents hold: the header, then the data extents. -/
  header : JxrHeader := {}
  data : List DataExtent := []
  deriving DecidableEq, Repr

/-- The record store. -/
structure StoState where
  /-- The card is fitted and initialised; its 1 MB extents (R318, R319). -/
  extents : Nat := 0
  recs : List StoRec := []
  newest : Nat := 0
  /-- R323: write position in the log. -/
  pos : Nat := 2
  /-- R324: the host command that runs: OP, status, bytes, record. -/
  cmd : Option (Nat × Nat × Nat × Nat) := none
  deriving DecidableEq, Repr

/-- A journal entry (R358). -/
structure JEntry where
  seq : Nat := 0
  opid : Nat := 0
  ts : Word := 0
  cls : Nat := 0
  kind : Nat := 0
  outcome : Nat := 0
  data : List Word := []
  wsec : Word := 0
  wns : Nat := 0
  deriving DecidableEq, Repr

/-- An operation the journal holds open (R359, R360). -/
structure OpenOp where
  opid : Nat := 0
  cls : Nat := 0
  data : List Word := []
  /-- TRIP_ISSUE: raised channels that have their MARK. -/
  marks : Nat := 0
  /-- SEQ of its newest OPEN or CARRY in the ring, none while that entry is still in the queue. -/
  seq : Option Nat := none
  deriving DecidableEq, Repr

/-- The in-flight journal. -/
structure JrnlState where
  /-- R357: the AON queue, oldest first. -/
  queue : List JEntry := []
  /-- R357: DMA and recast entries that wait for space. -/
  waiting : List JEntry := []
  /-- Numbers of the next entry and operation. -/
  next : Nat := 0
  nextOp : Nat := 1
  /-- R357: the ring's copies A and B in MRAM, by SEQ modulo 4096. -/
  copyA : Table (Option JEntry) := []
  copyB : Table (Option JEntry) := []
  /-- Entries refused since first power-up, and those that await a GAP entry. -/
  lost : Nat := 0
  gap : Nat := 0
  ops : List OpenOp := []
  /-- Operations that the boot scan found open and that are not resolved. -/
  scanOpen : List OpenOp := []
  bad : Nat := 0
  load : Option Nat := none
  /-- R365: the last boot scan found a LADLE seal after the last BOOT entry, or an empty ring. -/
  sealed_ : Bool := true
  deriving DecidableEq, Repr

/-- One lifetime record in MRAM (R362). -/
structure LifeRec where
  seq : Nat := 0
  ts : Word := 0
  wsec : Word := 0
  counts : Table Nat := []
  deriving DecidableEq, Repr

/-- The lifetime counts. -/
structure LifeState where
  /-- R362: the live counts, by index. -/
  counts : Table Nat := []
  copyA : Option LifeRec := none
  copyB : Option LifeRec := none
  seq : Nat := 0
  deriving DecidableEq, Repr

end Sys2Proof.Machine
end

