-- ==== Sys2Proof/Machine/State.lean ====
section
/-! DEFINITION. The state of the block as plain data, the reasons a command may stop, and the state after reset. -/

namespace Sys2Proof.Machine

/-- Why a step may stop with a fault. No meaning of this model ends so: the spec gives every command an effect. -/
inductive Fault where
  /-- Raised by nothing; kept so that the type names the one hole of the address map (R40): an address of more than
  48 bits. Safe. -/
  | beyondAddressSpace
  deriving DecidableEq, Repr

/-- Why a step may be refused. -/
inductive Refusal where
  /-- Raised by an arm of exec whose command has no meaning yet. Safe. -/
  | notModelled (mnemonic : String)
  deriving DecidableEq, Repr

/-- The state of the block. -/
structure State where
  /-- Commands that are waiting, first in first out (the model's queue). -/
  pending : List Instr := []
  /-- Registers by member offset; an unlisted register holds its reset value (R6). -/
  regs : Table Word := []
  /-- Page headers by source number (R44, R54). -/
  hdrs : Table PageHdr := []
  /-- R52: the latched high words, by master and member offset of the high word. -/
  latches : Table Word := []
  /-- SRAM, DRAM and host memory by 48-bit device address (R39), a byte each. -/
  mem : List Host.Cell := []
  /-- What has been sent outward, oldest first (the model's own record). -/
  out : List Emit := []
  /-- How many free values have been drawn (the model's own counter). -/
  free : Nat := 0
  host : HostState := {}
  time : TimeState := {}
  afe : AfeState := {}
  dfc : DfcState := {}
  grid : GridState := {}
  svs : SvsState := {}
  phe : PheState := {}
  pea : PeaState := {}
  trm : TrmState := {}
  dup : DupState := {}
  evr : EvrState := {}
  drc : DrcState := {}
  sto : StoState := {}
  jrnl : JrnlState := {}
  life : LifeState := {}
  lge : LgeState := {}
  gos : GosState := {}
  mac : MacState := {}
  gal : GalState := {}
  fio : FioState := {}
  hka : HkaState := {}
  sram : SramState := {}
  dma : DmaState := {}
  sys : SysState := {}
  deriving DecidableEq, Repr

/-- The machine right after reset. -/
def State.reset : State := {}

end Sys2Proof.Machine
end

