-- ==== Sys2Proof/Machine/Table.lean ====
section
/-! DEFINITION. Sparse tables and byte memory in canonical form: the one way every array of the state is read and written.
A table lists no entry equal to what an unlisted key reads as, and its keys rise strictly. -/

namespace Sys2Proof.Machine

/-- The value at key `k`: the listed one, else `d`, what an unlisted key reads as. -/
def tget {α : Type} (d : α) (m : Table α) (k : Nat) : α :=
  match m.find? (fun e => e.1 == k) with
  | some e => e.2
  | none => d

/-- The table with `v` at key `k`. Writing the unlisted value `d` removes the entry, so equal tables are equal data. -/
def tset {α : Type} [DecidableEq α] (d : α) (m : Table α) (k : Nat) (v : α) : Table α :=
  m.filter (fun e => decide (e.1 < k)) ++ (if v = d then [] else [(k, v)]) ++ m.filter (fun e => decide (k < e.1))

/-- The table with the value at `k` replaced by `f` of it. -/
def tupd {α : Type} [DecidableEq α] (d : α) (m : Table α) (k : Nat) (f : α → α) : Table α :=
  tset d m k (f (tget d m k))

/-- Keys rise strictly from a lower bound. -/
def risingFrom {α : Type} : Nat → Table α → Bool
  | _, [] => true
  | lo, e :: t => decide (lo ≤ e.1) && risingFrom (e.1 + 1) t

/-- Canonical form: strictly rising keys, no entry equal to its unlisted value. -/
def Table.wf {α : Type} [DecidableEq α] (d : Nat → α) (m : Table α) : Bool :=
  risingFrom 0 m && m.all (fun e => decide (e.2 ≠ d e.1))

/-- What a byte that nothing has written reads as. Boot's march test leaves every SRAM bank zeroed (R333, R348), so SRAM
reads 0. DESIGN CHOICE (unsafe, log entry 3): DRAM, MRAM images and host memory read 0 until written. -/
def emptyByte : Byte := 0

/-- The byte at an address. -/
def memByte (m : List Host.Cell) (a : Nat) : Byte := tget emptyByte m a

/-- The cells a run of bytes from `a` lists. -/
def cellsFrom : Nat → List Byte → List Host.Cell
  | _, [] => []
  | a, b :: bs => if b = emptyByte then cellsFrom (a + 1) bs else (a, b) :: cellsFrom (a + 1) bs

/-- Memory with the bytes `bs` stored from address `a` up. -/
def memWrite (m : List Host.Cell) (a : Nat) (bs : List Byte) : List Host.Cell :=
  m.filter (fun e => decide (e.1 < a)) ++ cellsFrom a bs ++ m.filter (fun e => decide (a + bs.length ≤ e.1))

/-- `n` bytes from address `a` up. -/
def memBytes (m : List Host.Cell) (a : Nat) : Nat → List Byte
  | 0 => []
  | n + 1 => memByte m a :: memBytes m (a + 1) n

/-- The little-endian value of a run of bytes (R4). -/
def leNat : List Byte → Nat
  | [] => 0
  | b :: bs => b.toNat + 256 * leNat bs

/-- The `n` little-endian bytes of a value (R4). -/
def leBytes : Nat → Nat → List Byte
  | 0, _ => []
  | n + 1, v => BitVec.ofNat 8 v :: leBytes n (v / 256)

/-- The 32-bit word at an address (R4: little-endian). -/
def memWord (m : List Host.Cell) (a : Nat) : Word := BitVec.ofNat 32 (leNat (memBytes m a 4))

/-- Memory with a 32-bit word stored at an address. -/
def memWriteWord (m : List Host.Cell) (a : Nat) (w : Word) : List Host.Cell := memWrite m a (leBytes 4 w.toNat)

/-- Memory with a run of words stored from an address up. -/
def memWriteWords (m : List Host.Cell) (a : Nat) (ws : List Word) : List Host.Cell :=
  memWrite m a (ws.flatMap (fun w => leBytes 4 w.toNat))

/-- The canonical form of memory. -/
def Memory.wf (m : List Host.Cell) : Bool := Table.wf (fun _ => emptyByte) m

end Sys2Proof.Machine
end

