-- ==== Sys2Proof/Machine/Ops.lean ====
section
/-! DEFINITION. The named operations over registers, page headers, result groups and memory that every command's meaning is
written with. -/

namespace Sys2Proof.Machine

/-! ## Registers -/

/-- The page whose 4 KB (16 KB for DMA) a member offset lies in (R41). -/
def pageOf (a : Nat) : Option Page :=
  match a / 0x1000 with
  | 0x00 => some .sys | 0x01 => some .life | 0x02 => some .jrnl | 0x03 => some .mem
  | 0x04 => some .dma | 0x05 => some .dma | 0x06 => some .dma | 0x07 => some .dma
  | 0x08 => some .afe | 0x09 => some .dfc | 0x0A => some .grid | 0x0B => some .svs | 0x0C => some .phe | 0x0D => some .pea
  | 0x0E => some .trm | 0x0F => some .fio | 0x10 => some .hka | 0x11 => some .lge | 0x12 => some .evr | 0x13 => some .drc
  | 0x14 => some .sto | 0x15 => some .tim | 0x16 => some .mac0 | 0x17 => some .mac1 | 0x18 => some .mac2
  | 0x19 => some .mac3 | 0x1A => some .gos | 0x1B => some .gal | 0x1C => some .dup | 0x1D => some .pci
  | _ => none

/-- The member offset of a page's header (R41). -/
def pageBase : Page → Nat
  | .sys => 0x00000 | .life => 0x01000 | .jrnl => 0x02000 | .mem => 0x03000 | .dma => 0x04000 | .afe => 0x08000
  | .dfc => 0x09000 | .grid => 0x0A000 | .svs => 0x0B000 | .phe => 0x0C000 | .pea => 0x0D000 | .trm => 0x0E000
  | .fio => 0x0F000 | .hka => 0x10000 | .lge => 0x11000 | .evr => 0x12000 | .drc => 0x13000 | .sto => 0x14000
  | .tim => 0x15000 | .mac0 => 0x16000 | .mac1 => 0x17000 | .mac2 => 0x18000 | .mac3 => 0x19000 | .gos => 0x1A000
  | .gal => 0x1B000 | .dup => 0x1C000 | .pci => 0x1D000

/-- The page's type code (R41). -/
def pageCode : Page → Nat
  | .sys => 0x4A10 | .life => 0x4A11 | .jrnl => 0x4A12 | .mem => 0x4A13 | .dma => 0x4A14 | .afe => 0x4A20
  | .dfc => 0x4A21 | .grid => 0x4A22 | .svs => 0x4A23 | .phe => 0x4A24 | .pea => 0x4A25 | .trm => 0x4A26
  | .fio => 0x4A27 | .hka => 0x4A28 | .lge => 0x4A30 | .evr => 0x4A31 | .drc => 0x4A32 | .sto => 0x4A33
  | .tim => 0x4A34 | .mac0 => 0x4A40 | .mac1 => 0x4A40 | .mac2 => 0x4A40 | .mac3 => 0x4A40 | .gos => 0x4A41
  | .gal => 0x4A42 | .dup => 0x4A43 | .pci => 0x4A44

/-- ID.INST (R44): 0 to 3 for MAC0 to MAC3, 0 for all other pages. -/
def pageInst : Page → Nat
  | .mac1 => 1 | .mac2 => 2 | .mac3 => 3 | _ => 0

/-- The rows of a page's register map. -/
def pageRows : Page → List RegRow
  | .sys => sysRows | .life => lifeRows | .jrnl => jrnlRows | .mem => memRows | .dma => dmaRows | .afe => afeRows
  | .dfc => dfcRows | .grid => gridRows | .svs => svsRows | .phe => pheRows | .pea => peaRows | .trm => trmRows
  | .fio => fioRows | .hka => hkaRows | .lge => lgeRows | .evr => evrRows | .drc => drcRows | .sto => stoRows
  | .tim => timRows | .mac0 => macFastRows | .mac1 => macFastRows | .mac2 => macSlowRows | .mac3 => macSlowRows
  | .gos => gosRows | .gal => galRows | .dup => dupRows | .pci => pciRows

/-- A page offset falls on one of a row's registers. -/
def RegRow.holds (r : RegRow) (o : Nat) : Bool :=
  decide (r.off ≤ o) && (o - r.off) % r.stride == 0 && decide ((o - r.off) / r.stride < r.count)

/-- The row of the register at a member offset, where the map has one. -/
def regRow (a : Nat) : Option RegRow :=
  match pageOf a with
  | some p => (pageRows p).find? (fun r => r.holds (a - pageBase p))
  | none => none

/-- The word that a half-band coefficient of either bank holds after reset: the factory set (chapter 04, coefficient words).
The stage's words start at 0x00, 0x10, 0x30, 0x70 and 0xA0 of a bank. -/
def coefReset (o : Nat) : Word :=
  let k := o % 0x100
  let c := if k < 0x10 then hbFactory 0 (k / 4) else if k < 0x30 then hbFactory 1 ((k - 0x10) / 4)
    else if k < 0x70 then hbFactory 2 ((k - 0x30) / 4) else if k < 0xA0 then hbFactory 3 ((k - 0x70) / 4)
    else hbFactory 4 ((k - 0xA0) / 4)
  c.setWidth 32

/-- What a register reads after reset (the register tables' Reset columns). PRESUMED: a vector control word of the MSI-X table
holds its Mask bit set. -/
def regReset (a : Nat) : Word :=
  if 0x09400 ≤ a ∧ a < 0x09600 ∧ (regRow a).isSome then coefReset (a - 0x09400)
  else if 0x1D400 ≤ a ∧ a < 0x1D800 ∧ a % 16 = 12 then 1
  else match regRow a with
    | some r => BitVec.ofNat 32 r.reset
    | none => 0

/-- The stored value of the register at a member offset. -/
def State.reg (s : State) (a : Nat) : Word := tget (regReset a) s.regs a

/-- The state with the register at a member offset holding `v`. -/
def State.setReg (s : State) (a : Nat) (v : Word) : State := { s with regs := tset (regReset a) s.regs a v }

/-- Width of a field. -/
def Fld.width (f : Fld) : Nat := f.hi + 1 - f.lo

/-- The field's value in a word. -/
def Fld.of (f : Fld) (w : Word) : Nat := (w.toNat >>> f.lo) % 2 ^ f.width

/-- The word with the field holding `v` (cut to the field's width). -/
def Fld.put (f : Fld) (w : Word) (v : Nat) : Word :=
  BitVec.ofNat 32 (w.toNat - (f.of w) * 2 ^ f.lo + (v % 2 ^ f.width) * 2 ^ f.lo)

/-- The value of a field of the device. -/
def State.get (s : State) (f : Fld) : Nat := f.of (s.reg f.addr)

/-- A one-bit field is 1. -/
def State.bit (s : State) (f : Fld) : Bool := s.get f == 1

/-- The state with a field of the device holding `v`. -/
def State.put (s : State) (f : Fld) (v : Nat) : State := s.setReg f.addr (f.put (s.reg f.addr) v)

/-- The state with a one-bit field holding `b`. -/
def State.putBit (s : State) (f : Fld) (b : Bool) : State := s.put f (if b then 1 else 0)

/-- Bit `i` of the register at a member offset. -/
def State.regBit (s : State) (a i : Nat) : Bool := (s.reg a).getLsbD i

/-- The state with bit `i` of the register at a member offset set to `b`. -/
def State.setRegBit (s : State) (a i : Nat) (b : Bool) : State := s.put ⟨a, i, i⟩ (if b then 1 else 0)

/-- The bits of a run of registers from `a`, read as one number of 32-bit words, low word first: bit `i`. -/
def State.arrBit (s : State) (a i : Nat) : Bool := s.regBit (a + 4 * (i / 32)) (i % 32)

/-- The state with bit `i` of such a run set to `b`. -/
def State.setArrBit (s : State) (a i : Nat) (b : Bool) : State := s.setRegBit (a + 4 * (i / 32)) (i % 32) b

/-- A signed field of `w` bits. -/
def signedOf (w v : Nat) : Int := if v % 2 ^ w < 2 ^ (w - 1) then (v % 2 ^ w : Nat) else (v % 2 ^ w : Nat) - (2 ^ w : Nat)

/-- The `w`-bit two's-complement pattern of an integer. -/
def patOf (w : Nat) (x : Int) : Nat := (x % (2 ^ w : Nat)).toNat

/-- What a register write leaves in the register (R6): RW bits take the value, a 1 clears a W1C bit and sets a W1S bit, every
other bit keeps. -/
def mergeWrite (r : RegRow) (old v : Word) : Word :=
  let rw := BitVec.ofNat 32 r.rw
  ((old &&& ~~~rw) ||| (v &&& rw)) &&& ~~~(v &&& BitVec.ofNat 32 r.w1c) ||| (v &&& BitVec.ofNat 32 r.w1s)

/-- A register write with no effect but storage (R6). -/
def State.storeReg (s : State) (a : Nat) (v : Word) : State :=
  match regRow a with
  | some r => s.setReg a (mergeWrite r (s.reg a) v)
  | none => s

/-! ## Page headers -/

/-- A page's header. -/
def State.hdr (s : State) (p : Page) : PageHdr := tget {} s.hdrs p.idx

/-- The state with a page's header changed. -/
def State.updHdr (s : State) (p : Page) (f : PageHdr → PageHdr) : State := { s with hdrs := tupd {} s.hdrs p.idx f }

/-- R48: an error is captured in a page's ERR, or sets MORE if CODE is already held. `m` is the master, 15 for the block
itself. -/
def State.raise (s : State) (p : Page) (code m : Nat) : State :=
  s.updHdr p (fun h => if h.errCode = 0 then { h with errCode := BitVec.ofNat 16 code, errMaster := BitVec.ofNat 4 m, errMore := false }
    else { h with errMore := true })

/-- R44: a rising edge of an EDGE source latches its IRQ_PEND bit. -/
def State.edge (s : State) (p : Page) (b : Nat) : State :=
  s.updHdr p (fun h => { h with irqPend := h.irqPend ||| BitVec.ofNat 32 (2 ^ b) })

/-- An edge only where the condition holds. -/
def State.edgeIf (s : State) (c : Bool) (p : Page) (b : Nat) : State := if c then s.edge p b else s

/-! ## Result groups (R50, R51) -/

/-- Completion `SEQ + 1`, running from 0x7FFF_FFFF to 1 (R51). -/
def nextSeq (q : Nat) : Nat := if q = 0x7FFFFFFF then 1 else q + 1

/-- Words stored in consecutive registers. -/
def State.setRegs (s : State) (a : Nat) : List Word → State
  | [] => s
  | w :: ws => (s.setReg a w).setRegs (a + 4) ws

/-- R51: a completion writes all data words, advances SEQ and sets VALID; the page's SEQ.COUNT adds 1 (R44). -/
def State.complete (s : State) (g : Grp) (ws : List Word) : State :=
  let q := (s.reg g.addr).toNat % 2 ^ 31
  let s := (s.setRegs (g.addr + 4) (ws.take (g.words - 1))).setReg g.addr (BitVec.ofNat 32 (2 ^ 31 + nextSeq q))
  match pageOf g.addr with
  | some p => s.updHdr p (fun h => { h with seq := h.seq + 1 })
  | none => s

/-- R51: VALID falls; the data words and SEQ keep the previous completion. -/
def State.invalidate (s : State) (g : Grp) : State := s.setReg g.addr ((s.reg g.addr) &&& 0x7FFFFFFF#32)

/-- R50: the group's VALID bit. -/
def State.groupValid (s : State) (g : Grp) : Bool := s.regBit g.addr 31

/-- Word `i` of a group (1 for the first data word). -/
def State.groupWord (s : State) (g : Grp) (i : Nat) : Word := s.reg (g.addr + 4 * i)

/-! ## Access guards -/

/-- The page is UNLOCKED (R46). -/
def State.unlocked (s : State) (p : Page) : Bool := (s.hdr p).lock == .unlocked

/-- R34: in D3hot the endpoint refuses the host's memory requests. -/
def State.hostRefused (s : State) (m : Nat) : Bool := m == 0 && s.host.d3hot

/-- R33: until boot is complete, host writes to pages other than SYS, PCI and LIFE are dropped; R34: in D3hot all are. -/
def State.bootGate (s : State) (m : Nat) (p : Page) : Bool :=
  s.hostRefused m || (m == 0 && !s.bit R.sysStat_booted && !(p == .sys || p == .pci || p == .life))

/-- R47: a master write to CTRL or to an offset at 0x040 or above. While the page is not UNLOCKED it is dropped and WR_LOCKED
recorded, and an ARMED page returns to LOCKED (R46); before boot, and in D3hot, a host write is dropped (R33, R34); else it has its effect. -/
def State.guarded (s : State) (m : Nat) (p : Page) (eff : State → State) : State :=
  if s.bootGate m p then s
  else if s.unlocked p then eff s
  else (s.updHdr p (fun h => { h with lock := .locked })).raise p 0x0001 m

/-! ## Outward record, free values, memory -/

/-- Something is sent outward. -/
def State.emit (s : State) (e : Emit) : State := { s with out := s.out ++ [e] }

/-- A fresh value the spec does not fix, and the state that has drawn it. -/
def State.fresh (s : State) : Word × State := (Config.freeValue s.free, { s with free := s.free + 1 })

/-- The 32-bit word at a device address. -/
def State.word (s : State) (a : Nat) : Word := memWord s.mem a

/-- The state with a 32-bit word stored. -/
def State.setWord (s : State) (a : Nat) (w : Word) : State := { s with mem := memWriteWord s.mem a w }

/-- The state with words stored from an address up. -/
def State.setWords (s : State) (a : Nat) (ws : List Word) : State := { s with mem := memWriteWords s.mem a ws }

/-- The state with bytes stored from an address up. -/
def State.setBytes (s : State) (a : Nat) (bs : List Byte) : State := { s with mem := memWrite s.mem a bs }

/-! ## Small helpers -/

/-- `f` folded over 0 … n−1. -/
def iterUp {σ : Type} (n : Nat) (f : Nat → σ → σ) (s : σ) : σ := (List.range n).foldl (fun s i => f i s) s

/-- The word with bits from a predicate. -/
def wordOfBits (n : Nat) (f : Nat → Bool) : Word :=
  BitVec.ofNat 32 ((List.range n).foldl (fun acc i => if f i then acc + 2 ^ i else acc) 0)

/-- The number a boolean stands for. -/
def b2n (b : Bool) : Nat := if b then 1 else 0

/-- Saturation to an int32 (R78, R92). -/
def satInt32 (x : Int) : Int := if x > 0x7FFFFFFF then 0x7FFFFFFF else if x < -0x80000000 then -0x80000000 else x

/-- Round `n / d` to nearest, ties away from zero (R78, R92). -/
def roundDiv (n : Int) (d : Nat) : Int :=
  if n ≥ 0 then ((2 * n + d) / (2 * d : Nat)) else -(((2 * -n) + d) / (2 * d : Nat))

/-! ## Time -/

/-- Grid-class time in whole nanoseconds. -/
def State.gridNs (s : State) : Nat := s.time.grid / 2 ^ 32

/-- Wall-class time in whole nanoseconds. -/
def State.wallNs (s : State) : Nat := s.time.wall / 2 ^ 32

/-- TSTAMP32 of a time in nanoseconds: seconds × 250,000,000 plus whole 4 ns units, modulo 2^32 (R246). -/
def tstampOf (ns : Nat) : Word := BitVec.ofNat 32 (ns / 4)

/-- TSTAMP32 of grid-class time now. -/
def State.tstamp (s : State) : Word := tstampOf s.gridNs

end Sys2Proof.Machine
end

