-- ==== Sys2Proof/Machine/Flags.lean ====
section
/-! DEFINITION. The flag computations: the quality byte (R10), the LEVEL sources of every page's IRQ_RAW, the block interrupts
and what every command ends with, the latching of LEVEL sources into IRQ_PEND (R44). -/

namespace Sys2Proof.Machine

/-! ## Quality byte (R10) -/

def qINVALID : Nat := 0x01
def qOVR : Nat := 0x02
def qOPENW : Nat := 0x04
def qINTERP : Nat := 0x08
def qHELD : Nat := 0x10
def qTEST : Nat := 0x20
def qQUEST : Nat := 0x40
def qSUBST : Nat := 0x80

/-- A quality bit is set in a quality byte. -/
def qHas (q b : Nat) : Bool := q &&& b != 0

/-! ## Interrupt sources -/

/-- One LEVEL source: bit `b` while the condition holds. -/
def lvl (b : Nat) (c : Bool) : Nat := if c then 2 ^ b else 0

/-- Some register in a range holds other than its reset value and satisfies a condition of its offset and value. -/
def State.anyIn (s : State) (lo hi : Nat) (c : Nat → Word → Bool) : Bool :=
  s.regs.any (fun e => decide (lo ≤ e.1) && decide (e.1 < hi) && c e.1 e.2)

/-- Bank STATE FAILED, a register of MEM_BANKnn_CFG. -/
def bankFailed (_ : Nat) (w : Word) : Bool := w.toNat % 4 == 3

/-- The block-specific LEVEL sources of a page's IRQ_RAW (the IRQ_RAW lists of the chapters). -/
def blockLevels (s : State) : Page → Nat
  | .sys => lvl 0 (!s.bit R.sysStat_supply_ok) + lvl 1 s.sys.thermal
  | .jrnl => lvl 0 (!s.jrnl.scanOpen.isEmpty)
  | .mem => lvl 4 (s.anyIn (R.memBankCfg 0) (R.memBankCfg 48) bankFailed)
  | .dma => lvl 0 ((List.range 16).any (fun n => s.get (R.dmaChStat_state n) == 3))
  | .afe => lvl 0 (s.reg R.afeOwStat != 0) + lvl 2 (s.reg R.afeBsiStat != 0 || s.get R.afeStat_cklost != 0)
  | .grid => lvl 2 (s.bit R.gridStat_clamp) + lvl 4 (s.bit R.gridStat_desync)
  | .svs => lvl 0 (s.reg R.svsLostLo != 0 || s.reg R.svsLostHi != 0)
      + lvl 2 (s.anyIn (R.svsSlSt 0).addr (R.svsSlSt 64).addr (fun a w => a / 4 % 4 == 1 && w &&& 0x98 != 0))
  | .phe => lvl 2 s.phe.finv + lvl 3 s.phe.mix
  | .trm => lvl 2 (s.bit R.trmCtrl_en && !s.bit R.trmStat_fo_gate) + lvl 3 s.trm.failsrc
  | .fio => lvl 1 (s.bit R.fioStat_vf_low_a || s.bit R.fioStat_vf_low_b) + lvl 2 (s.bit R.fioStat_uvlo_a || s.bit R.fioStat_uvlo_b)
      + lvl 3 (s.reg R.fioTcsFail != 0) + lvl 6 (s.bit R.fioCtrl_en && !(s.bit R.fioStat_link_a && s.bit R.fioStat_link_b))
      + lvl 7 (s.reg R.fioFoMismatch != 0)
  | .lge => lvl 3 (s.bit R.lgeStat_forced)
  | .evr => lvl 0 (s.bit R.evrStat_squall)
  | .sto => lvl 0 (s.bit R.stoStat_ready) + lvl 2 (s.bit R.stoStat_full)
  | .tim => lvl 1 (s.get R.timStat_grid == 2) + lvl 4 (s.get R.timStat_wall != 1 && s.get R.timCtrl_src != 3) + lvl 6 (s.bit R.timStat_xo_lost)
  | .gos => lvl 0 (s.anyIn (R.gosGsStale 0) (R.gosGsStale 16) (fun _ w => w != 0)) + lvl 1 (s.gos.sub.any (fun e => e.2.st == 4))
  | .gal => lvl 5 (decide (2 ≤ s.get R.galStat_num))
      + lvl 6 (s.anyIn (R.galFbi 0) (R.galFbi 256) (fun a w => w.getLsbD 12 && s.arrBit (R.galFbiInv 0) ((a - R.galFbi 0) / 4)))
  | .dup => lvl 1 (s.bit R.dupStat_mismatch)
      + lvl 2 (s.dup.set.any (fun e => e.2.bad && (s.get R.dupStat_joined).testBit e.1)) + lvl 4 (s.get R.dupStat_auth == 8)
      + lvl 5 (s.bit R.dupStat_silent)
  | _ => 0

/-- The LEVEL sources a page's IRQ_RAW shows, with bit 31 while ERR.CODE is not 0 (R44, R48). -/
def levels (s : State) (p : Page) : Word :=
  BitVec.ofNat 32 (blockLevels s p + lvl 31 ((s.hdr p).errCode != 0))

/-- R45: the block interrupt. -/
def State.blockIrq (s : State) (p : Page) : Bool := (s.hdr p).irqPend &&& (s.hdr p).irqEn != 0

/-- R54: source `k` is asserted. -/
def State.source (s : State) (k : Nat) : Bool :=
  if k < 27 then Page.all.any (fun p => p.idx == k && s.blockIrq p)
  else if 32 ≤ k ∧ k < 48 then s.get (R.dmaChIrq_pend (k - 32)) &&& s.get (R.dmaChIrqen_en (k - 32)) != 0
  else if k = 48 then s.bit R.pciLink_root && (s.reg R.sysRmtPendLo != 0 || s.reg R.sysRmtPendHi != 0)
  else false

/-- The routing byte of source `k` in SYS_IRQ_MAP (R54). -/
def State.route (s : State) (k : Nat) : Nat := ((s.reg (R.sysIrqMap (k / 4))).toNat >>> (8 * (k % 4))) % 256

/-- Source `k` is asserted and its EN bit routes it. -/
def State.routed (s : State) (k : Nat) : Bool := s.source k && decide (128 ≤ s.route k)

/-- R55: vector `v` is asserted while any enabled source mapped to it is. -/
def State.vecAsserted (s : State) (v : Nat) : Bool := (List.range 49).any (fun k => s.routed k && s.route k % 64 == v)

/-- R56: the OR of the enabled sources. -/
def State.anyRouted (s : State) : Bool := (List.range 49).any (fun k => s.routed k)

/-- A member is healthy (R283). -/
def State.healthy (s : State) : Bool :=
  s.bit R.sysStat_booted && !s.bit R.peaStat_fault && s.bit R.sysStat_supply_ok && s.bit R.fioStat_link_a && s.bit R.fioStat_link_b

/-- The headers with every page's LEVEL sources latched into IRQ_PEND. -/
def latchLevels (s : State) (ps : List Page) (h : Table PageHdr) : Table PageHdr :=
  ps.foldl (fun h p => tupd {} h p.idx (fun x => { x with irqPend := x.irqPend ||| levels s p })) h

/-- How every command ends: IRQ_PEND takes every LEVEL source that reads 1 (R44), and the forward OR falls when no enabled
source is left (R56). -/
def State.fin (s : State) : State :=
  let s := { s with hdrs := latchLevels s Page.all s.hdrs }
  if s.anyRouted then s else { s with host := { s.host with fwdOr := false } }

end Sys2Proof.Machine
end

