-- ==== Sys2Proof/Machine/Operands.lean ====
section
/-! DEFINITION. How a command's operands name what they act on: the value a master reads at a register (R42 to R45, R52), and
the 64-bit result fields whose low word latches its high word. -/

namespace Sys2Proof.Machine

/-- R52: the low words of the 64-bit result fields. The high word is the next register. -/
def latchLows : List Nat :=
  [R.gridNow.addr + 16, R.lgeNow.addr + 4, R.timSnap.addr + 4, R.timSnap.addr + 16, (R.timDSt 0).addr + 16,
   (R.timDSt 1).addr + 16, R.memFault.addr + 4, R.lifeVal.addr + 4]
  ++ (List.range 16).flatMap (fun n => [(R.dmaChCur n).addr + 4])

/-- The key under which a master's latch of a high word is kept. -/
def latchKey (m a : Nat) : Nat := m * 2 ^ 32 + a

/-- R325: a bank is claimed. -/
def State.claimed (s : State) (b : Nat) : Bool :=
  if 2 ≤ b ∧ b ≤ 7 then s.bit R.gridCtrl_en
  else if b = 8 then s.bit R.pheCtrl_en
  else if b = 9 ∨ b = 10 then s.bit R.peaCtrl_en
  else if b = 11 then s.bit R.trmCtrl_en
  else if 12 ≤ b ∧ b ≤ 17 then s.bit R.lgeCtrl_en && s.get R.lgeCfg_role != 0
  else if 18 ≤ b ∧ b ≤ 22 then s.bit R.lgeCtrl_en && s.get R.lgeCfg_role == 1
  else if b = 23 then s.bit R.dupCtrl_cum_en
  else if b = 24 then s.bit R.gosCtrl_gp_en || s.bit R.gosCtrl_gs_en || s.bit R.gosCtrl_svp_en
  else if 25 ≤ b ∧ b ≤ 28 then s.bit R.evrCtrl_en
  else false

/-- The value master `m` reads at a register (R42 to R52). The high word of a 64-bit result field is the copy latched by the
same master's last read of the low word, 0 if it has made none since reset (R52). -/
def State.readReg (s : State) (m a : Nat) : Word :=
  match pageOf a with
  | none => 0
  | some p =>
    let h := s.hdr p
    if a = pageBase p then BitVec.ofNat 32 (pageCode p * 2 ^ 16 + 0x10 * 2 ^ 8 + pageInst p)
    else if a = pageBase p + 0x010 then levels s p
    else if a = pageBase p + 0x014 then h.irqEn
    else if a = pageBase p + 0x018 then h.irqPend
    else if a = pageBase p + 0x01C then
      (match h.lock with | .locked => 0x00000 | .armed => 0x10000 | .unlocked => 0x20000)
    else if a = pageBase p + 0x020 then h.seq
    else if a = pageBase p + 0x024 then
      BitVec.ofNat 32 (h.errCode.toNat + h.errMaster.toNat * 2 ^ 16 + (if h.errMore then 2 ^ 31 else 0))
    else if a = R.sysIrqSrcLo then wordOfBits 27 s.source
    else if a = R.sysIrqSrcHi then wordOfBits 17 (fun i => s.source (32 + i))
    else if a = R.sysStat then R.sysStat_healthy.put (s.reg a) (b2n s.healthy)
    else if a = R.dupStat then R.dupStat_shadow_ok.put (s.reg a) (b2n (s.bit R.dupStat_shadow_ok && s.dup.shadow.any (fun x => decide (s.time.ticks ≤ x.at_ + 6250))))
    else if 0x03100 ≤ a ∧ a < 0x031C0 then (R.memBankCfg_claimed 0).put (s.reg a) (b2n (s.claimed ((a - 0x03100) / 4)))
    else if latchLows.contains (a - 4) then tget 0 s.latches (latchKey m a)
    else s.reg a

/-- R33: what the endpoint reads of a register before boot is complete is 0 on every page but SYS, PCI and LIFE. -/
def State.busRead (s : State) (m a : Nat) : Word :=
  match pageOf a with
  | some p => if s.bootGate m p then 0 else s.readReg m a
  | none => 0

/-- R52: a read of the low word of a 64-bit field latches that field's high word for the reading master. -/
def State.latchHigh (s : State) (m a : Nat) : State :=
  if latchLows.contains a then { s with latches := tset 0 s.latches (latchKey m (a + 4)) (s.reg (a + 4)) } else s

end Sys2Proof.Machine
end

