-- ==== Sys2Proof/Machine/Regions.lean ====
section
/-! DEFINITION. The device address map and what an access must pass: targets, bank states and claims, region registers, the fault record,
and the accesses of the engines (R9, R39, R40, R325, R326, R328). -/

namespace Sys2Proof.Machine

/-- This member's ID; valid while NUM is 1 (R261). -/
def State.selfId (s : State) : Nat := s.get R.galStat_id

/-! ## Targets (R36, R37, R39) -/

/-- What a device address reaches. -/
inductive MemTarget where
  | reg (a : Nat)
  | sram (a : Nat)
  | dram (a : Nat)
  | member (n off : Nat)
  | hostMem (a : Nat)
  | nothing
  deriving DecidableEq, Repr

/-- Bytes of DRAM. -/
def dramBytes : Nat := 2 ^ (31 + Config.dramSize.val)

/-- This member has an ID (R261). -/
def State.numbered (s : State) : Bool := s.get R.galStat_num == 1

/-- The target of a device address; the member's own ID aliases local space. -/
def State.target (s : State) (a : Nat) : MemTarget :=
  if a < 0x800000 then .reg a
  else if a < 0x2000000 then .sram a
  else if a < 0x100000000 then .nothing
  else if a < 0x100000000 + 0x200000000 then (if a < 0x100000000 + dramBytes then .dram a else .nothing)
  else if a < 0x10000000000 then .nothing
  else if a < 0x10080000000 then
    let n := (a - 0x10000000000) / 0x2000000
    let o := (a - 0x10000000000) % 0x2000000
    if s.numbered ∧ n = s.selfId then (if o < 0x800000 then .reg o else .sram o) else .member n o
  else if a < 0x800000000000 then .nothing
  else if a < 0x1000000000000 then .hostMem a
  else .nothing

/-! ## Banks (R325, R326) -/

def bankBase (b : Nat) : Nat := 0x800000 + b * 0x80000
def bankOf (a : Nat) : Nat := (a - 0x800000) / 0x80000
def bkOFF : Nat := 0
def bkON : Nat := 1
def bkRETAIN : Nat := 2
def bkFAILED : Nat := 3
def State.bankSt (s : State) (b : Nat) : Nat := s.get (R.memBankCfg_state b)
def State.bankTest (s : State) (b : Nat) : Bool := match s.sram.march with | some r => r.banks.contains b | none => false
/-- A bank answers accesses: ON or RETAIN, READY, not under test. -/
def State.bankReady (s : State) (b : Nat) : Bool :=
  (s.bankSt b == bkON || s.bankSt b == bkRETAIN) && s.bit (R.memBankCfg_ready b) && !s.bankTest b

/-- R325: a master may write a claimed bank. -/
def claimWriter (b m : Nat) : Bool :=
  if b ≤ 7 then true
  else if b = 8 then m == 3
  else if b ≤ 10 then m == 2
  else if b = 11 then false
  else if b ≤ 22 then m == 4
  else if b = 23 then m == 6
  else if b = 24 then m == 5
  else if b ≤ 28 then m == 7
  else true

/-! ## Regions (R328) -/

/-- Word `w` of region `r` of master `m`. -/
def rgnReg (m r w : Nat) : Nat := 0x03400 + 0x100 * m + 0x10 * r + 4 * w

/-- Region `r` of master `m` grants a byte. -/
def State.rgnGrants (s : State) (m r a : Nat) (write : Bool) : Bool :=
  let c := s.reg (rgnReg m r 0)
  let base := (c.toNat / 4096) * 4096 + (s.reg (rgnReg m r 1)).toNat % 65536 * 2 ^ 32
  let limit := ((s.reg (rgnReg m r 2)).toNat / 4096) * 4096 + 4095 + (s.reg (rgnReg m r 3)).toNat % 65536 * 2 ^ 32
  c.getLsbD 0 && c.getLsbD (if write then 2 else 1) && decide (base ≤ a) && decide (a ≤ limit)

/-- Every byte of an access lies in some enabled region of its master that grants the access: regions are whole 4 KB pages, so
one byte of each page, and the last byte, decide. -/
def State.regionOk (s : State) (m a len : Nat) (write : Bool) : Bool :=
  let ok := fun (x : Nat) => (List.range 16).any (fun r => s.rgnGrants m r x write)
  ok a && ok (a + len - 1) && (List.range (len / 4096)).all (fun k => ok (a + 4096 * k))

/-! ## Accesses -/

/-- Why an access does not complete. -/
inductive MemFail where
  | region | claim | bankOff | ecc2 | atom | unmapped | noresp | host
  deriving DecidableEq, Repr

/-- Host memory can be reached (R34). -/
def State.hostOk (s : State) : Bool := s.bit R.pciLink_up && s.host.busMaster && !s.host.d3hot && !s.host.perst

/-- An address lies in a window of an ATOMIC bank (R332): the window, 1 ADD, 2 SWAP, 3 OPERAND. -/
def State.atomWin (s : State) (a : Nat) : Nat :=
  let b := bankOf a
  if s.get (R.memBankCfg_mode b) = 2 ∧ s.claimed b = false then (a - bankBase b) / 0x20000 else 0

/-- Another member can be reached (R265). -/
def State.memberUp (s : State) (k : Nat) : Bool := s.arrBit R.galMbrLo k

/-- Why an access to memory would not complete: regions first, then the map (R40), the claim, the bank, the window; on a member other
than the root, host memory is reached through the root (R40). Register space is no memory. Whether a member answers is not decided here. -/
def State.memCheck (s : State) (m a len : Nat) (write : Bool) : Option MemFail :=
  match s.target a, s.target (a + len - 1) with
  | .reg _, _ => some .unmapped
  | t, u =>
    if !s.regionOk m a len write then some .region
    else match t, u with
      | .sram x, .sram y =>
        let bs := (List.range (bankOf y - bankOf x + 1)).map (fun i => bankOf x + i)
        if write && bs.any (fun b => s.claimed b && !claimWriter b m) then some .claim
        else if !bs.all s.bankReady then some .bankOff
        else if s.atomWin x ≠ 0 ∧ ((len ≠ 4 ∧ len ≠ 8) ∨ a % len ≠ 0 ∨ (write = true ∧ s.atomWin x = 2)) then some .atom
        else none
      | .dram _, .dram _ => none
      | .hostMem _, .hostMem _ =>
        if s.bit R.pciLink_root then (if s.hostOk then none else some .host) else if s.memberUp 0 then none else some .noresp
      | .member .., .member .. => none
      | _, _ => some .unmapped

/-- A fault of the MEM page is recorded (R328, R329, R332). -/
def State.memFault (s : State) (f : MemFail) (m a : Nat) (write : Bool) : State :=
  let rec' := fun (code cause bit : Nat) =>
    let s := (s.raise .mem code m).edgeIf (bit < 3) .mem bit
    s.complete R.memFault [BitVec.ofNat 32 a, BitVec.ofNat 32 (a / 2 ^ 32 % 2 ^ 16 + m * 2 ^ 16 + b2n write * 2 ^ 20 + cause * 2 ^ 21)]
  match f with
  | .region => rec' 0x0101 1 0
  | .claim => rec' 0x0101 2 0
  | .bankOff => rec' 0x0102 3 3
  | .ecc2 => rec' 0x0104 4 2
  | .atom => rec' 0x0105 5 3
  | _ => s

/-! ## Accesses to other members (R267) -/

/-- The frames of an access to a place of member `k`, 256 bytes each. -/
def remoteFrames (k o len : Nat) (data : Option (List Byte)) (s : State) : State :=
  iterUp ((len + 255) / 256) (fun i (s : State) =>
    let t := s.host.nextTag
    { s.emit (.remoteReq t k (o + 256 * i) data.isSome (((data.getD []).drop (256 * i)).take 256)) with host := { s.host with nextTag := t + 1 } }) s

/-- A block's access to a place of member `k`: whether it is answered within 40 µs. No answer comes from a member that cannot be reached;
whether a reachable one answers is a free value (log entry 99). -/
def remoteTry (k o len : Nat) (data : Option (List Byte)) (s : State) : Bool × State :=
  let s := remoteFrames k o len data s
  if s.memberUp k then (let f := s.fresh; (f.1.getLsbD 0, f.2)) else (false, s)

/-- `n` bytes that another member answers with: free values (log entry 99). -/
def freshBytes (n : Nat) (s : State) : List Byte × State :=
  let r := (List.range ((n + 3) / 4)).foldl (fun (a : List Byte × State) _ => let f := a.2.fresh; (a.1 ++ leBytes 4 f.1.toNat, f.2)) ([], s)
  (r.1.take n, r.2)

/-! ## Accesses of the engines (R9, R328) -/

/-- A step of an engine with master ID `m` that makes the accesses listed (address, length, write). The first one that a region, a
claim or its bank refuses is recorded, and the step does not happen. DESIGN CHOICE (safe, log entry 83): the chapters of the engines
name no error of their own for it. -/
def State.engine (s : State) (m : Nat) (acc : List (Nat × Nat × Bool)) (eff : State → State) : State :=
  match acc.findSome? (fun x => (s.memCheck m x.1 x.2.1 x.2.2).map (fun f => (f, x.1, x.2.2))) with
  | some y => s.memFault y.1 m y.2.1 y.2.2
  | none => eff s

end Sys2Proof.Machine
end

