-- ==== Sys2Proof/Machine/Header.lean ====
section
/-! DEFINITION. The commands of the common page header: LOCK, ERR, IRQ_PEND, IRQ_EN, and the read that latches a high word
(R44 to R48, R52). -/

namespace Sys2Proof.Machine

/-- The three outcomes with a next state: what every command of this model answers. -/
def done (s : State) : Host.Outcome State Fault Refusal := .next s.fin

/-- R46: the lock state a write of `v` to LOCK leads to. -/
def lockNext (p : Page) (l : LockState) (v : Word) : LockState :=
  match l with
  | .locked => if v.toNat = pageCode p then .armed else .locked
  | .armed => if v.toNat = 0xFFFF - pageCode p then .unlocked else .locked
  | .unlocked => if v.toNat = pageCode p then .armed else .locked

/-- The effect of a write to a page's LOCK (R46). -/
def lockEffect (p : Page) (v : Word) (s : State) : State := s.updHdr p (fun h => { h with lock := lockNext p h.lock v })

/-- The effect of a write to a page's ERR with any value (R48). -/
def errEffect (p : Page) (s : State) : State :=
  s.updHdr p (fun h => { h with errCode := 0, errMaster := 0, errMore := false })

/-- The effect of a W1C write to IRQ_PEND (R45); a LEVEL bit whose source still reads 1 is latched again at the end. -/
def pendEffect (p : Page) (v : Word) (s : State) : State := s.updHdr p (fun h => { h with irqPend := h.irqPend &&& ~~~v })

/-- The effect of a write to IRQ_EN (R45). -/
def irqEnEffect (p : Page) (v : Word) (s : State) : State := s.updHdr p (fun h => { h with irqEn := v })

/-- R47: a header write that LOCK never stops; a host write before boot to most pages, or in D3hot, is dropped (R33, R34). -/
def State.ungated (s : State) (m : Nat) (p : Page) (eff : State → State) : State := if s.bootGate m p then s else eff s

/-- LOCK_WRITE (R46). -/
def execLockWrite (m : Master) (p : Page) (v : Word) (s : State) := done (s.ungated m.val p (lockEffect p v))

/-- ERR_WRITE (R48). -/
def execErrWrite (m : Master) (p : Page) (_v : Word) (s : State) := done (s.ungated m.val p (errEffect p))

/-- IRQ_PEND_CLEAR (R45). -/
def execIrqPendClear (m : Master) (p : Page) (v : Word) (s : State) := done (s.ungated m.val p (pendEffect p v))

/-- IRQ_EN_WRITE (R45). -/
def execIrqEnWrite (m : Master) (p : Page) (v : Word) (s : State) := done (s.ungated m.val p (irqEnEffect p v))

/-- RESULT_LOW_WORD_READ (R52): the word is returned and the field's high word latched for the master. -/
def execResultLowWordRead (m : Master) (addr : Nat) (s : State) :=
  match pageOf addr with
  | some p =>
    if s.hostRefused m.val then done s
    else if s.bootGate m.val p then done (s.emit (.readData m.val addr (leBytes 4 0)))
    else done ((s.latchHigh m.val addr).emit (.readData m.val addr (leBytes 4 (s.readReg m.val addr).toNat)))
  | none => if s.hostRefused m.val then done s else done (s.emit (.readData m.val addr (leBytes 4 0)))

end Sys2Proof.Machine
end

