-- ==== Sys2Proof/Machine/Plane.lean ====
section
/-! DEFINITION. The sample plane in SRAM: where a row's values, quality bytes and header lie, the scale and substitute tables,
and the grid mode (R89, R90, R102, R103). -/

namespace Sys2Proof.Machine

/-- ROW wraps after 3 × 2^30 − 1 (R90). -/
def rowMod : Nat := 3 * 2 ^ 30

/-- The row number `k` rows before `r`. -/
def rowBack (r k : Nat) : Nat := (r + rowMod - k % rowMod) % rowMod

/-- `a` is at or after `b`: their difference modulo 3 × 2^30, above 3 × 2^29 read as negative (R90). -/
def rowReached (a b : Nat) : Bool := decide ((a + rowMod - b % rowMod) % rowMod ≤ 3 * 2 ^ 29)

def valueAddr (r q : Nat) : Nat := 0x900000 + (r % 1024) * 2304 + 4 * q
def qualAddr (r q : Nat) : Nat := 0xB40000 + (r % 1024) * 576 + q
def headAddr (r : Nat) : Nat := 0xBD0000 + (r % 1024) * 32
def scaleAddr (q : Nat) : Nat := 0xBD8000 + 4 * q
def substAddr (q : Nat) : Nat := 0xBD8900 + 4 * q

/-- The accesses to row `r` of the plane: values, quality bytes, header. -/
def rowAcc (r : Nat) (write : Bool) : List (Nat × Nat × Bool) := [(valueAddr r 0, 2304, write), (qualAddr r 0, 576, write), (headAddr r, 32, write)]

/-- The int32 value of Qq in the ring slot of row `r`. -/
def State.planeVal (s : State) (r q : Nat) : Int := (s.word (valueAddr r q)).toInt

/-- The quality byte of Qq in the ring slot of row `r`. -/
def State.planeQual (s : State) (r q : Nat) : Nat := (memByte s.mem (qualAddr r q)).toNat

/-- The state with a value and quality byte in the plane. -/
def State.setPlane (s : State) (r q : Nat) (v : Int) (ql : Nat) : State :=
  (s.setWord (valueAddr r q) (BitVec.ofInt 32 v)).setBytes (qualAddr r q) [BitVec.ofNat 8 ql]

/-- A word of a row's header (R103). -/
def State.headWord (s : State) (r i : Nat) : Word := s.word (headAddr r + 4 * i)

/-- The grid is in tracked mode (GRID_CFG.MODE = 0). -/
def State.tracked (s : State) : Bool := s.get R.gridCfg_mode == 0

/-- N of the tracked grid (GRID_CFG.NSEL). -/
def State.gridN (s : State) : Nat := match s.get R.gridCfg_nsel with | 0 => 48 | 1 => 96 | _ => 192

/-- Rows per tick (R89): 1, 2 for N = 192 and STEADY, 4 for BRISK, 16 for GALE. -/
def State.rowsPerTick (s : State) : Nat :=
  match s.get R.gridCfg_mode with
  | 0 => if s.gridN = 192 then 2 else 1
  | 1 => 16 | 2 => 4 | 3 => 2 | _ => 1

/-- Row rate of a preset in Hz (R89). -/
def State.presetRate (s : State) : Nat :=
  match s.get R.gridCfg_mode with | 1 => 96000 | 2 => 24000 | 3 => 12000 | _ => 6000

/-- Rows of one cycle: N, or under a preset the rows of one nominal cycle (R100). -/
def State.rowsPerCycle (s : State) : Nat :=
  if s.tracked then s.gridN else s.presetRate * 100 / s.get R.gridCfg_fnom

/-- Row `r` is a tick row (R89). -/
def State.isTickRow (s : State) (r : Nat) : Bool := r % s.rowsPerTick == 0

/-- The row `k` rows before row `r` where ROW did not always follow on (R98): each jump names a row and the row before it. -/
def rowAgo : List (Nat × Nat) → Nat → Nat → Nat
  | [], r, k => rowBack r k
  | (a, b) :: t, r, k =>
    let d := (r + rowMod - a % rowMod) % rowMod
    if k ≤ d then rowBack r k else rowAgo t b (k - d - 1)

/-- The row produced `k` rows before row `r`. -/
def State.ago (s : State) (r k : Nat) : Nat := rowAgo s.grid.jumps r k

/-- The rows that a tick at row `r` takes up (R19): those since the tick before, and row 0 alone on the first tick after a grid
start. -/
def State.tickRows (s : State) (r : Nat) : List Nat :=
  if s.grid.sealed ≤ 1 ∧ s.grid.old = 0 then [r] else (List.range s.rowsPerTick).map (fun i => s.ago r (s.rowsPerTick - 1 - i))

/-- The profile's limits on quantities (R29): Q0 to Q575, in COOL Q0 to Q287. -/
def State.numQ (s : State) : Nat := if s.get R.sysProfile_active = 2 then 288 else 576

/-- The phasor reservation of a tick in ns (R29). -/
def State.phasorReservation (s : State) : Nat := match s.get R.sysProfile_active with | 0 => 11500 | 1 => 23000 | _ => 5800

/-- The last row sealed (GRID_NOW.ROW). -/
def State.lastRow (s : State) : Nat := (s.groupWord R.gridNow 1).toNat

end Sys2Proof.Machine
end

