-- ==== Sys2Proof/Machine/Afe.lean ====
section
/-! DEFINITION. Analog and bitstream inputs (chapter 03). -/

namespace Sys2Proof.Machine

def State.ain (s : State) (n : Nat) : AinChan := tget {} s.afe.ain n
def State.updAin (s : State) (n : Nat) (f : AinChan → AinChan) : State :=
  { s with afe := { s.afe with ain := tupd {} s.afe.ain n f } }
def State.updBsi (s : State) (n : Nat) (f : BsiChan → BsiChan) : State :=
  { s with afe := { s.afe with bsi := tupd {} s.afe.bsi n f } }

/-- R60: AIN channel n is usable only with MOD_EN and its EN set. -/
def State.ainOn (s : State) (n : Nat) : Bool := s.bit R.afeCtrl_mod_en && s.bit (R.afeAinCfg_en n)

/-- BSI channel n runs: EN, and MCLK_OUT toggles. -/
def State.bsiOn (s : State) (n : Nat) : Bool := s.bit (R.afeBsiCfg_en n) && s.bit R.afeStat_mclk_run

/-- The samples of local channel `c` carry INVALID (R60, R72). -/
def State.afeInvalid (s : State) (c : Nat) : Bool :=
  if c < 32 then !(s.ainOn c && (s.ain c).settled)
  else !s.bsiOn (c - 32) || s.regBit R.afeBsiStat (c - 32) || s.regBit R.afeStat (2 + (c - 32) / 8)

/-- MOD_READY is 1 once every enabled AIN modulator has settled (AFE STAT). DESIGN CHOICE (safe, log entry 91): with no AIN
channel enabled it reads 0. -/
def State.modReady (s : State) : State :=
  s.putBit R.afeStat_mod_ready
    (s.bit R.afeCtrl_mod_en && (List.range 32).any s.ainOn && (List.range 32).all (fun n => !s.ainOn n || (s.ain n).settled))

/-- R65: the detection state of channel n ends: OPENW clears and the runs return to 0. -/
def State.owEnd (s : State) (n : Nat) : State :=
  (s.setRegBit R.afeOwStat n false).updAin n (fun c => { c with owRun := 0, owClear := 0 })

/-- R65, R68: the probe mode in force. -/
def State.owMode (s : State) (n : Nat) : Nat := ((s.ain n).owMode).getD (s.get (R.afeAinCfg_ow_mode n))

/-- A sticky OVR bit is set; its rise is an edge of AFE IRQ_RAW.OVR. -/
def State.ovrSticky (s : State) (reg n : Nat) : State :=
  (s.edgeIf (!s.regBit reg n) .afe 1).setRegBit reg n true

/-- R65, R68: what a change of OW_MODE leaves of a channel's probing: the run restarts and a mean is formed afresh; while a pulse
runs the old mode stays in force until the next grid cycle. -/
def AinChan.newMode (old new : Nat) (c : AinChan) : AinChan :=
  { c with owRun := 0, owClear := 0, sum := 0, cnt := 0, sumOvr := false, mean := none, deferred := false,
           owMode := if c.pulse && old == 2 then some old else if c.owMode == some new then none else c.owMode }

/-- R68: EN cleared: the pulse stops at once and its measurement is discarded. -/
def AinChan.stopped (c : AinChan) : AinChan :=
  { c with settled := false, pulse := false, deferred := false, owMode := none, sincs := [], sum := 0, cnt := 0, sumOvr := false, mean := none }

/-- The effect of a write to AFE_AINn_CFG (R60, R65, R68). DESIGN CHOICE (unsafe, log entry 91): a write that breaks both rules
records RANGE_LIVE. -/
def afeAinCfgEffect (m n : Nat) (v : Word) (s : State) : State :=
  let old := s.reg (R.afeAinCfg n)
  let en0 := (R.afeAinCfg_en n).of old; let en1 := (R.afeAinCfg_en n).of v
  let md0 := (R.afeAinCfg_ow_mode n).of old; let md1 := (R.afeAinCfg_ow_mode n).of v
  if en0 = 1 ∧ en1 = 1 ∧ (R.afeAinCfg_range n).of old ≠ (R.afeAinCfg_range n).of v then s.raise .afe 0x0101 m
  else if md1 = 3 ∨ (md1 = 2 ∧ md0 ≠ 2 ∧ (!s.tracked || s.gridN == 192)) then s.raise .afe 0x0103 m
  else
    let s := s.storeReg (R.afeAinCfg n) v
    let s := if en0 = 0 ∧ en1 = 1 then s.updAin n (fun c => { c with settled := false }) else s
    let s := if en1 = 0 then s.updAin n AinChan.stopped else s
    let s := if en1 = 0 ∨ md1 = 0 then (s.owEnd n).invalidate (R.afeOwMeas n) else s
    let s := if md1 ≠ md0 ∧ en1 = 1 then s.updAin n (AinChan.newMode md0 md1) else s
    s.modReady

/-- The effect of a write to AFE CTRL (R60, R69, R72). -/
def afeCtrlEffect (m : Nat) (v : Word) (s : State) : State :=
  let d0 := s.get R.afeCtrl_mclk_div; let d1 := R.afeCtrl_mclk_div.of v
  let m0 := s.bit R.afeCtrl_mod_en; let m1 := R.afeCtrl_mod_en.of v == 1
  if d1 = 3 ∨ (d1 ≠ d0 ∧ (List.range 32).any (fun n => s.bit (R.afeBsiCfg_en n)) = true) then s.raise .afe 0x0102 m
  else
    let s := (s.storeReg R.afeCtrl v).putBit R.afeStat_mclk_run (d1 != 0)
    let s := if m0 == m1 then s
      else iterUp 32 (fun n s =>
        if m1 then s.updAin n (fun c => { c with settled := false }) else (s.updAin n AinChan.stopped).owEnd n) s
    s.modReady

def State.bsi (s : State) (n : Nat) : BsiChan := tget {} s.afe.bsi n

/-- R72: BSI channel n is INVALID: its own stream is lost, 4096 identical bits have come, or its group's returned clock is lost. -/
def State.bsiLost (s : State) (n : Nat) : Bool := (s.bsi n).lost || (s.bsi n).run == 4096 || s.regBit R.afeStat (2 + n / 8)

/-- AFE_BSI_STAT bit n follows an enabled channel; that of a channel whose EN is 0 keeps (DESIGN CHOICE, safe, log entry 91). -/
def State.bsiStat (s : State) (n : Nat) : State :=
  if s.bit (R.afeBsiCfg_en n) then s.setRegBit R.afeBsiStat n (s.bsiLost n) else s

/-- The effect of a write to AFE_BSIn_CFG (R70, R72). -/
def afeBsiCfgEffect (m n : Nat) (v : Word) (s : State) : State :=
  let md1 := (R.afeBsiCfg_mode n).of v
  if md1 = 3 ∨ (s.bit (R.afeBsiCfg_en n) ∧ md1 ≠ s.get (R.afeBsiCfg_mode n)) then s.raise .afe 0x0104 m
  else (s.storeReg (R.afeBsiCfg n) v).bsiStat n

/-- AFE_AIN_CFG_WRITE (R60, R65, R68). -/
def execAfeAinCfgWrite (m : Master) (n : Fin 32) (v : Word) (s : State) :=
  done (s.guarded m.val .afe (afeAinCfgEffect m.val n.val v))

/-- AFE_CTRL_WRITE (R60, R69, R72). -/
def execAfeCtrlWrite (m : Master) (v : Word) (s : State) := done (s.guarded m.val .afe (afeCtrlEffect m.val v))

/-- AFE_BSI_CFG_WRITE (R70, R72). -/
def execAfeBsiCfgWrite (m : Master) (n : Fin 32) (v : Word) (s : State) :=
  done (s.guarded m.val .afe (afeBsiCfgEffect m.val n.val v))

/-- MODULATOR_SETTLED (R60): an enabled modulator settles; MOD_READY rises with the last of them. -/
def execModulatorSettled (n : Fin 32) (s : State) :=
  done (if s.ainOn n.val then (s.updAin n.val (fun c => { c with settled := true })).modReady else s)

/-- OVERRANGE_DETECT (R62): while the comparator is tripped every output bit carries OVR; the sticky bit is set. -/
def execOverrangeDetect (n : Fin 32) (s : State) :=
  done (if s.ainOn n.val then (s.updAin n.val (fun c => { c with tripped := true })).ovrSticky R.afeOvrSticky n.val else s)

/-- OVERRANGE_RELEASE (R62): bits stop carrying OVR. -/
def execOverrangeRelease (n : Fin 32) (s : State) := done (s.updAin n.val (fun c => { c with tripped := false }))

/-- MODULATOR_LOOP_RESET (R62): 8 clocks of mid-scale with OVR; MODRST is set. -/
def execModulatorLoopReset (n : Fin 32) (s : State) :=
  done (if s.ainOn n.val then
    ((s.updAin n.val (fun c => { c with midscale := 8 })).ovrSticky R.afeOvrSticky n.val).edge .afe 3 else s)

/-- R67: the eight sinc samples that end at a modulator clock, where the history still holds them. -/
def AinChan.eight (c : AinChan) (clk : Nat) : Option (List Tagged) :=
  if c.sincClk < clk then none
  else
    let l := (c.sincs.drop ((c.sincClk - clk + 31) / 32)).take 8
    if l.length = 8 then some l else none

/-- Modulator clocks of a pulse: 20 µs. -/
def pulseClocks : Nat := 491

/-- R65: a measurement that is ready: numerator and denominator in units of range / 1024, and whether a sample of its window
carries OVR. +range is 0x6000_0000 (R63). -/
def State.owReady (s : State) (n : Nat) : Option (Int × Nat × Bool) :=
  let c := s.ain n
  if s.owMode n = 1 then c.mean.map (fun x => (x.1 * 1024, x.2.1 * 0x60000000, x.2.2))
  else if s.owMode n = 2 ∧ c.pulse = true then
    match c.eight (c.pulseClk + pulseClocks), c.eight c.pulseClk with
    | some a, some b => some (((a.map (·.val)).sum - (b.map (·.val)).sum) * 1024, 8 * 0x60000000, a.any (·.ovr) || b.any (·.ovr))
    | _, _ => none
  else none

/-- OPEN_WIRE_MEASUREMENT (R65): a kept measurement moves the OW_CNT run and completes AFE_OWn_MEAS; one with OVR in its window is
discarded, and so is that of a pulse whose channel has been set to off (DESIGN CHOICE, safe, log entry 92). The rounding of LEVEL
is free. -/
def owMeasure (n : Nat) (s : State) : State :=
  match s.owReady n with
  | none => s
  | some (num, den, ovr) =>
    let s := s.updAin n (fun c => { c with pulse := false, mean := none })
    if ovr || !s.ainOn n || s.get (R.afeAinCfg_ow_mode n) == 0 then s
    else
      let thr := s.get (R.afeAinCfg_ow_thr n)
      let cnt := Nat.max 1 (s.get (R.afeAinCfg_ow_cnt n))
      let run := if (thr * den : Nat) < num then Nat.min 255 ((s.ain n).owRun + 1) else 0
      let clr := if 2 * num < (thr * den : Nat) then Nat.min 255 ((s.ain n).owClear + 1) else 0
      let s := s.updAin n (fun c => { c with owRun := run, owClear := clr })
      let s := if cnt ≤ run then s.setRegBit R.afeOwStat n true
        else if cnt ≤ clr then s.setRegBit R.afeOwStat n false else s
      s.complete (R.afeOwMeas n) [BitVec.ofNat 32 (patOf 16 (qRound 5 [num, den] num den) + run * 2 ^ 16)]

/-- OPEN_WIRE_MEASUREMENT (R65). -/
def execOpenWireMeasurement (n : Fin 32) (s : State) := done (owMeasure n.val s)

/-- R68: the channel's OVR tag was set in the last N rows. -/
def State.ovrLastCycle (s : State) (n : Nat) : Bool :=
  let r := tget 0 s.grid.ovrRow n
  decide (0 < r) && decide ((s.grid.row + rowMod - r) % rowMod < s.gridN)

/-- R67, R68: a pulse is due: the last row written is sample j = 2n mod N of a probe cycle, or of the cycle to which a pulse has been
deferred. Probe cycles are those whose number is a multiple of 2^OW_PER (DESIGN CHOICE, unsafe, log entry 92). -/
def State.probeDue (s : State) (n : Nat) : Bool :=
  let j := rowBack s.grid.row 1
  j % s.gridN == (2 * n) % s.gridN && ((s.ain n).deferred || (j / s.gridN) % 2 ^ Nat.min 8 (s.get (R.afeAinCfg_ow_per n)) == 0)

/-- R67: modulator clock 10 µs before the middle of sample j and the next. -/
def State.probeClk (s : State) : Nat := ((2 * s.grid.pos - s.grid.inc) * 50 / 2 ^ 24 - 24576) / 100 + s.grid.origin

/-- PROBE_PULSE (R67, R68): the pulse runs between the last row written (sample j) and the next; both are replaced at their
seals. It is deferred while the tracker is FROZEN or after a cycle with OVR. -/
def probePulse (n : Nat) (s : State) : State :=
  if !(s.ainOn n && s.owMode n == 2 && s.tracked && s.gridN != 192 && s.probeDue n) then s
  else if s.get R.gridStat_trk == 4 || s.ovrLastCycle n then s.updAin n (fun c => { c with deferred := true })
  else s.updAin n (fun c => { c with pulse := true, deferred := false, pulseRow := some (rowBack s.grid.row 1), pulsed := true, pulseClk := s.probeClk })

/-- PROBE_PULSE (R67, R68). -/
def execProbePulse (n : Fin 32) (s : State) := done (probePulse n.val s)

/-- R65, R68: a grid cycle begins: means of the last cycle stand ready, and a probe mode that waits takes over. -/
def probeCycle (s : State) : State :=
  iterUp 32 (fun n (s : State) => s.updAin n (fun c => { c with
    owMode := none, sum := 0, cnt := 0, sumOvr := false, mean := if c.cnt = 0 then none else some (c.sum, c.cnt, c.sumOvr) })) s

/-- The channels of group g show what R72 makes of the returned clock. -/
def State.groupStat (s : State) (g : Nat) : State := iterUp 8 (fun i (s : State) => s.bsiStat (8 * g + i)) s

/-- An enabled channel of group g is captured with the returned clock. -/
def State.usesClock (s : State) (g : Nat) : Bool :=
  (List.range 8).any (fun i => s.bsiOn (8 * g + i) && s.get (R.afeBsiCfg_mode (8 * g + i)) == 0)

/-- RETURNED_CLOCK_LOST (R72). -/
def execReturnedClockLost (g : Fin 4) (s : State) :=
  done (if s.usesClock g.val then (s.setRegBit R.afeStat (2 + g.val) true).groupStat g.val else s)

/-- RETURNED_CLOCK_RECOVERED (R72). -/
def execReturnedClockRecovered (g : Fin 4) (s : State) := done ((s.setRegBit R.afeStat (2 + g.val) false).groupStat g.val)

/-- BSI channel n is enabled in Manchester mode (R70). -/
def State.bsiMan (s : State) (n : Nat) : Bool := s.bsiOn n && s.get (R.afeBsiCfg_mode n) == 2

/-- The stream of BSI channel n is lost for a cause of its own, or no longer. -/
def State.setLost (s : State) (n : Nat) (b : Bool) : State := (s.updBsi n (fun c => { c with lost := b })).bsiStat n

/-- MANCHESTER_TRANSITION_LOST (R72). -/
def execManchesterTransitionLost (n : Fin 32) (s : State) := done (if s.bsiMan n.val then s.setLost n.val true else s)

/-- R69: modulator clocks for which a captured bit repeats. -/
def State.bsiDiv (s : State) : Nat := if s.get R.afeCtrl_mclk_div = 2 then 4 else 2

/-- The newest bits of BSI channel n in the chain's input are changed. -/
def State.updBits (s : State) (n : Nat) (f : List ModBit → List ModBit) : State :=
  { s with dfc := { s.dfc with chan := tupd {} s.dfc.chan (32 + n) (fun ch => { ch with bits := f ch.bits }) } }

/-- OVR on the newest `k` bits. -/
def tagNewest (k : Nat) (bits : List ModBit) : List ModBit :=
  (bits.take k).map (fun (b : ModBit) => { b with ovr := true }) ++ bits.drop k

/-- The newest `k` bits, one captured bit, are replaced by the bit before and tagged OVR (R72). -/
def replaceNewest (k : Nat) (bits : List ModBit) : List ModBit :=
  let v := (bits.getD k {}).bit
  (bits.take k).map (fun (b : ModBit) => { b with bit := v, ovr := true }) ++ bits.drop k

/-- MANCHESTER_VIOLATION (R72): the newest captured bit is one, with `inWindow` violations in the last 64 bits, this one
included. -/
def execManchesterViolation (n : Fin 32) (inWindow : Nat) (s : State) :=
  done (if !s.bsiMan n.val then s
    else if 5 ≤ inWindow then s.setLost n.val true
    else
      let v := ((tget {} s.dfc.chan (32 + n.val)).bits.getD s.bsiDiv {}).bit
      ((s.updBits n.val (replaceNewest s.bsiDiv)).updBsi n.val (fun c => { c with bit := v, ovr := true })).ovrSticky R.afeBsiOvrSticky n.val)

/-- BSI_STREAM_RECOVERED (R72). -/
def execBsiStreamRecovered (n : Fin 32) (s : State) :=
  done ((s.updBsi n.val (fun c => { c with lost := false, run := Nat.min 4095 c.run })).bsiStat n.val)

/-- IDENTICAL_BIT_RUN (R72): the newest `run` captured bits are identical. From 32 on they carry OVR, as far as they are still under
the SINC stage's taps, and set the sticky bit; 4096 lose the stream until a transition. -/
def execIdenticalBitRun (n : Fin 32) (run : Nat) (s : State) :=
  done (if !s.bsiOn n.val || decide (run < 32) then s
    else ((((s.updBits n.val (tagNewest (run * s.bsiDiv))).updBsi n.val (fun c => { c with run := Nat.min 4096 run, ovr := true })).ovrSticky
      R.afeBsiOvrSticky n.val).bsiStat n.val))

end Sys2Proof.Machine
end

