-- ==== Sys2Proof/Machine/Journal.lean ====
section
/-! DEFINITION. The in-flight journal (R357 to R361) and the lifetime counts (R362 to R364). -/

namespace Sys2Proof.Machine

/-! ## Checks -/

/-- Shift out `n` bits of a reflected CRC-32. -/
def crc32Bits : Nat → Nat → Nat
  | 0, c => c
  | n + 1, c => crc32Bits n (if c % 2 = 1 then (c / 2) ^^^ 0xEDB88320 else c / 2)

/-- CRC-32 of IEEE 802.3 (R319, R358, R362). -/
def crc32 (bs : List Byte) : Word :=
  BitVec.ofNat 32 (bs.foldl (fun c b => crc32Bits 8 (c ^^^ b.toNat)) 0xFFFFFFFF) ^^^ 0xFFFFFFFF#32

def crc16Bits : Nat → Nat → Nat
  | 0, c => c
  | n + 1, c => crc16Bits n (if 0x8000 ≤ c % 2 ^ 16 then ((2 * c) ^^^ 0x1021) % 2 ^ 16 else 2 * c % 2 ^ 16)

/-- CRC-16/CCITT-FALSE (R306). -/
def crc16 (bs : List Byte) : Nat := bs.foldl (fun c b => crc16Bits 8 ((c ^^^ (b.toNat * 256)) % 2 ^ 16)) 0xFFFF

/-- The bytes of 32-bit words, each low byte first (R4). -/
def bytesOf (ws : List Word) : List Byte := ws.flatMap (fun w => leBytes 4 w.toNat)

/-! ## Lifetime counts (R362, R363) -/

/-- A lifetime count adds `n` and stops at 2^48 − 1. -/
def State.addLife (s : State) (i n : Nat) : State :=
  { s with life := { s.life with counts := tupd 0 s.life.counts i (fun x => Nat.min (2 ^ 48 - 1) (x + n)) } }

/-! ## Entries -/

/-- Wall-class seconds, low 32 bits, and nanoseconds (R306). -/
def State.wallSec (s : State) : Word := BitVec.ofNat 32 (s.wallNs / 1000000000)
def State.wallSub (s : State) : Nat := s.wallNs % 1000000000

/-- An entry as it is acknowledged; SEQ is set when it is written (R358). -/
def State.jEntry (s : State) (opid cls kind outcome : Nat) (data : List Word) : JEntry :=
  ⟨0, opid, s.tstamp, cls, kind, outcome, data, s.wallSec, s.wallSub⟩

/-- The sixteen words of an entry (R358). -/
def JEntry.words (e : JEntry) : List Word :=
  let ws : List Word := [BitVec.ofNat 32 e.seq, BitVec.ofNat 32 e.opid, e.ts, BitVec.ofNat 32 (e.cls + e.kind * 16 + e.outcome * 256)]
    ++ (List.range 8).map (fun i => e.data.getD i 0) ++ [e.wsec, BitVec.ofNat 32 e.wns, 0]
  ws ++ [crc32 (bytesOf ws)]

/-- R357, R354: the AON queue holds 64 entries, and while the Ladle runs those that it found and 128 more. -/
def State.jRoom (s : State) : Bool :=
  decide (s.jrnl.queue.length < match s.sys.ladle with | some r => r.queued + 128 | none => 64)

/-- R357: an entry of a class that waits for space; while the Ladle runs none waits (R354 step 6). -/
def State.jWaits (s : State) (cls : Nat) : Bool := (cls == 4 || cls == 5) && s.sys.ladle.isNone

/-- An entry is offered to the queue. Where it is full a DMA or recast entry waits and any other is refused (R357, R354). -/
def State.jOffer (s : State) (e : JEntry) : State :=
  if s.jRoom then { s with jrnl := { s.jrnl with queue := s.jrnl.queue ++ [e] } }
  else if s.jWaits e.cls then { s with jrnl := { s.jrnl with waiting := s.jrnl.waiting ++ [e] } }
  else ({ s with jrnl := { s.jrnl with lost := s.jrnl.lost + 1, gap := s.jrnl.gap + 1 } }).edge .jrnl 1

/-- An OPEN entry takes a new operation number (R358); an operation whose entry is refused is not held open. -/
def State.jOpen (s : State) (cls : Nat) (data : List Word) : State :=
  let id := s.jrnl.nextOp
  let held := s.jRoom || s.jWaits cls
  let s := s.jOffer (s.jEntry id cls 0 0 data)
  { s with jrnl := { s.jrnl with nextOp := (id + 1) % 2 ^ 32,
                                 ops := if held then s.jrnl.ops ++ [⟨id, cls, data, 0, none⟩] else s.jrnl.ops } }

/-- A MARK on an operation. -/
def State.jMark (s : State) (op : OpenOp) (data : List Word) : State := s.jOffer (s.jEntry op.opid op.cls 1 0 data)

/-- A DONE ends an operation. -/
def State.jDone (s : State) (op : OpenOp) (outcome : Nat) (data : List Word) : State :=
  let s := s.jOffer (s.jEntry op.opid op.cls 2 outcome data)
  { s with jrnl := { s.jrnl with ops := s.jrnl.ops.filter (fun o => o.opid != op.opid) } }

/-- The open operations of this boot. One that the scan found open is ended by JRNL_RESOLVE alone (R361). -/
def State.jOwn (s : State) : List OpenOp := s.jrnl.ops.filter (fun o => !s.jrnl.scanOpen.any (fun x => x.opid == o.opid))

/-- DONE on every open operation of this boot that `p` picks. -/
def State.jDoneAll (s : State) (p : OpenOp → Bool) (outcome : Nat) (data : OpenOp → List Word) : State :=
  (s.jOwn.filter p).foldl (fun s op => s.jDone op outcome (data op)) s

/-- The newest open operation of this boot that `p` picks. -/
def State.jFind (s : State) (p : OpenOp → Bool) : Option OpenOp := s.jOwn.reverse.find? p

/-- Copies A and B of one ring entry (R357). -/
def State.jWrite (s : State) (e : JEntry) : State :=
  let e := { e with seq := s.jrnl.next }
  let k := e.seq % 4096
  { s with jrnl := { s.jrnl with copyA := tset none s.jrnl.copyA k (some e), copyB := tset none s.jrnl.copyB k (some e),
                                 next := (s.jrnl.next + 1) % 2 ^ 32 } }

/-- The entry that the head is about to overwrite belongs to an open operation, and is written again as a CARRY (R360). -/
def jCarry : Nat → State → State
  | 0, s => s
  | n + 1, s =>
    match s.jrnl.ops.find? (fun o => o.seq.any (fun q => (s.jrnl.next + 2 ^ 32 - q) % 2 ^ 32 == 4096)) with
    | none => s
    | some op =>
      let old := (tget none s.jrnl.copyA (s.jrnl.next % 4096)).getD (s.jEntry op.opid op.cls 0 0 op.data)
      let q := s.jrnl.next
      let s := s.jWrite { old with kind := 3 }
      jCarry n { s with jrnl := { s.jrnl with ops := s.jrnl.ops.map (fun o => if o.opid = op.opid then { o with seq := some q } else o) } }

/-- One queued entry is written, and what waits for space follows: a GAP entry, then waiting entries (R357). -/
def jDrain (s : State) : State :=
  match s.jrnl.queue with
  | [] => s
  | e :: rest =>
    let s := jCarry (s.jrnl.ops.length + 1) { s with jrnl := { s.jrnl with queue := rest } }
    let q := s.jrnl.next
    let s := s.jWrite e
    let s := if e.kind = 0 then
        { s with jrnl := { s.jrnl with ops := s.jrnl.ops.map (fun o => if o.opid = e.opid then { o with seq := some q } else o) } }
      else s
    let s := if 0 < s.jrnl.gap ∧ s.jRoom then
        let s' := s.jOffer (s.jEntry 0 0 7 0 [BitVec.ofNat 32 s.jrnl.gap])
        { s' with jrnl := { s'.jrnl with gap := 0 } }
      else s
    match s.jrnl.waiting with
    | w :: ws => if s.jRoom then ({ s with jrnl := { s.jrnl with waiting := ws } }).jOffer w else s
    | [] => s

/-- JOURNAL_DRAIN (R357, R360). While the Ladle runs, its own steps write the queue (R354). -/
def execJournalDrain (s : State) := done (if s.sys.ladle.isSome then s else jDrain s)

/-- The number of the oldest entry in the ring. A ring that has not come round holds nothing from its head on. -/
def State.jOldest (s : State) : Nat :=
  let ahead := fun (t : Table (Option JEntry)) => t.any (fun x => decide (s.jrnl.next ≤ x.1))
  if s.jrnl.next < 4096 ∧ !ahead s.jrnl.copyA ∧ !ahead s.jrnl.copyB then 0 else (s.jrnl.next + 2 ^ 32 - 4096) % 2 ^ 32

/-- JRNL_POS_INTERVAL (the JRNL page). -/
def execJrnlPosInterval (s : State) :=
  done (s.complete R.jrnlPos [BitVec.ofNat 32 s.jrnl.next, BitVec.ofNat 32 s.jOldest, BitVec.ofNat 32 s.jrnl.ops.length,
    BitVec.ofNat 32 s.jrnl.lost])

/-- JRNL_OPEN: the open counts of classes 1 to 7 and BAD. -/
def State.jOpenGroup (s : State) : State :=
  let n := fun c => (s.jrnl.scanOpen.filter (fun o => o.cls == c)).length % 2 ^ 16
  s.complete R.jrnlOpen [BitVec.ofNat 32 (n 1 + n 2 * 2 ^ 16), BitVec.ofNat 32 (n 3 + n 4 * 2 ^ 16), BitVec.ofNat 32 (n 5 + n 6 * 2 ^ 16),
    BitVec.ofNat 32 (n 7 + s.jrnl.bad % 2 ^ 16 * 2 ^ 16)]

/-- The effect of a write to JRNL_RESOLVE (R361, Reading the journal). -/
def jResolveEffect (m : Nat) (v : Word) (s : State) : State :=
  match s.jrnl.ops.find? (fun o => o.opid == v.toNat) with
  | none => s.raise .jrnl 0x0101 m
  | some op =>
    let s := s.jOffer (s.jEntry op.opid op.cls 4 0 [])
    ({ s with jrnl := { s.jrnl with ops := s.jrnl.ops.filter (fun o => o.opid != op.opid),
                                    scanOpen := s.jrnl.scanOpen.filter (fun o => o.opid != op.opid) } }).jOpenGroup

/-- JRNL_RESOLVE. -/
def execJrnlResolve (m : Master) (v : Word) (s : State) := done (s.guarded m.val .jrnl (jResolveEffect m.val v))

/-- The effect of a write to JRNL_CURSOR: a load starts (R312). -/
def jCursorEffect (v : Word) (s : State) : State :=
  let s := (s.storeReg R.jrnlCursor v).invalidate R.jrnlWinSt
  { s with jrnl := { s.jrnl with load := some v.toNat } }

/-- JRNL_CURSOR_WRITE. -/
def execJrnlCursorWrite (m : Master) (v : Word) (s : State) := done (s.guarded m.val .jrnl (jCursorEffect v))

/-- JRNL_WINDOW_LOAD_DONE (R312 as the JRNL page applies it). -/
def execJrnlWindowLoadDone (s : State) :=
  match s.jrnl.load with
  | none => done s
  | some q =>
    let back := (s.jrnl.next + 2 ^ 32 - q) % 2 ^ 32
    let held := (s.jrnl.next + 2 ^ 32 - s.jOldest) % 2 ^ 32
    let n := if 0 < back ∧ back ≤ held then Nat.min 8 back else 0
    let gone := decide (held < back ∧ back < 2 ^ 31)
    let first := if gone then s.jOldest else q
    let ent := fun e => if e < n then (tget none s.jrnl.copyA ((q + e) % 4096)).orElse (fun _ => tget none s.jrnl.copyB ((q + e) % 4096)) else none
    let bad := (List.range 8).foldl (fun a e => if e < n ∧ (ent e).isNone then a + 2 ^ e else a) 0
    let s := iterUp 8 (fun e (s : State) => s.setRegs (R.jrnlWin (16 * e)) (match ent e with | some x => x.words | none => List.replicate 16 0)) s
    done (({ s with jrnl := { s.jrnl with load := none } }).complete R.jrnlWinSt
      [BitVec.ofNat 32 first, BitVec.ofNat 32 (n + bad * 16)])

/-! ## Lifetime record (R362, R364) -/

/-- Copy B is the older one, by the SEQ of the records; an empty or bad copy is older than any. -/
def LifeState.toB (l : LifeState) : Bool :=
  match l.copyA, l.copyB with
  | none, _ => false
  | some _, none => true
  | some a, some b => decide ((a.seq + 2 ^ 32 - b.seq) % 2 ^ 32 < 2 ^ 31)

/-- A lifetime record is written to the older copy. -/
def lifeWrite (s : State) : State :=
  let toB := s.life.toB
  let r : LifeRec := ⟨s.life.seq, s.tstamp, s.wallSec, s.life.counts⟩
  let s := { s with life := { s.life with copyA := if toB then s.life.copyA else some r, copyB := if toB then some r else s.life.copyB,
                                          seq := (s.life.seq + 1) % 2 ^ 32 } }
  (((s.putBit R.lifeStat_newest toB).complete R.lifeLast [BitVec.ofNat 32 r.seq, r.ts, BitVec.ofNat 32 (b2n toB)])).edge .life 0

/-- LIFE_UPDATE (R362): the periodic record under its journal operation; not while the Ladle has run (R356). -/
def execLifeUpdate (s : State) :=
  if s.evr.closed then done s
  else
    let s := s.jOpen 7 [BitVec.ofNat 32 s.life.seq, BitVec.ofNat 32 (b2n s.life.toB)]
    let s := lifeWrite s
    match s.jFind (fun o => o.cls == 7) with
    | some op => done (s.jDone op 0 op.data)
    | none => done s

/-- The effect of a write to LIFE_SEL: a count above 281 is refused, else LIFE_VAL returns the live count. -/
def lifeSelEffect (m : Nat) (v : Word) (s : State) : State :=
  if 281 < R.lifeSel_index.of v then s.raise .life 0x0101 m
  else
    let s := (s.storeReg R.lifeSel v).invalidate R.lifeVal
    let c := tget 0 s.life.counts (R.lifeSel_index.of v)
    s.complete R.lifeVal [BitVec.ofNat 32 c, BitVec.ofNat 32 (c / 2 ^ 32)]

/-- LIFE_SEL_WRITE. -/
def execLifeSelWrite (m : Master) (v : Word) (s : State) := done (s.guarded m.val .life (lifeSelEffect m.val v))

end Sys2Proof.Machine
end

