-- ==== Sys2Proof/Machine/Events.lean ====
section
/-! DEFINITION. The event recorder: arrivals, Squall, flushing, the read window (R305 to R312). -/

namespace Sys2Proof.Machine

/-! ## Sources -/

/-- An event stamped now. -/
def State.mkEvent (s : State) (cls code index : Nat) (d0 d1 : Word) (d2 : Nat) : Event :=
  { ts := s.tstamp, wsec := s.wallSec, wns := s.wallSub, wstate := s.get R.timStat_wall, cls := cls, code := code, index := index
    d0 := d0, d1 := d1, d2 := d2 }

/-- A source delivers an event toward the EVR (R308). -/
def State.addEv (s : State) (e : Event) : State := { s with evr := { s.evr with queue := s.evr.queue ++ [e] } }

/-- A source delivers an event stamped now. -/
def State.event (s : State) (cls code index : Nat) (d0 d1 : Word) (d2 : Nat) : State := s.addEv (s.mkEvent cls code index d0 d1 d2)

/-! ## The ring (R305, R306) -/

def evAddr (seq : Nat) : Nat := 0x1480000 + 32 * (seq % 65536)

/-- The eight words of an entry. -/
def Event.words (e : Event) (seq : Nat) : List Word :=
  let w := [BitVec.ofNat 32 seq, e.ts, e.wsec, BitVec.ofNat 32 (e.wns % 2 ^ 30 + e.wstate * 2 ^ 30),
    BitVec.ofNat 32 (e.cls + e.code * 2 ^ 6 + e.index % 2 ^ 12 * 2 ^ 12 + b2n e.test * 2 ^ 24 + b2n e.coal * 2 ^ 25 + b2n e.ladle * 2 ^ 26
      + b2n e.restored * 2 ^ 27), e.d0, e.d1]
  let d2 := e.d2 % 2 ^ 16
  w ++ [BitVec.ofNat 32 (d2 + crc16 ((bytesOf w) ++ leBytes 2 d2) * 2 ^ 16)]

/-- Unflushed entries (R309). -/
def State.evU (s : State) : Nat := (s.evr.next + 2 ^ 32 - s.evr.unfl) % 2 ^ 32

/-- The flush in progress; one started by a trip is remembered (IRQ_RAW.FLUSHED). -/
def State.startFlush (s : State) (trip : Bool) : State :=
  if s.evU = 0 ∧ !trip then s
  else ({ s with evr := { s.evr with tripFlush := s.evr.tripFlush || trip } }).putBit R.evrStat_flushing true

/-- An entry takes the next SEQ and is written to the ring; a flush starts at THR (R309). -/
def State.evWrite (s : State) (e : Event) : State :=
  let q := s.evr.next
  let s := s.engine 7 [(evAddr q, 32, true)] (fun s => s.setWords (evAddr q) (e.words q))
  let s := { s with evr := { s.evr with next := (q + 1) % 2 ^ 32 } }
  if Nat.max 1 (s.get R.evrFlush_thr) ≤ s.evU then s.startFlush false else s

/-- SQUALL_ON (R310). -/
def State.squallOn (s : State) : State :=
  if s.bit R.evrCtrl_sq_en && !s.bit R.evrStat_squall && decide (s.get R.evrSq_sq_on ≤ s.evU) then
    let s := { s with evr := { s.evr with sqRep := 0, sqLost := 0 } }
    (s.putBit R.evrStat_squall true).evWrite (s.mkEvent 0x01 1 0 (BitVec.ofNat 32 s.evU) 0 0)
  else s

/-- SQUALL_OFF (R310): at or below SQ_OFF, or once SQ_EN has been cleared. -/
def State.squallOff (s : State) : State :=
  if s.bit R.evrStat_squall && (decide (s.evU ≤ s.get R.evrSq_sq_off) || !s.bit R.evrCtrl_sq_en) then
    (s.putBit R.evrStat_squall false).evWrite
      (s.mkEvent 0x01 2 0 (BitVec.ofNat 32 s.evr.sqRep) (BitVec.ofNat 32 s.evr.sqLost) 0)
  else s

/-- The unflushed entries of an event's key, a count entry before normal ones, newest first: SEQ and whether it is a count entry (R310). -/
def State.keyEntries (s : State) (e : Event) : List (Nat × Bool) :=
  let all := ((List.range s.evU).reverse.map (fun i => (s.evr.unfl + i) % 2 ^ 32)).filterMap (fun q =>
    let w := s.word (evAddr q + 16)
    if w.toNat % 2 ^ 24 = e.cls + e.code * 2 ^ 6 + e.index % 2 ^ 12 * 2 ^ 12 then some (q, w.getLsbD 25) else none)
  all.filter (fun x => x.2) ++ all.filter (fun x => !x.2)

/-- A further event of a key whose count entry is unflushed updates it in place (R310). -/
def State.evCount (s : State) (q : Nat) (e : Event) : State :=
  let a := evAddr q
  let old : Event := { e with
    ts := s.word (a + 4), wsec := s.word (a + 8), wns := (s.word (a + 12)).toNat % 2 ^ 30, wstate := (s.word (a + 12)).toNat / 2 ^ 30,
    test := (s.word (a + 16)).getLsbD 24, coal := true, d0 := s.word (a + 20) + 1, d1 := e.ts }
  s.engine 7 [(a, 32, true)] (fun s => s.setWords a (old.words q))

/-- An event is accepted (R308, R310). -/
def State.evAccept (s : State) (e : Event) : State :=
  if s.evr.closed then { s with evr := { s.evr with lost := (s.evr.lost + 1) % 2 ^ 32 } }
  else if !s.bit R.evrCtrl_en then s
  else if 65535 ≤ s.evU then
    (({ s with evr := { s.evr with
          lost := (s.evr.lost + 1) % 2 ^ 32, drops := s.evr.drops + 1, sqLost := s.evr.sqLost + 1,
          dropFirst := if s.evr.drops = 0 then e.ts else s.evr.dropFirst, dropLast := e.ts } }).putBit R.evrStat_overflow true).edge .evr 1
  else
    let s := if s.evr.drops = 0 then s
      else
        let mk := s.mkEvent 0x01 3 0 (BitVec.ofNat 32 s.evr.drops) s.evr.dropLast 0
        let s := s.evWrite { mk with ts := s.evr.dropFirst }
        ({ s with evr := { s.evr with drops := 0 } }).putBit R.evrStat_overflow false
    let coal := s.bit R.evrStat_squall && s.bit R.evrCtrl_sq_en && [0x10, 0x11, 0x12, 0x13].contains e.cls
    let s := if !coal then s.evWrite e
      else match s.keyEntries e with
        | [] => s.evWrite e
        | (q, true) :: _ => ({ s with evr := { s.evr with sqRep := s.evr.sqRep + 1 } }).evCount q e
        | (_, false) :: _ =>
          ({ s with evr := { s.evr with sqRep := s.evr.sqRep + 1 } }).evWrite { e with coal := true, d0 := 1, d1 := e.ts }
    s.squallOn

/-- EVENT_ARRIVAL (R308): the oldest arrival is taken. -/
def execEventArrival (s : State) :=
  match s.evr.queue with
  | [] => done s
  | e :: rest => done (({ s with evr := { s.evr with queue := rest } }).evAccept e)

/-! ## Flushing (R309, R311) -/

/-- EVENT_FLUSH_PERIOD (R309): PER ms have passed since the last flush ended. -/
def execEventFlushPeriod (s : State) :=
  if s.bit R.evrCtrl_en && !s.evr.closed then done (s.startFlush false) else done s

/-- EVR_POS (the EVR page). -/
def State.evPos (s : State) : State :=
  s.complete R.evrPos [BitVec.ofNat 32 s.evr.next, BitVec.ofNat 32 s.evr.unfl, BitVec.ofNat 32 s.evr.oldest, BitVec.ofNat 32 s.evr.lost]

/-- Entries of the ring copied to the journal in SEQ order, with extra flag bits in word 4; the oldest journal entries are
overwritten (R305, R309). -/
def State.evCopy (s : State) (n : Nat) (ladle restored : Bool) : State :=
  let s := iterUp n (fun i s =>
    let q := (s.evr.unfl + i) % 2 ^ 32
    let ws := (List.range 8).map (fun k => s.word (evAddr q + 4 * k))
    let w4 := ws.getD 4 0 ||| BitVec.ofNat 32 (b2n ladle * 2 ^ 26 + b2n restored * 2 ^ 27)
    let head := (ws.take 4) ++ [w4] ++ ((ws.drop 5).take 2)
    let d2 := (ws.getD 7 0).toNat % 2 ^ 16
    let ent := if ladle || restored then head ++ [BitVec.ofNat 32 (d2 + crc16 (bytesOf head ++ leBytes 2 d2) * 2 ^ 16)] else ws
    { s with evr := { s.evr with journal := tset [] s.evr.journal (q % 262144) ent } }) s
  let u := (s.evr.unfl + n) % 2 ^ 32
  let span := (u + 2 ^ 32 - s.evr.oldest) % 2 ^ 32
  { s with evr := { s.evr with unfl := u, oldest := if 262144 < span then (u + 2 ^ 32 - 262144) % 2 ^ 32 else s.evr.oldest } }

/-- EVENT_FLUSH_DONE (R309): every unflushed entry is in the journal, those that arrive on the way included; Squall ends where U
falls to SQ_OFF. -/
def execEventFlushDone (s : State) :=
  if !s.bit R.evrStat_flushing then done s
  else
    let s := s.evCopy s.evU false false
    let s := s.squallOff
    let s := s.evCopy s.evU false false
    let s := s.edgeIf s.evr.tripFlush .evr 2
    done ((({ s with evr := { s.evr with tripFlush := false } }).putBit R.evrStat_flushing false).evPos)

/-- EVR_POS_INTERVAL. -/
def execEvrPosInterval (s : State) := done s.evPos

/-! ## Registers of the EVR page -/

/-- The effect of a write to EVR CTRL. -/
def evrCtrlEffect (v : Word) (s : State) : State :=
  let s := s.storeReg R.evrCtrl v
  s.putBit R.evrStat_run (s.bit R.evrCtrl_en)

/-- The effect of a write to EVR_SQ. -/
def evrSqEffect (m : Nat) (v : Word) (s : State) : State :=
  if R.evrSq_sq_on.of v ≤ R.evrSq_sq_off.of v then s.raise .evr 0x0103 m else s.storeReg R.evrSq v

/-- The effect of a write to EVR_CURSOR (R312). -/
def evrCursorEffect (v : Word) (s : State) : State :=
  let s := (s.storeReg R.evrCursor v).invalidate R.evrWinSt
  { s with evr := { s.evr with load := some v.toNat } }

/-- EVR_CURSOR_WRITE. -/
def execEvrCursorWrite (m : Master) (v : Word) (s : State) := done (s.guarded m.val .evr (evrCursorEffect v))

/-- WINDOW_LOAD_DONE (R312): each entry comes from the ring while it is still there, else from the journal. -/
def execWindowLoadDone (s : State) :=
  match s.evr.load with
  | none => done s
  | some q =>
    let back := (s.evr.next + 2 ^ 32 - q) % 2 ^ 32
    let held := (s.evr.next + 2 ^ 32 - s.evr.oldest) % 2 ^ 32
    let n := if 0 < back ∧ back ≤ held then Nat.min 8 back else 0
    let gone := decide (held < back ∧ back < 2 ^ 31)
    let inRing := fun e => decide ((s.evr.next + 2 ^ 32 - (q + e) % 2 ^ 32) % 2 ^ 32 ≤ 65536)
    let ent := fun e =>
      if n ≤ e then List.replicate 8 (0 : Word)
      else if inRing e then (List.range 8).map (fun k => s.word (evAddr (q + e) + 4 * k))
      else (List.range 8).map (fun k => (tget [] s.evr.journal ((q + e) % 2 ^ 32 % 262144)).getD k 0)
    let good := fun e =>
      let ws := ent e
      let d2 := (ws.getD 7 0).toNat % 2 ^ 16
      crc16 (bytesOf (ws.take 7) ++ leBytes 2 d2) == (ws.getD 7 0).toNat / 2 ^ 16
    let bad := (List.range 8).foldl (fun a e => if e < n ∧ !inRing e ∧ !good e then a + 2 ^ e else a) 0
    let jr := (List.range 8).foldl (fun a e => if e < n ∧ !inRing e then a + 2 ^ e else a) 0
    let s := iterUp 8 (fun e (s : State) => s.setRegs (R.evrWin (8 * e)) (ent e)) s
    let s := ({ s with evr := { s.evr with load := none } }).complete R.evrWinSt
      [BitVec.ofNat 32 (if gone then s.evr.oldest else q), BitVec.ofNat 32 (n + b2n gone * 2 ^ 4 + bad * 2 ^ 5 + jr * 2 ^ 13)]
    done (s.edge .evr 4)

/-- The effect of a write to EVR_USER1 (R307). -/
def evrUserEffect (m : Nat) (v : Word) (s : State) : State := s.event 0x3F 0 m (s.reg R.evrUser0) v 0

/-- EVR_USER_EVENT. -/
def execEvrUserEvent (m : Master) (v : Word) (s : State) := done (s.guarded m.val .evr (evrUserEffect m.val v))

end Sys2Proof.Machine
end

