-- ==== Sys2Proof/Machine/InputBits.lean ====
section
/-! DEFINITION. Fabric and GOOSE input bits as the trip matrix and the engine read them: validity and the 1 µs hold (R268,
R304), and the applied logic slice (R220, R229). -/

namespace Sys2Proof.Machine

/-! ## The hold (R268, R304) -/

/-- An input bit offered a validity, value and test flag: the bit, and whether what a literal reads may have changed. A change
that arrives during the hold waits for its end; an invalid input reads FAILV at once and keeps the test flag it carries. -/
def GinBit.offer (b : GinBit) (valid val test : Bool) : GinBit × Bool :=
  if !valid then ({ b with valid := false, val := false, test := test, pend := [] }, b.valid || b.test != test)
  else if b.hold then
    let cur := match b.pend.getLast? with
      | some x => some x
      | none => if b.valid then some (b.val, b.test) else none
    if cur == some (val, test) then (b, false) else ({ b with pend := b.pend ++ [(val, test)] }, false)
  else if b.valid && b.val == val && b.test == test then (b, false)
  else ({ b with valid := true, val := val, test := test, hold := true }, true)

/-- The hold ends and the next waiting value is taken up. -/
def GinBit.release (b : GinBit) : GinBit × Bool :=
  match b.pend with
  | [] => ({ b with hold := false }, false)
  | (v, t) :: rest => ({ b with valid := true, val := v, test := t, hold := true, pend := rest }, true)

/-- A trip-matrix pass is due (R385). -/
def State.requestPass (s : State) : State := { s with trm := { s.trm with request := true } }

/-- GIN `i` takes a new bit; GOS_GIN_STATE and GOS_GIN_INV follow. -/
def State.setGin (s : State) (i : Nat) (r : GinBit × Bool) : State :=
  let s := { s with gos := { s.gos with gin := tset {} s.gos.gin i r.1 } }
  let s := (s.setArrBit (R.gosGinState 0) i (r.1.valid && r.1.val)).setArrBit (R.gosGinInv 0) i (!r.1.valid)
  if r.2 then s.requestPass else s

/-- FBI `i` takes a new bit; GAL_FBI_STATE and GAL_FBI_INV follow. -/
def State.setFbi (s : State) (i : Nat) (r : GinBit × Bool) : State :=
  let s := { s with gal := { s.gal with fbi := tset {} s.gal.fbi i r.1 } }
  let s := (s.setArrBit (R.galFbiState 0) i (r.1.valid && r.1.val)).setArrBit (R.galFbiInv 0) i (!r.1.valid)
  if r.2 then s.requestPass else s

def State.gin (s : State) (i : Nat) : GinBit := tget {} s.gos.gin i
def State.fbi (s : State) (i : Nat) : GinBit := tget {} s.gal.fbi i

/-! ## Logic outputs -/

/-- The engine applies program values (R229: RUN and REMOTE). -/
def State.lgeLive (s : State) : Bool := s.get R.lgeStat_state == 3 || s.get R.lgeStat_state == 4

/-- A slice of exactly 192 bytes. -/
def padSlice (bs : List Byte) : List Byte := (List.range 192).map (fun i => bs.getD i 0)

/-- Address of the applied slice (R219). -/
def ownSlice : Nat := 0x109F000

/-- What LGO literals and AOUT entries read (R218, R219, R229): the applied slice while the state is RUN or REMOTE, else the safe slice;
all 0 without a role. -/
def State.slice (s : State) : List Byte :=
  if s.lgeLive then memBytes s.mem ownSlice 192 else if s.get R.lgeCfg_role = 0 then padSlice [] else padSlice s.lge.safe

/-- LGO bit `b` (R220). -/
def State.lgo (s : State) (b : Nat) : Bool := ((s.slice.getD (b / 8) 0).toNat / 2 ^ (b % 8)) % 2 == 1

/-- AOUT `i` as stored (R220). -/
def State.aout (s : State) (i : Nat) : Word :=
  BitVec.ofNat 32 ((List.range 4).foldl (fun a k => a + (s.slice.getD (128 + 4 * i + k) 0).toNat * 2 ^ (8 * k)) 0)

end Sys2Proof.Machine
end

