-- ==== Sys2Proof/Machine/Publish.lean ====
section
/-! DEFINITION. GOOSE publication (R299 to R301) and the fabric output bits (R268) as a pass and the gates drive them. -/

namespace Sys2Proof.Machine

/-! ## Datasets -/

def dsAddr (d : Nat) : Nat := 0x1400000 + 0x400 * d
def State.dsWord (s : State) (d w : Nat) : Nat := (s.word (dsAddr d + 4 * w)).toNat
def State.dsEn (s : State) (d : Nat) : Bool := s.dsWord d 0 % 2 == 1
def State.dsPrp (s : State) (d : Nat) : Bool := s.dsWord d 0 / 32 % 2 == 1
/-- The ports a dataset is sent on. -/
def State.dsPorts (s : State) (d : Nat) : List Nat :=
  if s.dsPrp d then [0, 1] else (List.range 4).filter (fun p => s.dsWord d 0 / 2 ^ (1 + p) % 2 == 1)
def State.dsGated (s : State) (d : Nat) : Bool := s.dsWord d 0 / 64 % 2 == 1
def State.dsCount (s : State) (d : Nat) : Nat := s.dsWord d 0 / 256 % 128
/-- TMIN and TMAX in 10 µs units. -/
def State.dsTmin (s : State) (d : Nat) : Nat := s.dsWord d 1 % 65536
def State.dsTmax (s : State) (d : Nat) : Nat := s.dsWord d 1 / 65536 * 100
def State.dsMult (s : State) (d : Nat) : Nat := s.dsWord d 2 % 8

/-- The value of an entry word (R299). A Quality is given as bit 0 questionable, bit 1 test. -/
def State.dsEntry (s : State) (w prev : Nat) : Word :=
  let i := w / 4 % 1024
  match w % 4 with
  | 0 => BitVec.ofNat 32 (s.trm.lines / 2 ^ i % 2)
  | 1 => BitVec.ofNat 32 (b2n (s.lgo i))
  | 2 => s.aout (i % 16)
  | _ => BitVec.ofNat 32 (b2n ((prev % 4 == 1 || prev % 4 == 2) && !s.lgeLive)
      + 2 * b2n (prev % 4 == 0 && s.trm.test / 2 ^ (prev / 4 % 1024) % 2 == 1))

/-- Entry values of a dataset. -/
def State.dsVals (s : State) (d : Nat) : List Word :=
  (List.range (s.dsCount d)).map (fun e =>
    s.dsEntry (s.word (dsAddr d + 0x300 + 4 * e)).toNat (if e = 0 then 3 else (s.word (dsAddr d + 0x300 + 4 * (e - 1))).toNat))

def State.ds (s : State) (d : Nat) : DsPub := tget {} s.gos.ds d
def State.setDs (s : State) (d : Nat) (x : DsPub) : State := { s with gos := { s.gos with ds := tset {} s.gos.ds d x } }

/-- State numbers run from 2^32 − 1 to 1 (R300). -/
def gNext (n : Nat) : Nat := if 2 ^ 32 - 1 ≤ n then 1 else n + 1

def State.macPort (s : State) (p : Nat) : MacPort := tget {} s.mac.port p
def State.updMac (s : State) (p : Nat) (f : MacPort → MacPort) : State := { s with mac := { s.mac with port := tupd {} s.mac.port p f } }

/-- A queued GOOSE frame belongs to dataset `d`; `first` asks for a first frame. -/
def TxItem.isGoose (d : Nat) (first : Bool) : TxItem → Bool
  | .goose f => f.ds == d && (f.first || !first)
  | _ => false

/-- The dataset may be sent now (R301). -/
def State.dsOpen (s : State) (d : Nat) : Bool := !s.dsGated d || s.bit R.trmStat_net_gate

/-- A frame of a dataset's present state is queued on its ports; a first frame still queued is rebuilt (R300, R302). -/
def dsQueue (d : Nat) (first : Bool) (s : State) : State :=
  let x := s.ds d
  let ports := s.dsPorts d
  let merged := first && ports.any (fun p => (s.macPort p).gooseQ.any (TxItem.isGoose d true))
  let f : GooseTx := { ds := d, first := first, stNum := x.stNum, sqNum := x.sqNum, tal := s.dsMult d * x.ivl, sim := s.bit R.gosCtrl_sim
                       sec := x.sec, ns := x.ns, wall := x.wall, vals := x.vals
                       template := memBytes s.mem (dsAddr d + 0x10) (Nat.min 752 (s.dsWord d 0 / 2 ^ 16 % 1024)) }
  let prp := s.dsPrp d
  let seq := s.gos.prpSeq
  let s : State := { s with gos := { s.gos with prpSeq := (seq + b2n prp) % 65536 } }
  let s := ports.foldl (fun s p => s.updMac p (fun m =>
    let g : TxItem := .goose { f with prp := if prp then some (seq, p == 1) else none }
    if first && m.gooseQ.any (TxItem.isGoose d false) then
      { m with gooseQ := (m.gooseQ.filter (fun y => !y.isGoose d false)) ++ [g] }
    else { m with gooseQ := m.gooseQ ++ [g] })) s
  if merged then ({ s with gos := { s.gos with merged := (s.gos.merged + 1) % 2 ^ 32 } }).edge .gos 2 else s

/-- A new state of a dataset with a state number (R300). -/
def dsNew (d st : Nat) (s : State) : State := s.engine 5 [(dsAddr d, 0x400, false)] (fun s =>
  let s := s.setDs d { s.ds d with on := true, stNum := st, sqNum := 0, ivl := s.dsTmin d, vals := s.dsVals d, sec := s.wallSec, ns := s.wallSub,
                                   wall := s.get R.timStat_wall }
  if s.dsOpen d then dsQueue d true { s with gos := { s.gos with states := (s.gos.states + 1) % 2 ^ 32 } } else s)

/-- R300: at the end of a pass, or where a logic output or an AOUT changes, every dataset whose entry values changed. -/
def gosPass (s : State) : State :=
  if !s.bit R.gosCtrl_gp_en then s
  else iterUp 128 (fun d (s : State) =>
    if s.dsEn d && (s.ds d).on && s.dsVals d != (s.ds d).vals then dsNew d (gNext (s.ds d).stNum) s else s) s

/-- R300: datasets are enabled; stNum starts at 1. -/
def gosEnable (s : State) : State :=
  iterUp 128 (fun d (s : State) => if s.dsEn d && !(s.ds d).on then dsNew d 1 s else s) s

/-- Publication stops: no dataset has a state and nothing of one is queued. -/
def gosDisable (s : State) : State :=
  let s := { s with gos := { s.gos with ds := [] } }
  iterUp 4 (fun p (s : State) => s.updMac p (fun m => { m with gooseQ := [] })) s

/-- R301: the NET gate has opened: every GATED dataset sends a new state above all that it has heard. -/
def gosGateOpen (s : State) : State :=
  if !s.bit R.gosCtrl_gp_en then s
  else iterUp 128 (fun d (s : State) =>
    if s.dsEn d && (s.ds d).on && s.dsGated d then dsNew d (gNext (Nat.max (s.ds d).stNum (s.ds d).heard)) s else s) s

/-- R301: the NET gate has closed: queued frames of GATED datasets are not sent. -/
def gosGateClose (s : State) : State :=
  iterUp 4 (fun p (s : State) => s.updMac p (fun m =>
    { m with gooseQ := m.gooseQ.filter (fun (y : TxItem) => match y with | .goose f => !s.dsGated f.ds | _ => true) })) s

/-! ## Fabric output bits (R195, R268) -/

/-- The 64 fabric output bits after the NET gate. -/
def State.fbGated (s : State) : Nat := if s.bit R.trmStat_net_gate then s.trm.fb else 0

/-- Source bits for a fabric input, none where the source gives nothing. -/
def State.fbiSource (s : State) (m : Nat) : Option Nat := if m = s.selfId then some s.fbGated else tget none s.gal.src m

/-- FBI `i` is judged against its source (R268). -/
def fbiRefresh (i : Nat) (s : State) : State :=
  let b := s.fbi i
  if !s.bit (R.galFbi_en i) then s.setFbi i (b.offer false false false)
  else match s.fbiSource (s.get (R.galFbi_src_mbr i)) with
    | none => s.setFbi i (b.offer false false false)
    | some w => s.setFbi i (b.offer true (w / 2 ^ (s.get (R.galFbi_src_bit i)) % 2 == 1) false)

/-- Every FBI that a member sources, as its bits change. -/
def fbiFrom (m : Nat) (s : State) : State :=
  iterUp 256 (fun i (s : State) => if s.bit (R.galFbi_en i) && s.get (R.galFbi_src_mbr i) == m then fbiRefresh i s else s) s

/-- R268: a change of the gated bits is sent to every member and reaches the member's own inputs. -/
def fabricSend (s : State) : State :=
  let w := s.fbGated
  if w = s.gal.sent then s
  else
    let s := { s with gal := { s.gal with sent := w } }
    let s := if s.bit R.galCtrl_en && s.get R.galStat_num == 1 then s.emit (.fabricBits w) else s
    fbiFrom s.selfId s

end Sys2Proof.Machine
end

