-- ==== Sys2Proof/Machine/Mem.lean ====
section
/-! DEFINITION. Accesses to memory: loads, stores, the windows of an ATOMIC bank, ECC, bank states, march tests (R326 to R336). -/

namespace Sys2Proof.Machine

/-! ## Accesses -/

/-- The local address an own-ID address aliases. -/
def State.localAddr (s : State) (a : Nat) : Nat := match s.target a with | .reg x => x | .sram x => x | _ => a

/-- The 64-bit words an access touches. -/
def wordsOf (a len : Nat) : List Nat := (List.range ((a % 8 + len + 7) / 8)).map (fun k => (a / 8 + k) * 8)

/-- The bytes written whole words clear their poison (R329). -/
def State.unpoison (s : State) (a len : Nat) : State :=
  { s with sram := { s.sram with poison := s.sram.poison.filter (fun (w : Nat) => !(decide (a ≤ w) && decide (w + 8 ≤ a + len))) } }

/-- A granted write to SRAM, DRAM or host memory, with the windows of an ATOMIC bank (R332). -/
def State.memStore (s : State) (m a : Nat) (bs : List Byte) : State :=
  let x := s.localAddr a
  let n := bs.length
  let b := bankOf x
  match s.target a with
  | .sram _ =>
    match s.atomWin x with
    | 1 =>
      let d := bankBase b + (x - bankBase b) % 0x20000
      (s.setBytes d (leBytes n ((leNat (memBytes s.mem d n) + leNat bs) % 256 ^ n))).unpoison d n
    | 3 => { s with sram := { s.sram with operand := tset 0 s.sram.operand (16 * b + m) (BitVec.ofNat 64 (leNat bs)) } }
    | _ => (s.setBytes x bs).unpoison x n
  | _ => s.setBytes x bs

/-- A granted read, with the windows of an ATOMIC bank (R332). -/
def State.memLoad (s : State) (m a n : Nat) : List Byte × State :=
  let x := s.localAddr a
  let b := bankOf x
  match s.target a with
  | .sram _ =>
    let d := bankBase b + (x - bankBase b) % 0x20000
    let old := memBytes s.mem d n
    let op := (tget 0 s.sram.operand (16 * b + m)).toNat % 256 ^ n
    match s.atomWin x with
    | 1 => (old, s.setBytes d (leBytes n ((leNat old + op) % 256 ^ n)))
    | 2 => (old, (s.setBytes d (leBytes n op)).unpoison d n)
    | 3 => (leBytes n op, s)
    | _ => (memBytes s.mem x n, s)
  | _ => (memBytes s.mem x n, s)

/-- The place of the data an access acts on: in a window of an ATOMIC bank the data word at its offset (R332). -/
def State.dataAddr (s : State) (a : Nat) : Nat :=
  let x := s.localAddr a
  match s.target a with
  | .sram _ => if s.atomWin x = 1 ∨ s.atomWin x = 2 then bankBase (bankOf x) + (x - bankBase (bankOf x)) % 0x20000 else x
  | _ => x

/-- A read touches a poisoned word. -/
def State.poisoned (s : State) (a n : Nat) : Bool := (wordsOf (s.dataAddr a) n).any (fun w => s.sram.poison.contains w)

/-- A write to the ADD window reads the word it adds to. -/
def State.addsTo (s : State) (a : Nat) : Bool := match s.target a with | .sram _ => s.atomWin (s.localAddr a) == 1 | _ => false

/-- A read by master `m` at `a` meets a double-bit error (R329): it is counted and recorded. -/
def eccRead (m a : Nat) (s : State) : State :=
  let b := bankOf (s.localAddr a)
  let s := s.put (R.memEccCnt_uncorr b) (Nat.min 0xFFFF (s.get (R.memEccCnt_uncorr b) + 1))
  (s.addLife (224 + b) 1).memFault .ecc2 m a false

/-! ## Bytes whose layout the spec does not give (R219, R222, R233) -/

def instBase : Nat := 0xE00000
def codeBase : Nat := 0x1000000
def forceBase : Nat := 0x10B0000
def shadowBase : Nat := 0x10C0000
/-- Address of the latched input image. -/
def ownImage : Nat := 0x109E000

/-- An access touches fields of instances, or entries of the force table in use: what these bytes hold is a free value (log entry 100). The
header of an instance is memory. -/
def State.lgeOpen (s : State) (x n : Nat) : Bool :=
  match s.lge.prog with
  | none => false
  | some p =>
    let meets := fun (a k : Nat) => decide (a < x + n ∧ x < a + k)
    (meets instBase p.memBytes && !p.insts.any (fun i => decide (instBase + i.addr ≤ x ∧ x + n ≤ instBase + i.addr + 8)))
      || meets forceBase (16 * s.lge.forces.length) || meets shadowBase p.retainBytes

/-- The member and the place there that an access travels to: another member's window, or the root's host memory (R40, R267). -/
def State.remoteOf (s : State) (a : Nat) : Option (Nat × Nat) :=
  match s.target a with
  | .member k o => some (k, o)
  | .hostMem _ => if s.bit R.pciLink_root then none else some (0, a)
  | _ => none

/-- A write by a master to memory: the failure, if any, is recorded (R267, R328). A word whose read shows a double-bit error is not
changed (R329). -/
def State.devWrite (s : State) (m a : Nat) (bs : List Byte) : Option MemFail × State :=
  match s.memCheck m a bs.length true with
  | some f => (some f, s.memFault f m a true)
  | none =>
    match s.remoteOf a with
    | none => if s.addsTo a && s.poisoned a bs.length then (some .ecc2, eccRead m a s) else (none, s.memStore m a bs)
    | some (k, o) =>
      let r := remoteTry k o bs.length (some bs) s
      if !r.1 then (some .noresp, r.2) else (none, if o = a then r.2.memStore m a bs else r.2)

/-- A read by a master from memory (R267, R328, R329). -/
def State.devRead (s : State) (m a n : Nat) : Option MemFail × List Byte × State :=
  match s.memCheck m a n false with
  | some f => (some f, [], s.memFault f m a false)
  | none =>
    match s.remoteOf a with
    | none =>
      let r := s.memLoad m a n
      if s.poisoned a n then (some .ecc2, r.1, eccRead m a s)
      else if s.lgeOpen (s.localAddr a) n then (let x := freshBytes n r.2; (none, x.1, x.2))
      else (none, r.1, r.2)
    | some (k, o) =>
      let r := remoteTry k o n none s
      if !r.1 then (some .noresp, [], r.2)
      else if o = a then (let x := r.2.memLoad m a n; (none, x.1, x.2))
      else (let x := freshBytes n r.2; (none, x.1, x.2))

/-- Bytes of a run of memory forgotten. -/
def State.clearRange (s : State) (a n : Nat) : State :=
  { s with mem := s.mem.filter (fun (e : Host.Cell) => decide (e.1 < a) || decide (a + n ≤ e.1))
           sram := { s.sram with poison := s.sram.poison.filter (fun (w : Nat) => decide (w < a) || decide (a + n ≤ w)) } }

def State.clearBank (s : State) (b : Nat) : State := s.clearRange (bankBase b) 0x80000

/-! ## ECC (R329) -/

/-- An error found in a 64-bit word of an ON or RETAIN bank: corrected and counted, or poisoned. -/
def eccFound (m : Nat) (e : Nat × Bool) (s : State) : State :=
  let w := e.1 / 8 * 8
  if w < 0x800000 ∨ 0x2000000 ≤ w ∨ !s.bankReady (bankOf w) then s
  else
    let b := bankOf w
    if e.2 then
      let s := { s with sram := { s.sram with poison := if s.sram.poison.contains w then s.sram.poison else s.sram.poison ++ [w] } }
      eccRead m w s
    else ((s.put (R.memEccCnt_corr b) (Nat.min 0xFFFF (s.get (R.memEccCnt_corr b) + 1))).addLife (176 + b) 1).edge .mem 1

/-- SCRUB_PASS (R329): the words in which the pass finds an error, and whether it is a double-bit error. -/
def execScrubPass (errs : List (Nat × Bool)) (s : State) :=
  done (if s.bit R.memCtrl_scrub_en then errs.foldl (fun (s : State) e => eccFound 15 e s) s else s)

/-! ## Bank configuration (R326, R327) -/

/-- The effect of a write to MEM_BANKnn_CFG. -/
def bankCfgEffect (m b : Nat) (v : Word) (s : State) : State :=
  let st := s.bankSt b
  let ns := (R.memBankCfg_state b).of v
  let nm := (R.memBankCfg_mode b).of v
  let on := st == bkON || st == bkRETAIN
  let busy := s.claimed b || s.bankTest b
  let modeMoves := nm != s.get (R.memBankCfg_mode b)
  if ns = bkFAILED ∨ (st = bkFAILED ∧ ns ≠ st) ∨ (ns = bkOFF ∧ st ≠ bkOFF ∧ busy = true) ∨ (modeMoves && (s.claimed b || !on)) = true then
    s.raise .mem 0x0103 m
  else
    let s := s.storeReg (R.memBankCfg b) v
    if (ns = bkOFF ∧ st ≠ bkOFF) ∨ (st = bkOFF ∧ ns ≠ bkOFF) then s.putBit (R.memBankCfg_ready b) false else s

/-- MEM_BANK_CFG_WRITE. -/
def execMemBankCfgWrite (m : Master) (b : Fin 48) (v : Word) (s : State) :=
  done (s.guarded m.val .mem (bankCfgEffect m.val b.val v))

/-- BANK_ZERO_DONE (R327). -/
def execBankZeroDone (b : Fin 48) (s : State) :=
  let b := b.val
  done (if (s.bankSt b == bkON || s.bankSt b == bkRETAIN) && !s.bit (R.memBankCfg_ready b) then
    (s.clearBank b).putBit (R.memBankCfg_ready b) true else s)

/-! ## March tests (R333 to R336) -/

/-- The banks MEM_MARCH_LO and MEM_MARCH_HI name. -/
def State.marchBanks (s : State) : List Nat := (List.range 48).filter (fun b => s.arrBit R.memMarchLo b)

/-- The effect of a write to MEM_MARCH_CMD (R334). -/
def marchEffect (m : Nat) (v : Word) (s : State) : State :=
  if R.memMarchCmd_go.of v = 0 then s
  else if s.sram.march.isSome then s.raise .mem 0x0106 m
  else if s.marchBanks.any (fun b => s.claimed b || s.bankSt b == bkOFF || s.bankSt b == bkFAILED) then s.raise .mem 0x0103 m
  else (({ s with sram := { s.sram with march := some ⟨s.marchBanks, R.memMarchCmd_mode.of v == 1⟩ } }).putBit R.memStat_march_busy true).invalidate R.memMarchRes

/-- MARCH_GO. -/
def execMarchGo (m : Master) (v : Word) (s : State) := done (s.guarded m.val .mem (marchEffect m.val (v ||| 1#32)))

/-- One bank's test has ended (R333, R335, R336). -/
def marchBank (transparent failed : Bool) (b : Nat) (s : State) : State :=
  let s := s.addLife (if failed then 10 else 9) 1
  if failed then (((s.clearBank b).put (R.memBankCfg_state b) bkFAILED).putBit (R.memBankCfg_ready b) false)
  else if transparent then s else s.clearBank b

/-- Duration of a test in 10 ns: 10N or 14N accesses a bank, in rounds of 8 banks. -/
def marchTime (n : Nat) (transparent : Bool) : Nat := (n + 7) / 8 * (if transparent then 229376 else 163840)

/-- MARCH_COMPLETE: the banks that fail. -/
def execMarchComplete (fails : BitVec 48) (s : State) :=
  match s.sram.march with
  | none => done s
  | some r =>
    let bad := fun (b : Nat) => fails.getLsbD b
    let s := { s with sram := { s.sram with march := none } }
    let s := r.banks.foldl (fun (s : State) b => marchBank r.transparent (bad b) b s) s
    let failed : Nat := r.banks.foldl (fun (a : Nat) b => if bad b then a + 2 ^ b else a) 0
    let s := s.complete R.memMarchRes [BitVec.ofNat 32 failed, BitVec.ofNat 32 (failed / 2 ^ 32), BitVec.ofNat 32 (marchTime r.banks.length r.transparent)]
    done ((s.putBit R.memStat_march_busy false).edge .mem 3)

/-- MEM_ARB_INTERVAL (R330): cycles of the selected bank granted to engines and to DMA, waited for by DMA, granted to others. -/
def execMemArbInterval (engine dma stolen other : Word) (s : State) := done (s.complete R.memArb [engine, dma, stolen, other])

/-! ## Atomic windows (R332) -/

/-- An access by a master to an address of memory: a write of `data`, or a read of `len` bytes whose answer goes out. -/
def memAccess (m a len : Nat) (data : Option (BitVec 64)) (s : State) : State :=
  if s.hostRefused m then s
  else match data with
  | some v => (s.devWrite m a (leBytes len v.toNat)).2
  | none =>
    let r := s.devRead m a len
    r.2.2.emit (.readData m a (if r.1.isSome then List.replicate len 0xFF else r.2.1))

/-- ATOMIC_ADD: an access to the ADD window of bank `b` at word offset `off`, 4 or 8 bytes wide. -/
def execAtomicAdd (m : Master) (b : Fin 48) (off : BitVec 17) (wide : Bool) (data : Option (BitVec 64)) (s : State) :=
  done (memAccess m.val (bankBase b.val + 0x20000 + off.toNat) (if wide then 8 else 4) data s)

/-- ATOMIC_SWAP: an access to the SWAP window. -/
def execAtomicSwap (m : Master) (b : Fin 48) (off : BitVec 17) (wide : Bool) (data : Option (BitVec 64)) (s : State) :=
  done (memAccess m.val (bankBase b.val + 0x40000 + off.toNat) (if wide then 8 else 4) data s)

/-- OPERAND_WRITE: a write to the OPERAND window. -/
def execOperandWrite (m : Master) (b : Fin 48) (off : BitVec 17) (wide : Bool) (v : BitVec 64) (s : State) :=
  done (memAccess m.val (bankBase b.val + 0x60000 + off.toNat) (if wide then 8 else 4) (some v) s)

end Sys2Proof.Machine
end

