-- ==== Sys2Proof/Machine/DmaRegs.lean ====
section
/-! DEFINITION. DMA channels: states, descriptors and their checks, chain append, the end of a descriptor (R337 to R341). The
DMA acts as master 1. -/

namespace Sys2Proof.Machine

def chIDLE : Nat := 0
def chRUNNING : Nat := 1
def chATEND : Nat := 2
def chERROR : Nat := 3

def State.chan (s : State) (n : Nat) : DmaChan := tget {} s.dma.ch n
def State.setChan (s : State) (n : Nat) (x : DmaChan) : State := { s with dma := { s.dma with ch := tset {} s.dma.ch n x } }
def State.chSt (s : State) (n : Nat) : Nat := s.get (R.dmaChStat_state n)

/-- A channel enters a state; STAT.BUSY follows, and the ABORT bit falls on reaching IDLE. -/
def State.setChSt (s : State) (n x : Nat) : State :=
  let s := (s.put (R.dmaChStat_state n) x).setRegBit R.dmaStat n (x == chRUNNING)
  if x = chIDLE then (s.putBit (R.dmaChCtrl_abort n) false).putBit (R.dmaChStat_kpend n) false else s

/-- The channel runs at all. -/
def State.chOn (s : State) (n : Nat) : Bool := s.bit R.dmaCtrl_en && s.bit (R.dmaChCtrl_en n)

/-- The CODE of a failed access (R338). DEDUCED (unsafe for CODE, log entry 37): a fault of the bank itself (BANK_OFF, ATOM), for which R338
names no CODE, ends the descriptor as a region fault does. -/
def failCode : MemFail → Nat
  | .unmapped => 3
  | .noresp => 4
  | .host => 5
  | .ecc2 => 6
  | _ => 2

/-! ## Descriptors (R337) -/

def dw (ws : List Word) (i : Nat) : Nat := (ws.getD i 0).toNat
def dSrc (ws : List Word) : Nat := dw ws 0 + dw ws 1 % 65536 * 2 ^ 32
def dDst (ws : List Word) : Nat := dw ws 2 + dw ws 3 % 65536 * 2 ^ 32
/-- A stride of loop `k`, source where `d` is 0. -/
def dStride (ws : List Word) (k d : Nat) : Int := (ws.getD (4 + 2 * k + d) 0).toInt
def dCount (ws : List Word) (k : Nat) : Nat :=
  let c := match k with | 0 => dw ws 10 % 65536 | 1 => dw ws 10 / 65536 | _ => dw ws 11 % 65536
  if c = 0 then 65536 else c
def dSize (ws : List Word) : Nat := 2 ^ (dw ws 11 / 2 ^ 16 % 4)
def dBit (ws : List Word) (b : Nat) : Bool := (dw ws 11).testBit b
def dReq (ws : List Word) : Bool := dw ws 11 / 2 ^ 23 % 16 == 1
def dTotal (ws : List Word) : Nat := dCount ws 0 * dCount ws 1 * dCount ws 2
/-- Address of element `k` in loop order. -/
def dAddr (ws : List Word) (d k : Nat) : Nat :=
  let c0 := dCount ws 0
  let c1 := dCount ws 1
  let a : Int := (if d = 0 then dSrc ws else dDst ws : Nat) + (k % c0 : Nat) * dStride ws 0 d + (k / c0 % c1 : Nat) * dStride ws 1 d
    + (k / (c0 * c1) : Nat) * dStride ws 2 d
  (a % (2 ^ 48 : Nat)).toNat
/-- The byte range of a side: lowest element address, and one past the highest byte (R340). -/
def dRange (ws : List Word) (d : Nat) : Int × Int :=
  let ext := fun (k : Nat) => ((dCount ws k - 1 : Nat) : Int) * dStride ws k d
  let b : Int := (if d = 0 then dSrc ws else dDst ws : Nat)
  let lo := (List.range 3).foldl (fun (a : Int) k => a + (if ext k < 0 then ext k else 0)) b
  let hi := (List.range 3).foldl (fun (a : Int) k => a + (if ext k < 0 then 0 else ext k)) b
  (lo, hi + dSize ws)
def dContiguous (ws : List Word) : Bool :=
  dCount ws 1 == 1 && dCount ws 2 == 1 && dStride ws 0 0 == dSize ws && dStride ws 0 1 == dSize ws
def dOverlap (ws : List Word) : Bool :=
  let a := dRange ws 0
  let b := dRange ws 1
  decide (a.1 < b.2) && decide (b.1 < a.2)

/-- An address lies in SRAM, DRAM or host memory. -/
def State.memPlace (s : State) (a : Nat) : Bool := match s.target a with | .sram _ => true | .dram _ => true | .hostMem _ => true | _ => false

/-- ALIGN (R338), of words 0 to 13. -/
def dMisaligned (ws : List Word) : Bool :=
  let n := dSize ws
  dSrc ws % n != 0 || dDst ws % n != 0 || (List.range 6).any (fun k => (ws.getD (4 + k) 0).toInt % (n : Int) != 0)
    || dw ws 3 / 65536 != 0 || dw ws 11 / 2 ^ 27 != 0

/-- The CODE of an element's access at a device address; register space is open (R328), a remote member answers later. -/
def State.accessCode (s : State) (a n : Nat) (write : Bool) : Nat :=
  match s.target a with
  | .reg _ => 0
  | .member .. => if s.regionOk 1 a n write then 0 else 2
  | _ => match s.memCheck 1 a n write with | some f => failCode f | none => 0

/-! ## The end of a descriptor (R339) -/

/-- DMA_CHn_CUR. -/
def chCur (n : Nat) (s : State) : State :=
  let c := s.chan n
  let ws := c.words.getD []
  let left := dTotal ws - c.moved
  let next := if c.words.isSome ∧ 0 < left then dAddr ws 1 (if c.backward then left - 1 else c.moved) else 0
  s.complete (R.dmaChCur n) [BitVec.ofNat 32 c.desc, BitVec.ofNat 32 (c.desc / 2 ^ 32), BitVec.ofNat 32 next,
    BitVec.ofNat 32 (if c.words.isSome then left else 0)]

/-- An interrupt bit of the channel: 0 DESC, 1 ERR, 2 END. -/
def State.chIrq (s : State) (n b : Nat) : State := s.setRegBit (R.dmaChIrq n) b true

/-- Words 12 and 13 are written back, the journal entry of a journaled descriptor is closed, and the interrupts rise. -/
def chWriteBack (n code : Nat) (s : State) : State :=
  let c := s.chan n
  let ws := c.words.getD []
  let s := match s.jFind (fun o => o.cls == 4 && o.data.headD 0 == BitVec.ofNat 32 n) with
    | some op => s.jDone op (if code = 0 then 0 else 1) (op.data.take 4 ++ [BitVec.ofNat 32 code])
    | none => s
  let st := 1 + 2 * b2n (code != 0) + 4 * b2n c.ovlp + 8 * code
  let s := (s.devWrite 1 (c.desc + 48) (leBytes 4 st ++ leBytes 4 s.tstamp.toNat)).2
  let s := (chCur n s).put (R.dmaChStat_code n) code
  let s := if c.words.isSome ∧ dBit ws 20 = true then s.chIrq n 0 else s
  if code = 0 then s else s.chIrq n 1

/-- LAST. -/
def State.setLast (s : State) (n a : Nat) : State :=
  (s.setReg (R.dmaChLastLo n) (BitVec.ofNat 32 a)).setReg (R.dmaChLastHi n) (BitVec.ofNat 32 (a / 2 ^ 32 % 65536))

/-- A descriptor has failed: ERROR (R338, R341). -/
def chFail (n code : Nat) (s : State) : State :=
  let s := chWriteBack n code s
  let d := (s.chan n).desc
  (((s.setLast n d).setChSt n chERROR).raise .dma (0x0100 + code) 15).setChan n { s.chan n with words := none, code := code }

/-- The link word of the current descriptor as it stands: END, NEXT, or the CODE of a failure (R338, R341). -/
def chLink (n : Nat) (s : State) : Nat × Bool × Nat × State :=
  let r := s.devRead 1 ((s.chan n).desc + 56) 8
  match r.1 with
  | some f => (failCode f, false, 0, r.2.2)
  | none =>
    let w := leNat r.2.1
    let next := w / 64 % 2 ^ 42 * 64
    if w / 2 % 32 ≠ 0 ∨ (w % 2 = 0 ∧ s.memPlace next = false) then (1, false, 0, r.2.2) else (0, w % 2 == 1, next, r.2.2)

/-- The channel goes on to the descriptor at an address. -/
def chNext (n a : Nat) (s : State) : State := (s.setChan n { desc := a }).setChSt n chRUNNING

/-- ABORT, or EN cleared (R341). -/
def chAbort (n : Nat) (s : State) : State :=
  let st := s.chSt n
  let s := if st = chRUNNING ∨ st = chATEND then (chWriteBack n 8 s).raise .dma 0x0108 15 else s
  (s.setChan n { s.chan n with words := none }).setChSt n chIDLE

/-! ## Registers (R341) -/

/-- The effect of a write to DMA_CHn_CTRL. -/
def chCtrlEffect (n : Nat) (v : Word) (s : State) : State :=
  let was := s.bit (R.dmaChCtrl_en n)
  let s := s.storeReg (R.dmaChCtrl n) v
  let s := if s.bit (R.dmaChCtrl_abort n) || (was && !s.bit (R.dmaChCtrl_en n)) then chAbort n s else s
  if s.bit R.dmaCtrl_en && s.bit (R.dmaChCtrl_en n) then s else s.invalidate (R.dmaChCur n)

/-- The effect of a write to DMA CTRL: EN = 0 acts as EN cleared on every channel. -/
def dmaCtrlEffect (v : Word) (s : State) : State :=
  let was := s.bit R.dmaCtrl_en
  let s := s.storeReg R.dmaCtrl v
  if was && !s.bit R.dmaCtrl_en then iterUp 16 (fun n (s : State) => (chAbort n s).invalidate (R.dmaChCur n)) s else s

/-- The effect of a write to DMA_CHn_HEAD_LO (0) or HEAD_HI (1). -/
def chHeadEffect (m n w : Nat) (v : Word) (s : State) : State :=
  if s.chSt n = chIDLE then s.storeReg (R.dmaChHeadLo n + 4 * w) v else s.raise .dma 0x0101 m

/-- DMA_HEAD_WRITE. -/
def execDmaHeadWrite (m : Master) (n : Fin 16) (w : Fin 2) (v : Word) (s : State) :=
  done (s.guarded m.val .dma (chHeadEffect m.val n.val w.val v))

/-- The effect of a write to DMA_CHn_KICK. -/
def chKickEffect (m n : Nat) (v : Word) (s : State) : State :=
  if (R.dmaChKick_go n).of v = 0 then s
  else
    match s.chSt n with
    | 0 => if s.chOn n then chNext n ((s.reg (R.dmaChHeadLo n)).toNat / 64 * 64 + s.get (R.dmaChHeadHi_head n) * 2 ^ 32) s else s
    | 1 => s.putBit (R.dmaChStat_kpend n) true
    | 2 =>
      let l := chLink n s
      if l.1 ≠ 0 then chFail n l.1 l.2.2.2 else if l.2.1 then l.2.2.2 else chNext n l.2.2.1 l.2.2.2
    | _ => s.raise .dma 0x0101 m

/-- DMA_KICK. -/
def execDmaKick (m : Master) (n : Fin 16) (v : Word) (s : State) :=
  done (s.guarded m.val .dma (chKickEffect m.val n.val (v ||| 1#32)))

/-! ## Fetch (R338, R340) -/

/-- The CODE of a descriptor's checks. -/
def State.descCode (s : State) (ws : List Word) : Nat :=
  let e := dSize ws
  if dMisaligned ws then 1
  else
    let a := s.accessCode (dAddr ws 0 0) e false
    let b := s.accessCode (dAddr ws 1 0) e true
    if a ≠ 0 then a else if b ≠ 0 then b
    else if dOverlap ws && !dContiguous ws && !dBit ws 22 then 7 else 0

/-- DMA_DESCRIPTOR_FETCH: words 0 to 13 are read and checked; `errs` are the ECC errors the reads meet (R329). -/
def execDmaDescriptorFetch (n : Fin 16) (errs : List (Nat × Bool)) (s : State) :=
  let n := n.val
  let c := s.chan n
  if s.chSt n ≠ chRUNNING ∨ c.words.isSome then done s
  else
    let s := errs.foldl (fun (s : State) e => eccFound 1 e s) s
    let r := s.devRead 1 c.desc 56
    match r.1 with
    | some f => done (chFail n (failCode f) r.2.2)
    | none =>
      let ws : List Word := (List.range 14).map (fun k => BitVec.ofNat 32 (leNat ((r.2.1.drop (4 * k)).take 4)))
      let s := r.2.2
      let up := dContiguous ws && decide (dSrc ws < dDst ws) && dOverlap ws
      let s := s.setChan n { c with words := some ws, moved := 0, code := 0, backward := up, ovlp := up || (dOverlap ws && !dContiguous ws && dBit ws 22) }
      let code := s.descCode ws
      if code ≠ 0 then done (chFail n code s)
      else if dBit ws 21 then
        done (s.jOpen 4 [BitVec.ofNat 32 n, BitVec.ofNat 32 c.desc, BitVec.ofNat 32 (c.desc / 2 ^ 32), BitVec.ofNat 32 (dw ws 1 / 65536)])
      else done s

end Sys2Proof.Machine
end

