-- ==== Sys2Proof/Machine/Gates.lean ====
section
/-! DEFINITION. The authority gates and what FO_DRV takes with them (R151, R196, R200, R283, R287, R359). -/

namespace Sys2Proof.Machine

/-- DUP STAT.AUTH values (R284). -/
def auUNPAIRED : Nat := 0
def auDOWN : Nat := 1
def auGUARD : Nat := 2
def auSTANDBY : Nat := 3
def auCLAIM : Nat := 4
def auACTIVE : Nat := 5
def auBACKOFF : Nat := 6
def auUNFIT : Nat := 7
def auCONTEND : Nat := 8

def State.paired (s : State) : Bool := s.bit R.dupCfg_paired
def State.auth (s : State) : Nat := s.get R.dupStat_auth

/-- The member holds output authority (R196, R283): a pair's member in ACTIVE with AUTH_IN = 0, an unpaired member from boot until a
member fault, but not in SAFE (R350). -/
def State.authority (s : State) : Bool :=
  if s.paired then s.auth == auACTIVE && s.dup.authOut && !s.dup.authIn else s.bit R.sysStat_booted && !s.bit R.sysStat_safe && !s.bit R.peaStat_fault

/-- The condition of both gates (R196); a configuration load holds them closed (R352). -/
def State.gateCond (s : State) : Bool := s.authority && !s.bit R.peaStat_fault && !s.trm.loading

/-- Remaining MINON of an output in whole ms, rounded up. -/
def State.minonLeft (s : State) (k : Nat) : Nat :=
  match tget none s.trm.minon k with
  | some e => (e - s.time.ticks + 249999) / 250000
  | none => 0

/-- R287: a shadow frame while FORMED and ACTIVE. -/
def shadowSend (s : State) : State :=
  if s.bit R.dupStat_formed && s.auth == auACTIVE then
    s.emit (.shadow (s.get R.trmFoDrv_drv) s.trm.latch ((List.range 16).map s.minonLeft))
  else s

/-- R287: a change of a latch is shadowed. -/
def latchSend (old : Nat) (s : State) : State := if s.trm.latch = old then s else shadowSend s

/-- The level of AUTH_OUT: a pair's member drives its own, an unpaired one's follows authority (R284). -/
def State.authOutBall (s : State) : Bool := if s.paired then s.dup.authOut else s.authority

/-- FO_DRV takes a value. A rising bit starts a flush (R309); a change is shadowed (R287). -/
def State.setDrv (s : State) (v : Nat) : State :=
  let old := s.get R.trmFoDrv_drv
  if v = old then s
  else
    let s := s.put R.trmFoDrv_drv v
    let s := if (List.range 16).any (fun k => v.testBit k && !old.testBit k) then s.startFlush true else s
    shadowSend s

/-- An OUTPUT_CHANGE operation of FOk. -/
def isOutput (k : Nat) (o : OpenOp) : Bool := o.cls == 2 && o.data.getD 0 0 == BitVec.ofNat 32 k

/-- The open OUTPUT_CHANGE operations of FOk end: outcome, clamp energy, cause (R359). -/
def outputDone (k outcome energy cause : Nat) (s : State) : State :=
  s.jDoneAll (isOutput k) outcome (fun _ => [BitVec.ofNat 32 k, BitVec.ofNat 32 energy, BitVec.ofNat 32 cause])

/-- The gates follow their condition (R196, R200, R301). At a closure FO_DRV becomes 0, and open TRIP_ISSUE and OUTPUT_CHANGE
operations end INTERRUPTED (R359). -/
def gateUpdate (s : State) : State :=
  let o := s.gateCond
  if o = s.bit R.trmStat_fo_gate then s
  else
    let s := ((s.putBit R.trmStat_fo_gate o).putBit R.trmStat_net_gate o).putBit R.gosStat_net_gate o
    if o then fabricSend (gosGateOpen (s.setDrv (s.get R.trmFoCmd_cmd)))
    else
      let s := s.setDrv 0
      let s := s.jDoneAll (fun op => op.cls == 1) 3 (fun op => op.data)
      let s := iterUp 16 (fun k (s : State) => outputDone k 3 0 4 s) s
      fabricSend (gosGateClose s)

/-! ## Health and the authority state (R283, R284) -/

/-- DUP STAT.AUTH takes a state, with its AUTH_OUT; a change pulses AUTH_CHG and adds an event. The gates follow. -/
def setAuth (a : Nat) (out : Bool) (s : State) : State :=
  let s := { s with dup := { s.dup with authOut := out } }
  if s.auth = a then gateUpdate s
  else
    let s := { s with dup := { s.dup with entered := s.time.ticks } }
    gateUpdate ((((s.put R.dupStat_auth a).edge .dup 0)).event 0x23 1 (s.get R.dupCfg_partner) 0 0 a)

/-- R283, R284: a paired member that is not healthy enters DOWN with AUTH_OUT = 0. -/
def healthLoss (s : State) : State :=
  if s.paired && !s.healthy && s.auth != auDOWN then setAuth auDOWN false s else gateUpdate s

end Sys2Proof.Machine
end

