-- ==== Sys2Proof/Machine/Duplex.lean ====
section
/-! DEFINITION. The duplex pair: the authority interlock, the shadow vector and the trip-vector comparison (R282 to R288). -/

namespace Sys2Proof.Machine

/-! ## Entering states -/

/-- GUARD (R284): the windows count afresh. -/
def toGuard (relinquished : Bool) (s : State) : State :=
  setAuth auGUARD false { s with dup := { s.dup with relinquished := relinquished, pulseAt := none, fellAfter := none, collisions := 0,
                                                     contendActive := false, afterBackoff := false } }

/-- The shadow is current: its last frame is at most 25 µs old (R287). -/
def State.shadowNow (s : State) : Option Shadow :=
  match s.dup.shadow with
  | some x => if s.time.ticks ≤ x.at_ + 6250 ∧ s.bit R.dupStat_formed then some x else none
  | none => none

/-- SHADOW_MERGE (R287). -/
def shadowMerge (s : State) : State :=
  match s.shadowNow with
  | none => s.putBit R.dupStat_shadow_ok false
  | some x =>
    let en := (List.range 16).foldl (fun a k => if s.bit (R.trmFoCfg_en k) then a + 2 ^ k else a) 0
    let minon := (List.range 16).foldl (fun t k =>
      let e := s.time.ticks + 250000 * x.minon.getD k 0
      if x.minon.getD k 0 = 0 then t else tset none t k (some (Nat.max e ((tget none t k).getD 0)))) s.trm.minon
    let s := { s with trm := { s.trm with latch := s.trm.latch ||| (x.latch &&& en), minon := minon, shadowOr := x.drv &&& en } }
    s.put R.trmFoCmd_cmd (s.get R.trmFoCmd_cmd ||| (x.drv &&& en) ||| (x.latch &&& en))

/-- Entry to ACTIVE (R284, R286, R287). -/
def toActive (s : State) : State :=
  let used := s.shadowNow.isSome
  let cause := if s.dup.afterBackoff then 3 else match s.dup.pulseAt, s.dup.fellAfter with
    | none, _ => 0
    | some _, some d => if d ≤ 750 then 2 else 1
    | some _, none => 1
  let lat := match s.dup.pulseAt with
    | some p => if cause = 0 then 0 else Nat.min 0xFFFF ((s.time.ticks - p) * 2 / 5)
    | none => 0
  let s := if cause = 1 ∨ cause = 2 then s.addLife 6 1 else s
  let s := shadowMerge s
  let s := { s with dup := { s.dup with contendActive := false, collisions := 0 } }
  (setAuth auACTIVE true s).complete R.dupTake [BitVec.ofNat 32 (cause + 4 * b2n used), s.tstamp, BitVec.ofNat 32 lat]

/-- CONTEND (R284, R285). -/
def toContend (fromActive : Bool) (s : State) : State :=
  setAuth auCONTEND fromActive { s with dup := { s.dup with contend := s.dup.contend || !fromActive, contendActive := fromActive } }

/-- The ACTIVE member relinquishes: pulses stop and AUTH_OUT drops in the same cycle (R283). -/
def relinquish (s : State) : State := toGuard true s

/-! ## The interlock's events -/

/-- AUTH_IN_CHANGE (R283 to R285). -/
def authInChange (level : Bool) (s : State) : State :=
  let was := s.dup.authIn
  let s := { s with dup := { s.dup with authIn := level, authInAt := s.time.ticks } }
  if !s.paired || was == level then s
  else if level then
    match s.auth with
    | 2 => setAuth auSTANDBY false s
    | 4 =>
      let n := s.dup.collisions + 1
      let s := { s with dup := { s.dup with collisions := n } }
      if 8 ≤ n then toContend false s else setAuth auBACKOFF false s
    | 5 => toContend true s
    | 6 => setAuth auSTANDBY false { s with dup := { s.dup with collisions := 0 } }
    | _ => gateUpdate s
  else
    let s := { s with dup := { s.dup with fellAfter := s.dup.pulseAt.map (fun p => s.time.ticks - p) } }
    if s.auth = auCONTEND ∧ s.dup.contendActive then toActive s else gateUpdate s

/-- AUTH_IN_CHANGE: the level through the synchroniser. -/
def execAuthInChange (level : Bool) (s : State) := done (authInChange level s)

/-- HB_PULSE_RECEIVED (R284). -/
def execHbPulseReceived (s : State) := done (if s.paired then { s with dup := { s.dup with pulseAt := some s.time.ticks } } else s)

/-- HB_PULSE_SEND (R283). -/
def execHbPulseSend (s : State) :=
  if s.paired && (s.auth == auACTIVE || (s.auth == auCONTEND && s.dup.contendActive)) then
    done (gateUpdate ({ s with dup := { s.dup with authOut := true } }.emit .hbPulse))
  else done s

/-- AUTH_MONOSTABLE_EXPIRY (R283). -/
def execAuthMonostableExpiry (s : State) := done (if s.paired then gateUpdate { s with dup := { s.dup with authOut := false } } else s)

/-- HEALTH_LOSS (R283). -/
def execHealthLoss (s : State) := done (healthLoss s)

/-- A member in DOWN that is healthy again (R284). -/
def healthRecovery (s : State) : State :=
  if !s.paired || !s.healthy || s.auth != auDOWN then s
  else if s.dup.unfit then setAuth auUNFIT false s
  else if s.dup.contend then setAuth auCONTEND false s
  else
    let s := toGuard false s
    if s.dup.authIn then setAuth auSTANDBY false s else s

/-- HEALTH_RECOVERY. -/
def execHealthRecovery (s : State) := done (healthRecovery s)

/-- CLAIM_WINDOW_EXPIRY (R284). -/
def execClaimWindowExpiry (s : State) :=
  if s.paired && (s.auth == auGUARD || s.auth == auSTANDBY) && !s.dup.authIn then
    done (setAuth auCLAIM true { s with dup := { s.dup with afterBackoff := false } })
  else done s

/-- CLAIM_CONFIRM (R284). -/
def execClaimConfirm (s : State) := if s.paired && s.auth == auCLAIM && !s.dup.authIn then done (toActive s) else done s

/-- BACKOFF_RETRY (R285). -/
def execBackoffRetry (s : State) :=
  if s.paired && s.auth == auBACKOFF && !s.dup.authIn then
    done (setAuth auCLAIM true { s with dup := { s.dup with afterBackoff := true } })
  else done s

/-! ## Pairing and shadow (R282, R287) -/

/-- STAT.FORMED; while not FORMED there is no comparison and MISMATCH is 0 (R288). -/
def setFormed (f : Bool) (s : State) : State :=
  let s := s.putBit R.dupStat_formed f
  if f then s
  else
    let s := ((s.putBit R.dupStat_mismatch false).putBit R.dupStat_silent false).putBit R.dupStat_shadow_ok false
    { s with dup := { s.dup with own := [], theirs := [], misRun := 0, okRun := 0, silentRun := 0 } }

/-- The configuration digest (SYS_DIGEST). -/
def State.digest (s : State) : List Word := (List.range 8).map (fun i => s.reg (R.sysDigest i))

/-- PAIRING_FRAME (R282). -/
def execPairingFrame (digest : List Word) (profile : Fin 4) (auth : Fin 16) (s : State) :=
  if !s.paired then done s
  else
    let s := { s with dup := { s.dup with partner := some ⟨digest, profile.val, auth.val⟩ } }
    done (setFormed (digest == s.digest && profile.val == s.get R.sysProfile_active) s)

/-- PAIRING_FRAME_SEND (R282). -/
def execPairingFrameSend (s : State) :=
  if s.paired && s.bit R.sysStat_booted then done (s.emit (.pairing s.digest (s.get R.sysProfile_active) s.auth)) else done s

/-- PAIRING_TIMEOUT (R282). -/
def execPairingTimeout (s : State) := done (setFormed false { s with dup := { s.dup with partner := none } })

/-- SHADOW_FRAME (R287). -/
def execShadowFrame (drv latch : BitVec 16) (minon : List Byte) (s : State) :=
  if !s.bit R.dupStat_formed then done s
  else
    let x : Shadow := ⟨drv.toNat, latch.toNat, minon.map (fun (b : Byte) => b.toNat), s.time.ticks⟩
    let s := ({ s with dup := { s.dup with shadow := some x } }).putBit R.dupStat_shadow_ok true
    done (s.complete R.dupShadow [BitVec.ofNat 32 (drv.toNat + latch.toNat * 2 ^ 16), s.tstamp])

/-! ## Trip-vector comparison (R288) -/

/-- DUP_CFG.POLICY on this member at a mismatch. -/
def applyPolicy (s : State) : State :=
  match s.get R.dupCfg_policy with
  | 1 => if s.auth = auSTANDBY then setAuth auUNFIT false { s with dup := { s.dup with unfit := true } } else s
  | 2 => if s.auth = auACTIVE then setAuth auUNFIT false { s with dup := { s.dup with unfit := true } } else s
  | _ => s

/-- A compared tick. -/
def hashCompared (row : Nat) (own partner : Word) (s : State) : State :=
  let s := s.complete R.dupHash [BitVec.ofNat 32 row, own, partner]
  if own = partner then
    let n := s.dup.okRun + 1
    let s := { s with dup := { s.dup with misRun := 0, okRun := n } }
    if 64 ≤ n then s.putBit R.dupStat_mismatch false else s
  else
    let n := s.dup.misRun + 1
    let s := { s with dup := { s.dup with misRun := n, okRun := 0 } }
    if n = 2 then applyPolicy ((s.putBit R.dupStat_mismatch true).event 0x23 0 (s.get R.dupCfg_partner) (BitVec.ofNat 32 row) 0 0) else s

/-- The hashes of one row are compared once both are there; the newest 16 rows are kept. -/
def hashTry (row : Nat) (s : State) : State :=
  match s.dup.own.find? (fun x => x.1 == row), s.dup.theirs.find? (fun x => x.1 == row) with
  | some a, some b =>
    hashCompared row a.2 b.2 { s with dup := { s.dup with
      own := s.dup.own.filter (fun (x : Nat × Word) => x.1 != row), theirs := s.dup.theirs.filter (fun (x : Nat × Word) => x.1 != row) } }
  | _, _ => s

/-- This member's hash of a row; SILENT after 16 rows without a partner hash. -/
def hashOwn (row : Nat) (h : Word) (s : State) : State :=
  let n := s.dup.silentRun + 1
  let s := { s with dup := { s.dup with own := ((row, h) :: s.dup.own).take 16, silentRun := n } }
  let s := if 16 < n then s.putBit R.dupStat_silent true else s
  hashTry row s

/-- TRIP_VECTOR_HASH (R288). -/
def execTripVectorHash (row : BitVec 32) (hash : Word) (s : State) :=
  if !s.bit R.dupStat_formed then done s
  else
    let s := ({ s with dup := { s.dup with theirs := ((row.toNat, hash) :: s.dup.theirs).take 16, silentRun := 0 } }).putBit R.dupStat_silent false
    done (hashTry row.toNat s)

/-! ## DUP_CMD (R284, R288) -/

/-- HANDOVER. -/
def handoverEffect (m : Nat) (s : State) : State :=
  let ok := s.auth == auACTIVE && s.dup.partner.any (fun p => p.auth != auDOWN && p.auth != auUNFIT)
  if s.paired && ok then relinquish s else s.raise .dup 0x0103 m

/-- CLEAR_UNFIT. -/
def clearUnfitEffect (s : State) : State :=
  let was := s.auth == auUNFIT || (s.auth == auCONTEND && !s.dup.contendActive)
  let s := { s with dup := { s.dup with unfit := false, contend := if s.dup.contendActive then s.dup.contend else false } }
  if s.paired && was then
    let s := toGuard false s
    if s.dup.authIn then setAuth auSTANDBY false s else s
  else s

/-- The effect of a write to DUP_CMD. -/
def dupCmdEffect (m : Nat) (v : Word) (s : State) : State :=
  let s := if R.dupCmd_handover.of v = 1 then handoverEffect m s else s
  if R.dupCmd_clear_unfit.of v = 1 then clearUnfitEffect s else s

/-- HANDOVER: a write to DUP_CMD with HANDOVER = 1. -/
def execHandover (m : Master) (v : Word) (s : State) := done (s.guarded m.val .dup (dupCmdEffect m.val (v ||| 1#32)))

/-- CLEAR_UNFIT: a write to DUP_CMD with CLEAR_UNFIT = 1. -/
def execClearUnfit (m : Master) (v : Word) (s : State) := done (s.guarded m.val .dup (dupCmdEffect m.val (v ||| 2#32)))

end Sys2Proof.Machine
end

