-- ==== Sys2Proof/Machine/EvrClear.lean ====
section
/-! DEFINITION. Clearing the events: a pair of writes from one master (R313). -/

namespace Sys2Proof.Machine

/-- The clear is no longer armed. -/
def evrDisarm (s : State) : State := ({ s with evr := { s.evr with armed := none } }).put R.evrClrkey_key 0

/-- Every entry in the ring and the journal becomes unreadable, and a CLEARED entry is written. -/
def evrClear (m : Nat) (s : State) : State :=
  let n := (s.evr.next + 2 ^ 32 - s.evr.oldest) % 2 ^ 32
  let s := { s with evr := { s.evr with oldest := s.evr.next, unfl := s.evr.next, tripFlush := false } }
  let s := (s.putBit R.evrStat_squall false).putBit R.evrStat_flushing false
  (s.evWrite (s.mkEvent 0x01 0 0 (BitVec.ofNat 32 n) 0 m)).edge .evr 3

/-- The effect of a write to EVR_CLR. -/
def evrClrEffect (m : Nat) (v : Word) (s : State) : State :=
  let op := R.evrClr_op.of v
  if op ≠ 1 ∧ op ≠ 2 then s
  else if !s.regionOk m 0x1480000 0x200000 true then s.raise .evr 0x0102 m
  else if op = 1 then
    let f := s.fresh
    ({ f.2 with evr := { f.2.evr with armed := some m } }).put R.evrClrkey_key (1 + f.1.toNat % 65535)
  else if s.evr.armed = some m ∧ R.evrClr_key.of v = s.get R.evrClrkey_key ∧ s.bit R.sysStat_ladle = false then evrClear m (evrDisarm s)
  else (evrDisarm s).raise .evr 0x0101 m

/-- EVR_CLEAR_ARM. -/
def execEvrClearArm (m : Master) (v : Word) (s : State) := done (s.guarded m.val .evr (evrClrEffect m.val (R.evrClr_op.put v 1)))

/-- EVR_CLEAR_CONFIRM. -/
def execEvrClearConfirm (m : Master) (v : Word) (s : State) := done (s.guarded m.val .evr (evrClrEffect m.val (R.evrClr_op.put v 2)))

/-- EVR_CLEAR_KEY_EXPIRY: 1 ms after ARM. -/
def execEvrClearKeyExpiry (s : State) := done (evrDisarm s)

end Sys2Proof.Machine
end

