-- ==== Sys2Proof/Machine/Dfc.lean ====
section
/-! DEFINITION. Digital filter chain (chapter 04): the arithmetic of its stages bit by bit, the coefficient banks and SYNC. -/

namespace Sys2Proof.Machine

/-! ## Stage arithmetic -/

/-- Coefficients of (1 + z + … + z^31)^k, by repeated running sums (R75). -/
def boxPow : Nat → List Int
  | 0 => [1]
  | k + 1 =>
    let p := boxPow k
    (List.range (p.length + 31)).map (fun i => ((List.range 32).map (fun j => if j ≤ i then p.getD (i - j) 0 else 0)).sum)

/-- The 156 kernel values of the fifth-order sum (R75). -/
def sincKernel : List Int := boxPow 5

/-- R78: a result of `num / den` scaled by 2^SH, rounded to nearest with ties away from zero, and whether it saturates. -/
def shiftRound (num : Int) (den : Nat) (sh : Int) : Int × Bool :=
  let r := roundDiv (num * (2 ^ (sh + 8).toNat : Nat)) (den * 256)
  (satInt32 r, satInt32 r != r)

/-- A stage's shift for channel `c`: stage 0 SINC, 1 to 5 HB1 to HB5, 6 TAIL, 7 INT (DFC_CHn_SHIFT). -/
def State.chainShift (s : State) (c k : Nat) : Int := signedOf 4 ((s.reg (R.dfcChShift c)).toNat >>> (4 * k))

/-- The OR of the tags of all inputs under a stage's taps (R61); a span not yet filled carries INVALID (R88). -/
def spanTags (n : Nat) (xs : List Tagged) : Bool × Bool :=
  (xs.any (·.ovr), xs.any (·.invalid) || decide (xs.length < n))

/-- SINC output of the last 156 bits (R75): the weighted sum of ±1, normalised by 2^31 / 32^5. -/
def sincSum (bits : List ModBit) : Int :=
  ((sincKernel.zip bits).map (fun p => if p.2.bit then p.1 else -p.1)).sum

/-- Offset of a stage's words within a bank. -/
def hbOfs (k : Nat) : Nat := match k with | 0 => 0x00 | 1 => 0x10 | 2 => 0x30 | 3 => 0x70 | _ => 0xA0

/-- h[i] of a stage in the active bank, in units of 2^-23 (R76, R84). -/
def State.hbCoef (s : State) (k i : Nat) : Int :=
  signedOf 24 (s.reg (0x09400 + 0x100 * b2n (s.regBit R.dfcHbBank k) + hbOfs k + 4 * i)).toNat

/-- The half-band sum in units of 2^-23 (R76); `xs` is newest first, so the tap `x[2m − j]` is entry j. -/
def hbSum (u : Nat) (h : Nat → Int) (xs : List Tagged) : Int :=
  let x := fun j => (xs.getD j {}).val
  let c := 2 * u - 1
  2 ^ 22 * x c + ((List.range u).map (fun i => h i * (x (c + (2 * i + 1)) + x (c - (2 * i + 1))))).sum

/-- TAIL's sum in units of 2^-23 (R77): 63 taps for decimation by 2, 127 for 4. -/
def tailSum (d : Nat) (xs : List Tagged) : Int :=
  ((List.range (tailTaps d)).map (fun i => tailCoef d i * (xs.getD i {}).val)).sum

/-- Output periods of the stages in modulator clocks: SINC, HB1 to HB5, TAIL (R73). -/
def stagePeriod (tailDiv k : Nat) : Nat := if k ≤ 5 then 32 * 2 ^ k else 1024 * tailDiv

/-- Half-band stages of the active path (R74): HB1 to HB3, or HB1 to HB5 for BRISK, STEADY and CALM. -/
def pathHb (path : Nat) : Nat := if path ≤ 1 then 3 else 5

/-- TAIL's decimation on the active path: 2 for STEADY, 4 for CALM, none else (R74). -/
def pathTail (path : Nat) : Option Nat := match path with | 3 => some 2 | 4 => some 4 | _ => none

/-- The chain output rate (R74). -/
def pathRate (path : Nat) : Nat := match path with | 2 => 24000 | 3 => 12000 | 4 => 6000 | _ => 96000

/-- R81: y[n] from y[n−1], 64 bits with 22 fraction bits (DESIGN CHOICE, log entry 93), rounded in a free direction and held at the
ends of the 64 bits. -/
def integrate (fc ref rate : Nat) (y : BitVec 64) (x x1 : Int) : BitVec 64 :=
  let v := fxRound 7 [fc, ref, rate, y.toInt, x, x1] 0 (integA fc rate * y.toInt + integC ref rate * ((x + x1) * (2 ^ 22 : Nat)))
  BitVec.ofInt 64 (if v > 0x7FFFFFFFFFFFFFFF then 0x7FFFFFFFFFFFFFFF else if v < -0x8000000000000000 then -0x8000000000000000 else v)

/-- R81, R83: the integrator of channel `c`, running at `rate`. Returns the channel, its output and whether it saturated. x[n−1] is the
input before, INVALID or not (DESIGN CHOICE, unsafe, log entry 91). -/
def intStage (s : State) (c rate : Nat) (x : Tagged) (ch : ChainChan) : ChainChan × Tagged × Bool :=
  if !s.bit (R.dfcChInt_en c) then (ch, x, false)
  else
    let fc := Nat.min 500 (Nat.max 10 (s.get (R.dfcChInt_fc c)))
    let ref := Nat.min 7000 (Nat.max 4000 (s.get (R.dfcChInt_ref c)))
    let y := if x.invalid then ch.y else integrate fc ref rate ch.y x.val ch.x1.val
    let settling := ch.settling || x.invalid
    let r := shiftRound y.toInt (2 ^ 22) (s.chainShift c 7)
    ({ ch with y := y, x1 := x, settling := settling }, ⟨r.1, x.ovr || ch.x1.ovr, x.invalid || settling⟩, r.2)

/-- A 96 kHz sample for the publisher: the span of its longest filter, the kernel and a frame's eight instants (R119). -/
def ChainChan.published (ch : ChainChan) (clk : Nat) (x : Tagged) : ChainChan := { ch with pub := (x :: ch.pub).take 448, pubClk := clk }

/-- R120: in a preset's path the output of HB3 goes to the publisher through its own integrator at 96 kHz. -/
def pubTap (s : State) (c path clk : Nat) (x : Tagged) (ch : ChainChan) : ChainChan × Bool :=
  if path ≤ 1 then (ch, false)
  else
    let r := intStage s c 96000 x { ch with y := ch.py, x1 := ch.px1, settling := ch.psettling }
    ({ ch with py := r.1.y, px1 := r.1.x1, psettling := r.1.settling }.published clk r.2.1, r.2.2)

/-- A chain output is given: through the integrator into the resampler's input history (newest first). -/
def chainOut (s : State) (c path clk : Nat) (x : Tagged) (ch : ChainChan) : ChainChan × Bool :=
  let r := intStage s c (pathRate path) x ch
  let ch := { r.1 with out := (r.2.1 :: r.1.out).take 64, outClk := clk }
  (if path ≤ 1 then ch.published clk r.2.1 else ch, r.2.2)

/-- The INVALID tag of a stage's first output after its phase moved (R86). -/
def takeMoved (k : Nat) (ch : ChainChan) : Bool × ChainChan := (ch.moved.getD k false, { ch with moved := ch.moved.set k false })

/-- TAIL takes one input and, on its output boundary, gives a chain output (R77). -/
def tailStage (s : State) (c path d clk : Nat) (x : Tagged) (ch : ChainChan) : ChainChan × Bool :=
  let n := tailTaps d
  let ch := { ch with tail := (x :: ch.tail).take n }
  if (clk + stagePeriod d 6 - s.dfc.phase.getD 6 0) % stagePeriod d 6 ≠ 0 then (ch, false)
  else
    let t := spanTags n ch.tail
    let r := shiftRound (tailSum d ch.tail) (2 ^ 23) (s.chainShift c 6)
    let mv := takeMoved 6 ch
    let o := chainOut s c path clk ⟨r.1, t.1, t.2 || mv.1⟩ mv.2
    (o.1, o.2 || r.2)

/-- Half-band stage `k` (0 for HB1) takes one input; on its output boundary its output goes to the next stage of the path
(R76, R73). `fuel` bounds the stages left. -/
def hbStage (s : State) (c path clk : Nat) : Nat → Nat → Tagged → ChainChan → ChainChan × Bool
  | 0, _, _, ch => (ch, false)
  | fuel + 1, k, x, ch =>
    if pathHb path ≤ k then
      match pathTail path with
      | some d => tailStage s c path d clk x ch
      | none => chainOut s c path clk x ch
    else
      let n := 4 * hbU k - 1
      let xs := (x :: ch.hb.getD k []).take n
      let ch := { ch with hb := ch.hb.set k xs }
      let per := stagePeriod 2 (k + 1)
      if (clk + per - s.dfc.phase.getD (k + 1) 0) % per ≠ 0 then (ch, false)
      else
        let t := spanTags n xs
        let r := shiftRound (hbSum (hbU k) (s.hbCoef k) xs) (2 ^ 23) (s.chainShift c (k + 1))
        let mv := takeMoved (k + 1) ch
        let y : Tagged := ⟨r.1, t.1, t.2 || mv.1⟩
        let pb := if k = 2 then pubTap s c path clk y mv.2 else (mv.2, false)
        let o := hbStage s c path clk fuel (k + 1) y pb.1
        (o.1, o.2 || r.2 || pb.2)

/-- A modulator clock of channel `c`: on the SINC boundary the bits before the clock (the one-clock register of R79) give an output,
which goes to the half-bands and to the strike comparator (R74); then the clock's bit enters. Also whether a stage saturated
(R78), and the sinc sample before its shift. -/
def feedBit (s : State) (c clk : Nat) (b : ModBit) (ch : ChainChan) : ChainChan × Bool × Option Tagged :=
  let push := fun (x : ChainChan) => { x with bits := (b :: x.bits).take 156 }
  if (clk + 32 - s.dfc.phase.getD 0 0) % 32 ≠ 0 then (push ch, false, none)
  else
    let inv := ch.bits.any (·.invalid) || decide (ch.bits.length < 156)
    let raw : Int := sincSum ch.bits * 2 ^ 6
    let r := shiftRound raw 1 (s.chainShift c 0)
    let mv := takeMoved 0 ch
    let x : Tagged := ⟨r.1, ch.bits.any (·.ovr), inv || mv.1⟩
    let o := hbStage s c (s.get R.dfcStat_path) clk 6 0 x { mv.2 with sinc := x :: mv.2.sinc }
    (push o.1, o.2 || r.2, some ⟨raw, x.ovr, x.invalid⟩)

/-! ## The front end of a modulator clock (R60 to R62, R65, R69 to R72) -/

/-- R62: the bit an AIN modulator gives: mid-scale with OVR through 8 clocks of a loop reset, OVR while the comparator is tripped. -/
def ainBit (inv : Bool) (b : ModBit) (a : AinChan) : ModBit × AinChan :=
  if 0 < a.midscale then (⟨a.midscale % 2 == 1, true, inv⟩, { a with midscale := a.midscale - 1 })
  else (⟨b.bit, b.ovr || a.tripped, b.invalid || inv⟩, a)

/-- R65: a sinc sample enters a channel's probe measurement: the cycle's mean under continuous mode, the history under pulsed. -/
def probeSample (mode clk : Nat) (x : Tagged) (a : AinChan) : AinChan :=
  match mode with
  | 1 => { a with sum := a.sum + x.val, cnt := a.cnt + 1, sumOvr := a.sumOvr || x.ovr }
  | 2 => { a with sincs := (x :: a.sincs).take 512, sincClk := clk }
  | _ => a

/-- A captured bit after INV (R70), or none for a Manchester violation: the previous bit repeats with OVR (R72). 32 identical bits in a
row carry OVR. -/
def takeBit (inv : Bool) (b : Option Bool) (x : BsiChan) : BsiChan :=
  let v := match b with | some v => v != inv | none => x.bit
  let run := if v == x.bit then Nat.min 4096 (x.run + 1) else 1
  { x with bit := v, run := run, ovr := b.isNone || decide (32 ≤ run) }

/-- R70: one modulator clock of a BSI channel: `d` and `k` are the levels of its data ball and of its group's clock ball in the eight
phases of the SAMPLE clock (5.09 ns each). MCLK_OUT rises at the modulator clocks that are multiples of its division, and Manchester
bits begin there (DESIGN CHOICE, unsafe, log entry 94). -/
def capture (mode div phase clk : Nat) (inv : Bool) (d k : Nat → Bool) (x : BsiChan) : BsiChan :=
  let at_ := clk % div
  match mode with
  | 0 =>
    let r := (List.range 8).foldl (fun (a : Bool × Option Bool) p => (k p, if !a.1 && k p then some (d p) else a.2)) (x.ck, none)
    let pipe := (r.2 :: x.pipe).take 4
    let x := { x with ck := r.1, pipe := pipe }
    match pipe.getD 3 none with
    | some v => takeBit inv (some v) x
    | none => x
  | 1 => if at_ = 0 then takeBit inv (some (d phase)) x else x
  | _ =>
    let lvl := if div = 2 then d 4 else d 0
    if (div = 2 ∧ at_ = 0) ∨ (div ≠ 2 ∧ at_ = 1) then { x with half := lvl }
    else if at_ = div - 1 then takeBit inv (if x.half == lvl then none else some x.half) x
    else x

/-- R72: when the run reaches 32, its earlier bits carry OVR too, as far as they are under the SINC stage's taps. -/
def tagRun (div : Nat) (x x' : BsiChan) (bits : List ModBit) : List ModBit :=
  if x'.run = 32 ∧ x.run ≠ 32 then tagNewest (31 * div) bits else bits

/-- What a run of modulator clocks carries for one channel. -/
structure Feed where
  ain : AinChan
  bsi : BsiChan
  ch : ChainChan
  /-- A stage saturated (R78). -/
  sat : Bool
  /-- A bit carried OVR. -/
  ovr : Bool

/-- One modulator clock of channel `c`: the front end, then the chain where it runs. -/
def feedClock (s : State) (c clk : Nat) (b : ModBit) (d k : Nat → Bool) (f : Feed) : Feed :=
  let inv := s.afeInvalid c
  let fb : ModBit × Feed :=
    if c < 32 then
      let r := ainBit inv b f.ain
      (r.1, { f with ain := r.2 })
    else
      let n := c - 32
      let x := capture (s.get (R.afeBsiCfg_mode n)) s.bsiDiv (s.get (R.afeBsiCfg_loc_phase n)) clk (s.bit (R.afeBsiCfg_inv n)) d k f.bsi
      (⟨x.bit, x.ovr, inv || x.run == 4096⟩, { f with bsi := x, ch := { f.ch with bits := tagRun s.bsiDiv f.bsi x f.ch.bits } })
  let f := { fb.2 with ovr := fb.2.ovr || fb.1.ovr }
  if !s.bit R.dfcStat_run then f
  else
    let r := feedBit s c clk fb.1 f.ch
    { f with ch := r.1, sat := f.sat || r.2.1,
             ain := match r.2.2 with | some x => if c < 32 then probeSample (s.owMode c) clk x f.ain else f.ain | none => f.ain }

/-- A run of `clocks` modulator clocks of channel `c` from the chain's present clock. A missing AIN bit carries INVALID; a line whose
levels are missing is low. -/
def feedChannel (s : State) (c clocks : Nat) (bits : List ModBit) (d k : List Bool) : Feed :=
  (List.range clocks).foldl (fun f i =>
    feedClock s c (s.dfc.clk + i + 1) (bits.getD i ⟨false, false, true⟩) (fun p => d.getD (8 * i + p) false) (fun p => k.getD (8 * i + p) false) f)
    ⟨s.ain c, s.bsi (c - 32), tget {} s.dfc.chan c, false, false⟩

/-- Channel `c` takes what a run has made of it, with its sticky bits (R78, AFE_OVR_STICKY, AFE_BSI_OVR_STICKY). -/
def storeFeed (c : Nat) (f : Feed) (s : State) : State :=
  let s := if s.bit R.dfcStat_run then { s with dfc := { s.dfc with chan := tset {} s.dfc.chan c f.ch } } else s
  let s := if f.sat then (s.edgeIf (!s.arrBit R.dfcSatStickyLo c) .dfc 2).setArrBit R.dfcSatStickyLo c true else s
  if c < 32 then
    let s := s.updAin c (fun _ => f.ain)
    if f.ovr && s.ainOn c then s.ovrSticky R.afeOvrSticky c else s
  else
    let s := (s.updBsi (c - 32) (fun _ => f.bsi)).bsiStat (c - 32)
    if f.ovr && s.bsiOn (c - 32) then s.ovrSticky R.afeBsiOvrSticky (c - 32) else s

/-- `clocks` modulator clocks pass: the front end takes the modulators' bits `ain` (AIN0 to AIN31) and the levels `lines` of BSI_D0 to
BSI_D31 and BSI_CK0 to BSI_CK3 (32 to 35), eight a clock; the chain runs on what it captures. -/
def runChain (clocks : Nat) (ain : List (Nat × List ModBit)) (lines : List (Nat × List Bool)) (s : State) : State :=
  let s0 := s
  let s := if clocks = 0 then s else iterUp 64 (fun c s =>
    storeFeed c (feedChannel s0 c clocks (tget [] ain c) (tget [] lines (c - 32)) (tget [] lines (32 + (c - 32) / 8))) s) s
  { s with dfc := { s.dfc with clk := s.dfc.clk + clocks } }

/-- Modulator clocks of half a clock each from the AIN sampling instant to a chain output (R79): the loop, SINC and its register
(80.5 clocks), and every stage of the path. -/
def pathDelay2 (path : Nat) : Nat :=
  9057 + (if 2 ≤ path then 2 * (17 * 256 + 17 * 512) else 0) + (match pathTail path with | some 2 => 2 * 31 * 1024 | some _ => 2 * 63 * 1024 | none => 0)

/-! ## Registers, banks and SYNC -/

/-- Grid time in modulator clocks of 24.576 MHz (R14). -/
def State.gridClk (s : State) : Nat := s.gridNs * 24576 / 1000000

/-- TSTAMP32 of a modulator clock count. -/
def tstampClk (clk : Nat) : Word := BitVec.ofNat 32 (clk * 250000000 / 24576000)

/-- The next instant after `now` that is `phase` modulo 4096 clocks (166.667 µs, R85). -/
def nextLattice (phase now : Nat) : Nat := now + (4096 - (now + 4096 - phase % 4096) % 4096)

/-- The origin a SYNC accepted now takes (R85): under GRIDTIME the next whole multiple of 166.667 µs; under EDGE `cross` clocks
on: 3 for a command, which crosses to SAMPLE in 3 clocks, and 4 for the ball, whose edge leaves the 3-clock synchroniser before it
(DEDUCED, log entry 95). -/
def State.syncOrigin (s : State) (cross : Nat) : Nat := if s.bit R.dfcCtrl_align then s.gridClk + cross else nextLattice 0 s.gridClk

/-- A SYNC request is accepted (R86, R87): merged into a pending alignment, else VALID falls and SYNC_PEND rises. -/
def State.syncRequest (s : State) (cross : Nat) : State :=
  if s.bit R.dfcStat_sync_pend then s
  else
    let s := (s.invalidate R.dfcSyncRes).putBit R.dfcStat_sync_pend true
    { s with dfc := { s.dfc with syncAt := some (s.dfc.syncAt.getD (s.syncOrigin cross)) } }

/-- The phases an origin gives (R85). DESIGN CHOICE (unsafe, log entry 91): an idle TAIL has the output period of division by 2. -/
def phasesOf (path origin : Nat) : List Nat :=
  (List.range 7).map (fun k => origin % stagePeriod ((pathTail path).getD 2) k)

/-- SYNC_ALIGNMENT (R85 to R88): at the origin every stage phase is set; moved stages tag their next output INVALID; a pending
start begins; a pending request completes DFC_SYNC_RES. -/
def syncAlign (s : State) : State :=
  match s.dfc.syncAt with
  | none => s
  | some o =>
    let ph := phasesOf (s.get R.dfcStat_path) o
    let mv := if s.dfc.startPend then List.replicate 7 false
      else (ph.zip s.dfc.phase).map (fun p => p.1 != p.2)
    let moved := (List.range 7).foldl (fun a k => if mv.getD k false then a + 2 ^ k else a) 0
    let chan := if s.dfc.startPend then []
      else (List.range 64).foldl (fun t c => tupd {} t c (fun ch =>
        { ch with moved := (ch.moved.zip mv).map (fun p => p.1 || p.2) })) s.dfc.chan
    let ign := s.dfc.ignored
    let clk := if s.dfc.startPend then o else s.dfc.clk
    let s := { s with dfc := { s.dfc with phase := ph, origin := o, syncAt := none, startPend := false, chan := chan, clk := clk } }
    let s := (s.putBit R.dfcStat_run (s.bit R.dfcCtrl_en)).putBit R.dfcStat_synced (s.bit R.dfcCtrl_en)
    if !s.bit R.dfcStat_sync_pend then s
    else
      let s := s.complete R.dfcSyncRes [tstampClk o, BitVec.ofNat 32 (moved + ign * 2 ^ 16)]
      let s := (s.putBit R.dfcStat_sync_pend false).edge .dfc 0
      { s with dfc := { s.dfc with ignored := 0 } }

/-- The effect of a write to DFC CTRL (R85, R88): EN rising starts the chain at the SYNC origin (EDGE: at once), EN falling
stops every stage and clears all history. DESIGN CHOICE (unsafe, log entry 91): a SYNC that is pending when EN falls is dropped, and its
result does not complete. -/
def dfcCtrlEffect (v : Word) (s : State) : State :=
  let e0 := s.bit R.dfcCtrl_en
  let s := s.storeReg R.dfcCtrl v
  let e1 := s.bit R.dfcCtrl_en
  if !e0 && e1 then
    let s := { s with dfc := { s.dfc with startPend := true, syncAt := some (s.syncOrigin 3) } }
    if s.bit R.dfcCtrl_align then syncAlign s else s
  else if e0 && !e1 then
    let s := ((s.putBit R.dfcStat_run false).putBit R.dfcStat_synced false).putBit R.dfcStat_sync_pend false
    { s with dfc := { s.dfc with chan := [], startPend := false, syncAt := none } }
  else s

/-- CHAIN_ENABLE (R88): a write of DFC CTRL with EN = 1. -/
def execChainEnable (m : Master) (v : Word) (s : State) := done (s.guarded m.val .dfc (dfcCtrlEffect (v ||| 1#32)))

/-- CHAIN_DISABLE (R88): a write of DFC CTRL with EN = 0. -/
def execChainDisable (m : Master) (v : Word) (s : State) := done (s.guarded m.val .dfc (dfcCtrlEffect (v &&& ~~~1#32)))

/-- STAT.SWAP_PEND is 1 while any DFC_HB_SWAP bit is. -/
def State.swapPend (s : State) : State := s.putBit R.dfcStat_swap_pend (s.get R.dfcHbSwap_swap != 0)

/-- The effect of a W1S write to DFC_HB_SWAP (R84, R8). -/
def hbSwapEffect (v : Word) (s : State) : State := (s.storeReg R.dfcHbSwap v).swapPend

/-- HB_SWAP_REQUEST (R84). -/
def execHbSwapRequest (m : Master) (v : Word) (s : State) := done (s.guarded m.val .dfc (hbSwapEffect v))

/-- HB_SWAP_DONE (R84): the new bank takes effect for all channels. -/
def execHbSwapDone (k : Fin 5) (s : State) :=
  done (if s.regBit R.dfcHbSwap k.val then
    (((s.setRegBit R.dfcHbSwap k.val false).setRegBit R.dfcHbBank k.val (!s.regBit R.dfcHbBank k.val)).swapPend).edge .dfc 1
  else s)

/-- The stage and word of coefficient word `k` (0 to 40) of a bank: 3, 5, 15, 9 and 9 words. -/
def coefPlace (k : Nat) : Nat × Nat :=
  if k < 3 then (0, k) else if k < 8 then (1, k - 3) else if k < 23 then (2, k - 8) else if k < 32 then (3, k - 23) else (4, k - 32)

/-- Member offset of coefficient word `k` of a bank. -/
def coefAddr (bank k : Nat) : Nat := 0x09400 + 0x100 * bank + hbOfs (coefPlace k).1 + 4 * (coefPlace k).2

/-- The effect of a write to a coefficient word (R84): dropped for the active bank and for the bank a pending swap makes
active. -/
def coefEffect (m bank k : Nat) (v : Word) (s : State) : State :=
  let st := (coefPlace k).1
  if b2n (s.regBit R.dfcHbBank st) = bank ∨ s.regBit R.dfcHbSwap st then s.raise .dfc 0x0101 m
  else s.storeReg (coefAddr bank k) v

/-- COEF_WRITE (R84). -/
def execCoefWrite (m : Master) (bank : Fin 2) (k : Fin 41) (v : Word) (s : State) :=
  done (s.guarded m.val .dfc (coefEffect m.val bank.val k.val v))

/-- The effect of a write to DFC_CHn_INT (R83). -/
def dfcIntEffect (m n : Nat) (v : Word) (s : State) : State :=
  if s.bit R.dfcCtrl_en then s.raise .dfc 0x0102 m else s.storeReg (R.dfcChInt n) v

/-- DFC_INT_WRITE (R83). -/
def execDfcIntWrite (m : Master) (n : Fin 64) (v : Word) (s : State) :=
  done (s.guarded m.val .dfc (dfcIntEffect m.val n.val v))

/-- INTEGRATOR_SETTLED (R83): 5 τ after start or the last INVALID input the output stops carrying INVALID. -/
def execIntegratorSettled (n : Fin 64) (s : State) :=
  done (if s.bit R.dfcStat_run then
    { s with dfc := { s.dfc with chan := tupd {} s.dfc.chan n.val (fun ch =>
      { ch with settling := ch.settling && ch.x1.invalid, psettling := ch.psettling && ch.px1.invalid }) } } else s)

/-- The effect of a write to DFC_SYNC_CMD (R85, R86). -/
def syncCmdEffect (m : Nat) (v : Word) (s : State) : State :=
  if R.dfcSyncCmd_go.of v = 0 then s
  else if !s.bit R.dfcCtrl_en then s.raise .dfc 0x0103 m
  else s.syncRequest 3

/-- SYNC_CMD (R86, R87). -/
def execSyncCmd (m : Master) (v : Word) (s : State) := done (s.guarded m.val .dfc (syncCmdEffect m.val v))

/-- A ball edge is ignored and counted (R86). -/
def State.ignoreEdge (s : State) : State := { s with dfc := { s.dfc with ignored := Nat.min 0xFFFF (s.dfc.ignored + 1) } }

/-- SYNC_BALL_EDGE (R85, R86): a rising edge on the SYNC ball. -/
def syncBall (s : State) : State :=
  if !s.bit R.dfcCtrl_sync_ball then s
  else if !s.bit R.dfcCtrl_en then s.ignoreEdge
  else if (match s.dfc.lastEdge with | some t => decide (s.gridNs < t + 166667) | none => false) then s.ignoreEdge.edge .dfc 3
  else
    let s := s.syncRequest 4
    { s with dfc := { s.dfc with lastEdge := some s.gridNs } }

/-- SYNC_BALL_EDGE (R85, R86). -/
def execSyncBallEdge (s : State) := done (syncBall s)

/-- SYNC_ALIGNMENT (R85, R86). -/
def execSyncAlignment (s : State) := done (syncAlign s)

end Sys2Proof.Machine
end

