-- ==== Sys2Proof/Machine/Recorder.lean ====
section
/-! DEFINITION. The disturbance recorder and the record store (R314 to R324). -/

namespace Sys2Proof.Machine

/-! ## The disturbance ring (R314, R315) -/

def State.drcNq (s : State) : Nat := s.numQ
/-- Bytes of a record row. -/
def State.drcRowSize (s : State) : Nat := 32 + 5 * s.drcNq + 320
def State.drcBase (s : State) : Nat := (s.reg R.drcRingLo).toNat + s.get R.drcRingHi_base * 2 ^ 32
/-- Rows the ring holds. -/
def State.drcCap (s : State) : Nat := s.get R.drcRingLen_len * 2 ^ 20 / s.drcRowSize
def State.drcDec (s : State) : Nat := 2 ^ Nat.min 4 (s.get R.drcCfg_dec)
/-- PRE and POST in grid nanoseconds. -/
def State.drcPre (s : State) : Nat := Nat.min 100 (s.get R.drcCfg_pre) * 100000000
def State.drcPost (s : State) : Nat := Nat.min 600 (Nat.max 1 (s.get R.drcCfg_post)) * 100000000

/-- The grid time in ns, not after now, that has a TSTAMP32. -/
def State.nsOf (s : State) (t : Word) : Nat := s.gridNs / 4 * 4 - 4 * (s.tstamp - t).toNat

/-- The 320 bytes of the digital block (R314). -/
def State.digitalBlock (s : State) : List Byte :=
  let flags := b2n (s.bit R.trmStat_fo_gate) + 2 * b2n (s.bit R.trmStat_net_gate) + 4 * b2n (s.bit R.fioFoPin_foh)
    + 8 * b2n (s.bit R.peaStat_fault) + 16 * b2n (s.get R.lgeStat_state == 3)
  let esel := (List.range 64).map (fun i =>
    let slot := s.get (if i % 2 = 0 then R.drcEsel_slot0 (i / 2) else R.drcEsel_slot1 (i / 2))
    BitVec.ofNat 8 (tget 0 s.pea.committed slot))
  leBytes 32 s.drc.tlSeen ++ leBytes 8 s.drc.stkSeen ++ leBytes 4 (s.reg R.fioFiState).toNat
    ++ leBytes 4 (s.get R.trmFoDrv_drv + s.get R.fioFoPin_pin * 2 ^ 16) ++ leBytes 4 flags
    ++ bytesOf ((List.range 8).map (fun w => s.reg (R.galFbiState w))) ++ bytesOf ((List.range 32).map (fun w => s.reg (R.gosGinState w)))
    ++ esel ++ List.replicate 44 0

/-- The lines at 1 and strikes asserted are noted for the next record row (R314). -/
def State.drcSee (s : State) : State :=
  { s with drc := { s.drc with tlSeen := s.drc.tlSeen ||| s.trm.lines,
                               stkSeen := s.drc.stkSeen ||| ((s.reg R.trmStkLiveLo).toNat + (s.reg R.trmStkLiveHi).toNat * 2 ^ 32) } }

/-- STAT.RECORDING, COMMITTING and OPEN. -/
def State.drcStat (s : State) : State :=
  ((s.putBit R.drcStat_recording (s.drc.recs.any (fun r => r.last.isNone))).putBit R.drcStat_committing (!s.drc.recs.isEmpty)).put
    R.drcStat_open s.drc.recs.length

/-- A record ends at its last row to be copied; TRUNC where rows were lost (R317). -/
def State.drcTrunc (s : State) (id : Nat) : State :=
  match s.drc.recs.find? (fun r => r.id == id) with
  | none => s
  | some r =>
    let s := { s with drc := { s.drc with
      trunc := Nat.min 0xFFFF (s.drc.trunc + 1),
      recs := s.drc.recs.map (fun (x : DrcRec) => if x.id = id then { x with last := some x.copied, trunc := true } else x) } }
    ((s.event 0x30 2 r.cause (BitVec.ofNat 32 id) (BitVec.ofNat 32 (r.copied - r.first)) 0).edge .drc 3).drcStat

/-- The scale table in the plane, one word for each quantity of a record row. -/
def State.scaleTable (s : State) : List Word := (List.range s.drcNq).map (fun q => s.word (scaleAddr q))

/-- R102, R320: at the start of a tick the recorders read the scale table; one that differs applies from the first row that the tick
takes up. Tables of rows that the ring has lost are dropped. -/
def drcScales (r : Nat) (s : State) : State :=
  if !s.bit R.drcCtrl_en then s
  else s.engine 7 [(scaleAddr 0, 4 * s.drcNq, false)] (fun s =>
    let t := s.scaleTable
    if (s.drc.scales.head?.map (fun x => x.2.2)) == some t then s
    else
      let rows := s.tickRows r
      let back := ((rows.dropLast).filter (fun x => decide (x % s.drcDec = 0))).length
      let low := s.drc.written - s.drcCap
      let old := s.drc.scales.takeWhile (fun x => decide (low < x.1)) ++ (s.drc.scales.dropWhile (fun x => decide (low < x.1))).take 1
      { s with drc := { s.drc with scales := (s.drc.written - back, rows.headD r, t) :: old } })

/-- The scale table of a row by its number. -/
def State.drcScaleOf (s : State) (n : Nat) : List Word :=
  ((s.drc.scales.find? (fun x => decide (x.1 ≤ n))).map (fun x => x.2.2)).getD s.scaleTable

/-- The ring address of a row by its number. -/
def State.drcSlot (s : State) (n : Nat) : Nat := s.drcBase + n % s.drcCap * s.drcRowSize

/-- One record row, written as master 7; a record whose next row to copy is overwritten ends with TRUNC (R314, R315, R317). -/
def drcRowRun (r : Nat) (s : State) : State :=
    let s := s.drcSee
    let row := memBytes s.mem (headAddr r) 32 ++ memBytes s.mem (valueAddr r 0) (4 * s.drcNq) ++ memBytes s.mem (qualAddr r 0) s.drcNq
      ++ s.digitalBlock
    let s := (s.devWrite 7 (s.drcSlot s.drc.written) row).2
    let w := s.drc.written + 1
    let cap := s.drcCap
    let s := { s with drc := { s.drc with
      written := w, times := (s.nsOf (s.headWord r 1) :: s.drc.times).take cap, tlSeen := 0, stkSeen := 0 } }
    let lag := s.drc.recs.foldl (fun a x => Nat.max a (w - x.copied)) 0
    let s := { s with drc := { s.drc with lagMax := Nat.max s.drc.lagMax lag } }
    (s.drc.recs.filter (fun x => decide (cap < w - x.copied) && x.last.all (fun l => decide (x.copied < l)))).foldl
      (fun s x => s.drcTrunc x.id) s

/-- The record row of a sealed row whose ROW is a multiple of 2^DEC (R314). -/
def drcRow (r : Nat) (s : State) : State :=
  if !s.bit R.drcCtrl_en || r % s.drcDec != 0 || s.drcCap == 0 then s
  else s.engine 7 (rowAcc r false) (drcRowRun r)

/-- Number of the first row at or after a grid time among the rows the ring holds. -/
def State.drcFirst (s : State) (t : Nat) : Nat := s.drc.written - (s.drc.times.takeWhile (fun x => decide (t ≤ x))).length

/-- Number of the row after the last at or before a grid time. -/
def State.drcAfter (s : State) (t : Nat) : Nat := s.drc.written - (s.drc.times.takeWhile (fun x => decide (t < x))).length

/-! ## Directory (R319, R321) -/

/-- STO_DIR. -/
def State.stoDir (s : State) : State :=
  let used := (s.sto.recs.map (fun (r : StoRec) => r.extents)).sum
  s.complete R.stoDir [BitVec.ofNat 32 (s.sto.extents - 2 - used), BitVec.ofNat 32 s.sto.recs.length,
    BitVec.ofNat 32 ((s.sto.recs.head?.map (·.id)).getD 0), BitVec.ofNat 32 s.sto.newest]

/-- A record's entry is updated: copy A, then copy B, under the next entry sequence number (R319). -/
def State.stoUpd (s : State) (id : Nat) (f : StoRec → StoRec) : State :=
  { s with sto := { s.sto with recs := s.sto.recs.map (fun (r : StoRec) => if r.id = id then { f r with seq := r.seq + 1 } else r) } }

/-- What the extents hold changes; the directory entry does not. -/
def State.stoCard (s : State) (id : Nat) (f : StoRec → StoRec) : State :=
  { s with sto := { s.sto with recs := s.sto.recs.map (fun (r : StoRec) => if r.id = id then f r else r) } }

/-- Data extents up to the last checkpoint. -/
def StoRec.checkExt (r : StoRec) : Nat := r.data.length - (r.data.reverse.takeWhile (fun x => x.check.isNone)).length

/-- Rows up to the last checkpoint. -/
def StoRec.checkRows (r : StoRec) : Nat := ((r.data.reverse.findSome? (fun x => x.check)).map (fun c => c.rows)).getD 0

/-- An extent lies in one of a record's runs. -/
def StoRec.owns (r : StoRec) (p : Nat) : Bool := r.runs.any (fun x => decide (x.1 ≤ p ∧ p < x.1 + x.2))

/-- The next free extent from a position, deleting the oldest sealed record in the way under WRAP; none where the log is full
(R323). The second component says that the position jumped. -/
def stoFind : Nat → State → Nat → Bool → Option (State × Nat × Bool)
  | 0, _, _, _ => none
  | n + 1, s, p, j =>
    let p := if s.sto.extents ≤ p then 2 else p
    match s.sto.recs.find? (fun r => r.owns p) with
    | none => if p < s.sto.extents then some (s, p, j) else none
    | some r =>
      if r.keep || r.st == .open_ || r.st == .unsealed then
        let e := (r.runs.filter (fun x => decide (x.1 ≤ p ∧ p < x.1 + x.2))).foldl (fun a x => Nat.max a (x.1 + x.2)) (p + 1)
        stoFind n s e true
      else if s.bit R.stoCtrl_wrap then
        stoFind n { s with sto := { s.sto with recs := s.sto.recs.filter (fun (x : StoRec) => x.id != r.id) } } p j
      else none

/-- A record takes one more extent (R319, R323); none where it must end with TRUNC. -/
def State.stoTake (s : State) (id : Nat) : Option State :=
  match stoFind (10 * s.sto.recs.length + 2) s s.sto.pos false with
  | none => none
  | some (s', p, _) =>
    match s'.sto.recs.find? (fun r => r.id == id) with
    | none => none
    | some r =>
      let runs := match r.runs.reverse with
        | (a, n) :: rest => if a + n = p then ((a, n + 1) :: rest).reverse else r.runs ++ [(p, 1)]
        | [] => [(p, 1)]
      if 8 < runs.length then none
      else some ({ s' with sto := { s'.sto with pos := p + 1 } }.stoUpd id (fun r => { r with runs := runs, extents := (runs.map (fun (x : Nat × Nat) => x.2)).sum }))

/-- No extent of the log can be taken: FULL (R323). -/
def State.stoLogFull (s : State) : Bool := (stoFind (10 * s.sto.recs.length + 2) s s.sto.pos false).isNone

/-- The store cannot take a record: not ready, or full (R323). DESIGN CHOICE (unsafe, log entry 91): nor with all 4096 directory entries
in use (R319). -/
def State.stoOff (s : State) : Bool := !s.bit R.stoStat_ready || s.bit R.stoStat_full || decide (4096 ≤ s.sto.recs.length)

/-! ## Triggers (R316, R321) -/

/-- The header extent of a record (R320). Its scale table is that of the record's first row. -/
def State.jxrHeader (s : State) (id cause lines row t0 first : Nat) : JxrHeader :=
  { serialLo := s.reg R.galSerialLo, serialHi := s.reg R.galSerialHi, member := s.get R.galStat_id, id := id, row := row, ts := tstampOf t0,
    gridTime := t0, offset := (s.wallNs : Int) - (s.gridNs : Int), cause := cause, lines := lines, mode := s.get R.gridCfg_mode, n := s.gridN,
    dec := s.drcDec, nq := s.drcNq, rowSize := s.drcRowSize, pre := s.get R.drcCfg_pre, post := s.get R.drcCfg_post,
    scales := s.drcScaleOf first, pheCfg := (List.range 576).map (fun q => s.reg (R.pheQCfg q)),
    gridCfg := (List.range 576).map (fun q => s.reg (R.gridQCfg q)), esel := (List.range 32).map (fun i => s.reg (R.drcEsel i)) }

/-- A trigger with a cause (0xFFF for a command) and the lines that rose. -/
def drcTrigger (cause lines : Nat) (s : State) : State :=
  if !s.bit R.drcCtrl_en then s
  else
    let row := s.lastRow
    let t0 := s.nsOf (s.headWord row 1)
    let last := fun (s : State) (id ext : Nat) => s.complete R.drcLast [BitVec.ofNat 32 id, BitVec.ofNat 32 row, tstampOf t0,
      BitVec.ofNat 32 (cause + ((List.range 256).filter lines.testBit).length * 2 ^ 12), BitVec.ofNat 32 ext]
    let live := s.drc.recs.reverse.find? (fun r => r.last.isNone && decide (t0 < r.t0 + 60000000000))
    let s := (s.startFlush true).edge .drc 0
    match (if s.bit R.drcCtrl_retrig then live else none) with
    | some r =>
      let e := Nat.min (t0 + s.drcPost) (r.t0 + 60000000000)
      let s := { s with drc := { s.drc with recs := s.drc.recs.map (fun (x : DrcRec) => if x.id = r.id then { x with end_ := Nat.max x.end_ e } else x) } }
      last (s.event 0x30 0 cause (BitVec.ofNat 32 r.id) (BitVec.ofNat 32 (s.drc.written - r.first)) 0) r.id 1
    | none =>
      if 4 ≤ s.drc.recs.length ∨ s.stoOff then
        let s := { s with drc := { s.drc with lost := Nat.min 0xFFFF (s.drc.lost + 1) } }
        last ((s.event 0x30 3 cause 0 0 0).edge .drc 2) 0 0
      else
        let id := s.sto.newest + 1
        let first := s.drcFirst (t0 - s.drcPre)
        let op := s.jrnl.nextOp
        let s := s.jOpen 3 [BitVec.ofNat 32 id]
        let s := { s with
          sto := { s.sto with newest := id, recs := s.sto.recs ++ [({ id := id, extents := 0, t0 := t0, cause := cause,
                                                                       header := s.jxrHeader id cause lines row t0 first } : StoRec)] },
          drc := { s.drc with recs := s.drc.recs ++ [({ id := id, cause := cause, row := row, t0 := t0, end_ := t0 + s.drcPost,
                                                        first := first, copied := first, carried := first, opid := op } : DrcRec)] } }
        let s := s.event 0x30 0 cause (BitVec.ofNat 32 id) 0 0
        let s := match s.stoTake id with
          | some s => s
          | none => (if s.stoLogFull then s.putBit R.stoStat_full true else s).drcTrunc id
        last s.drcStat.stoDir id 0

/-- The effect of a write to DRC_CMD (R316). -/
def drcCmdEffect (v : Word) (s : State) : State := if R.drcCmd_trig.of v = 1 then drcTrigger 0xFFF 0 s else s

/-- DRC_CMD_TRIG. -/
def execDrcCmdTrig (m : Master) (v : Word) (s : State) := done (s.guarded m.val .drc (drcCmdEffect v))

/-- Records inside their post-fault time end at the last row written (R316: the grid stops; also where EN is cleared). -/
def State.drcStop (s : State) : State :=
  ({ s with drc := { s.drc with recs := s.drc.recs.map (fun (r : DrcRec) => if r.last.isNone then { r with last := some s.drc.written } else r) } }).drcStat

/-- The effect of a write to DRC CTRL (R315). -/
def drcCtrlEffect (m : Nat) (v : Word) (s : State) : State :=
  let rate := if s.tracked then s.gridN * 70 else s.presetRate
  let need := (s.drcPre + 2000000000) * rate
  if R.drcCtrl_en.of v = 1 ∧ !s.bit R.drcCtrl_en then
    if !s.bit R.stoStat_ready then s.raise .drc 0x0103 m
    else if s.drcCap * 1000000000 * s.drcDec < need then s.raise .drc 0x0102 m
    else
      let s := (s.storeReg R.drcCtrl v).putBit R.drcStat_run true
      { s with drc := { s.drc with written := 0, times := [], tlSeen := 0, stkSeen := 0, lagMax := 0,
                                   scales := [(0, rowBack (s.lastRow + 1) 0, s.scaleTable)] } }
  else
    let s := s.storeReg R.drcCtrl v
    if s.bit R.drcCtrl_en then s else (s.putBit R.drcStat_run false).drcStop

/-- DRC_CTRL_WRITE (R315). -/
def execDrcCtrlWrite (m : Master) (v : Word) (s : State) := done (s.guarded m.val .drc (drcCtrlEffect m.val v))

/-- The effect of a write to DRC_RING_LO, _HI, _LEN or DRC_CFG: dropped while EN = 1 (the DRC page). -/
def drcRingEffect (m a : Nat) (v : Word) (s : State) : State :=
  if s.bit R.drcCtrl_en then s.raise .drc 0x0101 m
  else s.storeReg a (if a = R.drcRingLo then v &&& 0xFFFFF000#32 else v)

/-- DRC_POST_END (R316): the oldest record still inside its post-fault time ends. -/
def execDrcPostEnd (s : State) :=
  match s.drc.recs.find? (fun r => r.last.isNone) with
  | none => done s
  | some r =>
    done ({ s with drc := { s.drc with recs := s.drc.recs.map (fun (x : DrcRec) => if x.id = r.id then { x with last := some (s.drcAfter x.end_) } else x) } }).drcStat

/-- Rows of one data extent (R319). -/
def State.extRows (s : State) : Nat := if s.drcNq = 288 then 584 else 324

/-- The first change of the scale table inside a record that none of its checkpoints carries (R320). -/
def State.drcChange (s : State) (r : DrcRec) : Option (Nat × Nat × List Word) :=
  s.drc.scales.reverse.find? (fun x => decide (r.carried < x.1) && r.last.all (fun l => decide (x.1 < l)))

/-- The row after the last that a record's next extent takes, once all its rows are in the ring: a whole extent, the last rows, or the rows
before a change of the scale table. -/
def State.drcExtEnd (s : State) (r : DrcRec) : Option Nat :=
  let c := Nat.min (Nat.min (r.copied + s.extRows) (r.last.getD (r.copied + s.extRows))) (((s.drcChange r).map (fun x => x.1)).getD (r.copied + s.extRows))
  if c ≤ s.drc.written ∧ (r.copied < c ∨ (s.drcChange r).any (fun x => decide (x.1 = c))) then some c else none

/-- The data extent of a record that ends before row `c` (R319, R320): every 16th, the last, and one that ends at a change of the scale
table are checkpoints. The CRC of a checkpoint runs over the trailers' CRCs. -/
def State.dataExtent (s : State) (r : DrcRec) (t : StoRec) (c : Nat) : DataExtent :=
  let rows := (List.range (c - r.copied)).flatMap (fun i => memBytes s.mem (s.drcSlot (r.copied + i)) s.drcRowSize)
  let crc := crc32 rows
  let change := (s.drcChange r).filter (fun x => decide (x.1 = c))
  let since := (t.data.reverse.takeWhile (fun x => x.check.isNone)).reverse
  { rows := rows, crc := crc,
    check := if r.last == some c || (r.extents + 1) % 16 == 0 || change.isSome then
        some { rows := c - r.first, crc := crc32 (bytesOf (since.map (fun x => x.crc) ++ [crc])), scales := change.map (fun x => (x.2.1, x.2.2)) }
      else none }

/-- RECORD_EXTENT_WRITTEN (R319 to R321, R323): the oldest record with an extent to write is copied on. -/
def execRecordExtentWritten (s : State) :=
  match s.drc.recs.find? (fun r => (s.drcExtEnd r).isSome) with
  | none => done s
  | some r =>
    match s.stoTake r.id with
    | none =>
      done ((if s.stoLogFull then s.putBit R.stoStat_full true else s).drcTrunc r.id)
    | some s' =>
      let c := (s.drcExtEnd r).getD r.copied
      let carried := match s.drcChange r with | some x => if x.1 = c then c else r.carried | none => r.carried
      let u := if s'.sto.recs.length < s.sto.recs.length then s'.stoDir else s'
      let u := u.stoCard r.id (fun x => { x with rows := c - r.first, data := x.data ++ [s.dataExtent r x c] })
      done { u with drc := { u.drc with recs := u.drc.recs.map (fun (x : DrcRec) =>
        if x.id = r.id then { x with copied := c, extents := x.extents + 1, carried := carried } else x) } }

/-- The final checkpoint (R321 step 4), where the last data extent has none yet: a record that ended at rows already copied. -/
def StoRec.finalCheck (r : StoRec) : List DataExtent :=
  match r.data.reverse with
  | [] => []
  | x :: t =>
    if x.check.isSome then r.data
    else
      let since := x :: t.takeWhile (fun y => y.check.isNone)
      t.reverse ++ [{ x with check := some { rows := r.rows, crc := crc32 (bytesOf (since.reverse.map (fun y => y.crc))) } }]

/-- RECORD_SEAL (R321 steps 4 and 5). -/
def execRecordSeal (s : State) :=
  match s.drc.recs.find? (fun r => r.last == some r.copied && (s.drcExtEnd r).isNone) with
  | none => done s
  | some r =>
    let s := s.stoUpd r.id (fun x => { x with st := .sealed_, trunc := r.trunc, data := x.finalCheck })
    let s := match s.jFind (fun o => o.opid == r.opid) with
      | some op => s.jDone op (b2n r.trunc) [BitVec.ofNat 32 r.id]
      | none => s
    let s := { s with drc := { s.drc with recs := s.drc.recs.filter (fun (x : DrcRec) => x.id != r.id) } }
    done (((s.event 0x30 1 r.cause (BitVec.ofNat 32 r.id) (BitVec.ofNat 32 (r.copied - r.first)) 0).edge .drc 1).drcStat.stoDir)

/-- DRC_STAT_INTERVAL (the DRC page). -/
def execDrcStatInterval (s : State) :=
  if !s.bit R.drcCtrl_en then done s
  else
    let span := match s.drc.times with | t :: ts => (t - ts.getLastD t) / 10000000 | [] => 0
    let lag := s.drc.recs.foldl (fun a x => Nat.max a ((x.last.getD s.drc.written) - x.copied)) s.drc.lagMax
    let s := s.complete R.drcSt [BitVec.ofNat 32 span, BitVec.ofNat 32 lag, BitVec.ofNat 32 (s.drc.lost + s.drc.trunc * 2 ^ 16)]
    done { s with drc := { s.drc with lagMax := 0 } }

/-! ## The record store (R318, R322 to R324) -/

/-- Every open record ends with TRUNC (R316, R323). -/
def State.drcTruncAll (s : State) : State := (s.drc.recs.filter (fun r => r.last.isNone || r.last != some r.copied)).foldl (fun s r => s.drcTrunc r.id) s

/-- The effect of a write to STO CTRL. -/
def stoCtrlEffect (v : Word) (s : State) : State :=
  let s := s.storeReg R.stoCtrl v
  if s.bit R.stoCtrl_en then s else (((s.putBit R.stoStat_ready false).put R.stoStat_mode 0)).drcTruncAll

/-- STO_INIT (R318, R322): the card's size in sectors, its health bytes, and the bus mode it runs at. -/
def execStoInit (sectors : Word) (eol lifeA lifeB : Byte) (mode : Fin 4) (s : State) :=
  if !s.bit R.stoCtrl_en then done s
  else
    let ext := Nat.min 65536 (sectors.toNat / 2048)
    let s := { s with sto := { s.sto with
      extents := ext, recs := s.sto.recs.map (fun (r : StoRec) => if r.st == RecordState.open_ && s.drc.recs.all (fun (x : DrcRec) => x.id != r.id) then { r with st := RecordState.unsealed } else r) } }
    let s := ((s.putBit R.stoStat_ready true).put R.stoStat_mode mode.val).complete R.stoCard
      [sectors, BitVec.ofNat 32 (eol.toNat + lifeA.toNat * 2 ^ 8 + lifeB.toNat * 2 ^ 16)]
    done s.stoDir

/-- A host store command is accepted: BUSY, VALID of STO_RES falls, the result waits for its end. -/
def State.stoBegin (s : State) (op status bytes : Nat) : State :=
  let s := (s.putBit R.stoStat_busy true).invalidate R.stoRes
  { s with sto := { s.sto with cmd := some (op, status, bytes, (s.reg R.stoRec).toNat) } }

/-- A write of an OP to STO_CMD (R324): dropped while a command runs; without the card its status is CARD. -/
def stoOp (m op : Nat) (eff : State → State) (s : State) : State :=
  if s.bit R.stoStat_busy then s.raise .sto 0x0101 m
  else if !s.bit R.stoStat_ready then s.stoBegin op 4 0
  else eff s

def State.stoDst (s : State) : Nat := (s.reg R.stoDstLo).toNat + s.get R.stoDstHi_dst * 2 ^ 32

/-- Bytes of a record that may be read: to its end, or an open record to its last checkpoint. -/
def StoRec.readable (r : StoRec) : Nat :=
  match r.st with
  | .sealed_ => r.extents * 2 ^ 20
  | .salvaged => r.extents * 2 ^ 20
  | .open_ => if r.checkExt = 0 then 0 else (1 + r.checkExt) * 2 ^ 20
  | .unsealed => 0

def State.stoFindRec (s : State) : Option StoRec := s.sto.recs.find? (fun r => r.id == (s.reg R.stoRec).toNat)

/-- Bytes of the card go to STO_DST as writes of master 7 (R40, R328). A copy whose access fails moves nothing and ends with a status
other than OK; which one, 1 to 4, the spec does not state: a free value (log entry 83). -/
def State.stoCopy (s : State) (op : Nat) (bs : List Byte) : State :=
  if bs.isEmpty then s.stoBegin op 0 0
  else
    let w := s.devWrite 7 s.stoDst bs
    if w.1.isNone then w.2.stoBegin op 0 bs.length
    else
      let f := w.2.fresh
      f.2.stoBegin op (1 + f.1.toNat % 4) 0

/-- A byte of a record on the card: a row's, where the offset lies in the rows of a data extent; the spec gives no layout of a header extent,
an extent header, a trailer or padding, and there it is `b`. -/
def StoRec.byteAt (r : StoRec) (o : Nat) (b : Byte) : Byte :=
  let e := o / 2 ^ 20
  let i := o % 2 ^ 20
  if e = 0 ∨ i < 512 then b else ((r.data.getD (e - 1) {}).rows[i - 512]?).getD b

/-- READ (R324): the record's bytes; `data` is what the card holds at its offset beside the rows. -/
def stoReadEff (data : List Byte) (s : State) : State :=
  match s.stoFindRec with
  | none => s.stoBegin 1 1 0
  | some r =>
    let len := s.get R.stoLen_len
    let ofs := (s.reg R.stoOfs).toNat * 512
    if r.st == .unsealed then s.stoBegin 1 3 0
    else if len % 512 ≠ 0 ∨ 2 ^ 24 < len ∨ r.readable < ofs + len then s.stoBegin 1 2 0
    else s.stoCopy 1 ((List.range len).map (fun i => r.byteAt (ofs + i) (data.getD i 0)))

/-- DELETE, KEEP, UNKEEP and SALVAGE (R322, R324). -/
def stoRecEff (op : Nat) (s : State) : State :=
  match s.stoFindRec with
  | none => s.stoBegin op 1 0
  | some r =>
    let ok := if op = 5 then r.st == .unsealed else r.st == .sealed_ || r.st == .salvaged || (op == 2 && r.st == .unsealed)
    if !ok then s.stoBegin op 3 0
    else
      let s := match op with
        | 2 => { s with sto := { s.sto with recs := s.sto.recs.filter (fun (x : StoRec) => x.id != r.id) } }
        | 3 => s.stoUpd r.id (fun x => { x with keep := true })
        | 4 => s.stoUpd r.id (fun x => { x with keep := false })
        | _ =>
          let n := 1 + r.checkExt
          let cut : List (Nat × Nat) × Nat := r.runs.foldl (fun (a : List (Nat × Nat) × Nat) (x : Nat × Nat) => if a.2 = 0 then a else (a.1 ++ [(x.1, Nat.min x.2 a.2)], a.2 - Nat.min x.2 a.2)) ([], n)
          s.stoUpd r.id (fun x => { x with st := .salvaged, rows := x.checkRows, data := x.data.take x.checkExt, runs := cut.1, extents := (cut.1.map (fun (x : Nat × Nat) => x.2)).sum })
      let s := if s.bit R.stoStat_full then s.putBit R.stoStat_full false else s
      (s.stoDir).stoBegin op 0 0

/-- FORMAT (R324). -/
def stoFormatEff (m : Nat) (v : Word) (s : State) : State :=
  if R.stoCmd_key.of v ≠ 0x4A33 ∨ s.bit R.drcCtrl_en then s.raise .sto 0x0103 m
  else (({ s with sto := { s.sto with recs := [], pos := 2 } }).putBit R.stoStat_full false).stoDir.stoBegin 6 0 0

/-- DIRENT (R324): `data` is the directory entry as the card holds it. -/
def stoDirentEff (data : List Byte) (s : State) : State :=
  match s.stoFindRec with
  | none => s.stoBegin 7 1 0
  | some _ => s.stoCopy 7 ((data ++ List.replicate 256 0).take 256)

/-- The effect of a write to STO_CMD, by its OP; values without an operation have no effect. -/
def stoCmdEffect (m : Nat) (v : Word) (data : List Byte) (s : State) : State :=
  match R.stoCmd_op.of v with
  | 1 => stoOp m 1 (stoReadEff data) s
  | 2 => stoOp m 2 (stoRecEff 2) s
  | 3 => stoOp m 3 (stoRecEff 3) s
  | 4 => stoOp m 4 (stoRecEff 4) s
  | 5 => stoOp m 5 (stoRecEff 5) s
  | 6 => if s.bit R.stoStat_busy then s.raise .sto 0x0101 m else if s.bit R.stoStat_ready then stoFormatEff m v s
         else if R.stoCmd_key.of v ≠ 0x4A33 ∨ s.bit R.drcCtrl_en then s.raise .sto 0x0103 m else s.stoBegin 6 4 0
  | 7 => stoOp m 7 (stoDirentEff data) s
  | _ => s

/-- The command word with its OP replaced. -/
def opWord (op : Nat) (v : Word) : Word := R.stoCmd_op.put v op

/-- STO_READ. -/
def execStoRead (m : Master) (v : Word) (data : List Byte) (s : State) := done (s.guarded m.val .sto (stoCmdEffect m.val (opWord 1 v) data))
/-- STO_DELETE. -/
def execStoDelete (m : Master) (v : Word) (s : State) := done (s.guarded m.val .sto (stoCmdEffect m.val (opWord 2 v) []))
/-- STO_KEEP. -/
def execStoKeep (m : Master) (v : Word) (s : State) := done (s.guarded m.val .sto (stoCmdEffect m.val (opWord 3 v) []))
/-- STO_UNKEEP. -/
def execStoUnkeep (m : Master) (v : Word) (s : State) := done (s.guarded m.val .sto (stoCmdEffect m.val (opWord 4 v) []))
/-- STO_SALVAGE. -/
def execStoSalvage (m : Master) (v : Word) (s : State) := done (s.guarded m.val .sto (stoCmdEffect m.val (opWord 5 v) []))
/-- STO_FORMAT. -/
def execStoFormat (m : Master) (v : Word) (s : State) := done (s.guarded m.val .sto (stoCmdEffect m.val (opWord 6 v) []))
/-- STO_DIRENT. -/
def execStoDirent (m : Master) (v : Word) (data : List Byte) (s : State) := done (s.guarded m.val .sto (stoCmdEffect m.val (opWord 7 v) data))

/-- STO_COMMAND_DONE (R324). -/
def execStoCommandDone (s : State) :=
  match s.sto.cmd with
  | none => done s
  | some (op, st, bytes, rec_) =>
    let s := ({ s with sto := { s.sto with cmd := none } }).putBit R.stoStat_busy false
    done ((s.complete R.stoRes [BitVec.ofNat 32 (op + st * 16), BitVec.ofNat 32 bytes, BitVec.ofNat 32 rec_]).edge .sto 1)

/-- CARD_TIMEOUT (R318, R323): open records end with TRUNC, READY falls, a running command ends with CARD. -/
def execCardTimeout (s : State) :=
  if !s.bit R.stoStat_ready then done s
  else
    let s := ((s.putBit R.stoStat_ready false).drcTruncAll).edge .sto 3
    done (match s.sto.cmd with
      | some (op, _, _, r) => { s with sto := { s.sto with cmd := some (op, 4, 0, r) } }
      | none => s)

end Sys2Proof.Machine
end

