-- ==== Sys2Proof/Machine/Trm.lean ====
section
/-! DEFINITION. The trip matrix and the strike comparators (R190 to R200, R385). -/

namespace Sys2Proof.Machine

/-! ## Literals (R191, R194, R198) -/

def litIndex (w : Nat) : Nat := w % 65536
def litKind (w : Nat) : Nat := w / 65536 % 16
def litInv (w : Nat) : Bool := w.testBit 20
def litFailv (w : Nat) : Bool := w.testBit 21

/-- Slots of the profile (R29). -/
def State.numSlots (s : State) : Nat := if s.get R.sysProfile_active = 0 then 4096 else 2048
/-- Quantity groups of the profile (R29). -/
def State.numGroups (s : State) : Nat := if s.get R.sysProfile_active = 2 then 96 else 192

/-- The rules of R192 on one literal: a KIND that is not reserved, an INDEX within its range. -/
def State.litLegal (s : State) (w : Nat) : Bool :=
  match litKind w with
  | 0 => true
  | 1 => decide (litIndex w < 4 * s.numSlots)
  | 2 => decide (litIndex w < 64)
  | 3 => decide (litIndex w < 1024)
  | 4 => decide (litIndex w < 256)
  | 5 => decide (litIndex w < 1024)
  | 6 => decide (litIndex w < 256)
  | 7 => true
  | _ => false

/-- A literal's source is an invalid FBI or GIN. -/
def State.litInvalid (s : State) (w : Nat) : Bool :=
  match litKind w with
  | 4 => !(s.fbi (litIndex w)).valid
  | 5 => !(s.gin (litIndex w)).valid
  | _ => false

def State.strikeLive (s : State) (n : Nat) : Bool := s.arrBit R.trmStkLiveLo n

/-- The value a literal gives, after INV. -/
def State.litVal (s : State) (lines w : Nat) : Bool :=
  let i := litIndex w
  let v := match litKind w with
    | 1 => (tget 0 s.pea.committed (i / 4)).testBit (i % 4)
    | 2 => s.strikeLive i
    | 3 => s.lgo i
    | 4 => if s.litInvalid w then litFailv w else (s.fbi i).val
    | 5 => if s.litInvalid w then litFailv w else (s.gin i).val
    | 6 => lines.testBit i
    | _ => true
  v != litInv w

/-- A literal without INV whose source is in test (R194). -/
def State.litTest (s : State) (w : Nat) : Bool :=
  !litInv w && (match litKind w with
    | 1 => (tget 0 s.pea.committed (litIndex w / 4)).testBit 4
    | 5 => (s.gin (litIndex w)).test
    | _ => false)

/-! ## Lines (R190 to R194) -/

def litAddr (l p w : Nat) : Nat := 0xD80000 + 0x80 * l + 16 * p + 4 * w

/-- The literals of a line, by product. -/
def State.lineLits (s : State) (l : Nat) : List (List Nat) :=
  (List.range 8).map (fun p => (List.range 4).map (fun w => (s.word (litAddr l p w)).toNat))

/-- The attribute bit EVT (R193). -/
def State.lineEvt (s : State) (l : Nat) : Bool := (s.word (0xD88000 + 4 * l)).getLsbD 0

/-- Lines that a line names, a plain name of itself apart. -/
def lineRefs (l : Nat) (ps : List (List Nat)) : List Nat :=
  (ps.flatten.filter (fun w => litKind w == 6 && !(litIndex w == l && !litInv w))).map litIndex

/-- A run of `n` links starts at a line. -/
def chainOf (refs : Nat → List Nat) : Nat → Nat → Bool
  | 0, _ => true
  | n + 1, l => (refs l).any (chainOf refs n)

/-- A line within the rules of R192. -/
def State.lineLegal (s : State) (l : Nat) : Bool :=
  (s.lineLits l).all (fun p => p.all s.litLegal) && !chainOf (fun i => lineRefs i (s.lineLits i)) 5 l

/-- The value of a line and whether it carries TEST. -/
def State.lineEval (s : State) (lines l : Nat) : Bool × Bool :=
  let ps := s.lineLits l
  let live := ps.filter (fun p => !p.all (fun w => litKind w == 0) && p.all (s.litVal lines))
  (!live.isEmpty, !live.isEmpty && live.all (fun p => p.any s.litTest))

/-- A literal in use reads FAILV (R200): of a line, or of the block of a comparator that is enabled (DESIGN CHOICE, unsafe,
log entry 91: which comparators count). -/
def State.anyFailv (s : State) : Bool :=
  (List.range 256).any (fun l => (s.lineLits l).any (fun p => p.any s.litInvalid))
    || (List.range 64).any (fun n => s.bit (R.trmStkCfg_en n) && s.litInvalid (s.reg (R.trmStkBlk n)).toNat)

/-- A line's value is undefined (R190): it lies outside R192, or it names a line whose value was undefined. -/
def State.lineUndef (s : State) (l : Nat) : Bool :=
  !s.lineLegal l || (s.lineLits l).any (fun p => p.any (fun w => litKind w == 6 && s.trm.undef.testBit (litIndex w)))

/-- What a pass makes of the lines: their values, TEST flags and the lines whose value is undefined. -/
structure LineVals where
  lines : Nat := 0
  test : Nat := 0
  undef : Nat := 0

/-- Every line evaluated. A line whose value is undefined takes a free value and a free TEST flag. -/
def evalLines (s : State) : LineVals × State :=
  (List.range 256).foldl (fun (a : LineVals × State) l =>
    if s.lineUndef l then
      let f := a.2.fresh
      (⟨a.1.lines + f.1.toNat % 2 * 2 ^ l, a.1.test + f.1.toNat / 2 % 2 * 2 ^ l, a.1.undef + 2 ^ l⟩, f.2)
    else
      let r := s.lineEval s.trm.lines l
      ({ a.1 with lines := a.1.lines + b2n r.1 * 2 ^ l, test := a.1.test + b2n r.2 * 2 ^ l }, a.2)) ({}, s)

/-! ## Destinations (R195) -/

/-- Lines selected for FOk. -/
def State.foSel (s : State) (k : Nat) : Nat := (List.range 8).foldl (fun a w => a + (s.reg (R.trmFoMap (8 * k + w))).toNat * 2 ^ (32 * w)) 0

/-- A selected line holds FOk, subject to R194. -/
def State.foLine (s : State) (k : Nat) : Bool :=
  let m := s.foSel k &&& s.trm.lines
  if s.bit (R.trmFoCfg_test_ok k) then m != 0 else (m - (m &&& s.trm.test)) != 0

/-- FOk at the end of a pass: the latch, MINON and the bit of FO_CMD. What a line of undefined value gives it is free (R190). -/
def foStep (k : Nat) (s : State) : State :=
  if !s.bit (R.trmFoCfg_en k) then
    { s with trm := { s.trm with latch := s.trm.latch - (s.trm.latch &&& 2 ^ k), minon := tset none s.trm.minon k none } }.setRegBit R.trmFoCmd k false
  else
    let f := if s.foSel k &&& s.trm.undef = 0 then (0, s) else s.fresh
    let sel := if s.foSel k &&& s.trm.undef = 0 then s.foLine k else f.1.getLsbD 0
    let s := f.2
    let latch := s.bit (R.trmFoCfg_latch k) && (sel || (s.trm.latch.testBit k && !s.trm.latchRst.testBit k))
    let on := sel || latch || (tget none s.trm.minon k).isSome || s.trm.shadowOr.testBit k
    let was := s.regBit R.trmFoCmd k
    let m := s.get (R.trmFoCfg_minon k)
    let minon := if on && !was && decide (0 < m) then some (s.time.ticks + 250000 * m) else tget none s.trm.minon k
    { s with trm := { s.trm with latch := (s.trm.latch - (s.trm.latch &&& 2 ^ k)) + b2n latch * 2 ^ k,
                                 minon := tset none s.trm.minon k minon } }.setRegBit R.trmFoCmd k on

/-- Fabric output bits (R194, R195). -/
def State.fbBits (s : State) : Nat :=
  (List.range 64).foldl (fun a k =>
    let l := ((s.reg (R.trmFbSel (k / 4))).toNat / 2 ^ (8 * (k % 4))) % 256
    let on := s.arrBit R.trmFbEnLo k && s.trm.lines.testBit l && (s.bit R.trmCtrl_test_fab || !s.trm.test.testBit l)
    a + b2n on * 2 ^ k) 0

/-- Lowest line of a set. -/
def lowestLine (m : Nat) : Nat := ((List.range 256).find? (fun l => m.testBit l)).getD 0

/-- FO_DRV follows FO_CMD through the gate at a pass end; raised bits open TRIP_ISSUE (R359). -/
def drvAtPass (s : State) : State :=
  let old := s.get R.trmFoDrv_drv
  let v := if s.bit R.trmStat_fo_gate then s.get R.trmFoCmd_cmd else 0
  let raised := v - (v &&& old)
  let low := lowestLine ((List.range 16).foldl (fun a k => if raised.testBit k then a ||| (s.foSel k &&& s.trm.lines) else a) 0)
  let s := s.setDrv v
  if raised = 0 then s
  else s.jOpen 1 [BitVec.ofNat 32 raised, BitVec.ofNat 32 s.lastRow, BitVec.ofNat 32 low]

/-! ## Events, snapshot, triggers -/

/-- R193: an event for each changed line with EVT, stamped at the pass end. -/
def lineEvents (old : Nat) (s : State) : State :=
  iterUp 256 (fun l (s : State) =>
    if s.trm.lines.testBit l != old.testBit l && s.lineEvt l then
      (s.addEv { (s.mkEvent 0x10 0 l 0 0 (b2n (s.trm.lines.testBit l))) with test := s.trm.test.testBit l }).edge .trm 0
    else s) s

/-- TRM_TL_SNAP. -/
def tlSnap (s : State) : State :=
  s.complete R.trmTlSnap ((List.range 8).map (fun i => BitVec.ofNat 32 (s.trm.lines / 2 ^ (32 * i))) ++ [s.tstamp])

/-- R316: selected lines that rose in the pass make one trigger. -/
def passTrigger (old : Nat) (s : State) : State :=
  let sel := (List.range 8).foldl (fun a w => a + (s.reg (R.drcTrig w)).toNat * 2 ^ (32 * w)) 0
  let rose := (s.trm.lines - (s.trm.lines &&& old)) &&& sel
  if rose = 0 then s
  else drcTrigger (lowestLine rose) rose s

/-- The trip-vector hash of R288 for a row, under the mask that its commit took. -/
def State.tripHash (s : State) (row : Nat) : Word :=
  crc32 (bytesOf ((List.range 8).map (fun w => BitVec.ofNat 32 (s.trm.lines / 2 ^ (32 * w)) &&& s.trm.hashMask.getD w 0) ++ [BitVec.ofNat 32 row]))

/-- R288: the first pass after a commit forms and sends the hash. -/
def passHash (s : State) : State :=
  match s.trm.hashRow with
  | none => s
  | some row =>
    let s := { s with trm := { s.trm with hashRow := none } }
    if s.bit R.dupStat_formed then
      let h := s.tripHash row
      hashOwn row h (s.emit (.tripHash row h))
    else s

/-- A line that some literal names has changed, so a further pass follows (R193). -/
def State.namedChange (s : State) (old : Nat) : Bool :=
  (List.range 256).any (fun l => (s.lineLits l).any (fun p =>
    p.any (fun w => litKind w == 6 && decide (litIndex w < 256) && s.trm.lines.testBit (litIndex w) != old.testBit (litIndex w))))

/-- A pass (R190 to R196, R385). -/
def trmPass (s : State) : State :=
  if !s.bit R.trmCtrl_en || !s.trm.request then s
  else
    let old := s.trm.lines
    let latch := s.trm.latch
    let r := evalLines s
    let s := r.2
    let s := { s with trm := { s.trm with lines := r.1.lines, test := r.1.test, undef := r.1.undef, request := false, failsrc := s.anyFailv } }
    let s := iterUp 16 foStep s
    let s := { s with trm := { s.trm with latchRst := 0, fb := s.fbBits } }
    let s := lineEvents old (latchSend latch (drvAtPass s))
    let s := fabricSend (gosPass (tlSnap s))
    let s := passTrigger old (passHash s.drcSee)
    if s.namedChange old then s.requestPass else s

/-- TRIP_MATRIX_PASS (R385). -/
def execTripMatrixPass (s : State) := done (trmPass s)

/-! ## Registers (R195, R198, R200) -/

/-- The effect of a write to TRM_LATCH_RST (R195). -/
def latchRstEffect (v : Word) (s : State) : State :=
  { s with trm := { s.trm with latchRst := s.trm.latchRst ||| R.trmLatchRst_rst.of v, request := true } }

/-- TRM_LATCH_RST. -/
def execTrmLatchRst (m : Master) (v : Word) (s : State) := done (s.guarded m.val .trm (latchRstEffect v))

/-- Latches and MINON are cleared (R190, R200). -/
def latchClear (s : State) : State := latchSend s.trm.latch { s with trm := { s.trm with latch := 0, latchRst := 0, minon := [] } }

/-- Lines, outputs, latches and MINON are cleared (R200); a line that falls gives its event (R193). -/
def trmClear (s : State) : State :=
  let old := s.trm.lines
  let s := latchClear s
  let s := { s with trm := { s.trm with lines := 0, test := 0, undef := 0, fb := 0, request := false, failsrc := false,
                                        hashRow := none, shadowOr := 0 } }
  let s := lineEvents old s
  let s := (s.put R.trmFoCmd_cmd 0).setDrv 0
  fabricSend (gosPass s)

/-- The fabric output bits follow the lines, their enables and their selections (R194, R195, R268). -/
def fbRefresh (s : State) : State := fabricSend { s with trm := { s.trm with fb := s.fbBits } }

/-- The effect of a write to TRM_FB_EN_LO, TRM_FB_EN_HI or TRM_FB_SELm. -/
def fbCfgEffect (a : Nat) (v : Word) (s : State) : State := fbRefresh (s.storeReg a v)

/-- The effect of a write to TRM CTRL (R190, R194, R200). -/
def trmCtrlEffect (v : Word) (s : State) : State :=
  let was := s.bit R.trmCtrl_en
  let s := s.storeReg R.trmCtrl v
  let on := s.bit R.trmCtrl_en
  let s := s.putBit R.trmStat_run on
  if was && !on then (trmClear s).invalidate R.trmTlSnap
  else if on && !was then (latchClear s).requestPass
  else fbRefresh s

/-- The effect of a write to TRM_FOk_CFG (R195): clearing EN clears the latch and ends MINON. -/
def foCfgEffect (k : Nat) (v : Word) (s : State) : State :=
  let s := s.storeReg (R.trmFoCfg k) v
  if s.bit (R.trmFoCfg_en k) then s
  else
    let old := s.trm.latch
    let s := latchSend old (foStep k s)
    s.setDrv (if s.bit R.trmStat_fo_gate then s.get R.trmFoCmd_cmd else 0)

/-- The effect of a write to TRM_STKn_BLK (R198). -/
def stkBlkEffect (m n : Nat) (v : Word) (s : State) : State :=
  if litKind v.toNat = 2 ∨ 8 ≤ litKind v.toNat then s.raise .trm 0x0101 m else s.storeReg (R.trmStkBlk n) v

/-- TRM_STK_BLK_WRITE. -/
def execTrmStkBlkWrite (m : Master) (n : Fin 64) (v : Word) (s : State) := done (s.guarded m.val .trm (stkBlkEffect m.val n.val v))

/-! ## Strike comparators (R197 to R199) -/

def State.strike (s : State) (n : Nat) : StrikeState := tget {} s.trm.strike n
def State.setStrike (s : State) (n : Nat) (x : StrikeState) : State := { s with trm := { s.trm with strike := tset {} s.trm.strike n x } }

/-- The value of a comparator's block literal; NONE blocks nothing. -/
def State.stkBlock (s : State) (n : Nat) : Bool :=
  let w := (s.reg (R.trmStkBlk n)).toNat
  litKind w != 0 && s.litVal s.trm.lines w

/-- The output of comparator n takes a value: LIVE, STICKY, event, a pass. -/
def strikeOut (n : Nat) (on : Bool) (s : State) : State :=
  if s.strikeLive n = on then s
  else
    let s := (s.setStrike n { s.strike n with on := on, cnt := 0, dcnt := 0 }).setArrBit R.trmStkLiveLo n on
    let s := if on then (if s.arrBit R.trmStkStickyLo n then s else (s.setArrBit R.trmStkStickyLo n true).edge .trm 1) else s
    let s := if s.bit (R.trmStkCfg_evt n) then s.event 0x11 (if on then 0 else 1) n 0 0 0 else s
    (s.drcSee).requestPass

/-- A sample lies at or beyond a level, in 1/16 counts, in the polarity tested (R197). -/
def strikeBeyond (pol : Nat) (x lvl : Int) : Bool :=
  match pol with
  | 1 => decide (lvl ≤ 16 * x)
  | 2 => decide (16 * x ≤ -lvl)
  | _ => decide (lvl ≤ 16 * x) || decide (16 * x ≤ -lvl)

/-- Comparator n judges one sinc sample (R197, R199). -/
def strikeSample (n : Nat) (x : Tagged) (s : State) : State :=
  let c := s.strike n
  if !s.bit (R.trmStkCfg_en n) || c.blk then strikeOut n false (s.setStrike n { c with cnt := 0, dcnt := 0 })
  else
    let thr : Nat := Nat.max 1 (s.get (R.trmStkThr_thr n))
    let pol := s.get (R.trmStkCfg_pol n)
    let byOvr := x.ovr && s.bit (R.trmStkCfg_ovr_exc n)
    if !s.strikeLive n then
      let exc := !x.invalid && (byOvr || strikeBeyond pol x.val (16 * thr : Nat))
      let k := if exc then c.cnt + 1 else 0
      if Nat.max 1 (s.get (R.trmStkCfg_cnt n)) ≤ k then strikeOut n true s else s.setStrike n { c with cnt := k }
    else
      let high := !x.invalid && (byOvr || strikeBeyond pol x.val (thr * Nat.max 8 (s.get (R.trmStkCfg_dr n)) : Nat))
      let k := if high then 0 else c.dcnt + 1
      if Nat.max 1 (s.get (R.trmStkCfg_dcnt n)) ≤ k then strikeOut n false s else s.setStrike n { c with dcnt := k }

/-- The SINC outputs of LCn that its comparator has not judged yet, newest first (R74). -/
def State.sincOf (s : State) (n : Nat) : List Tagged := (tget {} s.dfc.chan n).sinc

/-- Every comparator judges the SINC outputs of its channel, oldest first (R74, R197). -/
def strikeAll (s : State) : State :=
  let n := (List.range 64).foldl (fun a c => Nat.max a (s.sincOf c).length) 0
  let judged := iterUp n (fun j => iterUp 64 (fun c t =>
    match (s.sincOf c).reverse[j]? with
    | some x => strikeSample c x t
    | none => t)) s
  { judged with dfc := { judged.dfc with chan := (List.range 64).foldl (fun t c => tupd {} t c (fun ch => { ch with sinc := [] })) judged.dfc.chan } }

/-- Modulator clocks pass with what the balls carry; the chain runs and the comparators judge its SINC outputs (R16, R25, R74). -/
def chainStep (clocks : Nat) (ain : List (Nat × List ModBit)) (lines : List (Nat × List Bool)) (s : State) : State :=
  strikeAll (runChain clocks ain lines s)

/-- STRIKE_ASSERT (R25, R197): the modulator clocks up to the sample with which LCn's comparator asserts. -/
def execStrikeAssert (_n : Fin 64) (clocks : Nat) (ain : List (Nat × List ModBit)) (lines : List (Nat × List Bool)) (s : State) :=
  done (chainStep clocks ain lines s)

/-- STRIKE_CLEAR (R197): the modulator clocks up to the sample with which LCn's comparator clears. -/
def execStrikeClear (_n : Fin 64) (clocks : Nat) (ain : List (Nat × List ModBit)) (lines : List (Nat × List Bool)) (s : State) :=
  done (chainStep clocks ain lines s)

/-- STRIKE_BLOCK_CHANGE (R198): the comparator takes up its block bit. -/
def execStrikeBlockChange (n : Fin 64) (s : State) :=
  let b := s.stkBlock n.val
  let c := s.strike n.val
  let s := s.setStrike n.val (if b || c.blk then { c with blk := b, cnt := 0, dcnt := 0 } else c)
  done (if b then strikeOut n.val false s else s)

/-- The effect of a write to TRM_STKn_CFG (R199): clearing EN clears the output at once. -/
def stkCfgEffect (n : Nat) (v : Word) (s : State) : State :=
  let s := s.storeReg (R.trmStkCfg n) v
  if s.bit (R.trmStkCfg_en n) then s else strikeOut n false s

/-! ## Timers -/

/-- MINON_EXPIRY (R195): the running time of FOk ends and a pass starts. -/
def execMinonExpiry (k : Fin 16) (s : State) :=
  if (tget none s.trm.minon k.val).isNone then done s
  else done ({ s with trm := { s.trm with minon := tset none s.trm.minon k.val none, request := true } })

/-- TRIP_ISSUE_TIMEOUT (R359): 1 ms after the OPEN, of the oldest TRIP_ISSUE of this boot without every MARK. -/
def execTripIssueTimeout (s : State) :=
  match s.jOwn.find? (fun o => o.cls == 1) with
  | none => done s
  | some op => done (s.jDone op (if op.marks = 0 then 2 else 1) op.data)

end Sys2Proof.Machine
end

