-- ==== Sys2Proof/Machine/Fio.lean ====
section
/-! DEFINITION. Field inputs and outputs (R201 to R214). -/

namespace Sys2Proof.Machine

/-! ## Channel state -/

def foOFF : Nat := 0
def foON : Nat := 1
def foDEMAG : Nat := 2
def foLIMIT : Nat := 3
def foOVL : Nat := 4
def foUVLO : Nat := 5
def foLINKLOSS : Nat := 6

/-- The group and die of FOk. -/
def foGroup (k : Nat) : Nat := k / 8
def linkFld (d : Nat) : Fld := if d = 0 then R.fioStat_link_a else R.fioStat_link_b
def vfLowFld (g : Nat) : Fld := if g = 0 then R.fioStat_vf_low_a else R.fioStat_vf_low_b
def uvloFld (g : Nat) : Fld := if g = 0 then R.fioStat_uvlo_a else R.fioStat_uvlo_b
def rearmAuto (s : State) (g : Nat) : Bool := if g = 0 then s.bit R.fioCtrl_rearm_a else s.bit R.fioCtrl_rearm_b

def State.foState (s : State) (k : Nat) : Nat := s.get (R.fioFoStat_state k)
def State.setFo (s : State) (k st : Nat) : State := s.put (R.fioFoStat_state k) st
def State.foChan (s : State) (k : Nat) : FoChan := tget {} s.fio.fo k
def State.updFo (s : State) (k : Nat) (f : FoChan → FoChan) : State := { s with fio := { s.fio with fo := tupd {} s.fio.fo k f } }
def State.drvBit (s : State) (k : Nat) : Bool := s.regBit R.trmFoDrv k

/-- The channel is on: ON or LIMIT. -/
def isOn (st : Nat) : Bool := st == foON || st == foLIMIT

/-- An OUTPUT_CHANGE operation opens (R359); the energisation counts (R363). -/
def outputOpen (k : Nat) (s : State) : State := (s.jOpen 2 [BitVec.ofNat 32 k, 0, 0]).addLife (32 + k) 1

/-- The channel enters OFF after FO_DRV fell: OUTPUT_CHANGE ends OK (R359). -/
def foToOff (k : Nat) (s : State) : State := outputDone k 0 (s.foChan k).energy 0 (s.setFo k foOFF)

/-- The channel turns off because FO_DRV fell: DEMAG while load current flows, else OFF (R206). -/
def foTurnOff (k : Nat) (s : State) : State :=
  let s := s.updFo k (fun c => { c with energy := 0 })
  if (s.foChan k).load then s.setFo k foDEMAG else foToOff k s

/-- The channel enters OVL (R207, R359). -/
def ovlEnter (k : Nat) (s : State) : State :=
  let s := (((s.setFo k foOVL).setRegBit R.fioOvlSticky k true).edge .fio 4).event 0x13 0 k 0 0 0
  outputDone k 3 0 3 s

/-- The channel turns on, or where its junction is still hot enters OVL (R207). -/
def foTurnOn (k : Nat) (s : State) : State := if (s.foChan k).hot then ovlEnter k s else s.setFo k foON

/-- A channel without an output operation leaves LINKLOSS or UVLO with FO_DRV 0: OFF once demagnetisation is complete (R206). -/
def foRest (k : Nat) (s : State) : State := s.setFo k (if (s.foChan k).load then foDEMAG else foOFF)

/-- The channel follows its FO_DRV bit of a valid frame (R202, R206, R207, R213). -/
def foFollow (k : Nat) (s : State) : State :=
  let cmd := s.drvBit k
  let st := s.foState k
  if s.bit (uvloFld (foGroup k)) then s.setFo k foUVLO
  else if cmd then
    if st = foOFF ∨ st = foDEMAG ∨ st = foLINKLOSS ∨ st = foUVLO then foTurnOn k s else s
  else if st = foON ∨ st = foLIMIT ∨ st = foOVL then foTurnOff k s
  else if st = foLINKLOSS ∨ st = foUVLO then foRest k s
  else s

/-! ## The link (R202, R214) -/

/-- FOH may be energised: a keep-alive is sent (R214). -/
def State.keepAlive (s : State) : Bool :=
  s.bit R.fioCtrl_foh_en && s.bit R.sysStat_booted && !s.bit R.peaStat_fault && s.bit R.sysStat_supply_ok

/-- A die enters LINKLOSS: channels that are on turn off, FOH turns off (R202, R359). -/
def dieLost (d : Nat) (s : State) : State :=
  let s := s.putBit (linkFld d) false
  let s := iterUp 8 (fun i (s : State) =>
    let k := 8 * d + i
    let s := if s.foState k == foOFF || s.foState k == foLINKLOSS then s else outputDone k 3 0 2 s
    (s.setFo k foLINKLOSS).updFo k (fun c => { c with sent := false })) s
  healthLoss (if d = 0 then s.putBit R.fioStat_foh false else s)

/-- A frame to die `d`: rising bits open OUTPUT_CHANGE; a valid frame takes effect (R202). -/
def outputFrame (d : Nat) (ok : Bool) (s : State) : State :=
  if !s.bit R.fioCtrl_en then s
  else
    let s := iterUp 8 (fun i (s : State) =>
      let k := 8 * d + i
      let rise := s.drvBit k && !(s.foChan k).sent
      (if rise then outputOpen k s else s).updFo k (fun c => { c with sent := s.drvBit k })) s
    if !ok then s
    else
      let s := s.putBit (linkFld d) true
      let s := iterUp 8 (fun i (s : State) => foFollow (8 * d + i) s) s
      if d = 0 && s.keepAlive && !s.fio.fohLow then s.putBit R.fioStat_foh true else s

/-- OUTPUT_FRAME (R202): a frame to a die, and whether it passes its check. -/
def execOutputFrame (die : Fin 2) (ok : Bool) (s : State) := done (outputFrame die.val ok s)

/-- A channel's pin reads high: its OUTPUT_CHANGE takes a MARK, and so does the TRIP_ISSUE that raised it; TRIP_ISSUE ends OK
when every raised channel has one (R359). -/
def pinMark (k : Nat) (s : State) : State :=
  match s.jFind (fun o => isOutput k o && o.marks == 0) with
  | none => s
  | some op =>
    let s := s.jMark op [BitVec.ofNat 32 k]
    let s := { s with jrnl := { s.jrnl with ops := s.jrnl.ops.map (fun (o : OpenOp) =>
      if o.opid = op.opid then { o with marks := 1 }
      else if o.cls = 1 ∧ (o.data.getD 0 0).getLsbD k then { o with marks := o.marks ||| 2 ^ k } else o) } }
    match s.jFind (fun o => o.cls == 1 && o.marks == (o.data.getD 0 0).toNat) with
    | some t => s.jDone t 0 t.data
    | none => s

/-- STATUS_FRAME (R202, R203): raw inputs, pin readback, FOH's pin, and which channels carry 10 mA or more. -/
def execStatusFrame (die : Fin 2) (raw : BitVec 16) (pins : BitVec 8) (foh : Bool) (load : BitVec 8) (s : State) :=
  let d := die.val
  if !s.bit R.fioCtrl_en || !s.bit (linkFld d) then done s
  else
    let s := s.put ⟨R.fioFiRaw, 16 * d + 15, 16 * d⟩ raw.toNat
    let s := if d = 0 then s.putBit R.fioFoPin_foh foh else s
    done (iterUp 8 (fun i (s : State) =>
      let k := 8 * d + i
      let p := pins.getLsbD i
      let s := ((s.setRegBit R.fioFoPin k p).putBit (R.fioFoStat_pin k) p).updFo k (fun c => { c with load := load.getLsbD i })
      if p then pinMark k s else s) s)

/-- LINKLOSS_TIMEOUT (R202): no valid frame for 10 µs; a die that never had one enters LINKLOSS too. -/
def execLinklossTimeout (die : Fin 2) (s : State) :=
  let d := die.val
  done (if s.bit (linkFld d) || (List.range 8).any (fun i => s.foState (8 * d + i) != foLINKLOSS) then dieLost d s else s)

/-! ## Inputs (R203, R204) -/

def State.fiFilter (s : State) (n : Nat) : FiFilter := tget {} s.fio.fi n
def State.fltOn (s : State) (n : Nat) : Nat := Nat.max 1 (s.get (R.fioFiFlt_on n))

/-- A filtered state takes a value: CHG, event. -/
def fiState (n : Nat) (v : Bool) (s : State) : State :=
  if s.regBit R.fioFiState n = v then s
  else
    let s := s.setRegBit R.fioFiState n v
    let s := if s.regBit R.fioFiChg n then s else (s.setRegBit R.fioFiChg n true).edge .fio 0
    if s.bit (R.fioFiFlt_evt n) then s.event 0x12 0 n 0 0 (b2n v) else s

/-- INPUT_FILTER_STEP (R203, R204): a step boundary; boundaries are counted from the instant EN is set, and go on in LINKLOSS. -/
def execInputFilterStep (n : Fin 32) (s : State) :=
  if !s.fio.stepping then done s
  else
    let on := s.fltOn n
    let c := Nat.min (s.fiFilter n).c on
    let x := s.regBit R.fioFiRaw n != s.bit (R.fioFiFlt_inv n)
    let c := if x then Nat.min (c + 1) on else c - 1
    let s := { s with fio := { s.fio with fi := tset {} s.fio.fi n.val ⟨c, on⟩ } }
    done (if c = on then fiState n true s else if c ≤ s.get (R.fioFiFlt_off n) then fiState n false s else s)

/-- The effect of a write to FIO_FIn_FLT (R204). -/
def fiFltEffect (m n : Nat) (v : Word) (s : State) : State :=
  if Nat.max 1 ((R.fioFiFlt_on n).of v) ≤ (R.fioFiFlt_off n).of v then s.raise .fio 0x0101 m
  else
    let inv := (R.fioFiFlt_inv n).of v == 1
    let flip := inv != s.bit (R.fioFiFlt_inv n)
    let f := s.fiFilter n
    let s := s.storeReg (R.fioFiFlt n) v
    if flip && s.fio.stepping then
      fiState n (!s.regBit R.fioFiState n) { s with fio := { s.fio with fi := tset {} s.fio.fi n { f with c := f.on - f.c } } }
    else s

/-- FI_FLT_WRITE (R204). -/
def execFiFltWrite (m : Master) (n : Fin 32) (v : Word) (s : State) := done (s.guarded m.val .fio (fiFltEffect m.val n.val v))

/-! ## Overload (R206, R207) -/

/-- FO_CURRENT_LIMIT. -/
def execFoCurrentLimit (k : Fin 16) (s : State) := done (if s.foState k = foON then s.setFo k foLIMIT else s)

/-- CURRENT_LIMIT_END. -/
def execCurrentLimitEnd (k : Fin 16) (s : State) := done (if s.foState k = foLIMIT then s.setFo k foON else s)

/-- OVL_ENTRY. -/
def execOvlEntry (k : Fin 16) (s : State) := done (if s.foState k = foLIMIT then ovlEnter k s else s)

/-- OVL_RETRY (R207). -/
def execOvlRetry (k : Fin 16) (s : State) :=
  if s.foState k = foOVL ∧ s.get (R.fioFoCfg_retry k) ≠ 0 ∧ s.drvBit k ∧ !(s.foChan k).hot then done (s.setFo k foON) else done s

/-- THERMAL_SHUTDOWN (R207). -/
def execThermalShutdown (k : Fin 16) (s : State) :=
  let s := s.updFo k (fun c => { c with hot := true })
  done (if isOn (s.foState k) then ovlEnter k s else s)

/-- THERMAL_COOLED (R207). -/
def execThermalCooled (k : Fin 16) (s : State) := done (s.updFo k (fun c => { c with hot := false }))

/-- DEMAG_END (R206): the current is below 10 mA. -/
def execDemagEnd (k : Fin 16) (s : State) :=
  let s := s.updFo k (fun c => { c with load := false })
  done (if s.foState k = foDEMAG then foToOff k s else s)

/-- FO_MISMATCH_TIMER (R208): the condition, or its absence, has lasted 100 µs. -/
def execFoMismatchTimer (k : Fin 16) (s : State) :=
  let pin := s.regBit R.fioFoPin k
  let st := s.foState k
  let bad := if s.drvBit k then !pin && st != foLIMIT && st != foOVL && st != foUVLO else pin && !s.bit (R.fioFoCfg_par k)
  done (s.setRegBit R.fioFoMismatch k bad)

/-- Energy bin of the lifetime histogram, from 10 µJ (R363). -/
def energyBin (e : Nat) : Nat :=
  if e < 100 then 0 else if e < 400 then 1 else if e < 1600 then 2 else if e < 6400 then 3 else if e < 12800 then 4
  else if e < 25000 then 5 else if e < 50000 then 6 else 7

/-- CLAMP_EVENT_END (R209): the energy the die measured, in 10 µJ. -/
def execClampEventEnd (k : Fin 16) (energy : BitVec 24) (s : State) :=
  let e := energy.toNat
  let g := foGroup k
  let s := s.updFo k (fun c => { c with energy := e, events := c.events + 1 })
  let s := { s with fio := { s.fio with clamps := tupd [] s.fio.clamps g (fun l => (s.time.ticks, e) :: l) } }
  let s := (s.complete (R.fioFoDemag k) [BitVec.ofNat 32 e, s.tstamp, BitVec.ofNat 32 (s.foChan k).events]).addLife (48 + 8 * k + energyBin e) 1
  if 25000 < e then
    let s := if s.regBit R.fioClampSticky k then s else (s.setRegBit R.fioClampSticky k true).edge .fio 5
    done (s.event 0x13 1 k (BitVec.ofNat 32 e) 0 0)
  else done s

/-- The clamp sum of one group over the last 10 s (R209). -/
def clampAvg (g : Nat) (s : State) : State :=
  let l := (tget [] s.fio.clamps g).filter (fun x => decide (s.time.ticks ≤ x.1 + 2500000000))
  let sum : Nat := (l.map (fun (x : Nat × Nat) => x.2)).sum
  let s := { s with fio := { s.fio with clamps := tset [] s.fio.clamps g l } }
  let s := s.complete (R.fioGrpClampavg g) [BitVec.ofNat 32 (Nat.min 0xFFFF (sum / 1000))]
  if 1000000 < sum then
    let s := if s.regBit R.fioClampSticky (16 + g) then s else (s.setRegBit R.fioClampSticky (16 + g) true).edge .fio 5
    s.event 0x13 5 (16 + g) 0 0 0
  else s

/-- CLAMP_AVERAGE. -/
def execClampAverage (s : State) := done (if s.bit R.fioCtrl_en then clampAvg 1 (clampAvg 0 s) else s)

/-! ## Trip-circuit supervision (R210) -/

/-- FIO_TCS_FAIL bit k and its copy. -/
def tcsSet (k : Nat) (v : Bool) (s : State) : State := (s.setRegBit R.fioTcsFail k v).putBit (R.fioFoStat_tcs_fail k) v

/-- TCS_TIMER (R210): the current has stayed low, or high, for the supervision time. -/
def execTcsTimer (k : Fin 16) (low : Bool) (s : State) :=
  let g := foGroup k
  let runs := s.bit (R.fioFoCfg_tcs_en k) && s.foState k == foOFF && !s.bit (vfLowFld g) && !s.bit (uvloFld g)
  let masked := s.bit (R.fioFoCfg_par k) && s.regBit R.fioFoPin k
  if !runs || s.regBit R.fioTcsFail k == low || (low && masked) then done s
  else done ((tcsSet k low s).event 0x13 (if low then 2 else 3) k 0 0 0)

/-- The effect of a write to FIO_FOk_CFG: clearing TCS_EN clears the failure at once (R210). -/
def foCfgWriteEffect (k : Nat) (v : Word) (s : State) : State :=
  let s := s.storeReg (R.fioFoCfg k) v
  if s.bit (R.fioFoCfg_tcs_en k) then s else tcsSet k false s

/-! ## Supply sag (R211 to R213) -/

/-- VF_LOW (R211). -/
def execVfLow (g : Fin 2) (s : State) :=
  if s.bit (vfLowFld g) then done s
  else done ((({ s with fio := { s.fio with timing := tset false s.fio.timing g false, recovered := tset false s.fio.recovered g false } }).putBit (vfLowFld g) true).addLife (11 + g.val) 1)

/-- UVLO (R211, R212): the group turns off; every OUTPUT_CHANGE operation of the group still open ends INTERRUPTED, that of a channel in
DEMAG too (DEDUCED, log entry 101). -/
def execUvlo (g : Fin 2) (s : State) :=
  let s := { s with fio := { s.fio with recovered := tset false s.fio.recovered g false, timing := tset false s.fio.timing g false,
                                        fohLow := s.fio.fohLow || g.val == 0 } }
  let s := if g.val = 0 then s.putBit R.fioStat_foh false else s
  if s.bit (uvloFld g) then done s
  else
    let s := ((s.putBit (uvloFld g) true).putBit (vfLowFld g) true).addLife (13 + g.val) 1
    done (iterUp 8 (fun i (s : State) =>
      let k := 8 * g.val + i
      let s := if isOn (s.foState k) then s.event 0x13 4 k 0 0 0 else s
      if s.foState k = foLINKLOSS then s else (outputDone k 3 0 1 s).setFo k foUVLO) s)

/-- UVLO clears; channels with FO_DRV = 1 turn on again and their operations open again (R211, R212). -/
def uvloClear (g : Nat) (s : State) : State :=
  let s := s.putBit (uvloFld g) false
  let s := { s with fio := { s.fio with recovered := tset false s.fio.recovered g false, timing := tset false s.fio.timing g false } }
  iterUp 8 (fun i (s : State) =>
    let k := 8 * g + i
    if s.foState k = foUVLO then
      if s.drvBit k then (if (s.foChan k).hot then ovlEnter k s else outputOpen k (s.setFo k foON)) else foRest k s
    else s) s

/-- VF_RECOVER (R211, R212): VF is at 19.0 V or more. -/
def execVfRecover (g : Fin 2) (s : State) :=
  let s := s.putBit (vfLowFld g) false
  let s := if g.val = 0 then { s with fio := { s.fio with fohLow := false } } else s
  done (if s.bit (uvloFld g) then { s with fio := { s.fio with timing := tset false s.fio.timing g true } } else s)

/-- VF_FALL_DURING_RECOVERY (R213). -/
def execVfFallDuringRecovery (g : Fin 2) (s : State) :=
  done { s with fio := { s.fio with timing := tset false s.fio.timing g false, recovered := tset false s.fio.recovered g false } }

/-- VF_RECOVERY_TIMER (R211): VF has been at 19.0 V or more for 10 ms. -/
def execVfRecoveryTimer (g : Fin 2) (s : State) :=
  if !tget false s.fio.timing g then done s
  else
    let s := { s with fio := { s.fio with timing := tset false s.fio.timing g false, recovered := tset false s.fio.recovered g true } }
    done (if rearmAuto s g then uvloClear g s else s)

/-- A write of one group's bit of FIO_REARM (R213). -/
def rearmOne (m g : Nat) (s : State) : State :=
  if !s.bit (uvloFld g) then s
  else if tget false s.fio.recovered g then uvloClear g s
  else s.raise .fio 0x0102 m

/-- The effect of a write to FIO_REARM. -/
def rearmEffect (m : Nat) (v : Word) (s : State) : State :=
  let s := if R.fioRearm_a.of v = 1 then rearmOne m 0 s else s
  if R.fioRearm_b.of v = 1 then rearmOne m 1 s else s

/-- FIO_REARM. -/
def execFioRearm (m : Master) (v : Word) (s : State) := done (s.guarded m.val .fio (rearmEffect m.val v))

/-! ## CTRL and FOH -/

/-- The effect of a write to FIO CTRL (R202, R203, R213). -/
def fioCtrlEffect (v : Word) (s : State) : State :=
  let was := s.bit R.fioCtrl_en
  let s := s.storeReg R.fioCtrl v
  let s := if s.bit R.fioCtrl_en && !was then
      let s := { s with fio := { s.fio with fi := (List.range 32).foldl (fun t n => tset {} t n ⟨0, s.fltOn n⟩) s.fio.fi, stepping := true } }
      iterUp 32 (fun n (s : State) => fiState n false s) s
    else if was && !s.bit R.fioCtrl_en then
      iterUp 2 (fun g (s : State) => s.invalidate (R.fioGrpClampavg g)) (iterUp 16 (fun k (s : State) => s.invalidate (R.fioFoDemag k)) (dieLost 1 (dieLost 0 s)))
    else s
  iterUp 2 (fun g (s : State) => if s.bit (uvloFld g) && rearmAuto s g && tget false s.fio.recovered g then uvloClear g s else s) s

/-- FIO_CTRL_WRITE. -/
def execFioCtrlWrite (m : Master) (v : Word) (s : State) := done (s.guarded m.val .fio (fioCtrlEffect v))

/-- FOH_KEEPALIVE_LOSS (R214): no keep-alive for 500 µs. -/
def execFohKeepaliveLoss (s : State) := done (if s.keepAlive && s.bit R.fioCtrl_en && s.bit R.fioStat_link_a then s else s.putBit R.fioStat_foh false)

end Sys2Proof.Machine
end

