-- ==== Sys2Proof/Machine/Svs.lean ====
section
/-! DEFINITION. Sampled-value subscription (chapter 06): PRP duplicate discard, the checks on an ASDU, the jitter buffer, missing
samples, slot states and the polyphase kernel both the local channels and the streams are resampled with (R92, R117). -/

namespace Sys2Proof.Machine

def State.slot (s : State) (k : Nat) : SvSlot := tget {} s.svs.slot k
def State.updSlot (s : State) (k : Nat) (f : SvSlot → SvSlot) : State :=
  { s with svs := { s.svs with slot := tupd {} s.svs.slot k f } }

/-! ## The polyphase kernel (R92, R117) -/

/-- The 16-tap sum at fraction `frac` (32 bits) over samples `x j`, j = 0 the newest input under the kernel: phase from bits
[31:22], weight from bits [21:10]; rounded to nearest with ties away from zero and saturated. Also whether it saturated. -/
def kernelSum (proto : Nat → Nat → Int) (frac : Nat) (x : Nat → Int) : Int × Bool :=
  let p := frac / 2 ^ 22
  let w : Int := (frac / 2 ^ 10) % 2 ^ 12
  let h := fun (p j : Nat) => if p = 1024 then (if j = 15 then 0 else proto 0 (j + 1)) else proto p j
  let acc := ((List.range 16).map (fun j => (h p j * 4096 + w * (h (p + 1) j - h p j)) * x j)).sum
  let r := roundDiv acc (2 ^ 34)
  (satInt32 r, satInt32 r != r)

/-- The 16 inputs of the kernel at whole position `k`: sample numbers k + 8 down to k − 7, taken from a list that is newest
first and whose first entry is number `newest`. -/
def kernelTaps {α : Type} (xs : List α) (newest k : Int) : Nat → Option α :=
  fun j => let i := newest - (k + 8 - j); if i < 0 then none else xs[i.toNat]?

/-- R71, R79, R92: how far a grid instant (2^-32 samples of 96 kHz) lies after the sampling instant of the 96 kHz sample that left the
chain of LCc at clock `clk`, `delay2` half clocks after its sampling; the position of a BSI channel is less its SAMP_DLY, and its
samples come later by RET_DLY and the device figure (DEDUCED, log entry 96). -/
def State.chainPos (s : State) (c delay2 clk t32 : Nat) : Int :=
  let dly : Int := if c < 32 then 0 else qRound 9 [c] (tget 0 s.afe.sampDly (c - 32) * 24 * 2 ^ 32 : Nat) 100000
  let ret : Int := if c < 32 then 0 else qRound 10 [c] (tget 0 s.afe.retDly (c - 32) * 96000 * (2 ^ 32 : Nat)) 10000000000
  (t32 : Int) - dly + ret + (delay2 * 2 ^ 23 : Nat) - (clk * 2 ^ 24 : Nat)

/-! ## Slots -/

/-- A slot's rate in samples per second. -/
def State.slotRate (s : State) (k : Nat) : Nat := match s.get (R.svsSlCfg_rate k) with | 1 => 14400 | 2 => 96000 | _ => 4800

/-- Dataset entries of a slot: 0 and 9 to 15 act as 8. -/
def State.slotNent (s : State) (k : Nat) : Nat :=
  let n := s.get (R.svsSlCfg_nent k); if n = 0 ∨ 8 < n then 8 else n

/-- Jitter buffer depth in units of 10 µs: below 25 acts as 25, above 400 as 400. -/
def jbClamp (jb : Nat) : Nat := Nat.min 400 (Nat.max 25 jb)

/-- R115: the row seal a slot needs, in 10 ns units: JB + 8 × T_s + 3.0 µs, rounded up. -/
def slotNeed (jb rate : Nat) : Nat := jbClamp jb * 1000 + 300 + (800000000 + rate - 1) / rate

/-- STAT.RUN, NACT and NFAST, and the SVS_LOST bits, follow the slots (SVS page). -/
def State.svsStat (s : State) : State :=
  let en := (List.range 64).filter (fun k => s.bit (R.svsSlCfg_en k))
  let lost := fun k => s.bit (R.svsSlCfg_en k) && ((s.slot k).st == .wait || (s.slot k).st == .lost)
  let s := s.putBit R.svsStat_run (s.bit R.svsCtrl_en && s.bit R.gridStat_run)
  let s := (s.put R.svsStat_nact en.length).put R.svsStat_nfast (en.filter (fun k => s.slotRate k == 96000)).length
  (s.setReg R.svsLostLo (wordOfBits 32 lost)).setReg R.svsLostHi (wordOfBits 32 (fun k => lost (32 + k)))

/-- The effect of a write to SVS CTRL: clearing EN stops the subscriber, so SVS_RX_CNT's VALID falls (R51). -/
def svsCtrlEffect (v : Word) (s : State) : State :=
  let s := (s.storeReg R.svsCtrl v).svsStat
  if s.bit R.svsCtrl_en then s else s.invalidate R.svsRxCnt

/-- Register `w` (0 CFG, 1 DMAC, 2 ADDR, 3 CONFREV) of slot `k`. -/
def slotReg (k w : Nat) : Nat := R.svsSlCfg k + 4 * w

/-- The svID of slot `k` in its table (R109): a length byte, then the characters. -/
def svidAddr (k : Nat) : Nat := 0xBE0000 + 64 * k

def State.svidEntry (s : State) (k : Nat) : List Byte :=
  let a := svidAddr k
  memBytes s.mem (a + 1) (Nat.min 63 (memByte s.mem a).toNat)

/-- The effect of a write to a slot's registers (SVS_SLk_CFG and the registers written under its rules). -/
def slotCfgEffect (m k w : Nat) (v : Word) (s : State) : State :=
  let en0 := s.bit (R.svsSlCfg_en k)
  let a := slotReg k w
  let nv := match regRow a with | some r => mergeWrite r (s.reg a) v | none => 0
  let changes := if w = 0 then (nv ^^^ s.reg a) >>> 1 != 0 else nv != s.reg a
  if en0 && w != 3 && changes then s.raise .svs 0x0101 m
  else if w ≠ 0 then s.setReg a nv
  else
    let en1 := (R.svsSlCfg_en k).of nv == 1
    let cool := s.get R.sysProfile_active == 2
    let rate := match (R.svsSlCfg_rate k).of nv with | 1 => 14400 | 2 => 96000 | _ => 4800
    let fast := ((List.range 64).filter (fun j => s.bit (R.svsSlCfg_en j) && s.slotRate j == 96000)).length
    if !en0 && en1 && rate == 96000 && decide ((if cool then 4 else 8) ≤ fast) then s.raise .svs 0x0102 m
    else if !en0 && en1 && cool && decide (28 ≤ k) then s.raise .svs 0x0103 m
    else if !en0 && en1 && decide (s.get R.gridSeal_delay < slotNeed ((R.svsSlCfg_jb k).of nv) rate) then s.raise .svs 0x0104 m
    else
      let s := s.setReg a nv
      let s := if !en0 && en1 then (s.updSlot k (fun _ => { st := .wait })).engine 3 [(svidAddr k, 64, false)] (fun s =>
          s.updSlot k (fun c => { c with svid := s.svidEntry k }))
        else if en0 && !en1 then (s.updSlot k (fun c => { c with st := .off, held := [], released := [] })).invalidate (R.svsSlSt k)
        else s
      s.svsStat

/-- SVS_SLOT_CFG_WRITE (R109, R115, the SVS page): register `w` of slot `k` is written. -/
def execSvsSlotCfgWrite (m : Master) (k : Fin 64) (w : Fin 4) (v : Word) (s : State) :=
  done (s.guarded m.val .svs (slotCfgEffect m.val k.val w.val v))

/-! ## Receipt -/

/-- R118: the quality byte of an IEC 61850 quality word. -/
def svQuality (q : Nat) : Nat :=
  let b := fun i => q.testBit i
  let v := q % 4
  (if v = 1 ∨ v = 2 ∨ b 4 ∨ b 6 then qINVALID else 0) ||| (if v = 3 ∨ b 5 ∨ b 8 ∨ b 9 then qQUEST else 0)
    ||| (if b 2 ∨ b 3 then qOVR else 0) ||| (if b 7 ∨ b 12 then qHELD else 0) ||| (if b 10 then qSUBST else 0)
    ||| (if b 11 then qTEST else 0)

/-- R112: the sample number of smpCnt at a rate, in the second that puts its instant within 500 ms of arrival (ns). -/
def sampleNumber (rate cnt arrival : Nat) : Nat :=
  let sec := arrival / 1000000000
  let fits := fun (S : Nat) =>
    let ts : Int := (S * rate + cnt) * 1000000000
    let ar : Int := arrival * rate
    decide (ar - 500000000 * rate ≤ ts ∧ ts < ar + 500000000 * rate)
  if fits sec then sec * rate + cnt else if fits (sec + 1) then (sec + 1) * rate + cnt else (sec - 1) * rate + cnt

/-- Age of a sample in nanoseconds: arrival − t_s (R112). -/
def sampleAge (rate num arrival : Nat) : Int := (arrival : Int) - ((num * 1000000000 / rate : Nat) : Int)

/-- Adding up to a bound. -/
def satAdd (b x y : Nat) : Nat := Nat.min b (x + y)

/-- An accepted sample is placed into its slot's jitter buffer, or dropped as late, early or a repeat (R114). DESIGN CHOICE (unsafe,
log entry 91): a sample that passes R110 but is dropped here counts as accepted and enters AGE_MIN and AGE_MAX, not RXCNT; a negative
age enters as 0. -/
def placeSample (k rate arrival : Nat) (smp : SvSample) (s : State) : State :=
  let age := sampleAge rate smp.num arrival
  let us := (age / 1000).toNat
  let sl := s.slot k
  let sl := { sl with ages := match sl.ages with | none => some (us, us) | some (a, b) => some (Nat.min a us, Nat.max b us) }
  if age > (jbClamp (s.get (R.svsSlCfg_jb k)) * 10000 : Nat) then
    (s.updSlot k (fun _ => { sl with late := satAdd 0xFF sl.late 1 })).edge .svs 1
  else if age < -1000000 then (s.updSlot k (fun _ => { sl with early := satAdd 0xFF sl.early 1 })).edge .svs 1
  else if (sl.held ++ sl.released).any (fun h => h.num == smp.num) then
    s.updSlot k (fun _ => { sl with dup := satAdd 0xFF sl.dup 1 })
  else s.updSlot k (fun _ => { sl with held := smp :: sl.held, rx := satAdd 0xFFFF sl.rx 1 })

/-- R113: whether a sample with this smpSynch is synchronised. -/
def svSynced (smpSynch : Nat) (localOk : Bool) : Bool :=
  smpSynch == 2 || (decide (5 ≤ smpSynch) && decide (smpSynch ≤ 254)) || (smpSynch == 1 && localOk)

/-- A flag of the slot's interval status is set. -/
def State.slotFlag (s : State) (k b : Nat) : State := s.updSlot k (fun c => { c with flags := c.flags ||| 2 ^ b })

/-- R109: slot `k` is enabled and a frame bears its DMAC and APPID. -/
def State.svAddressed (s : State) (f : SvFrame) (k : Nat) : Bool :=
  s.bit (R.svsSlCfg_en k) && (s.reg (slotReg k 1)).toNat + s.get (R.svsSlAddr_dmac_hi k) * 2 ^ 32 == f.dmac && s.get (R.svsSlAddr_appid k) == f.appid

/-- R109: the slot an ASDU goes to, the lowest that its frame addresses and that bears its svID. -/
def State.svHit (s : State) (f : SvFrame) (a : SvAsdu) : Option Nat :=
  (List.range 64).find? (fun k => s.svAddressed f k && (s.slot k).svid == a.svid)

/-- One ASDU of a steered frame (R110). -/
def receiveAsdu (f : SvFrame) (a : SvAsdu) (s : State) : State :=
  match s.svHit f a with
  | none => { s with svs := { s.svs with noslot := (s.svs.noslot + 1) % 2 ^ 32 } }
  | some k =>
    let rate := s.slotRate k
    let n := s.slotNent k
    if f.sim && !s.bit (R.svsSlCfg_sim k) then s.slotFlag k 6
    else if a.confRev ≠ (s.reg (slotReg k 3)).toNat then s.slotFlag k 3
    else match a.data with
      | none => s.slotFlag k 4
      | some d =>
        if d.length ≠ n then s.slotFlag k 4
        else if rate ≤ a.smpCnt then s.slotFlag k 7
        else
          let sync := svSynced a.smpSynch (s.bit (R.svsSlCfg_local_ok k))
          let s := if sync then s else s.slotFlag k 5
          let mark := (if f.sim then qTEST else 0)
            ||| (if sync then 0 else if s.bit (R.svsSlCfg_unsync k) then qQUEST else qINVALID)
          let quals := d.map (fun e => svQuality e.2 ||| mark)
          let vals := (d.zip quals).map (fun e => if qHas e.2 qINVALID then 0 else e.1.1)
          let s := { s with svs := { s.svs with accept := (s.svs.accept + 1) % 2 ^ 32 } }
          placeSample k rate s.gridNs
            ⟨sampleNumber rate a.smpCnt s.gridNs, vals, quals, qHas mark qINVALID⟩ s

/-- R111: the frame is a later copy of a sequence number of its source within 400 ms. Also the table with the frame recorded,
and whether the source table was full. -/
def prpCheck (tbl : List (Nat × List (Nat × Nat))) (src seq now : Nat) : Bool × List (Nat × List (Nat × Nat)) × Bool :=
  let live := (tbl.map (fun e => (e.1, e.2.filter (fun p => decide (now < p.2 + 400000000))))).filter (fun e => !e.2.isEmpty)
  match live.find? (fun e => e.1 == src) with
  | some e =>
    if e.2.any (fun p => p.1 == seq) then (true, live, false)
    else (false, live.map (fun x => if x.1 = src then (src, (seq, now) :: x.2) else x), false)
  | none => if 128 ≤ live.length then (false, live, true) else (false, live ++ [(src, [(seq, now)])], false)

/-- SV_FRAME_RECEIVE (R109 to R113). -/
def receiveSv (f : SvFrame) (s : State) : State :=
  if !s.bit R.svsCtrl_en || !(List.range 64).any (s.svAddressed f) then s
  else if f.hsr then
    { s with svs := { s.svs with hsrDrop := (s.svs.hsrDrop + 1) % 2 ^ 16 } }
  else
    match (if s.bit R.svsCtrl_prp_en then f.prp else none) with
    | none => f.asdus.foldl (fun s a => receiveAsdu f a s) s
    | some (seq, lanB) =>
      let s := if lanB != (f.port == 1) then
        ({ s with svs := { s.svs with wrongLan := (s.svs.wrongLan + 1) % 2 ^ 32 } } : State).edge .svs 3 else s
      let r := prpCheck s.svs.prp f.src seq s.gridNs
      let s := { s with svs := { s.svs with prp := r.2.1, tblFull := (s.svs.tblFull + b2n r.2.2) % 2 ^ 16 } }
      if r.1 then { s with svs := { s.svs with dupDisc := (s.svs.dupDisc + 1) % 2 ^ 32 } }
      else f.asdus.foldl (fun s a => receiveAsdu f a s) s

/-- SV_FRAME_RECEIVE (R109 to R113). -/
def execSvFrameReceive (f : SvFrame) (s : State) := done (receiveSv f s)

/-! ## Release and missing samples -/

/-- R116: the missing sample after two preceding samples that are good or INTERP. -/
def predictSample (freq rate num : Nat) (x1 x2 : SvSample) : SvSample :=
  let n := x1.vals.length
  let ent := fun i =>
    let bad := qHas (x1.quals.getD i qINVALID) qINVALID || qHas (x2.quals.getD i qINVALID) qINVALID
    (if bad then 0 else satInt32 (predictWave 8 freq (rate * 2 ^ 32) (x1.vals.getD i 0) (x2.vals.getD i 0)), if bad then qINTERP ||| qINVALID else qINTERP)
  ⟨num, (List.range n).map (fun i => (ent i).1), (List.range n).map (fun i => (ent i).2), false⟩

/-- The slot's state after a sample is released (R118): `good` for a received sample that is not INVALID, `pred` for a
predicted one. -/
def slotNext (c : SvSlot) (received good pred : Bool) (missing : Nat) : SlotRun × Nat :=
  if 3 ≤ missing then (.lost, 0)
  else match c.st with
    | .off => (.off, 0)
    | .wait =>
      let g := if good || pred then c.good + 1 else 0
      if 16 ≤ g then (.run, 0) else (.wait, g)
    | .run => (if pred then .gap else .run, 0)
    | .gap => (if good then .run else .gap, 0)
    | .lost => if received then (.wait, if good then 1 else 0) else (.lost, 0)

/-- R114: number of the last sample of slot `k` whose release instant t_s + JB has come. -/
def State.dueSample (s : State) (k : Nat) : Nat := (s.gridNs - jbClamp (s.get (R.svsSlCfg_jb k)) * 10000) * s.slotRate k / 1000000000

/-- R117: released samples a slot keeps: those of the longest seal delay, 10.49 ms, and of the kernel. -/
def keepSamples (rate : Nat) : Nat := rate * 11 / 1000 + 16

/-- A sample of slot `k` is released, with what R118 makes of the slot's state. -/
def putSample (k : Nat) (smp : SvSample) (received pred : Bool) (missing : Nat) (s : State) : State :=
  let nx := slotNext (s.slot k) received (received && !smp.invalid) pred missing
  (s.updSlot k (fun c => { c with
    next := some (smp.num + 1), held := c.held.filter (fun (h : SvSample) => decide (smp.num < h.num)),
    released := (smp :: c.released).take (keepSamples (s.slotRate k)), missing := missing,
    good := nx.2, st := nx.1, missed := if received then c.missed else satAdd 0xFFFF c.missed 1 })).svsStat

/-- SV_SAMPLE_RELEASE (R114, R116, R118): the next sample of slot `k` is released, or declared missing. The first after EN rises or a
grid set is the lowest held, or with none held the one that grid time makes due. -/
def releaseSample (k : Nat) (s : State) : State :=
  let c := s.slot k
  if c.st = .off then s
  else
    let num := c.next.getD (((c.held.map SvSample.num).min?).getD (s.dueSample k))
    match c.held.find? (fun (h : SvSample) => h.num == num) with
    | some smp => putSample k smp true false 0 s
    | none =>
      let bad : SvSample := ⟨num, List.replicate (s.slotNent k) 0, List.replicate (s.slotNent k) qINVALID, true⟩
      match c.released with
      | x1 :: x2 :: _ =>
        if c.missing < 2 ∧ !x1.invalid ∧ !x2.invalid ∧ x1.num + 1 = num ∧ x2.num + 2 = num then
          putSample k (predictSample s.grid.freq (s.slotRate k) num x1 x2) false true (c.missing + 1) s
        else putSample k bad false false (c.missing + 1) s
      | _ => putSample k bad false false (c.missing + 1) s

/-- R112, R114: a grid set moves every sample instant: slots release afresh. -/
def svsGridSet (s : State) : State :=
  iterUp 64 (fun k (s : State) => s.updSlot k (fun c => { c with next := none, held := [], released := [] })) s

/-- SV_SAMPLE_RELEASE (R114, R116, R118). -/
def execSvSampleRelease (k : Fin 64) (s : State) := done (releaseSample k.val s)

/-- The value and quality of entry `i` of slot `k` at a grid instant given in 2^-32 samples of 96 kHz since the epoch of grid
time (R117, R118). In WAIT and LOST it carries INVALID beside its samples' bits; in OFF, while SVS CTRL.EN = 0, and at or above
NENT it is INVALID. -/
def streamValue (s : State) (k i t32 : Nat) : Int × Nat :=
  let c := s.slot k
  if !s.bit R.svsCtrl_en || c.st == .off || decide (s.slotNent k ≤ i) then (0, qINVALID)
  else
    let rate := s.slotRate k
    let pos := t32 * rate / 96000
    let newest : Int := match c.released with | x :: _ => x.num | [] => 0
    let tap := kernelTaps c.released newest (pos / 2 ^ 32 : Nat)
    let q := (List.range 16).foldl (fun q j => q ||| match tap j with
      | some x => (x.quals.getD i qINVALID) ||| (if x.invalid then qINVALID else 0) | none => qINVALID)
      (if c.st == .wait || c.st == .lost then qINVALID else 0)
    let v := (kernelSum (protoTap (if rate = 96000 then 0 else 1)) (pos % 2 ^ 32)
      (fun j => match tap j with | some x => x.vals.getD i 0 | none => 0)).1
    (if qHas q qINVALID then 0 else v, q)

/-! ## Interval results -/

/-- SVS_COUNT_INTERVAL (R51, the SVS page): every 100 ms SVS_RX_CNT and each enabled slot's SVS_SLk_ST complete. -/
def svsInterval (s : State) : State :=
  let s := if s.bit R.svsCtrl_en then
    s.complete R.svsRxCnt [BitVec.ofNat 32 s.svs.accept, BitVec.ofNat 32 s.svs.noslot, BitVec.ofNat 32 s.svs.dupDisc,
      BitVec.ofNat 32 s.svs.wrongLan, BitVec.ofNat 32 (s.svs.hsrDrop + s.svs.tblFull * 2 ^ 16)] else s
  iterUp 64 (fun k s =>
    if !s.bit (R.svsSlCfg_en k) then s
    else
      let c := s.slot k
      let st := match c.st with | .off => 0 | .wait => 1 | .run => 2 | .gap => 3 | .lost => 4
      let (a, b) := c.ages.getD (0, 0)
      let s := s.complete (R.svsSlSt k) [BitVec.ofNat 32 (st + c.flags + c.dup * 2 ^ 8 + c.rx * 2 ^ 16),
        BitVec.ofNat 32 (Nat.min 0xFFFF a + Nat.min 0xFFFF b * 2 ^ 16),
        BitVec.ofNat 32 (c.missed + c.late * 2 ^ 16 + c.early * 2 ^ 24)]
      s.updSlot k (fun c => { c with flags := 0, dup := 0, rx := 0, ages := none, missed := 0, late := 0, early := 0 })) s

/-- SVS_COUNT_INTERVAL (R51). -/
def execSvsCountInterval (s : State) := done (svsInterval s)

end Sys2Proof.Machine
end

