-- ==== Sys2Proof/Machine/Phe.lean ====
section
/-! DEFINITION. Phasor engine (chapter 07): windows, bins, RMS, groups and frequency, the result buffers and the tick. Every sum
is the direct sum of its window over the plane's rows (R124). -/

namespace Sys2Proof.Machine

/-! ## Configuration -/

/-- Rows of one window cycle, W1 (chapter 07). -/
def State.w1 (s : State) : Nat := s.rowsPerCycle

/-- W of a quantity's configuration word (bit 1 WIN). -/
def windowOf (w1 : Nat) (cfg : Word) : Nat := if cfg.getLsbD 1 then w1 / 2 else w1

/-- The bins of a configuration word; bit 1 is always computed. -/
def binsOf (cfg : Word) : Nat := (cfg.toNat >>> 4) % 2 ^ 16 ||| 2

/-- R131: cycles per row for the configuration in the registers. -/
def State.pheCost (s : State) : Nat :=
  let cfg := fun q => s.reg (R.pheQCfg q)
  let batch := fun b =>
    let qs := (List.range 32).filter (fun i => (cfg (32 * b + i)).getLsbD 0)
    if qs.isEmpty then 0
    else
      let u := qs.foldl (fun u i => u ||| binsOf (cfg (32 * b + i))) 0
      24 + 12 * ((List.range 16).filter u.testBit).length + (if qs.any (fun i => (cfg (32 * b + i)).getLsbD 2) then 8 else 0)
  let groups := ((List.range 192).filter (fun g => s.bit (R.pheGrpCfg_en g))).length
  40 + ((List.range 18).map batch).sum + 88 * ((groups + 31) / 32)

def State.setPheCost (s : State) : State := s.put R.pheCost_rowcyc s.pheCost

/-- The effect of a write to PHE_Qq_CFG (R137, the PHE page). -/
def pheQCfgEffect (m q : Nat) (v : Word) (s : State) : State :=
  if v.getLsbD 0 && decide (s.numQ ≤ q) then s.raise .phe 0x0103 m
  else if v.getLsbD 1 && (v.toNat >>> 4) &&& 0x5555 != 0 then s.raise .phe 0x0101 m
  else (s.storeReg (R.pheQCfg q) (v ||| 0x20#32)).setPheCost

/-- PHE_Q_CFG_WRITE (R137). -/
def execPheQCfgWrite (m : Master) (q : Fin 576) (v : Word) (s : State) :=
  done (s.guarded m.val .phe (pheQCfgEffect m.val q.val v))

/-- The effect of a write to PHE_GRPg_CFG (R128, the PHE page). A group with another word has no span yet (R129, R130). -/
def pheGrpEffect (m g : Nat) (v : Word) (s : State) : State :=
  let qs := [(R.pheGrpCfg_qa g).of v, (R.pheGrpCfg_qb g).of v, (R.pheGrpCfg_qc g).of v]
  let cfg := fun q => s.reg (R.pheQCfg q)
  let bad := qs.any (fun q => decide (s.numQ ≤ q) || !(cfg q).getLsbD 0) || !(qs.map (fun q => (cfg q).getLsbD 1)).all (· == (cfg (qs.headD 0)).getLsbD 1)
    || qs.eraseDups.length != 3 || (s.get R.sysProfile_active == 2 && decide (96 ≤ g))
  if v.getLsbD 31 && bad then s.raise .phe 0x0102 m
  else
    let t := (s.storeReg (R.pheGrpCfg g) v).setPheCost
    if s.reg (R.pheGrpCfg g) = v then t else { t with phe := { t.phe with grp := tset [] t.phe.grp g [] } }

/-- PHE_GRP_CFG_WRITE (R128). -/
def execPheGrpCfgWrite (m : Master) (g : Fin 192) (v : Word) (s : State) :=
  done (s.guarded m.val .phe (pheGrpEffect m.val g.val v))

/-- PHE_FCFG_WRITE (R129): the spans restart at the next tick. -/
def execPheFcfgWrite (m : Master) (v : Word) (s : State) := done (s.guarded m.val .phe (fun s => s.storeReg R.pheFcfg v))

/-- The PHE runs: EN, with the grid, not under GALE (R100, R137). -/
def State.pheLive (s : State) : Bool := s.bit R.pheCtrl_en && s.bit R.gridStat_run && s.get R.gridCfg_mode != 1

/-- STAT.RUN follows, once no tick runs; where the PHE does not run PHE_TICK's VALID falls, and what it starts again from is empty
(R125, R137). -/
def pheSettle (s : State) : State :=
  if s.phe.busy.isSome then s
  else
    let s := s.putBit R.pheStat_run s.pheLive
    if s.pheLive then s
    else ({ s with phe := { s.phe with fill := [], binFill := [], grp := [] } } : State).invalidate R.pheTick

/-- The effect of a write to PHE CTRL (R137): clearing EN stops the PHE at the end of the running tick. -/
def pheCtrlEffect (v : Word) (s : State) : State := pheSettle (s.storeReg R.pheCtrl v)

/-! ## Sums -/

/-- The bin h sum of a window ending at row `r` (R123): real and imaginary accumulators in 2^-22 counts. `kpos i` is the cycle
position of the row `i` before `r`. -/
def binSum (s : State) (q r w w1 h : Nat) (kpos : Nat → Nat) : Int × Int :=
  (List.range w).foldl (fun (a : Int × Int) i =>
    let x := s.planeVal (s.ago r i) q
    let t := twiddle w1 (h * kpos i % w1)
    (a.1 + x * t.1, a.2 - x * t.2)) (0, 0)

def dcSum (s : State) (q r w : Nat) : Int := ((List.range w).map (fun i => s.planeVal (s.ago r i) q)).sum
def sqSum (s : State) (q r w : Nat) : Nat := ((List.range w).map (fun i => (s.planeVal (s.ago r i) q).natAbs ^ 2)).sum
def qualOr (s : State) (q r w : Nat) : Nat := (List.range w).foldl (fun a i => a ||| s.planeQual (s.ago r i) q) 0

/-- The binary32 nearest to √2 · S / (W · 2^22) · scale (R123). -/
def phasorF32 (sum : Int) (w : Nat) (scale : F32) : F32 :=
  let sc := F32.toQ scale
  F32.withSign (decide (sum < 0) != decide (sc.num < 0))
    (sqrtMag (2 * sum.natAbs ^ 2 * sc.num.natAbs ^ 2) ((w * 2 ^ 22 * sc.den) ^ 2))

/-- The binary32 nearest to (√2 · x + √6 · y) / den · scale, the roots taken 200 bits below their rounding position. -/
def rootSumF32 (x y : Int) (den : Nat) (scale : F32) : F32 :=
  let rt := fun (n : Nat) (v : Int) => (if v < 0 then -1 else 1) * (isqrt (n * v.natAbs ^ 2 * 2 ^ 400) : Int)
  (Q.mul ⟨rt 2 x + rt 6 y, den * 2 ^ 200⟩ (F32.toQ scale)).toF32

/-- A signed 40-bit value (R127). -/
def fix40 (x : Int) : Int := (BitVec.ofInt 40 x).toInt

/-- R127: ± √(num / den) with 8 fraction bits, rounded in a free direction: a Q31.8 copy. -/
def fixRoot (k : Nat) (neg : Bool) (num den : Nat) : Int :=
  let n := num * 2 ^ 16
  let r := isqrt (n / den)
  let m : Int := if r ^ 2 * den = n then r else r + (if Config.roundUp k [b2n neg, num, den] then 1 else 0)
  fix40 (if neg then -m else m)

/-- R127: the copy of a bin 1 part, √2 · S / (W · 2^22) counts. -/
def fixBin (w : Nat) (sum : Int) : Int := fixRoot 12 (decide (sum < 0)) (2 * sum.natAbs ^ 2) ((w * 2 ^ 22) ^ 2)

/-- R127: the copy of (√2 · x + √6 · y) / den counts. -/
def fixSum (x y : Int) (den : Nat) : Int :=
  let rt := fun (n : Nat) (v : Int) => (if v < 0 then -1 else 1) * (isqrt (n * v.natAbs ^ 2 * 2 ^ 400) : Int)
  fix40 (qRound 13 [x, y, den] ((rt 2 x + rt 6 y) * 256) (den * 2 ^ 200))

/-- The state's bin 1 sums of three quantities as the sequence engine takes them; ROT = ACB trades Vb and Vc (R128). -/
structure Triplet where
  a : Int × Int
  b : Int × Int
  c : Int × Int
  deriving DecidableEq, Repr

def Triplet.zero (t : Triplet) : Int × Int := (t.a.1 + t.b.1 + t.c.1, t.a.2 + t.b.2 + t.c.2)
/-- D = 2 Va − Vb − Vc. -/
def Triplet.dPart (t : Triplet) : Int × Int := (2 * t.a.1 - t.b.1 - t.c.1, 2 * t.a.2 - t.b.2 - t.c.2)
/-- E = Vb − Vc, so that 6 V1 = D + j√3 E and 6 V2 = D − j√3 E. -/
def Triplet.ePart (t : Triplet) : Int × Int := (t.b.1 - t.c.1, t.b.2 - t.c.2)

/-- |6 V1|² = P + Q √3; |6 V2|² = P − Q √3. -/
def Triplet.pPart (t : Triplet) : Int := t.dPart.1 ^ 2 + t.dPart.2 ^ 2 + 3 * (t.ePart.1 ^ 2 + t.ePart.2 ^ 2)
def Triplet.qPart (t : Triplet) : Int := 2 * (t.dPart.2 * t.ePart.1 - t.dPart.1 * t.ePart.2)

/-- `p + q √3 < t` over the integers. -/
def ltRoot3 (p q t : Int) : Bool :=
  if 0 ≤ q then decide (0 < t - p ∧ 3 * q ^ 2 < (t - p) ^ 2) else decide (0 ≤ t - p ∨ (t - p) ^ 2 < 3 * q ^ 2)

/-- 6 V1 on the fixed scale of 2^-40: real and imaginary part. -/
def Triplet.v1Fixed (t : Triplet) : Int × Int :=
  let r3 : Int := isqrt (3 * 2 ^ 80)
  (t.dPart.1 * 2 ^ 40 - r3 * t.ePart.2, t.dPart.2 * 2 ^ 40 + r3 * t.ePart.1)

/-! ## Buffers (R135) -/

/-- The buffer the tick of row `r` writes. -/
def State.pheBuf (s : State) (r : Nat) : Nat := 0xC00000 + (r / s.rowsPerTick) % 2 * 0x20000

/-- Bytes of a buffer: header, quantity records, group records. -/
def pheBufBytes : Nat := 0x1B100

def qRec (buf q : Nat) : Nat := buf + 0x100 + 0xA0 * q
def gRec (buf g : Nat) : Nat := buf + 0x16900 + 0x60 * g

/-- A Q31.8 value as two words, low first, sign-extended. -/
def fixWords (x : Int) : List Word := [BitVec.ofInt 32 x, BitVec.ofInt 32 (x / 2 ^ 32)]

/-- The 40 words of a quantity record (R135) from its bins, RMS, status word and fixed copies. -/
def quantityRecord (dc : F32) (bins : Nat → F32 × F32) (rms : F32) (status : Nat) (fre fim frms : Int) : List Word :=
  [dc, 0] ++ (List.range 15).flatMap (fun i => [(bins (i + 1)).1, (bins (i + 1)).2]) ++ [rms, BitVec.ofNat 32 status]
    ++ fixWords fre ++ fixWords fim ++ fixWords frms

/-- Cycle position of the row `i` rows before row `r` (R90, R123). -/
def State.cyclePos (s : State) (r w1 i : Nat) : Nat :=
  if s.tracked then s.ago r i % w1 else (s.phe.rows + w1 * 1024 - 1 - i) % w1

/-- The quantity record of Qq for the tick at row `r` (R123 to R127, R137). -/
def pheQuantity (s : State) (q r : Nat) : List Word :=
  let cfg := tget 0x20#32 s.phe.cfg q
  if !cfg.getLsbD 0 then quantityRecord 0 (fun _ => (0, 0)) 0 qINVALID 0 0 0
  else
    let w1 := s.w1
    let w := windowOf w1 cfg
    let fill := tget 0 s.phe.fill q
    let kpos := s.cyclePos r w1
    let ql := qualOr s q r (Nat.min w fill) ||| (if fill < w then qINVALID else 0)
    let inv := qHas ql qINVALID
    let scale := s.word (scaleAddr q)
    let ready := fun h => (if h = 16 then cfg.getLsbD 2 else (binsOf cfg).testBit h) && decide (w ≤ tget 0 s.phe.binFill (32 * q + h))
    let sum := fun h => binSum s q r w w1 h kpos
    let bin := fun h => if inv || !ready h then (0, 0) else (phasorF32 (sum h).1 w scale, phasorF32 (sum h).2 w scale)
    let dc := if inv || !ready 0 then 0 else (Q.mul ⟨dcSum s q r w, w⟩ (F32.toQ scale)).toF32
    let sc := F32.toQ scale
    let rms := if inv || !ready 16 then 0
      else F32.withSign (decide (sc.num < 0)) (sqrtMag (sqSum s q r w * sc.num.natAbs ^ 2) (w * sc.den ^ 2))
    let status := ql + ((List.range 16).foldl (fun a h => if ready h then a + 2 ^ (8 + h) else a) 0)
      + (if cfg.getLsbD 1 then 2 ^ 24 else 0) + (if ready 16 then 2 ^ 25 else 0)
    let fx := fun x => if inv || !ready 1 then 0 else fixBin w x
    quantityRecord dc bin rms status (fx (sum 1).1) (fx (sum 1).2) (if inv || !ready 16 then 0 else fixRoot 14 false (sqSum s q r w) w)

/-- K and R of PHE_FCFG (R129): 0 acts as 1 and above 8 as 8; below 2 as 2 and above 50 as 50. -/
def favgOf (w : Word) : Nat := Nat.min 8 (Nat.max 1 (w.toNat % 16))
def rwinOf (w : Word) : Nat := Nat.min 50 (Nat.max 2 ((w.toNat >>> 4) % 256))

/-- Difference of two TSTAMP32 values in 4 ns units (signed). -/
def stampDiff (a b : Word) : Int := (a - b).toInt

/-- R129: f of a group in Hz from K cycles of its ticks, newest first, and whether their span stands (R130). -/
def groupF (k w1 rpt : Nat) (h : List GroupTick) : Q × Bool :=
  let n := k * w1 / rpt
  let at' := fun i => h.getD i {}
  let theta := ((List.range n).map (fun i => angleStep (at' (i + 1)).re (at' (i + 1)).im (at' i).re (at' i).im)).sum
  let t := stampDiff (at' 0).time (at' n).time
  (⟨(k * 2 ^ 32 + theta) * 250000000, 2 ^ 32 * t.toNat⟩, decide (n < h.length) && (h.take (n + 1)).all (·.good) && decide (0 < t))

/-- Group frequency, ROCOF and their quality from the ticks of its span, newest first (R129, R130). -/
def groupFreq (k rw w1 rpt : Nat) (h : List GroupTick) : F32 × Nat × F32 × Nat :=
  let nT := k * w1 / rpt
  let nR := rw * w1 / rpt
  let at' := fun i => h.getD i {}
  let span := fun n => decide (n < h.length) && (h.take (n + 1)).all (·.good)
  let quals := fun n => (h.take (n + 1)).foldl (fun a t => a ||| t.qual) 0
  let g := groupF k w1 rpt h
  if !g.2 then (0, qINVALID, 0, qINVALID)
  else
    let f := g.1
    let lo := Q.lt f ⟨30, 1⟩; let hi := Q.lt ⟨80, 1⟩ f
    let fr := if lo then fofInt 30 else if hi then fofInt 80 else f.toF32
    let fq' := quals nT ||| (if lo || hi then qOVR else 0)
    let tR := stampDiff (at' 0).time (at' nR).time
    if !span (nT + nR) || decide (tR ≤ 0) then (fr, fq', 0, qINVALID)
    else
      let d := Q.sub f ⟨(at' nR).freq.1, (at' nR).freq.2⟩
      (fr, fq', (Q.mul d ⟨250000000, tR.toNat⟩).toF32, quals (nT + nR))

/-- The bin 1 sums of a group's members, each over its own window `wq` of rows ending at row `r`, brought to one window of `w` rows; B
and C traded under ROT = ACB (R128). -/
def groupTriplet (s : State) (g r w : Nat) (wq : Nat → Nat) (kpos : Nat → Nat) : Triplet :=
  let sum := fun q =>
    let x := binSum s q r (wq q) s.w1 1 kpos
    let m : Int := (w / wq q : Nat)
    ((x.1 * m, x.2 * m) : Int × Int)
  let qb := s.get (R.pheGrpCfg_qb g); let qc := s.get (R.pheGrpCfg_qc g)
  let acb := s.bit (R.pheGrpCfg_rot g)
  ⟨sum (s.get (R.pheGrpCfg_qa g)), sum (if acb then qc else qb), sum (if acb then qb else qc)⟩

/-- The status byte of a quantity record: its quality. -/
def recQual (s : State) (buf q : Nat) : Nat := (s.word (qRec buf q + 0x84)).toNat % 256

/-- The group record of group `g` for the tick at row `r`, with the quantity records already in the buffer; its new span, and
whether its frequency is INVALID and its scales differ (R128 to R130). -/
def pheGroup (s : State) (buf g r : Nat) : List Word × List GroupTick × Bool × Bool :=
  let qa := s.get (R.pheGrpCfg_qa g); let qb := s.get (R.pheGrpCfg_qb g); let qc := s.get (R.pheGrpCfg_qc g)
  let w1 := s.w1
  let wq := fun q => windowOf w1 (tget 0x20#32 s.phe.cfg q)
  let w := Nat.lcm (wq qa) (Nat.lcm (wq qb) (wq qc))
  let kpos := s.cyclePos r w1
  let scale := s.word (scaleAddr qa)
  let mix := s.word (scaleAddr qb) != scale || s.word (scaleAddr qc) != scale
  let ql := recQual s buf qa ||| recQual s buf qb ||| recQual s buf qc ||| (if mix then qINVALID else 0)
  let inv := qHas ql qINVALID
  let t := groupTriplet s g r w wq kpos
  let den := 6 * w * 2 ^ 22
  let sc := F32.toQ scale
  let z := t.zero; let d := t.dPart; let e := t.ePart
  let seq : List Word := if inv then List.replicate 6 0 else
    [rootSumF32 (2 * z.1) 0 den scale, rootSumF32 (2 * z.2) 0 den scale,
     rootSumF32 d.1 (-e.2) den scale, rootSumF32 d.2 e.1 den scale,
     rootSumF32 d.1 e.2 den scale, rootSumF32 d.2 (-e.1) den scale]
  let fx : List Word := if inv then List.replicate 12 0 else
    [fixSum (2 * z.1) 0 den, fixSum (2 * z.2) 0 den, fixSum d.1 (-e.2) den, fixSum d.2 e.1 den, fixSum d.1 e.2 den,
     fixSum d.2 (-e.1) den].flatMap fixWords
  let vm := s.reg (R.pheGrpVmin g)
  let vq := if F32.neg vm then ⟨0, 1⟩ else F32.toQ vm
  -- |V1|² · 36 · W² · 2^44 = 2 (P + Q√3) scale²
  let below := ltRoot3 (2 * t.pPart * sc.num ^ 2 * vq.den ^ 2) (2 * t.qPart * sc.num ^ 2 * vq.den ^ 2)
    (vq.num ^ 2 * (den * sc.den : Nat) ^ 2)
  let v1 := t.v1Fixed
  let old := tget [] s.phe.grp g
  let tick : GroupTick := ⟨v1.1, v1.2, s.headWord r 1, !inv && !below, ql, (0, 1)⟩
  let k := favgOf s.phe.fcfg; let rw := rwinOf s.phe.fcfg
  let span := (tick :: old).take ((k + rw) * w1 / s.rowsPerTick + 2)
  let fr := groupFreq k rw w1 s.rowsPerTick span
  let fq' := if mix then qINVALID else fr.2.1
  let rq := if mix then qINVALID else fr.2.2.2
  let span := match span with | x :: xs => { x with freq := ((groupF k w1 s.rowsPerTick span).1.num, (groupF k w1 s.rowsPerTick span).1.den) } :: xs | [] => []
  (seq ++ [if qHas fq' qINVALID then 0 else fr.1, if qHas rq qINVALID then 0 else fr.2.2.1,
    BitVec.ofNat 32 (ql + fq' * 2 ^ 8 + rq * 2 ^ 16 + (if mix then 2 ^ 24 else 0)), 0] ++ fx ++ [0, 0],
   span, qHas fq' qINVALID, mix)

/-! ## The tick -/

/-- The configuration writes since the last tick take effect (R137, PHE_FCFG): a changed window or a new EN restarts the
quantity's sums, a newly enabled bin or RMS starts filling, changed spans restart every group. -/
def pheTakeCfg (s : State) : State :=
  let s := iterUp 576 (fun q s =>
    let old := tget 0x20#32 s.phe.cfg q
    let new := s.reg (R.pheQCfg q)
    if old = new then s
    else
      let restart := !old.getLsbD 0 || old.getLsbD 1 != new.getLsbD 1
      let bins := fun (c : Word) h => if h = 16 then c.getLsbD 2 else (binsOf c).testBit h
      let bf := (List.range 17).foldl (fun t h =>
        if restart || (bins new h && !bins old h) then tset 0 t (32 * q + h) 0 else t) s.phe.binFill
      { s with phe := { s.phe with cfg := tset 0x20#32 s.phe.cfg q new, binFill := bf,
                                   fill := if restart then tset 0 s.phe.fill q 0 else s.phe.fill } }) s
  let f := s.reg R.pheFcfg
  if f = s.phe.fcfg then s else { s with phe := { s.phe with fcfg := f, grp := [] } }

/-- The rows of a tick enter every enabled quantity's window (R131). -/
def pheTakeRows (n : Nat) (s : State) : State :=
  let s := iterUp 576 (fun q s =>
    let cfg := tget 0x20#32 s.phe.cfg q
    if !cfg.getLsbD 0 then s
    else
      let cap := fun x => Nat.min 1024 (x + n)
      let bf := (List.range 17).foldl (fun t h => tupd 0 t (32 * q + h) cap) s.phe.binFill
      { s with phe := { s.phe with fill := tupd 0 s.phe.fill q cap, binFill := bf } }) s
  { s with phe := { s.phe with rows := s.phe.rows + n } }

/-- The record of a group that is not enabled: nothing but INVALID. -/
def noGroup : List Word := List.replicate 8 0 ++ [0x010101#32] ++ List.replicate 15 0

/-- PHE_TICK (R131, R136): SEALED of the buffer clears and every record of the tick at row `r` is written. While the PHE is off,
only its row count runs on (R123). -/
def pheTickRun (r : Nat) (s : State) : State :=
  if !s.bit R.pheCtrl_en || s.get R.gridCfg_mode == 1 then
    { s with phe := { s.phe with rows := s.phe.rows + (s.tickRows r).length } }
  else
    let s := (s.putBit R.pheStat_run true)
    let s := pheTakeRows (s.tickRows r).length (pheTakeCfg s)
    let buf := s.pheBuf r
    let s := { s with phe := { s.phe with finv := false, mix := false, busy := some r } }
    s.engine 3 ((buf, pheBufBytes, true) :: rowAcc r false) (fun s =>
    let s := s.setWord (buf + 12) (s.word (buf + 12) &&& 0x7FFFFFFF#32)
    let s := iterUp 576 (fun q s => s.setWords (qRec buf q) (pheQuantity s q r)) s
    iterUp 192 (fun g s =>
      if !s.bit (R.pheGrpCfg_en g) then s.setWords (gRec buf g) noGroup
      else
        let x := pheGroup s buf g r
        let s := s.setWords (gRec buf g) x.1
        { s with phe := { s.phe with grp := tset [] s.phe.grp g x.2.1, finv := s.phe.finv || x.2.2.1, mix := s.phe.mix || x.2.2.2 } }) s)

/-- The PHE seals its buffer (R136): SEALED and header words 0 to 2 are written, PHE_TICK completes, DONE pulses. -/
def pheSeal (s : State) : State :=
  match s.phe.busy with
  | none => s
  | some r =>
    let buf := s.pheBuf r
    let fw : Word := if s.tracked then s.headWord r 2 else BitVec.ofNat 32 (s.get R.gridCfg_fnom * 100)
    let hf := (s.headWord r 3).toNat
    let fl := (if hf.testBit 5 then 1 else 0) + (if hf.testBit 2 then 2 else 0) + (if hf.testBit 4 then 4 else 0)
    let s := s.engine 3 [(buf, 16, true)] (fun s => s.setWords buf [BitVec.ofNat 32 r, s.headWord r 1, fw, BitVec.ofNat 32 (fl + 2 ^ 31)])
    let b := (r / s.rowsPerTick) % 2
    let cyc := Nat.min 0xFFFF (s.get R.pheCost_rowcyc * (s.tickRows r).length)
    let s := (s.put R.pheStat_buf b).complete R.pheTick [BitVec.ofNat 32 r, s.tstamp, BitVec.ofNat 32 (b + cyc * 2 ^ 16)]
    let s := { s with phe := { s.phe with busy := none } }
    (pheSettle s).edge .phe 0

/-- Grid start: every window starts empty (R125). -/
def pheRestart (s : State) : State :=
  { s with phe := { s.phe with rows := 0, fill := [], binFill := [], grp := [], busy := none } }

end Sys2Proof.Machine
end

