-- ==== Sys2Proof/Machine/Grid.lean ====
section
/-! DEFINITION. The GRID island (chapter 05): starting and stopping the grid, the tracker's states, and the writing of a row. -/

namespace Sys2Proof.Machine

/-- Tracker states as STAT.TRK shows them (R95). -/
def trkFIXED : Nat := 0
def trkNOMINAL : Nat := 1
def trkACQUIRE : Nat := 2
def trkLOCKED : Nat := 3
def trkFROZEN : Nat := 4
def trkRELEASE : Nat := 5
def trkFOLLOW : Nat := 6

/-- R91: INC = round(96,000 × 2^32 / (N × f)), `f` in 2^-32 Hz. -/
def incOf (n f : Nat) : Nat := if n * f = 0 then 0 else (2 * 96000 * 2 ^ 64 + n * f) / (2 * (n * f))

/-- The frequency an increment stands for, in 2^-32 Hz; its rounding is free. -/
def freqOf (n inc : Nat) : Nat := if n * inc = 0 then 0 else (qRound 18 [n, inc] (96000 * 2 ^ 64 : Nat) (n * inc)).toNat

/-- FNOM in 2^-32 Hz. -/
def State.fnom (s : State) : Nat := s.get R.gridCfg_fnom * 2 ^ 32 / 100

/-- The tracker's mode: FIXED in a preset; MODE 3 acts as FIXED (R95). -/
def State.trkMode (s : State) : Nat := if !s.tracked then 2 else Nat.min 2 (s.get R.gridTrk_mode)

/-- R104, R118: grid-class time is in Overcast or has never been synchronised. -/
def State.gridQuest (s : State) : Bool := s.get R.timStat_grid != 1

/-- The tracker enters a state. -/
def State.setTrk (s : State) (t : Nat) : State := s.put R.gridStat_trk t

/-- R100: in a preset a row's instant is a chain output's time less the chain delay: how far the first such instant lies after clock
`o`, in 2^-32 samples of 96 kHz. In tracked mode, and while the chain is off (R383), the first row lies at `o`. -/
def State.presetLag (s : State) (o : Nat) : Nat :=
  if s.tracked || !s.bit R.dfcStat_run then 0
  else
    let per := 2 * (24576000 / s.presetRate)
    ((2 * s.dfc.origin + per * (o + 1) - 2 * o - pathDelay2 (s.get R.dfcStat_path) % per) % per) * 2 ^ 23

/-- A grid start (R107, R383, R98): the origin is the next instant on the chain's phase origin (the GRIDTIME lattice while the
chain is off), ROW is 0, the tracker starts by its mode. Rows still in flight are sealed as usual. In a preset the INC words show the
increment of N and FNOM (DESIGN CHOICE, unsafe, log entry 91). -/
def gridStart (s : State) : State :=
  let base := if s.bit R.dfcStat_run then s.dfc.origin % 4096 else 0
  let o := nextLattice base s.gridClk
  let mode := s.trkMode
  let f := s.fnom
  let s := { s with
    grid := { origin := o, pos := s.presetLag o, inc := incOf s.gridN f, freq := f, freqPrev := f,
              inflight := s.grid.inflight, old := s.grid.inflight.length }
    pea := { s.pea with lastTick := none } }
  let s := (s.putBit R.gridStat_run true).putBit R.gridStat_stale false
  let s := (s.putBit R.gridStat_clamp false).putBit R.gridStat_desync (mode == 1)
  let s := s.setTrk (if mode = 2 then trkFIXED else if mode = 1 then trkFOLLOW else trkNOMINAL)
  let s := if mode = 1 then s.emit (.alignReq (s.get R.gridTrk_trk_mbr)) else s
  (pheSettle (pheRestart s)).svsStat

/-- The grid has stopped (R107): STAT.RUN and GRID_NOW.VALID fall; the PHE no longer runs (R137). STAT's other fields keep their values
(DESIGN CHOICE, unsafe, log entry 91). -/
def gridStopped (s : State) : State :=
  let s := (s.putBit R.gridStat_run false).invalidate R.gridNow
  (pheSettle { s with grid := { s.grid with stopAt := none } }).svsStat

/-- The effect of a write to GRID_TRK (R94): dropped where it changes the source or mode while EN = 1. -/
def gridTrkEffect (m : Nat) (v : Word) (s : State) : State :=
  let ch := fun (f : Fld) => f.of v != s.get f
  if s.bit R.gridCtrl_en && (ch R.gridTrk_mode || ch R.gridTrk_src_kind || ch R.gridTrk_src || ch R.gridTrk_trk_mbr) then
    s.raise .grid 0x0101 m
  else s.storeReg R.gridTrk v

/-- GRID_TRK_WRITE (R94). -/
def execGridTrkWrite (m : Master) (v : Word) (s : State) := done (s.guarded m.val .grid (gridTrkEffect m.val v))

/-- The effect of a write to GRID_ALIGN_CMD (R98). -/
def gridAlignEffect (m : Nat) (v : Word) (s : State) : State :=
  if R.gridAlignCmd_go.of v = 0 then s
  else if s.get R.gridTrk_mode ≠ 1 ∨ !s.bit R.gridCtrl_en then s.raise .grid 0x0102 m
  else s.emit (.alignReq (s.get R.gridTrk_trk_mbr))

/-- GRID_ALIGN_CMD (R98). -/
def execGridAlignCmd (m : Master) (v : Word) (s : State) := done (s.guarded m.val .grid (gridAlignEffect m.val v))

/-- GRID_Q_CFG_WRITE (R105): the write takes effect at the next row seal. -/
def execGridQCfgWrite (m : Master) (q : Fin 576) (v : Word) (s : State) :=
  done (s.guarded m.val .grid (fun s => s.storeReg (R.gridQCfg q.val) v))

/-- The clamp of a step to ± a limit. -/
def clampInt (lo hi x : Int) : Int := if x < lo then lo else if hi < x then hi else x

/-- f_next of R94 with the limit of R97; `slew` in 0.1 Hz/s. The roundings to 2^-32 Hz are free. -/
def nextFreq (gain slew : Nat) (fMeas fNow : Int) : Int × Bool :=
  let sl : Int := qRound 16 [slew, fNow] ((if slew = 0 then 5 else slew) * 2 ^ 64 : Nat) (10 * max 1 fNow).toNat
  let f := fNow + clampInt (-sl) sl (qRound 17 [gain, fMeas, fNow] (fMeas - fNow) (2 ^ (gain + 1)))
  let lo : Int := 40 * 2 ^ 32
  let hi : Int := 70 * 2 ^ 32
  (clampInt lo hi f, decide (f < lo ∨ hi < f))

/-- A new INC from the measurement at row `row` (R94): it waits for the next row with c = 0 and is sent to the followers (R98). -/
def formInc (slew row : Nat) (fMeas fNow : Int) (s : State) : State :=
  let f := nextFreq (s.get R.gridTrk_gain) slew fMeas fNow
  let row := (row + s.gridN) % rowMod
  let inc := incOf s.gridN f.1.toNat
  let s := { (s.putBit R.gridStat_clamp f.2) with grid := { s.grid with next := some (row, inc, f.1.toNat) } }
  s.emit (.trackInc row inc)

/-- TRACKER_RELEASE (R95): after HOLD cycles without a freeze condition (0 acts as 1) FROZEN is left for RELEASE, and the cycle
just measured forms a new INC under REL_SLEW. -/
def execTrackerRelease (s : State) :=
  done (if s.get R.gridStat_trk == trkFROZEN && decide (Nat.max 1 (s.get R.gridFrz2_hold) ≤ s.grid.clearCycles) then
    let s := (s.setTrk trkRELEASE).putBit R.gridStat_stale false
    let m := s.grid.relMeas
    let s := { s with grid := { s.grid with goodCycles := 0, relMeas := none } }
    match m with
    | some (row, fMeas, fNow) => formInc (s.get R.gridFrz2_rel_slew) row fMeas fNow s
    | none => s else s)

/-- TRACKER_STALE (R95): a freeze has lasted FRZ_MAX. -/
def execTrackerStale (s : State) :=
  done (if s.get R.gridStat_trk == trkFROZEN && !s.bit R.gridStat_stale then (s.putBit R.gridStat_stale true).edge .grid 3 else s)

/-- TRACKER_UPDATE (R98): an INC broadcast, tagged with the ROW at which it applies. -/
def execTrackerUpdate (row inc : Nat) (s : State) :=
  done (if s.get R.gridStat_trk == trkFOLLOW && s.bit R.gridStat_run then
    { s with grid := { s.grid with next := some (row, inc, freqOf s.gridN inc) } } else s)

/-- Samples of 96 kHz that the resampler spans (R98: 166.7 µs). -/
def kernelSpan : Nat := 16

/-- An ALIGN broadcast moves the position (R98): the rows from the next on lie at the source's increment and phase, so that row `row`,
the ALIGN point, falls at its grid instant `instant` (2^-32 samples of 96 kHz) (DEDUCED, log entry 98). -/
def alignGrid (row inc instant : Nat) (s : State) : State :=
  let g := s.grid
  let f := freqOf s.gridN inc
  let a := instant - g.origin * 2 ^ 24
  let k := if inc = 0 then 0 else (a - (g.pos - g.inc) - 1) / inc
  let r := rowBack row k
  let pos := a - k * inc
  { s with grid := { g with
      row := r, inc := inc, freq := f, freqPrev := f, pos := pos, next := none, missing := 0,
      align := some (row, if r = g.row ∧ pos = g.pos then 0 else pos + kernelSpan * 2 ^ 32), jumps := if r = g.row then g.jumps else ((r, rowBack g.row 1) :: g.jumps).take 8 } }

/-- The tracking source sends an ALIGN (R98): the first cycle start at least 2 cycles after the next row, with the increment and the grid
instant that the increments formed so far give it (DEDUCED, log entry 98). -/
def alignSend (s : State) : State :=
  let g := s.grid
  let n := s.gridN
  let ahead := 2 * n + (n - g.row % n) % n
  let cut := match g.next with | some (t, inc, _) => ((t + rowMod - g.row) % rowMod, inc) | none => (ahead, g.inc)
  let first := Nat.min cut.1 ahead
  s.emit (.align ((g.row + ahead) % rowMod) cut.2 (g.origin * 2 ^ 24 + g.pos + first * g.inc + (ahead - first) * cut.2))

/-- GRID_ALIGN (R98): an ALIGN broadcast, which the tracking source sends and a follower takes up. -/
def execGridAlign (row inc instant : Nat) (s : State) :=
  done (if !s.bit R.gridStat_run then s
    else if s.get R.gridStat_trk == trkFOLLOW then alignGrid row inc instant s
    else if s.trkMode = 0 then alignSend s else s)

/-! ## Writing a row -/

/-- The value and tags of local channel `c` at a grid instant in 2^-32 samples of 96 kHz (R92): the resampler's kernel over the
chain outputs; in a preset the chain output whose time less the chain delay is the instant (R100). -/
def localValue (s : State) (c t32 : Nat) : Int × Bool × Bool × Bool :=
  let ch := tget {} s.dfc.chan c
  if !s.bit R.dfcStat_run then (0, false, true, false)
  else if !s.tracked then
    let d : Int := (ch.outClk * 2 ^ 24 : Nat) - (pathDelay2 (s.get R.dfcStat_path) * 2 ^ 23 : Nat) - t32
    let i := d / (96000 / s.presetRate * 2 ^ 32 : Nat)
    match (if i < 0 then none else ch.out[i.toNat]?) with
    | some x => (x.val, x.ovr, x.invalid, false)
    | none => (0, false, true, false)
  else
    let d := s.chainPos c 9057 ch.outClk t32
    let k := d / (2 ^ 32 : Nat)
    let fr := (d % (2 ^ 32 : Nat)).toNat
    let tap := kernelTaps ch.out 0 k
    let tags := (List.range 16).map (fun j => (tap j).getD {})
    let v := kernelSum (protoTap 0) fr (fun j => ((tap j).getD {}).val)
    (v.1, tags.any (·.ovr), tags.any (·.invalid), v.2)

/-- The value and quality of quantity `q` as the row is written (R102, R104, R118), and whether the resampler saturated. -/
def quantityValue (s : State) (q t32 : Nat) : Int × Nat × Bool :=
  let before := s.get R.gridStat_trk == trkFOLLOW && !s.grid.aligned
  if s.numQ ≤ q then (0, qINVALID, false)
  else if q < 64 then
    let v := localValue s q t32
    let inv := v.2.2.1 || before
    (if inv then 0 else v.1, (if inv then qINVALID else 0) ||| (if v.2.1 then qOVR else 0)
      ||| (if s.gridQuest && s.bit R.gridCfg_quest_local then qQUEST else 0), v.2.2.2)
  else
    let v := streamValue s ((q - 64) / 8) ((q - 64) % 8) t32
    let inv := qHas v.2 qINVALID || before
    (if inv then 0 else v.1, v.2 ||| (if inv then qINVALID else 0) ||| (if s.gridQuest then qQUEST else 0), false)

/-- The increment of position per row in 2^-32 samples: INC, or the preset's row period (R91, R100). -/
def State.rowStep (s : State) : Nat := if s.tracked then s.grid.inc else 96000 / s.presetRate * 2 ^ 32

/-- TSTAMP32 of a grid instant in 2^-32 samples of 96 kHz. -/
def tstamp32 (t32 : Nat) : Word := BitVec.ofNat 32 (t32 * 250000000 / (96000 * 2 ^ 32))

/-- A grid instant in 2^-32 samples of 96 kHz as grid time in ns. -/
def nsOfInstant (t32 : Nat) : Nat := t32 * 1000000000 / (96000 * 2 ^ 32)

/-- Rows are produced: the grid runs and its next instant does not lie at or after a stop (R107). -/
def State.rowDue (s : State) : Bool :=
  s.bit R.gridStat_run && (match s.grid.stopAt with
    | some t => decide (nsOfInstant (s.grid.origin * 2 ^ 24 + s.grid.pos) < t)
    | none => true)

/-- ROW_WRITE (R91, R98, R104): the chain has run to the samples the row needs; an increment due at this row takes effect;
SEALED clears and the row's values and quality bytes are written. -/
def writeRow (s : State) : State :=
  if !s.rowDue then s
  else
    let r := s.grid.row
    let start := s.tracked && r % s.gridN == 0
    let due := match s.grid.next with | some (t, _, _) => start && t == r | none => false
    let point := match s.grid.align with | some (t, _) => t == r | none => false
    let moved := match s.grid.align with | some (_, p) => !point && decide (s.grid.pos < p) | none => false
    let s := if r % s.rowsPerCycle == 0 then probeCycle s else s
    let g := s.grid
    let g := if !start then g else match g.next with
      | some (t, inc, f) => if t = r then { g with freqPrev := g.freq, inc := inc, freq := f, next := none } else { g with freqPrev := g.freq }
      | none => { g with freqPrev := g.freq }
    let s := { s with grid := if point then { g with align := none, aligned := true } else g }
    let t32 := g.origin * 2 ^ 24 + g.pos
    let s := s.engine 3 (rowAcc r true) (fun s => iterUp 576 (fun q s =>
      let v := quantityValue s q t32
      let s := s.setPlane r q v.1 v.2.1
      let s := if q < 32 ∧ qHas v.2.1 qOVR then { s with grid := { s.grid with ovrRow := tset 0 s.grid.ovrRow q (r + 1) } } else s
      if v.2.2 then (s.edgeIf (!s.arrBit R.gridSatStickyLo q) .grid 5).setArrBit R.gridSatStickyLo q true else s)
      (s.setWord (headAddr r + 12) (s.headWord r 3 &&& 0x7FFFFFFF#32)))
    let rec' : RowRec := ⟨r, tstamp32 t32, g.inc, if s.tracked then g.freq else s.fnom, due || !start || point, moved, point⟩
    { s with grid := { s.grid with row := (r + 1) % rowMod, pos := g.pos + s.rowStep, inflight := g.inflight ++ [rec'] } }

end Sys2Proof.Machine
end

