-- ==== Sys2Proof/Machine/Elements.lean ====
section
/-! DEFINITION. What every element type of engine A shares (chapters 08 and 09): the inputs a slot reads, timers, comparisons,
complex arithmetic in binary32. The order of the binary32 operations inside a formula is the model's (log entry 12). -/

namespace Sys2Proof.Machine

/-! ## Binary32 complex numbers -/

abbrev Cx := F32 × F32

def cadd (x y : Cx) : Cx := (fadd x.1 y.1, fadd x.2 y.2)
def csub (x y : Cx) : Cx := (fsub x.1 y.1, fsub x.2 y.2)
def cmul (x y : Cx) : Cx := (fsub (fmul x.1 y.1) (fmul x.2 y.2), fadd (fmul x.1 y.2) (fmul x.2 y.1))
def cconj (x : Cx) : Cx := (x.1, fneg x.2)
def cneg (x : Cx) : Cx := (fneg x.1, fneg x.2)
def cscale (k : F32) (x : Cx) : Cx := (fmul k x.1, fmul k x.2)
def cmag (x : Cx) : F32 := fsqrt (fadd (fmul x.1 x.1) (fmul x.2 x.2))
def cang (x : Cx) : F32 := fAngle x.1 x.2
/-- Magnitude and angle in degrees. -/
def cpolar (m a : F32) : Cx := (fmul m (fCos a), fmul m (fSin a))
/-- Division. -/
def cdiv (x y : Cx) : Cx :=
  let d := fadd (fmul y.1 y.1) (fmul y.2 y.2)
  let n := cmul x (cconj y)
  (fdiv n.1 d, fdiv n.2 d)
/-- a = 1∠120°. -/
def cA : Cx := (fq (-1) 2, 0x3F5DB3D7#32)
/-- a². -/
def cA2 : Cx := (fq (-1) 2, fneg 0x3F5DB3D7#32)

/-- Wrapped to ±180°. -/
def wrap180 (x : F32) : F32 :=
  let q := F32.toQ x
  let k := (q.num + 180 * q.den) / (360 * q.den : Nat)
  (Q.sub q (Q.ofInt (360 * k))).toF32

/-! ## Slots -/

/-- What a slot is evaluated with: the machine at that point of the tick, the slot, the tick row and what the previous commit
holds. `force` is the committed PICKUP, OPERATE and DIR_FWD of a tolerated disagreement (R149). -/
structure Ctx where
  s : State
  e : Nat
  r : Nat
  force : Option (Bool × Bool × Bool) := none

def slotAddr (e : Nat) : Nat := 0xC80000 + 64 * e
def extAddr (e : Nat) : Nat := 0xCD0000 + 16 * e

namespace Ctx

/-- SET word `i` (offset 0x10 + 4 i). -/
def set (c : Ctx) (i : Nat) : Word := c.s.word (slotAddr c.e + 0x10 + 4 * i)
/-- Bits [hi:lo] of SET word `i`. -/
def bits (c : Ctx) (i hi lo : Nat) : Nat := ((c.set i).toNat >>> lo) % 2 ^ (hi + 1 - lo)
/-- STATE word `i` (offset 0x30 + 4 i). -/
def st (c : Ctx) (i : Nat) : Word := c.s.word (slotAddr c.e + 0x30 + 4 * i)
/-- The exact G accumulator: 48 fraction bits (R155). -/
def acc (c : Ctx) : Nat := (c.s.word (extAddr c.e)).toNat + (c.s.word (extAddr c.e + 4)).toNat * 2 ^ 32
/-- Bit `i` of the met states of auxiliary conditions (R156, R158), in the model's own order. -/
def met (c : Ctx) (i : Nat) : Bool := (c.s.word (extAddr c.e + 8)).getLsbD i
/-- Input reference `i` (R139). -/
def ref (c : Ctx) (i : Nat) : Nat := leNat (memBytes c.s.mem (slotAddr c.e + 4 + 2 * i) 2)
/-- The byte of the previous commit. -/
def prev (c : Ctx) : Nat := tget 0 c.s.pea.committed c.e
def pick0 (c : Ctx) : Bool := c.prev.testBit 0
def oper0 (c : Ctx) : Bool := c.prev.testBit 1
/-- Δt in seconds (R155). -/
def dt (c : Ctx) : F32 := fq c.s.pea.dt 250000000
/-- Ticks per window cycle. -/
def w1t (c : Ctx) : Nat := c.s.w1 / c.s.rowsPerTick

end Ctx

/-! ## Inputs (R141)

While the PHE does not run for the tick, its results read 0 with INVALID (R137). -/

def refKind (x : Nat) : Nat := x / 0x1000 % 16
def refIdx (x : Nat) : Nat := x % 0x1000

/-- The phasor of bin `h` of a quantity. -/
def Ctx.bin (c : Ctx) (q h : Nat) : Cx :=
  if !c.s.pea.inputs then (0, 0)
  else (c.s.word (qRec (c.s.pheBuf c.r) q + 8 * h), c.s.word (qRec (c.s.pheBuf c.r) q + 8 * h + 4))

/-- RMS of a quantity. -/
def Ctx.rms (c : Ctx) (q : Nat) : F32 := if !c.s.pea.inputs then 0 else c.s.word (qRec (c.s.pheBuf c.r) q + 0x80)

/-- Magnitude of a QPH input: bin 1, or RMS where MEAS selects it. -/
def Ctx.mag (c : Ctx) (ref : Nat) (meas : Bool) : F32 := if meas then c.rms (refIdx ref) else cmag (c.bin (refIdx ref) 1)

/-- Word at offset `o` of a group's record. -/
def Ctx.grpWord (c : Ctx) (g o : Nat) : Word := if !c.s.pea.inputs then 0 else c.s.word (gRec (c.s.pheBuf c.r) g + o)

/-- Sequence component `k` (V0, V1, V2) of a GRP input. -/
def Ctx.seq (c : Ctx) (ref k : Nat) : Cx := (c.grpWord (refIdx ref) (8 * k), c.grpWord (refIdx ref) (8 * k + 4))

/-- The phase phasors of a GRP input, rebuilt under its ROT (R171). -/
def Ctx.phases (c : Ctx) (ref : Nat) : Cx × Cx × Cx :=
  let x0 := c.seq ref 0; let x1 := c.seq ref 1; let x2 := c.seq ref 2
  let acb := c.s.bit (R.pheGrpCfg_rot (refIdx ref))
  let p := cadd (cadd x0 (cmul cA2 x1)) (cmul cA x2)
  let n := cadd (cadd x0 (cmul cA x1)) (cmul cA2 x2)
  (cadd (cadd x0 x1) x2, if acb then n else p, if acb then p else n)

/-- A residual phasor: the quantity's bin 1, or three times the group's V0 (R153). -/
def Ctx.residual (c : Ctx) (ref : Nat) : Cx :=
  if refKind ref = 2 then cscale (fofInt 3) (c.seq ref 0) else c.bin (refIdx ref) 1

/-- The rows an SMP reference reads: the tick's row, and for N = 192 the row before it (R141). -/
def Ctx.smpRows (c : Ctx) : List Nat := if c.s.tracked && c.s.gridN == 192 then c.s.tickRows c.r else [c.r]

/-- A sample in physical units: the plane value times the scale; an INVALID value reads as 0 (R143). -/
def Ctx.sample (c : Ctx) (r q : Nat) : F32 :=
  if qHas (c.s.planeQual r q) qINVALID then 0 else (Q.mul ⟨c.s.planeVal r q, 1⟩ (F32.toQ (c.s.word (scaleAddr q)))).toF32

/-- The totals buffer of the tick (R276). -/
def State.cumBuf (s : State) (r : Nat) : Nat := 0x1380000 + (r / s.rowsPerTick) % 2 * 0x1000

/-- Phasor total PCk. -/
def Ctx.cumPh (c : Ctx) (k : Nat) : Cx := (c.s.word (c.s.cumBuf c.r + 0x100 + 16 * k), c.s.word (c.s.cumBuf c.r + 0x104 + 16 * k))

/-- Instantaneous total ICk. -/
def Ctx.cumIn (c : Ctx) (k : Nat) : F32 := c.s.word (c.s.cumBuf c.r + 0x500 + 8 * k)

/-- The quality byte of a total by its CUM index. -/
def Ctx.cumQual (c : Ctx) (k : Nat) : Nat :=
  (c.s.word (if k < 64 then c.s.cumBuf c.r + 0x108 + 16 * k else c.s.cumBuf c.r + 0x504 + 8 * (k - 64))).toNat % 256

/-- The bit an ELB, TLN or FIN reference reads (R141, R144): OPERATE of the previous commit, the trip line and the field input
as of the row seal. -/
def Ctx.refBit (c : Ctx) (ref : Nat) : Bool :=
  match refKind ref with
  | 5 => (tget 0 c.s.pea.committed (refIdx ref)).testBit 1
  | 6 => c.s.pea.tlSeal.testBit (refIdx ref)
  | 7 => c.s.pea.finSeal.getLsbD (refIdx ref)
  | _ => false

/-- The quality byte of one input reference; `shift` picks the field of a GRP record a type reads: 0 sequence, 8 frequency,
16 ROCOF. -/
def Ctx.refQual (c : Ctx) (ref shift : Nat) : Nat :=
  match refKind ref with
  | 1 => if c.s.pea.inputs then recQual c.s (c.s.pheBuf c.r) (refIdx ref) else qINVALID
  | 2 => if c.s.pea.inputs then ((c.grpWord (refIdx ref) 0x20).toNat >>> shift) % 256 else qINVALID
  | 3 => c.smpRows.foldl (fun a r => a ||| c.s.planeQual r (refIdx ref)) 0
  | 4 => c.cumQual (refIdx ref)
  | _ => 0

/-! ## Comparisons (R156) -/

/-- An over comparison with drop-off ratio. -/
def above (x l dr : F32) (was : Bool) : Bool := if was then !flt x (fmul dr l) else fge x l
/-- An under comparison with drop-off ratio. -/
def under (x l dr : F32) (was : Bool) : Bool := if was then !fgt x (fmul dr l) else fle x l
/-- A minimum auxiliary condition. -/
def auxMin (x l : F32) (was : Bool) : Bool := F32.isZero l || (if was then !flt x l else fge x (fmul (fq 105 100) l))
/-- A maximum auxiliary condition. -/
def auxMax (x l : F32) (was : Bool) : Bool :=
  if F32.isZero l then F32.isZero x else if was then !fgt x l else fle x (fmul (fq 95 100) l)

/-! ## Timers (R155) -/

def gOne : Nat := 2 ^ 48

/-- A change of G rounded to a whole multiple of 2^-48. -/
def gStep (x : F32) : Nat :=
  if F32.isInf x || F32.isNaN x then gOne
  else
    let q := F32.toQ x
    (roundDiv (q.num * gOne) q.den).toNat

/-- What a tick does to G: it takes a value, or changes by a number of 2^-48 steps and stays within 0 to 1. -/
inductive GMove where
  | to (n : Nat)
  | by_ (d : Int)
  deriving DecidableEq, Repr

/-- G within 0 to 1. -/
def gLimit (x : Int) : Nat := Nat.min gOne x.toNat

/-- Engine A's accumulator after a move. -/
def GMove.on (m : GMove) (g : Nat) : Nat :=
  match m with
  | .to n => n
  | .by_ d => gLimit (g + d)

/-- Engine B's accumulator after a move of slot `e`: it rounds the change, and only the change, by its own arithmetic, within 2^-23 of
the change and one step of engine A's (R155); its result in that span is free. -/
def GMove.onB (m : GMove) (e g : Nat) : Nat :=
  match m with
  | .to n => n
  | .by_ d =>
    let b := d.natAbs / 2 ^ 23 + 1
    gLimit (g + d + (if d = 0 then 0 else (Config.engineB [e, g, d] % (2 * b + 1) : Nat) - (b : Nat)))

/-- The move that advances G by Δt / T; T = 0 makes it 1. -/
def gRise (c : Ctx) (t : F32) : GMove := if F32.isZero t then .to gOne else .by_ (gStep (fdiv c.dt t))

/-- The move that lowers G by Δt / T. -/
def gFall (c : Ctx) (t : F32) : GMove := if F32.isZero t then .to 0 else .by_ (-(gStep (fdiv c.dt t)))

/-- The definite timer: G rises while PICKUP = 1 and is 0 else. -/
def gDef (c : Ctx) (pick : Bool) (t : F32) : GMove := if pick then gRise c t else .to 0

/-- G as binary32. -/
def gF32 (g : Nat) : F32 := fq g gOne

/-- What a type's evaluation gives: decisions, the move of G, the four STATE words, the met bits and the compared values. -/
structure EOut where
  pick : Bool := false
  oper : Bool := false
  fwd : Bool := false
  mv : GMove := .to 0
  st0 : Word := 0
  st1 : Word := 0
  st2 : Word := 0
  st3 : Word := 0
  met : Nat := 0
  cv0 : F32 := 0
  cv1 : F32 := 0
  /-- R149: engine A's margins of PICKUP, OPERATE and DIR_FWD lie inside their bands. -/
  bp : Bool := false
  bo : Bool := false
  bd : Bool := false
  deriving DecidableEq, Repr

/-! ## Bands and the committed value of a tolerated disagreement (R149, R156) -/

/-- The running tick's REL as a ratio (R148): REL / 2^24, REL held to 0x0100 to 0x4000. -/
def State.peaRel (s : State) : F32 := fq (Nat.min 0x4000 (Nat.max 0x0100 s.pea.rel)) (2 ^ 24)

/-- The tolerance at a level. -/
def Ctx.tol (c : Ctx) (lvl abs : F32) : F32 := fmax (fmul c.s.peaRel (fabs lvl)) abs
def inBand (x a b t : F32) : Bool := fge x (fsub (fmin a b) t) && fle x (fadd (fmax a b) t)
/-- A region from `a` to `b`, widened at each end by the tolerance of its own level (R149). -/
def Ctx.spanBand (c : Ctx) (x a b abs : F32) : Bool :=
  let lo := fmin a b; let hi := fmax a b
  fge x (fsub lo (c.tol lo abs)) && fle x (fadd hi (c.tol hi abs))
/-- The band of a comparison of level `l` that clears at `dr · l`. -/
def Ctx.cmpBand (c : Ctx) (x l dr abs : F32) : Bool := c.spanBand x l (fmul dr l) abs
/-- The hysteresis region of a minimum, which is always met where its level is 0, and of a maximum. -/
def Ctx.minBand (c : Ctx) (x l abs : F32) : Bool := !F32.isZero l && inBand x l (fmul (fq 105 100) l) (c.tol l abs)
def Ctx.maxBand (c : Ctx) (x l abs : F32) : Bool := inBand x (fmul (fq 95 100) l) l (c.tol l abs)
/-- The OPERATE band of a timer: from 1 less the tick's increment of G. -/
def Ctx.gBand (c : Ctx) (g : Nat) : Bool :=
  inBand (gF32 g) (fsub f32One (gF32 (g - c.acc))) f32One (fmax c.s.peaRel (fq 1 1048576))

/-- PICKUP as committed. -/
def Ctx.fp (c : Ctx) (b : Bool) : Bool := match c.force with | some f => f.1 | none => b
/-- OPERATE as committed. -/
def Ctx.fo (c : Ctx) (b : Bool) : Bool := match c.force with | some f => f.2.1 | none => b
/-- DIR_FWD as committed. -/
def Ctx.fd (c : Ctx) (b : Bool) : Bool := match c.force with | some f => f.2.2 | none => b
/-- A comparison's own memory: the committed PICKUP where its value lies in its band. -/
def Ctx.fc (c : Ctx) (band b : Bool) : Bool := if band then c.fp b else b
/-- G where OPERATE is committed as 1 with PICKUP. -/
def Ctx.fg (c : Ctx) (pick : Bool) (m : GMove) : GMove := match c.force with | some f => if f.2.1 && pick then .to gOne else m | none => m

/-- A number from its bits, bit 0 first. -/
def packBits (l : List Bool) : Nat := l.foldr (fun b a => b2n b + 2 * a) 0

end Sys2Proof.Machine
end

