-- ==== Sys2Proof/Machine/ElementTypes.lean ====
section
/-! DEFINITION. The 24 element types of the catalogue (chapters 09 and 10): what engine A computes for one slot on one tick. The
order of the bits each type keeps in bytes 8 to 11 of its extended state is the model's own (R158, log entry 12). -/

namespace Sys2Proof.Machine

/-! ## Shared by several types -/

def degOf (tenths : Int) : F32 := fq tenths 10
def pct (n : Nat) : F32 := fq n 100

/-- A reference that is not NONE and whose bit reads 1. -/
def Ctx.inBit (c : Ctx) (i : Nat) : Bool := c.refBit (c.ref i)

/-- An OPERATE hold timed by HT (R167, R169, R184): the output and HT. -/
def holdOut (c : Ctx) (pick set : Bool) (t : F32) : Bool × F32 :=
  if pick then (c.fo (set || c.oper0), 0)
  else if c.oper0 then
    let ht := fadd (c.st 1) c.dt
    let on := c.fo (flt ht t)
    (on, if on then fmin ht t else 0)
  else (c.fo false, 0)

/-- HT within one tick of the hold time. -/
def holdBand (c : Ctx) (pick : Bool) (t : F32) : Bool :=
  !pick && c.oper0 && fle (fabs (fsub (fadd (c.st 1) c.dt) t)) c.dt

/-- Direction with hysteresis on |φ|: forward below `lo`, no longer forward above `hi`. -/
def dirHyst (phi lo hi : F32) (was : Bool) : Bool := if was then !fgt (fabs phi) hi else flt (fabs phi) lo

/-- Phase phasors from sequence components under a rotation (R171). -/
def rebuild (acb : Bool) (x0 x1 x2 : Cx) : Cx × Cx × Cx :=
  let p := cadd (cadd x0 (cmul cA2 x1)) (cmul cA x2)
  let n := cadd (cadd x0 (cmul cA x1)) (cmul cA2 x2)
  (cadd (cadd x0 x1) x2, if acb then n else p, if acb then p else n)

/-- A definite-time element: PICKUP, OPERATE once G reaches 1, G back to 0 without PICKUP (R155). -/
def definite (c : Ctx) (pick : Bool) (t : F32) (met : Nat) (cv0 : F32) (band : Bool) : EOut :=
  let mv := c.fg pick (gDef c pick t)
  let g := mv.on c.acc
  { pick := pick, oper := c.fo (pick && decide (gOne ≤ g)), mv := mv, st0 := gF32 g, met := met, cv0 := cv0, cv1 := gF32 g
    bp := band, bo := c.gBand g }

/-! ## Overcurrent (R159 to R164) -/

/-- curve(M) of R160. -/
def curveTime (c : Ctx) (m : F32) : F32 :=
  let tms := c.set 1
  let one := f32One
  let p := fPow02 m
  let sq := fmul m m
  match c.bits 4 3 0 with
  | 1 => fdiv (fmul tms (fq 14 100)) (fsub p one)
  | 2 => fdiv (fmul tms (fq 135 10)) (fsub m one)
  | 3 => fdiv (fmul tms (fofInt 80)) (fsub sq one)
  | 4 => fdiv (fmul tms (fofInt 120)) (fsub m one)
  | 5 => fmul tms (fadd (fdiv (fq 515 10000) (fsub p one)) (fq 1140 10000))
  | 6 => fmul tms (fadd (fdiv (fq 1961 100) (fsub sq one)) (fq 491 1000))
  | 7 => fmul tms (fadd (fdiv (fq 282 10) (fsub sq one)) (fq 1217 10000))
  | _ => tms

/-- t(M) of R160. -/
def operTime (c : Ctx) (m : F32) : F32 := fmax (curveTime c (fmin m (fofInt (c.bits 4 23 16)))) (c.set 3)

/-- The move of G, and HT, while PICKUP = 0 (R161). With M at −1 or less, which only DEF under COSPHI can measure, tr(M) is not positive and
the G it leads to is not stated: a free value. -/
def resetG (c : Ctx) (m : F32) : GMove × F32 :=
  let tr := c.set 2
  let one := f32One
  match c.bits 4 5 4 with
  | 1 =>
    if F32.isZero tr then (.to 0, 0)
    else
      let ht := if flt (c.st 1) tr then fadd (c.st 1) c.dt else c.st 1
      (if fge ht tr then .to 0 else .by_ 0, ht)
  | 2 =>
    if F32.isZero tr then (.to 0, 0)
    else if c.bits 4 3 0 = 0 then (gFall c tr, 0)
    else if fge m one then (.by_ 0, 0)
    else if fle m (fneg one) then (.to (Nat.min gOne (Config.diskBack m c.acc)), 0)
    else (gFall c (fdiv (fmul (c.set 1) tr) (fsub one (fmul m m))), 0)
  | _ => (.to 0, 0)

/-- The timer of the overcurrent types: the move of G and HT from PICKUP, M and HBLK (R159 to R161). While HBLK holds the slot, M is
limited to ± DR, so that G falls at least as fast as just below drop-off (R159). -/
def ocTimer (c : Ctx) (pick hblk : Bool) (m : F32) : GMove × F32 :=
  let dr := pct (c.bits 4 15 8)
  if pick then (c.fg pick (if fgt m f32One then gRise c (operTime c m) else .by_ 0), 0)
  else resetG c (if hblk then fmax (fneg dr) (fmin m dr) else m)

/-- What the overcurrent types give from their decision, timer and compared values. -/
def ocOut (c : Ctx) (pick : Bool) (t : GMove × F32) (o : EOut) : EOut :=
  let g := t.1.on c.acc
  { o with pick := pick, oper := c.fo (pick && decide (gOne ≤ g)), mv := t.1, st0 := gF32 g, st1 := t.2, bo := c.gBand g }

/-- ABS of CV0 as a share of the level in SET word 0 (R153). -/
def ocAbs (c : Ctx) : F32 := fmul (c.set 0) (fq 1 16384)

/-- PH_OC, EF_OC and NS_OC from their operate current and HBLK. -/
def evalOc (c : Ctx) (cur : F32) (hblk : Bool) : EOut :=
  let m := fdiv cur (c.set 0)
  let dr := pct (c.bits 4 15 8)
  let pick := c.fp (above cur (c.set 0) dr c.pick0) && !hblk
  let t := ocTimer c pick hblk m
  ocOut c pick t { cv0 := cur, cv1 := gF32 (t.1.on c.acc), bp := c.cmpBand cur (c.set 0) dr (ocAbs c) }

/-- The largest of three. -/
def max3 (a b d : F32) : F32 := fmax (fmax a b) d
def min3 (a b d : F32) : F32 := fmin (fmin a b) d

def evalPhOc (c : Ctx) : EOut :=
  let ms := (c.bits 4 6 6 == 1)
  evalOc c (max3 (c.mag (c.ref 0) ms) (c.mag (c.ref 1) ms) (c.mag (c.ref 2) ms)) (c.inBit 3)

/-- The magnitude of a residual quantity: RMS where MEAS selects it, on a QPH reference only (R159, R165). -/
def Ctx.residualMag (c : Ctx) (ref : Nat) (rms : Bool) : F32 :=
  if rms && refKind ref == 1 then c.rms (refIdx ref) else cmag (c.residual ref)

def evalEfOc (c : Ctx) : EOut := evalOc c (c.residualMag (c.ref 0) (c.bits 4 6 6 == 1)) (c.inBit 1)

def evalNsOc (c : Ctx) : EOut := evalOc c (cmag (c.seq (c.ref 0) 2)) (c.inBit 1)

/-- The three quadrature voltages Vbc, Vca, Vab from V1 and V2 (R162). -/
def quadratures (acb : Bool) (v1 v2 : Cx) : List Cx :=
  let p := rebuild acb (0, 0) v1 v2
  [csub p.2.1 p.2.2, csub p.2.2 p.1, csub p.1 p.2.1]

/-- PH_DOC (R162). -/
def evalPhDoc (c : Ctx) : EOut :=
  let ia := c.bin (refIdx (c.ref 0)) 1; let ib := c.bin (refIdx (c.ref 1)) 1; let ic := c.bin (refIdx (c.ref 2)) 1
  let cur := [ia, ib, ic]
  let mags := cur.map cmag
  let acb := c.s.bit (R.pheGrpCfg_rot (refIdx (c.ref 3)))
  let v1 := c.seq (c.ref 3) 1; let v2 := c.seq (c.ref 3) 2
  let live := quadratures acb v1 v2
  let memv := quadratures acb (cpolar f32One (c.st 2)) (0, 0)
  let minOk := (List.range 3).map (fun p => auxMin (cmag (live.getD p (0, 0))) (c.set 6) (c.met p))
  let all3 := minOk.all id
  let usable := flt (c.st 3) (fq (c.bits 7 31 16) 1000)
  let hys := degOf (c.bits 7 7 0)
  let lo := fsub (fofInt 90) hys; let hi := fadd (fofInt 90) hys
  let dr := pct (c.bits 4 15 8)
  let ovB := fun p => c.cmpBand (mags.getD p 0) (c.set 0) dr (ocAbs c)
  let overs := (List.range 3).map (fun p => c.fc (ovB p) (above (mags.getD p 0) (c.set 0) dr (c.met (3 + p))))
  let known := (List.range 3).map (fun p => minOk.getD p false || usable)
  let phis := (List.range 3).map (fun p =>
    let vq := if minOk.getD p false then live.getD p (0, 0) else memv.getD p (0, 0)
    wrap180 (fsub (fsub (cang (cur.getD p (0, 0))) (cang vq)) (c.set 5)))
  let fwds := (List.range 3).map (fun p => known.getD p false && dirHyst (phis.getD p 0) lo hi (c.met (6 + p)))
  let mode := c.bits 7 9 8
  let match' := fun p =>
    if mode = 2 then true
    else if known.getD p false then (fwds.getD p false == (mode == 0)) else c.bits 7 10 10 == 1
  let pick := c.fp ((List.range 3).any (fun p => overs.getD p false && match' p))
  let big := if fge (mags.getD 0 0) (mags.getD 1 0) && fge (mags.getD 0 0) (mags.getD 2 0) then 0
    else if fge (mags.getD 1 0) (mags.getD 2 0) then 1 else 2
  let angB := fun p => known.getD p false && inBand (fabs (phis.getD p 0)) lo hi (c.tol (fofInt 90) (fq 2 100))
  let vB := fun p => c.minBand (cmag (live.getD p (0, 0))) (c.set 6) (ocAbs c)
  let band := (List.range 3).any (fun p => ovB p || (mode != 2 && vB p))
  let dir := c.fd (fwds.getD big false)
  let fwds := fwds.set big dir
  let cur0 := max3 (mags.getD 0 0) (mags.getD 1 0) (mags.getD 2 0)
  let m := fdiv cur0 (c.set 0)
  ocOut c pick (ocTimer c pick false m)
  { fwd := dir
    st2 := if all3 then cang v1 else c.st 2, st3 := if all3 then 0 else fadd (c.st 3) c.dt
    met := packBits (minOk ++ overs ++ fwds), cv0 := cur0, cv1 := phis.getD big 0, bp := band, bd := angB big || vB big }

/-- DEF (R163). -/
def evalDef (c : Ctx) : EOut :=
  let i0 := c.residual (c.ref 0); let v0 := c.residual (c.ref 1)
  let hblk := c.inBit 2
  let polOk := auxMin (cmag v0) (c.set 6) (c.met 0)
  let phi := wrap180 (fsub (fsub (cang i0) (cang (cneg v0))) (c.set 5))
  let hys := degOf (c.bits 7 7 0)
  let mode := c.bits 7 9 8
  let cosphi := c.bits 7 11 11 == 1
  let cp := fCos phi
  let fwd := polOk && (if cosphi then fgt cp 0 else dirHyst phi (fsub (fofInt 90) hys) (fadd (fofInt 90) hys) (c.met 1))
  let x := if cosphi then fmul (cmag i0) cp else cmag i0
  let x := if !cosphi then x else if mode = 1 then fneg x else if mode = 2 then fabs x else x
  let dirOk := cosphi || mode == 2 || (fwd == (mode == 0))
  let dr := pct (c.bits 4 15 8)
  let ovB := c.cmpBand x (c.set 0) dr (ocAbs c)
  let ov := c.fc ovB (above x (c.set 0) dr (c.met 2)) && !hblk
  let vB := c.minBand (cmag v0) (c.set 6) (ocAbs c)
  let angB := polOk && inBand (fabs phi) (fsub (fofInt 90) hys) (fadd (fofInt 90) hys) (c.tol (fofInt 90) (fq 2 100))
  let fwd := c.fd fwd
  let pick := c.fp (ov && dirOk && polOk) && !hblk
  ocOut c pick (ocTimer c pick hblk (fdiv x (c.set 0)))
  { fwd := fwd && polOk && !hblk, met := packBits [polOk, fwd, ov], cv0 := x, cv1 := phi, bp := ovB || vB, bd := angB || vB }

/-! ## Voltage (R165) -/

/-- The three measured magnitudes of PH_UV and PH_OV. -/
def phaseVolts (c : Ctx) : F32 × F32 × F32 :=
  if c.bits 3 9 9 = 1 then
    let a := c.bin (refIdx (c.ref 0)) 1; let b := c.bin (refIdx (c.ref 1)) 1; let d := c.bin (refIdx (c.ref 2)) 1
    (cmag (csub a b), cmag (csub b d), cmag (csub d a))
  else
    let ms := (c.bits 3 8 8 == 1)
    (c.mag (c.ref 0) ms, c.mag (c.ref 1) ms, c.mag (c.ref 2) ms)

/-- PH_UV (`uv`) and PH_OV. -/
def evalPhV (uv : Bool) (c : Ctx) : EOut :=
  let v := phaseVolts c
  let vs := [v.1, v.2.1, v.2.2]
  let dr := pct (c.bits 3 7 0)
  let all := c.bits 3 10 10 == 1
  let cmpB := fun p => c.cmpBand (vs.getD p 0) (c.set 0) dr (ocAbs c)
  let cmp := (List.range 3).map (fun p =>
    c.fc (cmpB p) (if uv then under (vs.getD p 0) (c.set 0) dr (c.met p) else above (vs.getD p 0) (c.set 0) dr (c.met p)))
  let blk := uv && !F32.isZero (c.set 2)
  let dead := (List.range 3).map (fun p => blk && auxMax (vs.getD p 0) (c.set 2) (c.met (3 + p)))
  let ph := (List.range 3).map (fun p => cmp.getD p false && !dead.getD p false)
  let pick := c.fp (if all then ph.all id else ph.any id)
  let band := (List.range 3).any (fun p => cmpB p || (blk && c.maxBand (vs.getD p 0) (c.set 2) (ocAbs c)))
  definite c pick (c.set 1) (packBits (cmp ++ dead)) (if uv == all then max3 v.1 v.2.1 v.2.2 else min3 v.1 v.2.1 v.2.2) band

/-- RES_OV. -/
def evalResOv (c : Ctx) : EOut :=
  let x := c.residualMag (c.ref 0) (c.bits 3 8 8 == 1)
  let dr := pct (c.bits 3 7 0)
  definite c (c.fp (above x (c.set 0) dr c.pick0)) (c.set 1) 0 x (c.cmpBand x (c.set 0) dr (ocAbs c))

/-! ## Frequency, ROCOF, vector shift (R166, R167) -/

/-- The undervoltage condition |V1| < UVB: a maximum (R156, R166). -/
def uvCond (c : Ctx) : Bool := auxMax (cmag (c.seq (c.ref 0) 1)) (c.set 3) (c.met 0)
def uvBand (c : Ctx) (abs : F32) : Bool := c.maxBand (cmag (c.seq (c.ref 0) 1)) (c.set 3) abs

/-- FREQ. -/
def evalFreq (c : Ctx) : EOut :=
  let f := c.grpWord (refIdx (c.ref 0)) 0x18
  let fs := c.set 0
  let low := uvCond c
  let cmp := if c.bits 4 0 0 = 1 then (if c.pick0 then !flt f (fsub fs (c.set 2)) else fge f fs)
    else (if c.pick0 then !fgt f (fadd fs (c.set 2)) else fle f fs)
  let far := if c.bits 4 0 0 = 1 then fsub fs (c.set 2) else fadd fs (c.set 2)
  definite c (c.fp cmp && !low) (c.set 1) (b2n low) f (inBand f fs far (c.tol fs (fq 2 10000)) || uvBand c (fq 2 10000))

/-- ROCOF. -/
def evalRocof (c : Ctx) : EOut :=
  let d := c.grpWord (refIdx (c.ref 0)) 0x1C
  let low := uvCond c
  let x := match c.bits 4 1 0 with | 0 => d | 1 => fneg d | _ => fabs d
  let band := c.cmpBand x (c.set 0) (c.set 2) (fq 2 1000) || uvBand c (fq 2 1000)
  definite c (c.fp (above x (c.set 0) (c.set 2) c.pick0) && !low) (c.set 1) (b2n low) d band

/-- `x` to the power `n`. -/
def fpowNat (x : F32) : Nat → F32
  | 0 => f32One
  | n + 1 => fmul x (fpowNat x n)

/-- VSHIFT. Met bit 0 is the undervoltage condition, bit 1 says that φ′ is loaded. -/
def evalVshift (c : Ctx) : EOut :=
  let v1 := c.seq (c.ref 0) 1
  let phi := cang v1
  let low := uvCond c
  if !c.met 1 || c.s.pea.dt = 0 then
    { pick := c.pick0 && !low, oper := c.oper0 && !low, st0 := c.st 0, st1 := c.st 1, st2 := phi, st3 := c.st 3
      met := packBits [low, true] }
  else
    let w := c.w1t
    let k := fsub f32One (fq 1 w)
    let d := fsub (wrap180 (fsub phi (c.st 2))) (c.st 3)
    let sv := fadd (fmul (c.st 0) k) d
    let a := fadd (c.st 3) (fmul (fdiv c.dt (c.set 2)) d)
    let vs := fdiv sv (fsub f32One (fpowNat k w))
    let pick := c.fp (above (fabs vs) (c.set 0) (fq 90 100) c.pick0) && !low
    let h := holdOut c pick true (c.set 1)
    let band := c.cmpBand (fabs vs) (c.set 0) (fq 90 100) (fq 2 100)
    { pick := pick, oper := h.1 && !low, st0 := sv, st1 := h.2, st2 := phi, st3 := a, met := packBits [low, true], cv0 := vs
      bp := band || uvBand c (fq 2 100), bo := band }

/-! ## Thermal overload (R168) -/

def evalTherm (c : Ctx) : EOut :=
  let ms := (c.bits 7 16 16 == 1)
  let i := max3 (c.mag (c.ref 0) ms) (c.mag (c.ref 1) ms) (c.mag (c.ref 2) ms)
  let r := fdiv i (fmul (c.set 1) (c.set 0))
  let m2 := fmul r r
  let th := Q.add (F32.toQ (c.st 0)) (F32.toQ (c.st 1))
  let tau := if Q.lt th (F32.toQ m2) then c.set 2 else c.set 3
  let d := fmul (fdiv c.dt tau) (Q.sub (F32.toQ m2) th).toF32
  let new := Q.add th (F32.toQ d)
  let hi := new.toF32
  let lo := (Q.sub new (F32.toQ hi)).toF32
  let ge := fun (x : F32) => Q.le (F32.toQ x) new
  let pick := if c.pick0 then ge (fsub (c.set 4) (fq 2 100)) else ge (c.set 4)
  let oper := if c.oper0 then ge (c.set 6) else ge (c.set 5)
  let u := fq 1 1000000
  { pick := c.fp pick, oper := c.fo oper, st0 := hi, st1 := lo, cv0 := hi, cv1 := m2
    bp := c.spanBand hi (fsub (c.set 4) (fq 2 100)) (c.set 4) u, bo := c.spanBand hi (c.set 6) (c.set 5) u }

/-- Engine B's θ after the tick, Q4.36 (R168); the direction of its rounding is free. -/
def thermB (c : Ctx) (th : Int) : Int :=
  let ms := (c.bits 7 16 16 == 1)
  let i := max3 (c.mag (c.ref 0) ms) (c.mag (c.ref 1) ms) (c.mag (c.ref 2) ms)
  let r := Q.div (F32.toQ i) (Q.mul (F32.toQ (c.set 1)) (F32.toQ (c.set 0)))
  let m2 := Q.mul r r
  let t : Q := ⟨th, 2 ^ 36⟩
  let tau := F32.toQ (if Q.lt t m2 then c.set 2 else c.set 3)
  let d := Q.mul (Q.div ⟨c.s.pea.dt, 250000000⟩ tau) (Q.sub m2 t)
  let x := Q.mul (Q.add t d) ⟨2 ^ 36, 1⟩
  qRound 20 [c.e, th] x.num x.den

/-! ## Transformer supervision (R169) -/

/-- CTS. -/
def evalCts (c : Ctx) : EOut :=
  let i0 := cscale (fofInt 3) (c.seq (c.ref 0) 0)
  let m1 := c.bits 4 0 0 == 1
  let x := if m1 then cmag (csub i0 (c.bin (refIdx (c.ref 2)) 1)) else cmag i0
  let ovB := c.cmpBand x (c.set 0) (fq 95 100) (ocAbs c)
  let ov := c.fc ovB (above x (c.set 0) (fq 95 100) (c.met 0))
  let v0 := cmag (cscale (fofInt 3) (c.seq (c.ref 1) 0))
  let low := auxMax v0 (c.set 1) (c.met 1)
  let pick := c.fp (ov && (m1 || low))
  let mv := gDef c pick (c.set 2)
  let g := mv.on c.acc
  let h := holdOut c pick (decide (gOne ≤ g)) (c.set 3)
  { pick := pick, oper := h.1, mv := mv, st0 := gF32 g, st1 := h.2, met := packBits [ov, low], cv0 := x, cv1 := gF32 g
    bp := ovB || (!m1 && c.maxBand v0 (c.set 1) (ocAbs c)), bo := c.gBand g || holdBand c pick (c.set 3) }

/-- VTS. -/
def evalVts (c : Ctx) : EOut :=
  let v1 := cmag (c.seq (c.ref 0) 1); let v2 := cmag (c.seq (c.ref 0) 2)
  let i1 := cmag (c.seq (c.ref 1) 1); let i2 := cmag (c.seq (c.ref 1) 2)
  let asym := c.bits 7 0 0 == 1; let sym := c.bits 7 1 1 == 1
  let ab := ocAbs c
  let aB := asym && c.cmpBand v2 (c.set 0) (fq 95 100) ab
  let sB := sym && c.cmpBand v1 (c.set 2) (fq 105 100) ab
  let a0 := c.fc aB (above v2 (c.set 0) (fq 95 100) (c.met 0))
  let a1 := auxMax i2 (c.set 1) (c.met 1)
  let s0 := c.fc sB (under v1 (c.set 2) (fq 105 100) (c.met 2))
  let s1 := auxMin i1 (c.set 3) (c.met 3)
  let s2 := auxMax i1 (c.set 4) (c.met 4)
  let pick := c.fp ((asym && a0 && a1) || (sym && s0 && s1 && s2))
  let band := aB || (asym && c.maxBand i2 (c.set 1) ab) || sB
    || (sym && (c.minBand i1 (c.set 3) ab || c.maxBand i1 (c.set 4) ab))
  let mv := gDef c pick (c.set 5)
  let g := mv.on c.acc
  let h := holdOut c pick (decide (gOne ≤ g)) (c.set 6)
  { pick := pick, oper := h.1, mv := mv, st0 := gF32 g, st1 := h.2, met := packBits [a0, a1, s0, s1, s2], cv0 := v2, cv1 := v1
    bp := band, bo := c.gBand g || holdBand c pick (c.set 6) }

/-! ## Distance (R172 to R178)

Met bits of a zone: 0 to 5 |Vp| by loop, 6 to 11 |I| by loop, 12 |V1| (head), 13 memory usable (head), 14 to 19 the direction by loop with
the unmirrored current. -/

/-- The head's polarising memory on one tick: AUX0, AUX1, |V1| met, usable (R178). `upd` is false while the head's state
holds. -/
def distMemory (c : Ctx) (upd : Bool) : F32 × F32 × Bool × Bool :=
  let v1 := c.seq (c.ref 1) 1
  let live := auxMin (cmag v1) (c.set 6) (c.met 12)
  let memt := fq (2 * (c.bits 7 29 22)) 1000
  if !upd then (c.st 2, c.st 3, live, flt (c.st 3) memt)
  else if live then (cang v1, 0, true, flt 0 memt)
  else (c.st 2, fadd (c.st 3) c.dt, false, flt (c.st 3) memt)

/-- The polarising forms of the six loops for a positive-sequence voltage (R173). -/
def polForms (acb : Bool) (v1 : Cx) : List Cx :=
  let a := if acb then cA2 else cA
  let a2 := if acb then cA else cA2
  let k := csub (f32One, 0) a2
  [v1, cmul a2 v1, cmul a v1, cmul k v1, cmul (cmul k a2) v1, cmul (cmul k a) v1]

/-- One loop of a zone. -/
structure LoopRes where
  m : F32 := f32Inf
  /-- The angle φ with the current the comparison uses. -/
  phi : F32 := 0
  fwd : Bool := false
  /-- The direction with the unmirrored current. -/
  fwd0 : Bool := false
  pick : Bool := false
  vMet : Bool := false
  iMet : Bool := false
  /-- φ has a meaning: the polarisation is live or memorised. -/
  known : Bool := false
  on : Bool := false
  /-- The loop's m, |Vp| or |I| lies in its band; and its angle. -/
  band : Bool := false
  angB : Bool := false
  deriving DecidableEq, Repr, Inhabited

/-- R175 and R176. -/
def mho (v i vp zr : Cx) : F32 :=
  let d := (cmul (cmul i zr) (cconj vp)).1
  if fgt d 0 then fdiv (cmul v (cconj vp)).1 d else f32Inf

def quad (c : Ctx) (v i : Cx) : F32 :=
  if F32.isZero (cmag i) then f32Inf
  else
    let z := cdiv v i
    let sn := fSin (c.set 1)
    let cot := fdiv (fCos (c.set 1)) sn
    let xc := fmul z.2 cot
    max3 (fdiv z.2 (fmul (c.set 0) sn)) (fdiv (fsub z.1 xc) (c.set 2)) (fdiv (fsub xc z.1) (c.set 2))

/-- Loop `k` of a zone; `hd` is the head's context and `aux0`, `usable` its memory on this tick. -/
def evalLoop (isQuad : Bool) (c hd : Ctx) (aux0 : F32) (usable : Bool) (k : Nat) : LoopRes :=
  if c.bits 7 (6 + k) (6 + k) = 0 then {}
  else
    let iP := c.phases (c.ref 0); let vP := c.phases (c.ref 1)
    let k0 := cpolar (fq (hd.bits 3 15 0) 1000) (degOf (signedOf 16 (hd.bits 3 31 16)))
    let r := cmul k0 (cscale (fofInt 3) (c.seq (c.ref 0) 0))
    let pick3 := fun (x : Cx × Cx × Cx) n => if n = 0 then x.1 else if n = 1 then x.2.1 else x.2.2
    let v := if k < 3 then pick3 vP k else csub (pick3 vP (k - 3)) (pick3 vP ((k - 2) % 3))
    let i0 := if k < 3 then cadd (pick3 iP k) r else csub (pick3 iP (k - 3)) (pick3 iP ((k - 2) % 3))
    let i := if c.bits 7 3 3 = 1 then cneg i0 else i0
    let acb := c.s.bit (R.pheGrpCfg_rot (refIdx (c.ref 1)))
    let vpLive := if c.bits 7 4 4 = 0 then v else (polForms acb (c.seq (c.ref 1) 1)).getD k (0, 0)
    let vMet := auxMin (cmag vpLive) (hd.set 6) (c.met k)
    let iMet := auxMin (cmag i) (c.set 5) (c.met (6 + k))
    let known := vMet || usable
    let zr := cpolar (c.set 0) (c.set 1)
    let free := !known && c.bits 7 5 5 == 1
    let vp := if vMet then vpLive else if usable then (polForms acb (cpolar f32One aux0)).getD k (0, 0) else cmul i zr
    let m := if isQuad then quad c v i else if known || free then mho v i vp zr else f32Inf
    let phi := wrap180 (fsub (fadd (cang i) (c.set 1)) (cang vp))
    let fwd := known && dirHyst phi (fofInt 88) (fofInt 92) ((c.st 1).getLsbD (8 + k))
    let phi0 := wrap180 (fsub (fadd (cang i0) (c.set 1)) (cang vp))
    let fwd0 := known && dirHyst phi0 (fofInt 88) (fofInt 92) (c.met (14 + k))
    let dr := pct (c.bits 7 18 12)
    let mB := !F32.isInf m && c.cmpBand m f32One dr (fq 1 16384)
    let inside := c.fc mB (under m f32One dr ((c.st 1).getLsbD k))
    let angB := known && inBand (fabs phi) (fofInt 88) (fofInt 92) (c.tol (fofInt 90) (fq 2 100))
    let band := mB || c.minBand (cmag vpLive) (hd.set 6) (fq 1 16384) || c.minBand (cmag i) (c.set 5) (fq 1 16384)
    { band := band, angB := angB, m := m, phi := phi, fwd := fwd, fwd0 := fwd0, pick := iMet && inside && (fwd || free), vMet := vMet, iMet := iMet, known := known, on := true }

/-- The enabled loop of smallest m among those that satisfy `p`, lowest loop first. -/
def leastLoop (l : List LoopRes) (p : LoopRes → Bool) : Option Nat :=
  (List.range 6).foldl (fun (a : Option Nat) k =>
    let x := l.getD k {}
    if x.on && p x then (match a with | some b => if flt x.m (l.getD b {}).m then some k else a | none => some k) else a) none

/-- A distance slot, head or follower (R172 to R178). The committed DIR_FWD of a tolerated disagreement becomes the selected loop's
direction. -/
def evalDist (isQuad isHead : Bool) (c : Ctx) : EOut :=
  let hd : Ctx := if isHead then c else { c with e := c.e - c.bits 7 21 19 }
  let mem := distMemory c true
  let aux0 := if isHead then mem.1 else hd.st 2
  let usable := if isHead then mem.2.2.2 else hd.met 13
  let loops := (List.range 6).map (evalLoop isQuad c hd aux0 usable)
  let hblk := c.inBit 2
  let pick := c.fp (loops.any (·.pick)) && !hblk
  let k := ((leastLoop loops (·.pick)).orElse (fun _ => leastLoop loops (fun _ => true))).getD 0
  let sel := loops.getD k {}
  let rev := c.bits 7 3 3 == 1
  let dir := sel.known && c.fd sel.fwd0
  let loops := loops.set k { sel with fwd0 := dir, fwd := if rev then sel.fwd else dir }
  let mv := c.fg pick (gDef c pick (c.set 4))
  let g := mv.on c.acc
  let lb := packBits (loops.map (·.pick)) + packBits (loops.map (·.fwd)) * 2 ^ 8
  { pick := pick, oper := c.fo (pick && decide (gOne ≤ g)), fwd := dir && !hblk, mv := mv, st0 := gF32 g, st1 := BitVec.ofNat 32 lb
    bp := loops.any (·.band), bo := c.gBand g, bd := sel.angB
    st2 := if isHead then mem.1 else 0, st3 := if isHead then mem.2.1 else 0
    met := packBits (loops.map (·.vMet) ++ loops.map (·.iMet) ++ [isHead && mem.2.2.1, isHead && mem.2.2.2] ++ loops.map (·.fwd0))
    cv0 := sel.m, cv1 := sel.phi }

/-! ## Restrained differential (R180 to R183) -/

def evalDiff (c : Ctx) : EOut :=
  let idv := cmag (c.cumPh (refIdx (c.ref 0)))
  let sum := c.cumIn (refIdx (c.ref 1) - 64)
  let ir := if c.bits 7 8 8 = 1 then sum else fdiv sum (fofInt 2)
  let ib2 := c.set 2
  let thr := fmax (c.set 0) (fadd (fmul (c.set 1) (fmin ir ib2)) (fmul (c.set 3) (fmax (fsub ir ib2) 0)))
  let m := fdiv idv thr
  let hblk := c.inBit 2
  let h2 := c.set 5
  let id2 := cmag (c.cumPh (refIdx (c.ref 3)))
  let harm := F32.isZero h2 || (flt id2 (c.set 0) && flt idv (c.set 0)) || auxMax id2 (fmul h2 idv) (c.st 3 == f32One)
  let ovB := c.cmpBand m f32One (pct (c.bits 7 7 0)) (fq 1 16384)
  let ov := c.fc ovB (above m f32One (pct (c.bits 7 7 0)) (c.met 0))
  let pick := c.fp (ov && harm) && !hblk
  let un := !F32.isZero (c.set 4) && above idv (c.set 4) (fq 95 100) (c.st 2 == f32One)
  let unB := !F32.isZero (c.set 4) && c.cmpBand idv (c.set 4) (fq 95 100) (ocAbs c)
  let mv := gDef c pick (c.set 6)
  let full := pick && decide (gOne ≤ mv.on c.acc)
  let oper := c.fo (full || un)
  let un := if c.force.isNone then un else oper && (un || (unB && !full))
  let mv := if c.force.isSome && oper && pick && !un then .to gOne else mv
  let g := mv.on c.acc
  { bp := ovB || (!F32.isZero h2 && c.maxBand id2 (fmul h2 idv) (ocAbs c)), bo := c.gBand g || unB
    pick := pick, oper := oper, mv := mv, st0 := gF32 g, st1 := c.st 1
    st2 := if un then f32One else 0, st3 := if harm then f32One else 0, met := b2n ov, cv0 := idv, cv1 := ir }

/-! ## Harmonic restraint (R184) -/

/-- From the fundamental, 2nd and 5th harmonic magnitudes of the judged phases. -/
def evalHarm (c : Ctx) (phs : List (F32 × F32 × F32)) : EOut :=
  let term := fun (h x x1 : F32) => if F32.isZero h then 0 else fdiv x (fmul h x1)
  let mets := (List.range phs.length).map (fun p => auxMin (phs.getD p (0, 0, 0)).1 (c.set 2) (c.met p))
  let m := (List.range phs.length).foldl (fun a p =>
    let x := phs.getD p (0, 0, 0)
    if mets.getD p false then fmax a (fmax (term (c.set 0) x.2.1 x.1) (term (c.set 1) x.2.2 x.1)) else a) 0
  let pick := c.fp (above m f32One (fq 90 100) c.pick0)
  let h := holdOut c pick true (c.set 3)
  let band := c.cmpBand m f32One (fq 90 100) (fq 1 16384)
    || (List.range phs.length).any (fun p => c.minBand (phs.getD p (0, 0, 0)).1 (c.set 2) (fq 1 16384))
  { bp := band, bo := band || holdBand c pick (c.set 3), pick := pick, oper := h.1, st1 := h.2, met := packBits mets, cv0 := m }

def evalHarmCum (c : Ctx) : EOut :=
  let tot := fun i p => if refKind (c.ref i) = 4 then cmag (c.cumPh (refIdx (c.ref i) + p)) else 0
  evalHarm c ((List.range (if c.bits 4 0 0 = 1 then 3 else 1)).map (fun p => (tot 0 p, tot 1 p, tot 2 p)))

def evalHarmQph (c : Ctx) : EOut :=
  let ph := fun i => (cmag (c.bin (refIdx (c.ref i)) 1), cmag (c.bin (refIdx (c.ref i)) 2), cmag (c.bin (refIdx (c.ref i)) 5))
  evalHarm c (((List.range (if c.bits 4 0 0 = 1 then 3 else 1)).filter (fun i => refKind (c.ref i) == 1)).map ph)

/-! ## Breaker failure (R186, R187) -/

/-- One counter after a tick: 0 where a sample met the level, else one more, at most 255. -/
def bfCount (old : Nat) (hit : Bool) : Nat := if hit then 0 else Nat.min 255 (old + 1)

/-- The √2 multiple of a level. -/
def peakOf (p : F32) : F32 := fmul p 0x3FB504F3#32

def evalBf (c : Ctx) : EOut :=
  let q := fun i => refIdx (c.ref i)
  let rows := c.smpRows.map (fun r => (c.sample r (q 0), c.sample r (q 1), c.sample r (q 2)))
  let chan := fun n => rows.map (fun (x : F32 × F32 × F32) =>
    if n = 0 then x.1 else if n = 1 then x.2.1 else if n = 2 then x.2.2 else fadd (fadd x.1 x.2.1) x.2.2)
  let level := fun n => if n < 3 then c.set 0 else c.set 1
  let old := fun n k => ((if n < 2 then c.st 1 else c.st 2).toNat >>> (16 * (n % 2) + 8 * k)) % 256
  let cnt := fun n k =>
    if F32.isZero (level n) then 255
    else bfCount (old n k) ((chan n).any (fun x => if k = 0 then fge x (peakOf (level n)) else fle x (fneg (peakOf (level n)))))
  let w := c.w1t
  let present := fun n => decide (cnt n 0 < w ∧ cnt n 1 < w ∧ Nat.min (cnt n 0) (cnt n 1) < (w + 1) / 2)
  let phase := present 0 || present 1 || present 2
  let mode := c.bits 3 1 0
  let cur := if mode = 0 then phase else if mode = 1 then present 3 else phase || present 3
  let start := c.inBit 3 || (c.bits 3 2 2 == 1 && c.pick0)
  let pick := c.fp (start && cur)
  let band := (List.range 4).any (fun n => !F32.isZero (level n) && (chan n).any (fun x =>
    fle (fabs (fsub (fabs x) (peakOf (level n)))) (fmul (fofInt 2) (c.tol (peakOf (level n)) (ocAbs c)))))
  let word := fun n => BitVec.ofNat 32 (cnt n 0 + cnt n 1 * 2 ^ 8 + cnt (n + 1) 0 * 2 ^ 16 + cnt (n + 1) 1 * 2 ^ 24)
  let big := (List.range 3).foldl (fun a n => (chan n).foldl (fun a x => fmax a (fabs x)) a) 0
  { definite c pick (c.set 2) 0 big band with st1 := word 0, st2 := word 2 }

/-! ## Autoreclose support (R188, R189) -/

/-- SYNCHK. Met bits: 0, 1 bus and line live; 2 |ΔV|; 3 |s|; 4 |θc|; 5, 6 bus and line dead; 7 θ′ loaded; 16 up: ticks since. -/
def evalSynchk (c : Ctx) : EOut :=
  let vb := c.bin (refIdx (c.ref 0)) 1; let vl := c.bin (refIdx (c.ref 1)) 1
  let th := wrap180 (fsub (cang vl) (cang vb))
  if !c.met 7 || c.s.pea.dt = 0 then { st2 := th, met := (c.s.word (extAddr c.e + 8)).toNat % 2 ^ 7 + 2 ^ 7 }
  else
    let w := c.w1t
    let n := (c.s.word (extAddr c.e + 8)).toNat / 2 ^ 16 + 1
    let step := fdiv (wrap180 (fsub th (c.st 2))) (fmul (fofInt 360) c.dt)
    let sl := fadd (c.st 3) (fmul (fq 1 w) (fsub step (c.st 3)))
    let tc := wrap180 (fadd th (fmul (fmul (fofInt 360) sl) (c.set 6)))
    let bl := auxMin (cmag vb) (c.set 3) (c.met 0); let ll := auxMin (cmag vl) (c.set 3) (c.met 1)
    let dv := auxMax (fabs (fsub (cmag vl) (cmag vb))) (c.set 0) (c.met 2)
    let df := auxMax (fabs sl) (c.set 2) (c.met 3)
    let da := under (fabs tc) (c.set 1) (fq 105 100) (c.met 4)
    let bd := auxMax (cmag vb) (c.set 4) (c.met 5); let ld := auxMax (cmag vl) (c.set 4) (c.met 6)
    let on := fun i => c.bits 7 i i == 1
    let any := (on 0 && bl && ll && dv && df && da) || (on 1 && ld && bl) || (on 2 && ll && bd) || (on 3 && ld && bd)
    let pick := c.fp (any && decide (w < n))
    let ab := fq 2 100
    let band := c.cmpBand (fabs tc) (c.set 1) (fq 105 100) ab || c.minBand (cmag vb) (c.set 3) ab || c.minBand (cmag vl) (c.set 3) ab
      || c.maxBand (fabs (fsub (cmag vl) (cmag vb))) (c.set 0) ab || c.maxBand (fabs sl) (c.set 2) ab || c.maxBand (cmag vb) (c.set 4) ab
      || c.maxBand (cmag vl) (c.set 4) ab
    { definite c pick (c.set 5) (packBits [bl, ll, dv, df, da, bd, ld, true] + Nat.min 1000 n * 2 ^ 16) tc band with
      st2 := th, st3 := sl, cv0 := tc, cv1 := sl }

/-- POLEDEAD. -/
def evalPoledead (c : Ctx) : EOut :=
  let i := c.phases (c.ref 0)
  let im := [cmag i.1, cmag i.2.1, cmag i.2.2]
  let hasV := refKind (c.ref 1) == 2
  let v := c.phases (c.ref 1)
  let vm := [cmag v.1, cmag v.2.1, cmag v.2.2]
  let iOk := (List.range 3).map (fun p =>
    c.fc (c.cmpBand (im.getD p 0) (c.set 0) (fq 110 100) (ocAbs c)) (under (im.getD p 0) (c.set 0) (fq 110 100) (c.met p)))
  let vOk := (List.range 3).map (fun p => hasV && auxMax (vm.getD p 0) (c.set 1) (c.met (3 + p)))
  let pick := c.fp (iOk.all id && (!hasV || vOk.all id))
  let band := (List.range 3).any (fun p => c.cmpBand (im.getD p 0) (c.set 0) (fq 110 100) (ocAbs c)
    || (hasV && c.maxBand (vm.getD p 0) (c.set 1) (ocAbs c)))
  definite c pick (c.set 2) (packBits (iOk ++ vOk)) (max3 (im.getD 0 0) (im.getD 1 0) (im.getD 2 0)) band

/-! ## The catalogue (R153, R171) -/

/-- Engine A on a slot of a type. -/
def evalElement (ty : Nat) (c : Ctx) : EOut :=
  match ty with
  | 0x0101 => evalPhOc c | 0x0111 => evalEfOc c | 0x0121 => evalNsOc c
  | 0x0201 => evalPhDoc c | 0x0211 => evalDef c
  | 0x0301 => evalPhV true c | 0x0302 => evalPhV false c | 0x0311 => evalResOv c
  | 0x0401 => evalFreq c | 0x0411 => evalRocof c | 0x0421 => evalVshift c
  | 0x0501 => evalTherm c | 0x0601 => evalCts c | 0x0611 => evalVts c
  | 0x0801 => evalDist false true c | 0x0802 => evalDist false false c
  | 0x0811 => evalDist true true c | 0x0812 => evalDist true false c
  | 0x0901 => evalDiff c | 0x0A01 => evalHarmCum c | 0x0A02 => evalHarmQph c
  | 0x0B01 => evalBf c | 0x0C01 => evalSynchk c | 0x0C11 => evalPoledead c
  | _ => {}

/-- Cycle cost of a type (R153, R171); 0 for a code that is not defined. -/
def typeCost : Nat → Nat
  | 0x0101 => 136 | 0x0111 => 104 | 0x0121 => 104 | 0x0201 => 232 | 0x0211 => 152 | 0x0301 => 112 | 0x0302 => 112 | 0x0311 => 64
  | 0x0401 => 56 | 0x0411 => 56 | 0x0421 => 88 | 0x0501 => 128 | 0x0601 => 96 | 0x0611 => 96
  | 0x0801 => 296 | 0x0802 => 120 | 0x0811 => 328 | 0x0812 => 152 | 0x0901 => 152 | 0x0A01 => 120 | 0x0A02 => 96 | 0x0B01 => 88
  | 0x0C01 => 104 | 0x0C11 => 72 | _ => 0

/-- The floors ABS of CV0 and CV1 (R153, R171); none where a type has no CV1. -/
def cvFloor (ty : Nat) (c : Ctx) : F32 × Option F32 :=
  let x := fmul (c.set 0) (fq 1 16384)
  let g : Option F32 := some (fq 1 1048576)
  let ang : Option F32 := some (fq 2 100)
  let m := fq 1 16384
  match ty with
  | 0x0201 => (x, ang) | 0x0211 => (x, ang)
  | 0x0401 => (fq 2 10000, g) | 0x0411 => (fq 2 1000, g) | 0x0421 => (fq 2 100, none)
  | 0x0501 => (fq 1 1000000, some (fq 1 1000000))
  | 0x0611 => (x, some (fmul (c.set 2) (fq 1 16384)))
  | 0x0801 => (m, ang) | 0x0802 => (m, ang) | 0x0811 => (m, ang) | 0x0812 => (m, ang)
  | 0x0901 => (x, some x) | 0x0A01 => (m, none) | 0x0A02 => (m, none) | 0x0C01 => (fq 2 100, some (fq 2 10000))
  | _ => (x, g)

/-- CV1 of the type is an angle in degrees (R153, R171); two angles differ by the shorter way round. -/
def cvAngle : Nat → Bool × Bool
  | 0x0201 => (false, true) | 0x0211 => (false, true) | 0x0421 => (true, false)
  | 0x0801 => (false, true) | 0x0802 => (false, true) | 0x0811 => (false, true) | 0x0812 => (false, true)
  | 0x0C01 => (true, false) | _ => (false, false)

/-- The initial STATE words of a type (R158, R162, R168, R174, R187). -/
def typeInit (ty : Nat) (c : Ctx) : List Word :=
  match ty with
  | 0x0201 => [0, 0, 0, f32One] | 0x0801 => [0, 0, 0, f32One] | 0x0811 => [0, 0, 0, f32One]
  | 0x0501 =>
    let q : Q := ⟨c.bits 7 13 0, 10000⟩
    [q.toF32, (Q.sub q (F32.toQ q.toF32)).toF32, 0, 0]
  | 0x0B01 => [0, 0xFFFFFFFF#32, 0xFFFFFFFF#32, 0]
  | _ => [0, 0, 0, 0]

/-- The quality shift of a GRP field a type reads (R166): FREQ its frequency, ROCOF its ROCOF. -/
def typeShift : Nat → Nat
  | 0x0401 => 8 | 0x0411 => 16 | _ => 0

end Sys2Proof.Machine
end

