-- ==== Sys2Proof/Machine/ElementChecks.lean ====
section
/-! DEFINITION. What the loader and a live change check of a slot: input references against the type list (R141, R153, R171) and
each SET field against its range and the rules that relate two fields (R154, the SET tables of chapters 09 and 10). -/

namespace Sys2Proof.Machine

/-- One field of SET: its word, its bits and its range. A `real` field is binary32 and takes the whole word. -/
inductive SetFld where
  | real (w : Nat) (lo hi : F32)
  | int (w hiBit loBit lo hi : Nat)
  | sint (w hiBit loBit : Nat) (lo hi : Int)
  deriving DecidableEq, Repr

def SetFld.word : SetFld → Nat
  | .real w _ _ => w | .int w _ _ _ _ => w | .sint w _ _ _ _ => w

/-- The bits of its word that the field takes. -/
def SetFld.mask : SetFld → Nat
  | .real _ _ _ => 0xFFFFFFFF | .int _ h l _ _ => 2 ^ (h + 1) - 2 ^ l | .sint _ h l _ _ => 2 ^ (h + 1) - 2 ^ l

/-- The field of SET holds a value inside its range. -/
def SetFld.ok (set : List Word) : SetFld → Bool
  | .real w lo hi => fge (set.getD w 0) lo && fle (set.getD w 0) hi
  | .int w h l lo hi => let x := ((set.getD w 0).toNat >>> l) % 2 ^ (h + 1 - l); decide (lo ≤ x ∧ x ≤ hi)
  | .sint w h l lo hi => let x := signedOf (h + 1 - l) ((set.getD w 0).toNat >>> l); decide (lo ≤ x ∧ x ≤ hi)

def f7 : F32 := fofInt 10000000
def fMil : F32 := fq 1 1000
/-- 1.0 × 10^−3 to 1.0 × 10^7. -/
def lev (w : Nat) : SetFld := .real w fMil f7
/-- 0 to 1.0 × 10^7. -/
def lev0 (w : Nat) : SetFld := .real w 0 f7
/-- 0 to `n` seconds. -/
def secs (w : Nat) (n : Int) : SetFld := .real w 0 (fofInt n)

/-- The fields of the overcurrent types (R159). -/
def ocFields (dir def' : Bool) (curve : Nat) : List SetFld :=
  [lev 0, if curve = 0 then secs 1 300 else if curve ≤ 4 then .real 1 (fq 1 100) (fq 150 100) else .real 1 (fq 10 100) (fofInt 15),
   secs 2 300, secs 3 10, .int 4 3 0 0 7, .int 4 5 4 0 2, .int 4 6 6 0 (if dir then 0 else 1), .int 4 15 8 90 99, .int 4 23 16 10 40]
  ++ (if dir then [.real 5 (fofInt (-180)) (fofInt 180), lev0 6, .int 7 7 0 5 50, .int 7 9 8 0 2, .int 7 10 10 0 1,
      .int 7 11 11 0 (b2n def'), .int 7 31 16 0 (if def' then 0 else 500)] else [])

/-- The fields of the distance types (R174). -/
def distFields (isQuad isHead : Bool) : List SetFld :=
  [.real 0 fMil (fofInt 10000), .real 1 (fofInt 30) (fofInt 90), if isQuad then .real 2 fMil (fofInt 10000) else .real 2 0 0,
   secs 4 10, lev 5, .int 7 2 0 1 5, .int 7 3 3 0 1, .int 7 4 4 0 1, .int 7 5 5 0 1, .int 7 11 6 1 63, .int 7 18 12 101 120]
  ++ (if isHead then [.int 3 15 0 0 10000, .sint 3 31 16 (-1800) 1800, lev0 6, .int 7 21 19 0 0, .int 7 29 22 0 250]
      else [.int 7 21 19 1 4])

/-- The fields of a type; `set` picks the curve's range. -/
def setFields (ty : Nat) (set : List Word) : List SetFld :=
  let curve := (set.getD 4 0).toNat % 16
  match ty with
  | 0x0101 => ocFields false false curve | 0x0111 => ocFields false false curve | 0x0121 => ocFields false false curve
  | 0x0201 => ocFields true false curve | 0x0211 => ocFields true true curve
  | 0x0301 => [lev 0, secs 1 300, lev0 2, .int 3 7 0 101 110, .int 3 8 8 0 1, .int 3 9 9 0 1, .int 3 10 10 0 1]
  | 0x0302 => [lev 0, secs 1 300, .int 3 7 0 90 99, .int 3 8 8 0 1, .int 3 9 9 0 1, .int 3 10 10 0 1]
  | 0x0311 => [lev 0, secs 1 300, .int 3 7 0 90 99, .int 3 8 8 0 1]
  | 0x0401 => [.real 0 (fofInt 40) (fofInt 70), secs 1 300, .real 2 (fq 1 100) (fofInt 1), lev0 3, .int 4 0 0 0 1]
  | 0x0411 => [.real 0 (fq 5 100) (fofInt 10), secs 1 300, .real 2 (fq 80 100) (fq 99 100), lev0 3, .int 4 1 0 0 2]
  | 0x0421 => [.real 0 (fofInt 2) (fofInt 30), secs 1 1, .real 2 (fq 5 100) (fofInt 2), lev0 3]
  | 0x0501 => [lev 0, .real 1 (fofInt 1) (fq 150 100), .real 2 (fofInt 60) (fofInt 36000), .real 3 (fofInt 60) (fofInt 108000),
      .real 4 (fq 50 100) (fofInt 1), .real 5 (fq 80 100) (fq 150 100), .real 6 (fq 50 100) (fq 150 100), .int 7 13 0 0 10000, .int 7 16 16 0 1]
  | 0x0601 => [lev 0, lev0 1, secs 2 60, secs 3 60, .int 4 0 0 0 1]
  | 0x0611 => [lev 0, lev0 1, lev 2, lev0 3, .real 4 0 f32Inf, secs 5 60, secs 6 60, .int 7 0 0 0 1, .int 7 1 1 0 1]
  | 0x0801 => distFields false true | 0x0802 => distFields false false | 0x0811 => distFields true true | 0x0812 => distFields true false
  | 0x0901 => [lev 0, .real 1 (fq 10 100) (fq 80 100), lev0 2, .real 3 (fq 10 100) (fq 150 100), lev0 4, .real 5 0 (fq 50 100), secs 6 1,
      .int 7 7 0 90 99, .int 7 8 8 0 1]
  | 0x0A01 => [.real 0 0 (fq 50 100), .real 1 0 (fq 50 100), lev 2, secs 3 1, .int 4 0 0 0 1]
  | 0x0A02 => [.real 0 0 (fq 50 100), .real 1 0 (fq 50 100), lev 2, secs 3 1, .int 4 0 0 0 1]
  | 0x0B01 => [lev0 0, lev0 1, secs 2 1, .int 3 1 0 0 2, .int 3 2 2 0 1]
  | 0x0C01 => [lev0 0, .real 1 (fofInt 1) (fofInt 80), .real 2 (fq 1 100) (fofInt 1), lev 3, lev0 4, secs 5 60, .real 6 0 (fq 50 100),
      .int 7 3 0 1 15]
  | 0x0C11 => [lev 0, lev0 1, secs 2 10]
  | _ => []

/-- 0, or at least `lo`. -/
def zeroOr (x lo : F32) : Bool := F32.isZero x || fge x lo

/-- The rules that relate two fields, or a field and a reference. -/
def setRelations (ty : Nat) (refs : List Nat) (set : List Word) : Bool :=
  let s := fun i => set.getD i 0
  let bit := fun i b => (s i).getLsbD b
  let k := fun i => refKind (refs.getD i 0)
  match ty with
  | 0x0111 => !(k 0 == 2 && bit 4 6)
  | 0x0121 => !bit 4 6
  | 0x0301 => fle (s 2) (s 0) && !(bit 3 9 && bit 3 8)
  | 0x0302 => !(bit 3 9 && bit 3 8)
  | 0x0501 => fge (s 3) (s 2) && fgt (s 5) (s 4) && fle (s 6) (fsub (s 5) (fq 5 100))
  | 0x0601 => if bit 4 0 then k 2 == 1 else k 1 == 2
  | 0x0611 => fgt (s 4) (s 3) && (bit 7 0 || bit 7 1)
  | 0x0901 => fge (s 2) (fdiv (s 0) (s 1)) && fge (s 3) (s 1) && zeroOr (s 4) (fmul (fofInt 2) (s 0)) && zeroOr (s 5) (fq 5 100)
      && !(F32.isZero (s 5) && k 3 == 4) && !(!F32.isZero (s 5) && k 3 == 0)
  | 0x0A01 => zeroOr (s 0) (fq 5 100) && zeroOr (s 1) (fq 5 100) && !(F32.isZero (s 0) && F32.isZero (s 1))
  | 0x0A02 => zeroOr (s 0) (fq 5 100) && zeroOr (s 1) (fq 5 100) && !(F32.isZero (s 0) && F32.isZero (s 1))
      && (bit 4 0 || (k 1 == 0 && k 2 == 0))
  | 0x0B01 => zeroOr (s 0) fMil && zeroOr (s 1) fMil && !(F32.isZero (s 0) && F32.isZero (s 1))
  | 0x0C01 => fle (s 4) (fmul (s 3) (fq 90 100))
  | 0x0C11 => k 1 == 2 || F32.isZero (s 1)
  | _ => true

/-- SET passes R154: every field inside its range, reserved bits 0, the related fields consistent. -/
def setOk (ty : Nat) (refs : List Nat) (set : List Word) : Bool :=
  let fs := setFields ty set
  fs.all (SetFld.ok set)
    && (List.range 8).all (fun w =>
      let m := (fs.filter (fun f => f.word == w)).foldl (fun a f => a ||| f.mask) 0
      (set.getD w 0).toNat &&& (0xFFFFFFFF - m) == 0)
    && setRelations ty refs set

/-! ## Input references (R141, R153, R171) -/

/-- What a reference of a slot may be. -/
inductive RefWant where
  | none | qph | grp | qphGrp | smp | ref | cumP | cumI
  | orNone (w : RefWant)
  deriving DecidableEq, Repr

/-- The reference fits, within the profile's limits (`nq` quantities, `ng` groups, `ns` slots). -/
def RefWant.fits (nq ng ns : Nat) (x : Nat) : RefWant → Bool
  | .none => refKind x == 0
  | .qph => refKind x == 1 && decide (refIdx x < nq)
  | .grp => refKind x == 2 && decide (refIdx x < ng)
  | .qphGrp => (refKind x == 1 && decide (refIdx x < nq)) || (refKind x == 2 && decide (refIdx x < ng))
  | .smp => refKind x == 3 && decide (refIdx x < nq)
  | .ref => (refKind x == 5 && decide (refIdx x < ns)) || (refKind x == 6 && decide (refIdx x < 256)) || (refKind x == 7 && decide (refIdx x < 32))
  | .cumP => refKind x == 4 && decide (refIdx x < 64)
  | .cumI => refKind x == 4 && decide (64 ≤ refIdx x ∧ refIdx x < 128)
  | .orNone w => refKind x == 0 || RefWant.fits nq ng ns x w

/-- IN0 to IN3 of a type. -/
def refWants : Nat → List RefWant
  | 0x0101 => [.qph, .qph, .qph, .orNone .ref]
  | 0x0111 => [.qphGrp, .orNone .ref, .none, .none]
  | 0x0121 => [.grp, .orNone .ref, .none, .none]
  | 0x0201 => [.qph, .qph, .qph, .grp]
  | 0x0211 => [.qphGrp, .qphGrp, .orNone .ref, .none]
  | 0x0301 => [.qph, .qph, .qph, .none] | 0x0302 => [.qph, .qph, .qph, .none]
  | 0x0311 => [.qphGrp, .none, .none, .none]
  | 0x0401 => [.grp, .none, .none, .none] | 0x0411 => [.grp, .none, .none, .none] | 0x0421 => [.grp, .none, .none, .none]
  | 0x0501 => [.qph, .qph, .qph, .none]
  | 0x0601 => [.grp, .orNone .grp, .orNone .qph, .none]
  | 0x0611 => [.grp, .grp, .none, .none]
  | 0x0801 => [.grp, .grp, .orNone .ref, .none] | 0x0802 => [.grp, .grp, .orNone .ref, .none]
  | 0x0811 => [.grp, .grp, .orNone .ref, .none] | 0x0812 => [.grp, .grp, .orNone .ref, .none]
  | 0x0901 => [.cumP, .cumI, .orNone .ref, .orNone .cumP]
  | 0x0A01 => [.cumP, .orNone .cumP, .orNone .cumP, .none]
  | 0x0A02 => [.qph, .orNone .qph, .orNone .qph, .none]
  | 0x0B01 => [.smp, .smp, .smp, .ref]
  | 0x0C01 => [.qph, .qph, .none, .none]
  | 0x0C11 => [.grp, .orNone .grp, .none, .none]
  | _ => []

/-- The slot's references fit its type; a HARM_CUM reference leaves room for the two totals after it (R184). -/
def refsOk (nq ng ns ty : Nat) (refs : List Nat) (blk : Nat) : Bool :=
  let w := refWants ty
  w.length == 4 && (List.range 4).all (fun i => RefWant.fits nq ng ns (refs.getD i 0) (w.getD i .none))
    && RefWant.fits nq ng ns blk (.orNone .ref)
    && (ty != 0x0A01 || refs.all (fun x => refKind x != 4 || decide (refIdx x + 2 ≤ 63)))

/-- A slot of these types runs in phase 2 of its pair's list: it has a CUM reference (R145). -/
def hasCum (refs : List Nat) : Bool := refs.any (fun x => refKind x == 4)

end Sys2Proof.Machine
end

