-- ==== Sys2Proof/Machine/Pea.lean ====
section
/-! DEFINITION. The element array: the schedule, the crucible check, member faults, live changes and the output commit (R138 to
R152). -/

namespace Sys2Proof.Machine

/-! ## Slots and lists -/

def State.slotWord (s : State) (e i : Nat) : Word := s.word (slotAddr e + 4 * i)
def State.slotType (s : State) (e : Nat) : Nat := (s.slotWord e 0).toNat % 65536
def State.slotFlags (s : State) (e : Nat) : Nat := (s.slotWord e 0).toNat / 65536 % 256
def State.slotQmask (s : State) (e : Nat) : Nat := (s.slotWord e 0).toNat / 2 ^ 24 ||| 1
def State.slotBlk (s : State) (e : Nat) : Nat := (s.slotWord e 3).toNat % 65536
def State.slotRefs (s : State) (e : Nat) : List Nat := (List.range 4).map (fun i => (s.slotWord e (1 + i / 2)).toNat / 2 ^ (16 * (i % 2)) % 65536)

/-- A pair's list entries, from one place up. -/
def State.pairSlots (s : State) (p from_ n : Nat) : List (Nat × Nat) :=
  (List.range n).map (fun i =>
    let k := s.get (R.peaPairList_start p) + from_ + i
    (from_ + i, leNat (memBytes s.mem (0xCC2000 + 2 * k) 2)))

/-- A pair's load in cycles (R147). -/
def State.pairLoad (s : State) (p : Nat) : Nat :=
  ((s.pairSlots p 0 (s.get (R.peaPairList_count p))).map (fun x => typeCost (s.slotType x.2))).sum

def State.pairRun (s : State) (p : Nat) : PairRun := tget {} s.pea.pair p
def State.updPair (s : State) (p : Nat) (f : PairRun → PairRun) : State := { s with pea := { s.pea with pair := tupd {} s.pea.pair p f } }

/-! ## Member faults (R150, R151) -/

/-- A member fault: pair, place in its list, slot, cause. The first tick's lowest pair and earliest place is captured. -/
def memberFault (p place e cause row : Nat) (s : State) : State :=
  let first := s.pea.faultCount == s.pea.faults.length
  let fs := s.pea.faults ++ [(p, place, e, cause)]
  let s := { s with pea := { s.pea with faults := fs, faultCount := s.pea.faultCount + 1 } }
  let least := fs.foldl (fun (a : Nat × Nat × Nat × Nat) x => if x.1 < a.1 ∨ (x.1 = a.1 ∧ x.2.1 < a.2.1) then x else a) (p, place, e, cause)
  let cnt := Nat.min 0x3FFF s.pea.faultCount * 2 ^ 18
  let s := if first then
      (s.put R.peaStat_fcause least.2.2.2).complete R.peaFaultInfo
        [BitVec.ofNat 32 (least.2.2.1 + least.1 * 2 ^ 12 + least.2.2.2 * 2 ^ 15 + cnt), BitVec.ofNat 32 row]
    else s.complete R.peaFaultInfo
      [BitVec.ofNat 32 ((s.groupWord R.peaFaultInfo 1).toNat % 2 ^ 18 + cnt), s.groupWord R.peaFaultInfo 2]
  let s := if cause = 4 ∨ cause = 6 then s.addLife 8 1 else s
  healthLoss ((((s.putBit R.peaStat_fault true).edge .pea 1)).event 0x20 cause e (BitVec.ofNat 32 row) 0 p)

/-! ## One slot (R142 to R144, R148, R149) -/

/-- The input quality of a slot (R143); HARM_CUM with CROSS = 1 reads three totals of each reference (R184). -/
def Ctx.inputQual (c : Ctx) (ty : Nat) : Nat :=
  (c.s.slotRefs c.e).foldl (fun a x =>
    a ||| c.refQual x (typeShift ty) ||| (if ty = 0x0A01 ∧ refKind x = 4 ∧ c.bits 4 0 0 = 1 then c.cumQual (refIdx x + 1) ||| c.cumQual (refIdx x + 2) else 0)) 0

/-- Two compared values agree (R148); angles differ by the shorter way round. -/
def cvAgree (rel : F32) (a b floor_ : F32) (angle : Bool) : Bool :=
  let d := if angle then fabs (wrap180 (fsub a b)) else fabs (fsub a b)
  fle d (fmax (fmul rel (fmax (fabs a) (fabs b))) floor_)

/-- Address of engine B's image of a slot, and of its extended state (R138). -/
def bAddr (e : Nat) : Nat := 0xD00000 + 64 * e
def extBAddr (e : Nat) : Nat := 0xD40000 + 16 * e

/-- `n` words from `a` that engine B writes in a form of its own: what they hold is internal to it (R140). -/
def bWords (a n : Nat) (s : State) : State := iterUp n (fun i (s : State) => let f := s.fresh; f.2.setWord (a + 4 * i) f.1) s

/-- Engine B's converter writes the settings of the slot's B image (R140). -/
def bImage (e : Nat) (s : State) : State := bWords (bAddr e) 8 s

/-- An accumulator's exact value in an extended state. -/
def State.accAt (s : State) (a : Nat) : Nat := (s.word a).toNat + (s.word (a + 4)).toNat * 2 ^ 32

/-- The words of an extended state: the accumulator, the met states and the reserved word (R158). -/
def extWords (g : Nat) (met : Word) : List Word := [BitVec.ofNat 32 g, BitVec.ofNat 32 (g / 2 ^ 32), met, 0]

/-- Engine B's private state after a tick that moves G: its own accumulator, its θ, and the words whose form is its own (R140, R155,
R158, R168). -/
def putStateB (c : Ctx) (mv : GMove) (s : State) : State :=
  let e := c.e
  let s := if s.slotType e = 0x0501 then
      { s with pea := { s.pea with thetaB := tset 0 s.pea.thetaB e (thermB c (tget 0 s.pea.thetaB e)) } } else s
  let f := (bWords (bAddr e + 0x20) 4 s).fresh
  f.2.setWords (extBAddr e) (extWords (mv.onB e (s.accAt (extBAddr e))) f.1)

/-- The new private state of a slot is written by both engines: STATE, G, met states. -/
def putState (c : Ctx) (o : EOut) (s : State) : State :=
  let e := c.e
  putStateB c o.mv ((s.setWords (slotAddr e + 0x30) [o.st0, o.st1, o.st2, o.st3]).setWords (extAddr e)
    (extWords (o.mv.on (s.accAt (extAddr e))) (BitVec.ofNat 32 o.met)))

/-- The initial private state of a slot (R158, R168), of both engines. -/
def initState (e : Nat) (s : State) : State :=
  let c : Ctx := { s := s, e := e, r := 0 }
  let ty := s.slotType e
  let th : Int := if ty = 0x0501 then qRound 21 [c.bits 7 13 0] (c.bits 7 13 0 * 2 ^ 36 : Nat) 10000 else 0
  let s := { s with pea := { s.pea with thetaB := tset 0 s.pea.thetaB e th } }
  let s := (s.setWords (slotAddr e + 0x30) (typeInit ty c)).setWords (extAddr e) [0, 0, 0, 0]
  (bWords (bAddr e + 0x20) 4 s).setWords (extBAddr e) [0, 0, 0, 0]

/-- A head slot's polarising memory while the slot is blocked or off: AUX words or usability (R172, R178). -/
def headMemory (c : Ctx) (upd : Bool) (s : State) : State :=
  let ty := s.slotType c.e
  if ty = 0x0801 ∨ ty = 0x0811 then
    let m := distMemory c upd
    let old := (s.word (extAddr c.e + 8)).toNat
    let w := old - (old &&& 0x3000) + b2n m.2.2.1 * 2 ^ 12 + b2n m.2.2.2 * 2 ^ 13
    let s := if upd then s.setWords (slotAddr c.e + 0x38) [m.1, m.2.1] else s
    s.setWord (extAddr c.e + 8) (BitVec.ofNat 32 w)
  else s

/-- A head that is off goes on with its loops and memory (R172); while its voltage group is INVALID the memory holds, or is emptied under
RESET, as R178 gives. -/
def headOff (c : Ctx) (pol : Nat) (s : State) : State :=
  let ty := s.slotType c.e
  if !(ty == 0x0801 || ty == 0x0811) then s
  else if !qHas (c.refQual (c.ref 1) 0) qINVALID || pol = 3 then headMemory c true s
  else if pol = 1 then s.setWords (slotAddr c.e + 0x38) [0, f32One]
  else s

/-- One bit of a word in memory is cleared. -/
def State.clearMemBit (s : State) (a b : Nat) : State := s.setWord a (s.word a &&& ~~~(BitVec.ofNat 32 (2 ^ b)))

/-- VSHIFT and SYNCHK start afresh after an INVALID input. -/
def clearLoaded (ty e q : Nat) (s : State) : State :=
  if qHas q qINVALID ∧ (ty = 0x0421 ∨ ty = 0x0C01) then
    let b := if ty = 0x0421 then 1 else 7
    s.clearMemBit (extAddr e + 8) b
  else s

/-- The byte of a slot in the running tick. -/
def State.setWork (s : State) (e v : Nat) : State := { s with pea := { s.pea with work := tset 0 s.pea.work e v } }

/-- PICKUP, OPERATE and DIR_FWD as bits of the byte. -/
def decBits (p o d : Bool) : Nat := b2n p + 2 * b2n o + 4 * b2n d

/-- A slot that is neither blocked nor off: engine A's result against engine B's verdict. A slot that runs while it is quality-blocked
(`qb`) has only BLOCKED compared (R148, R149). -/
def evalLive (p place e r status : Nat) (qb : Bool) (v : Option Sys2Proof.BVerdict) (s : State) : State :=
  let ty := s.slotType e
  let c : Ctx := { s := s, e := e, r := r }
  let a := evalElement ty c
  let prev := tget 0 s.pea.committed e
  match v with
  | none =>
    let s := (putState c a s).setWork e (status + decBits a.pick a.oper a.fwd)
    { s with pea := { s.pea with tolerated := tset 0 s.pea.tolerated e 0,
                                 anaMiss := if qb then s.pea.anaMiss else tset false s.pea.anaMiss e false } }
  | some b =>
    if qb then
      let s := { (putState c a s) with pea := { (putState c a s).pea with tolerated := tset 0 s.pea.tolerated e 0 } }
      if b.blockedDiff then memberFault p place e 1 r (s.setWork e prev) else s.setWork e (status + decBits a.pick a.oper a.fwd)
    else
    let fl := cvFloor ty c
    let ang := cvAngle ty
    let rel := s.peaRel
    let miss := !cvAgree rel a.cv0 b.cv0 fl.1 ang.1 || (match fl.2 with | some f => !cvAgree rel a.cv1 b.cv1 f ang.2 | none => false)
    let again := miss && tget false s.pea.anaMiss e
    let s := { s with pea := { s.pea with anaMiss := tset false s.pea.anaMiss e miss } }
    let s := if miss && !again then (s.updPair p (fun x => { x with softAna := x.softAna + 1 })).edge .pea 2 else s
    let dp := a.pick != b.pickup
    let do_ := a.oper != b.operate
    let dd := a.fwd != b.dir
    let differ := dp || do_ || dd
    let inside := (!dp || (a.bp && b.inP)) && (!do_ || (a.bo && b.inO)) && (!dd || (a.bd && b.inD))
    let cp := if dp then !prev.testBit 0 else a.pick
    let co := if do_ then !prev.testBit 1 else a.oper
    let cd := if dd then !prev.testBit 2 else a.fwd
    let n := if differ && inside then tget 0 s.pea.tolerated e + 1 else 0
    let s := { s with pea := { s.pea with tolerated := tset 0 s.pea.tolerated e n } }
    let cause := if b.blockedDiff || (differ && !inside) then 1 else if 3 ≤ n then 2 else if again then 3 else 0
    let s := if differ && inside then
        (putState c (evalElement ty { c with force := some (cp, co, cd) }) s).updPair p (fun x => { x with softDec := x.softDec + 1 })
      else putState c a s
    let s := s.edgeIf (differ && inside) .pea 2
    if cause = 0 then s.setWork e (status + decBits cp co cd + 32 * b2n differ)
    else memberFault p place e cause r (s.setWork e prev)

/-- The first word of a slot, of its B image or of either extended state that holds an uncorrectable error (R140). -/
def State.slotPoison (s : State) (e : Nat) : Option Nat :=
  s.sram.poison.find? (fun w => (w / 64 == slotAddr e / 64) || (w / 64 == bAddr e / 64) || (w / 16 == extAddr e / 16) || (w / 16 == extBAddr e / 16))

/-- A slot whose inputs and blocking have been judged: off, blocked or live (R142 to R144). -/
def evalJudged (p place e r : Nat) (v : Option Sys2Proof.BVerdict) (s : State) : State :=
  let ty := s.slotType e
  let fl := s.slotFlags e
  let test := if fl.testBit 1 then 16 else 0
  let pol := fl / 4 % 4
  let c : Ctx := { s := s, e := e, r := r }
  if !fl.testBit 0 then
    let s := (headOff c pol s).setWork e test
    { s with pea := { s.pea with qHold := tset 0 s.pea.qHold e 0, tolerated := tset 0 s.pea.tolerated e 0 } }
  else
    let q := c.inputQual ty
    let mask := s.slotQmask e
    let qb := q &&& mask != 0
    let qlow := if q - (q &&& (mask ||| qTEST ||| qINVALID)) = 0 then 0 else 64
    let blk := s.slotBlk e
    let ib := refKind blk != 0 && (c.refBit blk != fl.testBit 4)
    let run := if qb then tget 0 s.pea.qHold e + 1 else 0
    let s := { s with pea := { s.pea with qHold := tset 0 s.pea.qHold e run } }
    let blocked := ib || (qb && pol != 3)
    let status := test + qlow + 8 * b2n blocked
    if !blocked then clearLoaded ty e q (evalLive p place e r status qb v s)
    else
      let prev := tget 0 s.pea.committed e
      let hold := !ib && pol == 2 && decide (run ≤ 16)
      let reset := if ib then fl.testBit 5 else pol == 1
      let s := clearLoaded ty e q (if reset then initState e s else headMemory c false s)
      let s := { s with pea := { s.pea with tolerated := tset 0 s.pea.tolerated e 0 } }
      let byte := status + (if hold then prev % 8 else 0)
      if v.any (fun b => b.blockedDiff) then memberFault p place e 1 r (s.setWork e prev) else s.setWork e byte

/-- The accesses of a slot's evaluation: the slot, its B image, the two extended states. -/
def slotAcc (e : Nat) : List (Nat × Nat × Bool) :=
  [(slotAddr e, 64, true), (bAddr e, 64, true), (extAddr e, 16, true), (extBAddr e, 16, true)]

/-- One slot of a pair's list. A word that holds an uncorrectable error is a member fault with cause MEMORY (R140, R329). -/
def evalSlot (p place e r : Nat) (v : Option Sys2Proof.BVerdict) (s : State) : State :=
  if s.numSlots ≤ e then s.setWork e 0
  else if s.slotType e = 0 then s.setWork e (if (s.slotFlags e).testBit 1 then 16 else 0)
  else match s.slotPoison e with
    | some w => memberFault p place e 5 r ((eccRead 2 w s).setWork e (tget 0 s.pea.committed e))
    | none => s.engine 2 (slotAcc e) (evalJudged p place e r v)

/-- A run of list entries of a pair. -/
def evalRun (p from_ n r : Nat) (vs : List Sys2Proof.BVerdict) (s : State) : State :=
  (s.pairSlots p from_ n).foldl (fun s x => evalSlot p x.1 x.2 r (vs.find? (fun b => b.slot == x.2)) s) s

/-! ## A tick (R19, R145) -/

/-- ELEMENT_PHASE1: every pair evaluates phase 1; a pair without phase 2 is done with its slots. -/
def phase1 (r : Nat) (vs : List Sys2Proof.BVerdict) (s : State) : State :=
  iterUp 8 (fun p (s : State) =>
    let s := evalRun p 0 (s.get (R.peaPairPh2_first p)) r vs s
    let n := s.get (R.peaPairList_count p)
    s.updPair p (fun x => { x with ph1 := true, ph2 := s.get (R.peaPairPh2_first p) == n, finished := n == 0 })) s

/-- Totals of a set that phase 2 may read have returned or the bound has passed (R145, R277). -/
def State.totalsBack (s : State) : Bool := (List.range 8).all (fun k => (tget ({} : CumSet) s.dup.set k).returned)

/-- ELEMENT_PHASE2 (R145): pair `p` runs its phase-2 slots. -/
def execElementPhase2 (p : Fin 8) (vs : List Sys2Proof.BVerdict) (s : State) :=
  match s.pea.tick with
  | none => done s
  | some r =>
    let x := s.pairRun p
    if !x.ph1 || x.ph2 || !s.totalsBack then done s
    else
      let f := s.get (R.peaPairPh2_first p)
      done ((evalRun p f (s.get (R.peaPairList_count p) - f) r vs s).updPair p (fun x => { x with ph2 := true }))

/-- CRUCIBLE_COMMIT (R145): pair `p` ends its tick after the given CORE cycles. -/
def execCrucibleCommit (p : Fin 8) (cycles : Nat) (s : State) :=
  if s.pea.tick.isNone || !(s.pairRun p).ph2 then done s
  else done (s.updPair p (fun x => { x with finished := true, cycles := cycles, cycMax := Nat.max x.cycMax cycles }))

/-- PHE_DONE (R131): the buffer is sealed, contributions go out, and the pairs start; `vs` is what engines B find in phase 1. While the PHE
does not run, the pairs start at the end of the phasor reservation with their inputs INVALID (R137, R145). -/
def pheDone (contribute : State → State) (vs : List Sys2Proof.BVerdict) (s : State) : State :=
  let s := if s.phe.busy.isSome then contribute (pheSeal s) else s
  match s.pea.tick with
  | some r => if (s.pairRun 0).ph1 || (s.pairRun 0).finished then s else phase1 r vs s
  | none => s

/-- PHE_LATE (R132): the tick overruns, so its pairs evaluate nothing and its commit keeps the bytes of the one before (R20). -/
def execPheLate (s : State) :=
  match s.phe.busy with
  | none => done s
  | some r =>
    let s := (memberFault 0 0 0 6 r (s.putBit R.pheStat_late true)).edge .phe 1
    done { s with
      phe := { s.phe with busy := none }
      pea := { s.pea with pair := (List.range 8).foldl (fun t p => tupd {} t p (fun x => { x with ph1 := false, ph2 := false, finished := true })) s.pea.pair } }

/-- The committed-outputs array is written and sealed (R145); PEA_TICK completes. -/
def committedSeal (r : Nat) (s : State) : State :=
  let bytes := (List.range 4096).map (fun e => BitVec.ofNat 8 (tget 0 s.pea.committed e))
  let s := s.engine 2 [(0xCC0000, 0x1010, true)] (fun s =>
    ((s.setWord 0xCC100C (s.word 0xCC100C &&& 0x7FFFFFFF#32)).setBytes 0xCC0000 bytes).setWords 0xCC1000
      [BitVec.ofNat 32 r, s.tstamp, 0, BitVec.ofNat 32 (b2n (s.bit R.peaStat_fault) + 2 ^ 31)])
  let cyc := (List.range 8).foldl (fun a p => Nat.max a (s.pairRun p).cycles) 0
  (s.complete R.peaTick [BitVec.ofNat 32 r, s.tstamp, BitVec.ofNat 32 (Nat.min 0x3FFFF cyc)]).edge .pea 0

/-- A live change applied in the tick is reported (R152). -/
def liveReport (s : State) : State :=
  match s.pea.liveDone with
  | none => s
  | some (e, ver, row) =>
    (({ s with pea := { s.pea with liveDone := none } }).complete R.peaLiveRes
      [BitVec.ofNat 32 (e + ver * 2 ^ 16), BitVec.ofNat 32 row]).edge .pea 3

/-- OUTPUT_COMMIT (R19, R20): the seal of the next tick's row. A pair that has not finished is an overrun: the previous commit
is kept. -/
def outputCommit (s : State) : State :=
  let s := { s with trm := { s.trm with shadowOr := 0 } }
  let s := match s.pea.tick with
    | none =>
      if s.bit R.peaCtrl_en then s
      else if s.pea.committed.isEmpty then s else { s with pea := { s.pea with committed := [] } }
    | some r =>
      let busy := (List.range 8).filter (fun p => !(s.pairRun p).finished)
      let s := match busy with
        | [] => { s with pea := { s.pea with committed := s.pea.work } }
        | p :: _ => memberFault p 0 0 4 r s
      let s := if s.bit R.peaCtrl_en then s else { s with pea := { s.pea with committed := [] } }
      let s := liveReport (committedSeal r s)
      { s with trm := { s.trm with hashRow := some r, hashMask := (List.range 8).map (fun w => s.reg (R.dupHmask w)) } }
  let s := if s.bit R.peaCtrl_en then s else (s.putBit R.peaStat_run false).invalidate R.peaTick
  { s with pea := { s.pea with tick := none, faults := [] } }.requestPass

/-- LIVE_CHANGE_APPLY (R152): at the seal of a tick row more than 2.0 µs after GO. -/
def liveApply (r : Nat) (s : State) : State :=
  match s.pea.live with
  | none => s
  | some l =>
    if s.gridNs ≤ l.time + 2000 then s
    else
      let e := l.slot
      let ver := ((s.slotWord e 3).toNat / 65536 + 1) % 65536
      let s := s.setWord (slotAddr e) (BitVec.ofNat 32 (s.slotType e + l.flags * 2 ^ 16 + (l.qmask ||| 1) * 2 ^ 24))
      let s := s.setWord (slotAddr e + 12) (BitVec.ofNat 32 (s.slotBlk e + ver * 2 ^ 16))
      let s := s.setWords (slotAddr e + 0x10) l.set
      let s := bImage e (if l.keep then s else initState e s)
      ({ s with pea := { s.pea with live := none, liveDone := some (e, ver, r) } }).putBit R.peaStat_live_pend false

/-- Empty slots with TEST = 1 (R142): the pairs' lists do not hold them. -/
def State.emptyTest (s : State) : List Nat :=
  ((s.mem.filter (fun (x : Host.Cell) => decide (0xC80000 ≤ x.1 ∧ x.1 < 0xCC0000 ∧ x.1 % 64 = 2) && x.2.getLsbD 1)).map
    (fun x => (x.1 - 0xC80000) / 64)).filter (fun e => s.slotType e == 0 && decide (e < s.numSlots))

/-- The bytes a tick starts from: those of the commit before; an empty slot's is 0x00, or 0x10 with TEST (R142). -/
def State.workStart (s : State) : Table Nat :=
  s.emptyTest.foldl (fun t e => tset 0 t e 16) (s.pea.committed.filter (fun x => s.slotType x.1 != 0))

/-- TICK_START (R19): the seal of tick row `r`. The PHE runs; Δt is the time since the tick row before, 0 on the first (R155). Where the
PHE does not run, the elements read their inputs as INVALID (R137); under GALE the array does not run (R100). -/
def tickStart (r : Nat) (s : State) : State :=
  let s := outputCommit s
  let now := s.headWord r 1
  let s := pheTickRun r s
  if s.bit R.peaCtrl_en && s.get R.gridCfg_mode != 1 then
    let s := liveApply r s
    let dt := match s.pea.lastTick with | some t => (now - t).toNat | none => 0
    let s := s.putBit R.peaStat_run true
    { s with pea := { s.pea with
      tick := some r, lastTick := some now, dt := dt, inputs := s.phe.busy.isSome, rel := s.get R.peaTol_rel, work := s.workStart,
      tlSeal := s.trm.lines, finSeal := s.reg R.fioFiState,
      pair := (List.range 8).foldl (fun t p => tupd {} t p (fun x => { x with ph1 := false, ph2 := false, finished := false, cycles := 0 })) s.pea.pair } }
  else s

/-! ## Registers -/

/-- The effect of a write to PEA CTRL: clearing EN stops at the end of the running tick. -/
def peaCtrlEffect (v : Word) (s : State) : State :=
  let was := s.bit R.peaCtrl_en
  let s := s.storeReg R.peaCtrl v
  if was && !s.bit R.peaCtrl_en then
    let s := (s.invalidate R.peaTick).invalidate R.peaFaultInfo
    if s.pea.tick.isNone then ({ s with pea := { s.pea with committed := [] } }.putBit R.peaStat_run false).requestPass else s
  else if !was && s.bit R.peaCtrl_en then { s with pea := { s.pea with lastTick := none } }
  else s

/-- The effect of a write to PEA_LIVE_CMD (R152). -/
def liveGoEffect (m : Nat) (v : Word) (s : State) : State :=
  if R.peaLiveCmd_go.of v ≠ 1 then s
  else if s.pea.live.isSome then s.raise .pea 0x0101 m
  else
    let e := s.get R.peaLiveSlot_slot
    let ty := s.slotType e
    let set := (List.range 8).map (fun i => s.reg (R.peaLiveData i))
    if !s.bit R.peaCtrl_en ∨ s.numSlots ≤ e ∨ ty = 0 then s.raise .pea 0x0102 m
    else if !setOk ty (s.slotRefs e) set then s.raise .pea 0x0103 m
    else
      let l : LiveChange := ⟨e, s.get R.peaLiveSlot_flags, s.get R.peaLiveSlot_qmask, set, R.peaLiveCmd_keep.of v == 1, s.gridNs⟩
      (({ s with pea := { s.pea with live := some l } }).putBit R.peaStat_live_pend true).invalidate R.peaLiveRes

/-- PEA_LIVE_GO. -/
def execPeaLiveGo (m : Master) (v : Word) (s : State) := done (s.guarded m.val .pea (liveGoEffect m.val v))

/-- PEA_PAIR_STAT_INTERVAL (R147). -/
def execPeaPairStatInterval (s : State) :=
  if !s.bit R.peaCtrl_en then done s
  else done (iterUp 8 (fun p (s : State) =>
    let x := s.pairRun p
    let s := s.complete (R.peaPairStat p) [BitVec.ofNat 32 (Nat.min 0x3FFFF (s.pairLoad p)), BitVec.ofNat 32 (Nat.min 0x3FFFF x.cycMax),
      BitVec.ofNat 32 (Nat.min 0xFFFF x.softDec + Nat.min 0xFFFF x.softAna * 2 ^ 16)]
    s.updPair p (fun x => { x with cycMax := 0, softDec := 0, softAna := 0 })) s)

/-! ## Timers of a slot in the running tick (R143, R155, R161, R162, R169) -/

/-- The running tick's byte of slot `e` while it is not blocked. -/
def State.workLive (s : State) (e : Nat) : Option Nat :=
  let w := tget 0 s.pea.work e
  if s.pea.tick.isSome && !w.testBit 3 then some w else none

/-- ELEMENT_TIMER_EXPIRY (R155): G has reached 1 with PICKUP = 1. -/
def execElementTimerExpiry (e : Fin 4096) (s : State) :=
  let c : Ctx := { s := s, e := e, r := 0 }
  match s.workLive e with
  | some w => done (if w.testBit 0 && !w.testBit 1 && decide (gOne ≤ c.acc) then s.setWork e (w + 2) else s)
  | none => done s

/-- RESET_TIMER_EXPIRY (R161): HT has reached TR under DEFT. -/
def execResetTimerExpiry (e : Fin 4096) (s : State) :=
  let c : Ctx := { s := s, e := e, r := 0 }
  let ty := s.slotType e
  match s.workLive e with
  | some w =>
    done (if (ty == 0x0101 || ty == 0x0111 || ty == 0x0121 || ty == 0x0201 || ty == 0x0211) && c.bits 4 5 4 == 1 && !w.testBit 0
        && fge (c.st 1) (c.set 2) then (s.setWord (slotAddr e + 0x30) 0).setWords (extAddr e) [0, 0] else s)
  | none => done s

/-- The setting that times a type's OPERATE hold (R166, R169, R184). -/
def holdSetting : Nat → Option Nat
  | 0x0421 => some 1 | 0x0601 => some 3 | 0x0611 => some 6 | 0x0A01 => some 3 | 0x0A02 => some 3 | _ => none

/-- OPERATE_HOLD_EXPIRY (R169): HT has reached TRST or TP. -/
def execOperateHoldExpiry (e : Fin 4096) (s : State) :=
  let c : Ctx := { s := s, e := e, r := 0 }
  match s.workLive e, holdSetting (s.slotType e) with
  | some w, some i =>
    done (if !w.testBit 0 && w.testBit 1 && fge (c.st 1) (c.set i) then (s.setWork e (w - 2)).setWord (slotAddr e + 0x34) 0 else s)
  | _, _ => done s

/-- POLARISING_MEMORY_EXPIRY (R162): AUX1 of a head has reached MEMT. -/
def execPolarisingMemoryExpiry (e : Fin 4096) (s : State) :=
  let c : Ctx := { s := s, e := e, r := 0 }
  let ty := s.slotType e
  done (if (ty == 0x0801 || ty == 0x0811) && fge (c.st 3) (fq (2 * (c.bits 7 29 22)) 1000) then s.clearMemBit (extAddr e + 8) 13 else s)

/-- QUALITY_HOLD_EXPIRY (R143): from the 17th quality-blocked tick a HOLD slot acts as BLOCK. -/
def execQualityHoldExpiry (e : Fin 4096) (s : State) :=
  let w := tget 0 s.pea.work e
  done (if s.pea.tick.isSome && decide (16 < tget 0 s.pea.qHold e) && s.slotFlags e / 4 % 4 == 2 && w.testBit 3 then s.setWork e (w - w % 8) else s)

end Sys2Proof.Machine
end

