-- ==== Sys2Proof/Machine/Fabric.lean ====
section
/-! DEFINITION. The Galer fabric: ports, numbering, link state and routes, fabric input bits (R258 to R268). -/

namespace Sys2Proof.Machine

/-! ## Topology (R263) -/

/-- Links of a member that both ends announce. -/
def nbrs (ls : List LinkState) (m : Nat) : List Nat :=
  match ls.find? (fun x => x.origin == m) with
  | none => []
  | some x => (x.links.map (fun l => l.2)).filter (fun n => ls.any (fun y => y.origin == n && y.links.any (fun l => l.2 == m)))

/-- Hop counts from an origin, by member; one round for every hop. -/
def hopRound (ls : List LinkState) (d : List (Option Nat)) : List (Option Nat) :=
  (List.range 64).map (fun m =>
    match d.getD m none with
    | some x => some x
    | none => (nbrs ls m).foldl (fun a n => match a, d.getD n none with
      | some x, some y => some (Nat.min x (y + 1))
      | none, some y => some (y + 1)
      | a, none => a) none)

def hopsFrom (ls : List LinkState) (o : Nat) : List (Option Nat) :=
  (List.range 64).foldl (fun d _ => hopRound ls d) ((List.range 64).map (fun m => if m = o then some 0 else none))

/-- The parent of a member on an origin's tree: its lowest-ID neighbour one hop nearer. -/
def treeParent (ls : List LinkState) (o m : Nat) : Option Nat :=
  let d := hopsFrom ls o
  match d.getD m none with
  | some (k + 1) => (List.range 64).find? (fun n => (nbrs ls m).contains n && d.getD n none == some k)
  | _ => none

/-- A member lies on the path from `x` up an origin's tree. -/
def below (ls : List LinkState) (o m : Nat) : Nat → Nat → Bool
  | 0, x => x == m
  | n + 1, x => x == m || (match treeParent ls o x with | some p => below ls o m n p | none => false)

/-- The depth of this member on an origin's tree. -/
def State.depthOn (s : State) (o : Nat) : Option Nat := (hopsFrom s.gal.links o).getD s.selfId none

/-- Largest hop count of a list. -/
def maxHops (d : List (Option Nat)) : Nat := d.foldl (fun a x => Nat.max a (x.getD 0)) 0

/-- T of R269 in 10 ns units. -/
def gopTime (d : Nat) : Nat := 100 + 60 * d

/-! ## Ports (R258 to R260) -/

def State.galPort (s : State) (p : Nat) : GalPort := tget {} s.gal.port p
def State.updPort (s : State) (p : Nat) (f : GalPort → GalPort) : State := { s with gal := { s.gal with port := tupd {} s.gal.port p f } }

/-- GPp is enabled and powered (R259). -/
def State.portOn (s : State) (p : Nat) : Bool :=
  s.bit R.galCtrl_en && s.regBit R.galCtrl (1 + p) && !(s.get R.sysProfile_active == 2 && decide (2 ≤ p))

/-- This member's links: its UP ports and neighbours. -/
def State.ownLinks (s : State) : List (Nat × Nat) :=
  ((List.range 6).filter (fun p => (s.galPort p).st == .up && decide ((s.galPort p).nId < 64))).map (fun p => (p, (s.galPort p).nId))

/-- The link state of a member is replaced by a newer one. -/
def State.putLinks (s : State) (l : LinkState) : State :=
  { s with gal := { s.gal with links := l :: s.gal.links.filter (fun (x : LinkState) => x.origin != l.origin), changed := true } }

/-- This member announces its links (R263); only a numbered one does. -/
def announce (s : State) : State :=
  if s.get R.galStat_num ≠ 1 then s
  else
    let l : LinkState := ⟨s.selfId, s.gal.seq + 1, s.ownLinks⟩
    ({ s with gal := { s.gal with seq := s.gal.seq + 1 } }.putLinks l).emit (.linkState l.origin l.seq l.links)

/-- A port takes a state: STAT.UP, IRQ_RAW.LINK; coming or leaving UP is announced; a port that is not UP drops its frames (R264). -/
def portState (p : Nat) (x : PortRun) (s : State) : State :=
  let was := (s.galPort p).st
  if was = x then s
  else
    let s := ((s.updPort p (fun g => if x = .up then { g with st := x } else { g with st := x, queue := [], wire := none, owed := 0 })).setRegBit R.galStat (9 + p) (x == .up)).edge .gal 0
    if was = .up ∨ x = .up then announce s else s

/-- PORT_SIGNAL_DETECT. -/
def execPortSignalDetect (p : Fin 6) (s : State) :=
  if s.portOn p && (s.galPort p).st == .down then
    done (portState p .train (s.updPort p (fun g => { g with hello := false, selfLoop := false })))
  else done s

/-- HELLO_RECEIVED (R259): the neighbour's serial number, ID (none while it has none) and port. -/
def execHelloReceived (p : Fin 6) (serial : BitVec 64) (id : Option (Fin 64)) (port : Fin 6) (s : State) :=
  let own := (s.reg R.galSerialLo).toNat + (s.reg R.galSerialHi).toNat * 2 ^ 32
  let st := (s.galPort p).st
  if st = .train ∨ st = .up then
    let s := s.updPort p (fun g => { g with nSerial := serial, nId := (id.map (fun (x : Fin 64) => x.val)).getD 64, nPort := port.val, hello := true })
    if serial.toNat = own then done (portState p .fault (s.updPort p (fun g => { g with selfLoop := true })))
    else done (if st = .up then announce s else s)
  else done s

/-- PORT_TRAIN_COMPLETE: the HELLO exchange and the first delay measurement are done in both directions. -/
def execPortTrainComplete (p : Fin 6) (s : State) :=
  let g := s.galPort p
  done (if g.st = .train ∧ g.hello then portState p .up s else s)

/-- PORT_BLOCK_LOSS. -/
def execPortBlockLoss (p : Fin 6) (s : State) :=
  let st := (s.galPort p).st
  done (if st = .up ∨ st = .train then portState p .down s else s)

/-- PORT_FAULT_RETRY: 10 ms after a FAULT; a self-loop stays. -/
def execPortFaultRetry (p : Fin 6) (s : State) :=
  let g := s.galPort p
  if g.st = .fault ∧ !g.selfLoop ∧ s.portOn p then done (portState p .train (s.updPort p (fun g => { g with hello := false }))) else done s

/-- FRAME_CRC_ERROR (R258, R259): a negative acknowledgement, a replay, the counts; more than 32 in 1 ms is a FAULT. -/
def execFrameCrcError (p : Fin 6) (s : State) :=
  if (s.galPort p).st ≠ .up ∧ (s.galPort p).st ≠ .train then done s
  else
    let now := s.time.ticks
    let s := ((s.updPort p (fun g => { g with
      crc := g.crc + 1, replay := g.replay + 1, crcMs := now :: g.crcMs.filter (fun t => decide (now < t + 250000)) })).addLife (272 + p.val) 1).emit (.nak p)
    done (if 32 < (s.galPort p).crcMs.length then portState p .fault s else s)

/-- LINK_DELAY_MEASUREMENT (R260): the average of 16 exchanges, in 0.1 ns. -/
def execLinkDelayMeasurement (p : Fin 6) (delay : BitVec 20) (s : State) :=
  done (if (s.galPort p).st = .up then s.updPort p (fun g => { g with delay := delay.toNat }) else s)

/-- The number of a port state (the GAL page). -/
def State.portCode (s : State) (p : Nat) : Nat :=
  if !s.portOn p then 0 else match (s.galPort p).st with | .down => 1 | .train => 2 | .up => 3 | .fault => 4

/-- GAL_PORT_STAT_INTERVAL. -/
def execGalPortStatInterval (s : State) :=
  if !s.bit R.galCtrl_en then done s
  else done (iterUp 6 (fun p (s : State) =>
    let g := s.galPort p
    let up := s.portCode p == 3
    let s := s.complete (R.galPortSt p) [BitVec.ofNat 32 (s.portCode p + b2n g.selfLoop * 8 + (if up then g.nId % 64 * 16 else 0) + g.nPort * 2 ^ 10),
      BitVec.ofNat 32 g.delay, BitVec.ofNat 32 (Nat.min 0xFFFF g.crc + Nat.min 0xFFFF g.replay * 2 ^ 16)]
    s.updPort p (fun g => { g with crc := 0, replay := 0 })) s)

/-- The effect of a write to GAL CTRL (R259, the GAL page). -/
def galCtrlEffect (m : Nat) (v : Word) (s : State) : State :=
  let cool := s.get R.sysProfile_active == 2
  let bad := cool && v.toNat / 8 % 16 != 0
  let v := if cool then v &&& 0xFFFFFF87#32 else v
  let s := if bad then s.raise .gal 0x0104 m else s
  let t := s.storeReg R.galCtrl v
  iterUp 6 (fun p (t : State) =>
    let t := if t.portOn p then t else portState p .down t
    t.edgeIf (t.portCode p != s.portCode p) .gal 0) t

/-! ## Link state and routes (R263 to R265) -/

/-- LINK_STATE_FLOOD (R263): a newer link state is kept and flooded on. -/
def execLinkStateFlood (origin : Fin 64) (seq : Nat) (links : List (Nat × Nat)) (s : State) :=
  let old := s.gal.links.find? (fun x => x.origin == origin.val)
  if origin.val = s.selfId ∨ 2 ≤ s.get R.galStat_num ∨ old.any (fun x => decide (seq ≤ x.seq)) then done s
  else done ((s.putLinks ⟨origin.val, seq, links⟩).emit (.linkState origin.val seq links))

/-- The port to a neighbour: of several links the one with the lower port number on the lower-ID member (R259); 7 for none. -/
def State.linkTo (s : State) (n : Nat) : Nat :=
  let key := fun (p : Nat) => if s.selfId < n then p else (s.galPort p).nPort
  ((s.ownLinks.filter (fun l => l.2 == n)).map (fun l => l.1)).foldl (fun a p => if a = 7 ∨ key p < key a then p else a) 7

/-- The port for a destination (R263): by the neighbour of lowest ID one hop nearer; 6 this member, 7 unreachable. -/
def State.routePort (s : State) (m : Nat) : Nat :=
  if m = s.selfId then 6
  else
    let d := hopsFrom s.gal.links m
    match d.getD s.selfId none with
    | some (k + 1) =>
      match (List.range 64).find? (fun n => (nbrs s.gal.links s.selfId).contains n && d.getD n none == some k) with
      | none => 7
      | some n => s.linkTo n
    | _ => 7

/-- ROUTE_UPDATE (R264, R265): routes, GAL_MBR, GAL_DEPTH; inputs from members that cannot be reached become invalid. -/
def routeUpdate (s : State) : State :=
  let d := hopsFrom s.gal.links s.selfId
  let here := s.get R.galStat_num == 1
  let reach := fun (m : Nat) => here && (d.getD m none).isSome
  let old := (s.reg R.galMbrLo).toNat + (s.reg R.galMbrHi).toNat * 2 ^ 32
  let mask := (List.range 64).foldl (fun a m => if reach m then a + 2 ^ m else a) 0
  let s := { s with gal := { s.gal with changed := false } }
  let s := iterUp 64 (fun m (s : State) =>
    s.put ⟨R.galRt (m / 2), 16 * (m % 2) + 8, 16 * (m % 2)⟩ (if reach m then s.routePort m + (d.getD m none).getD 0 * 8 else 7)) s
  let s := (s.setReg R.galMbrLo (BitVec.ofNat 32 mask)).setReg R.galMbrHi (BitVec.ofNat 32 (mask / 2 ^ 32))
  let depth := maxHops ((List.range 64).map (fun m => if reach m then d.getD m none else none))
  let diam := (List.range 64).foldl (fun a o => if reach o then Nat.max a (maxHops (hopsFrom s.gal.links o)) else a) 0
  let s := s.setReg R.galDepth (BitVec.ofNat 32 (depth + gopTime depth * 64 + diam * 2 ^ 18))
  let lost := old - (old &&& mask)
  let s := (s.edge .gal 1).edgeIf (lost != 0) .gal 2
  iterUp 64 (fun m (s : State) =>
    if lost.testBit m then fbiFrom m { s with gal := { s.gal with src := tset none s.gal.src m none } } else s) s

/-- ROUTE_UPDATE. -/
def execRouteUpdate (s : State) := done (if s.gal.changed then routeUpdate s else s)

/-! ## Numbering (R261, R262) -/

/-- Root: the member that holds ID 0; else of those with a PCIe link up and boot complete the one of lowest serial number, where the
fabric has had no root (`prev`); one it has had takes ID 0 again when it rejoins, and no other member does (R262). -/
def rootOf (prev : Option (BitVec 64)) (l : List Sys2Proof.Found) : Option Sys2Proof.Found :=
  match l.find? (fun x => x.held == some 0) with
  | some r => some r
  | none => (l.filter (fun x => x.pcie && prev.all (fun r => x.serial == r))).foldl (fun (a : Option Sys2Proof.Found) x =>
      match a with | some y => if x.serial.toNat < y.serial.toNat then some x else a | none => some x) none

/-- Whether a member other than the root keeps the ID it claims among those members: held IDs stand; of several claims the lowest
serial number stands; ID 0 is the root's. -/
def keepsId (l : List Sys2Proof.Found) (x : Sys2Proof.Found) : Bool :=
  match x.held, x.stored with
  | some _, _ => true
  | none, some i => i.val != 0 && !l.any (fun y => y.held == some i)
      && !l.any (fun y => y.held.isNone && y.stored == some i && decide (y.serial.toNat < x.serial.toNat))
  | none, none => false

/-- IDs and NUM in discovery order: serial, ID, NUM. -/
def numbering (prev : Option (BitVec 64)) (l : List Sys2Proof.Found) : List (BitVec 64 × Nat × Nat) :=
  let root := (rootOf prev l).map (fun x => x.serial)
  let isRoot := fun (x : Sys2Proof.Found) => root == some x.serial
  let rest := l.filter (fun x => !isRoot x)
  let claimed := (rest.filter (keepsId rest)).map (fun x => ((x.held.orElse (fun _ => x.stored)).map (fun (i : Fin 64) => i.val)).getD 0)
  let taken0 := (if root.isSome then [0] else []) ++ claimed
  (l.foldl (fun (a : List (BitVec 64 × Nat × Nat) × List Nat) x =>
    if isRoot x then (a.1 ++ [(x.serial, 0, 1)], a.2)
    else if keepsId rest x then (a.1 ++ [(x.serial, ((x.held.orElse (fun _ => x.stored)).map (fun (i : Fin 64) => i.val)).getD 0, 1)], a.2)
    else if x.stored.isSome then (a.1 ++ [(x.serial, 0, 2)], a.2)
    else if root.isNone then (a.1 ++ [(x.serial, 0, 0)], a.2)
    else match (List.range 64).find? (fun i => !a.2.contains i) with
      | some i => (a.1 ++ [(x.serial, i, 1)], i :: a.2)
      | none => (a.1 ++ [(x.serial, 0, 3)], a.2)) ([], taken0)).1

/-- This member's own serial number. -/
def State.ownSerial (s : State) : BitVec 64 := BitVec.ofNat 64 ((s.reg R.galSerialLo).toNat + (s.reg R.galSerialHi).toNat * 2 ^ 32)

/-- The members found, with what this member knows of itself (R261). -/
def State.foundHere (s : State) (l : List Sys2Proof.Found) : List Sys2Proof.Found :=
  l.map (fun (x : Sys2Proof.Found) => if x.serial = s.ownSerial then
    { x with stored := if s.gal.lostRoot then none else s.gal.stored.map (fun i => Fin.ofNat 64 i),
             held := if s.get R.galStat_num = 1 then some (Fin.ofNat 64 s.selfId) else none,
             pcie := s.bit R.pciLink_up && s.bit R.sysStat_booted } else x)

/-- DISCOVERY (R261, R262): the members found, breadth-first from the root, this member among them. -/
def discovery (l : List Sys2Proof.Found) (s : State) : State :=
  let l := s.foundHere l
  let prev := s.gal.rootSerial
  match (numbering prev l).find? (fun x => x.1 == s.ownSerial) with
  | none => s
  | some (_, id, num) =>
    let r := (rootOf prev l).map (fun x => x.serial)
    let root := r == some s.ownSerial
    let s := { s with gal := { s.gal with lostRoot := s.gal.lostRoot || (s.bit R.galStat_root && !root), rootSerial := r.or prev } }
    let s := (((s.put R.galStat_id id).put R.galStat_num num).putBit R.galStat_root root).putBit R.pciLink_root root
    announce s

/-- DISCOVERY. -/
def execDiscovery (l : List Sys2Proof.Found) (s : State) := done (if s.bit R.galCtrl_en then discovery l s else s)

/-! ## Fabric input bits (R268) -/

/-- FABRIC_BITS_FRAME: the 64 bits of a member. -/
def execFabricBitsFrame (m : Fin 64) (bits : BitVec 64) (s : State) :=
  if !s.bit R.galCtrl_en ∨ !s.arrBit R.galMbrLo m ∨ m.val = s.selfId then done s
  else done (fbiFrom m { s with gal := { s.gal with src := tset none s.gal.src m (some bits.toNat) } })

/-- FABRIC_BITS_REFRESH. -/
def execFabricBitsRefresh (s : State) :=
  if s.bit R.galCtrl_en ∧ s.get R.galStat_num = 1 then done (s.emit (.fabricBits s.fbGated)) else done s

/-- FBI_TIMEOUT: no frame from a source for FBI_TO. -/
def execFbiTimeout (m : Fin 64) (s : State) :=
  done (fbiFrom m { s with gal := { s.gal with src := tset none s.gal.src m none } })

/-- FBI_HOLD_END. -/
def execFbiHoldEnd (i : Fin 256) (s : State) := done (s.setFbi i (s.fbi i).release)

/-- The effect of a write to GAL_FBIi (R268). -/
def galFbiEffect (i : Nat) (v : Word) (s : State) : State := (fbiRefresh i (s.storeReg (R.galFbi i) v)).requestPass

/-- GAL_FBI_WRITE. -/
def execGalFbiWrite (m : Master) (i : Fin 256) (v : Word) (s : State) := done (s.guarded m.val .gal (galFbiEffect i.val v))

end Sys2Proof.Machine
end

