-- ==== Sys2Proof/Machine/Gop.lean ====
section
/-! DEFINITION. Global operations: barriers, broadcasts, scheduled snapshots and resets (R269 to R272). -/

namespace Sys2Proof.Machine

/-- GAL_GOP_CMD.OP. -/
def opBARRIER : Nat := 1
def opBROADCAST : Nat := 2
def opSNAPSHOT : Nat := 3
def opRESET : Nat := 4
/-- The member-set command of a Cumulus set travels as a scheduled operation too (R280); the number is the model's. -/
def opCUM : Nat := 5

/-- The grid instant of a ROW, in 2^-32 samples of 96 kHz: rows to come at the increment in force, earlier rows back. -/
def State.rowInstant (s : State) (r : Nat) : Int :=
  let d := (r + rowMod - s.grid.row % rowMod) % rowMod
  let n : Int := if d ≤ rowMod / 2 then d else (d : Int) - (rowMod : Nat)
  (s.grid.origin * 2 ^ 24 + s.grid.pos : Nat) + n * (s.rowStep : Nat)

/-- Nanoseconds until an instant (R270), none under ATMODE ROW while the grid is stopped. -/
def State.leadTo (s : State) (atMode at_ : Nat) : Option Int :=
  if atMode = 1 then some (4 * signedOf 32 ((BitVec.ofNat 32 at_ - s.tstamp).toNat))
  else if atMode = 2 ∧ s.bit R.gridStat_run then some (s.rowInstant at_ * 1000000000 / (96000 * 2 ^ 32 : Nat) - (s.gridNs : Nat))
  else none

/-- D of R269: the largest hop count from this member to a member of the set it can reach. -/
def State.setDepth (s : State) (set : Nat) : Nat :=
  let d := hopsFrom s.gal.links s.selfId
  maxHops ((List.range 64).map (fun m => if set.testBit m then d.getD m none else none))

/-- The members of GAL_MBR. -/
def State.members (s : State) : Nat := (s.reg R.galMbrLo).toNat + (s.reg R.galMbrHi).toNat * 2 ^ 32

/-- This member is numbered and in a set. -/
def State.inSet (s : State) (set : Nat) : Bool := s.get R.galStat_num == 1 && set.testBit s.selfId

/-- This member's answer to an operation: to itself where it is the origin. -/
def gopAnswer (origin seq : Nat) (late : Bool) (s : State) : State :=
  if origin = s.selfId then
    let s := { s with dup := { s.dup with cmd := s.dup.cmd.map (fun (c : CumCmd) =>
        if c.seq ≠ seq then c
        else if late then { c with late := c.late ||| 2 ^ s.selfId } else { c with acked := c.acked ||| 2 ^ s.selfId }) } }
    { s with gal := { s.gal with gop := s.gal.gop.map (fun (g : Gop) =>
        if g.seq ≠ seq then g
        else if late then { g with late := g.late ||| 2 ^ s.selfId } else { g with acked := g.acked ||| 2 ^ s.selfId }) } }
  else s.emit (.gopAck origin seq late)

/-- A broadcast is delivered: GAL_BCAST_RX completes (R271). -/
def broadcastIn (origin : Nat) (data : List Word) (s : State) : State :=
  let d := data.take 14
  ((s.complete R.galBcastRx (BitVec.ofNat 32 (origin + d.length * 64) :: (d ++ List.replicate (14 - d.length) 0))).edge .gal 4)

/-- This member's arrival reaches the origin of a barrier (R271). -/
def barrierArrived (origin seq : Nat) (s : State) : State :=
  if origin = s.selfId then gopAnswer origin seq false s else s.emit (.barrier origin seq false)

/-- A word of the descriptor of Cumulus set `k` (R273). -/
def State.cumDesc (s : State) (k o : Nat) : Nat := (s.word (0x1382000 + 32 * k + o)).toNat
def State.cumMask (s : State) (k : Nat) : Nat := s.cumDesc k 0 + s.cumDesc k 4 * 2 ^ 32
def State.cumOrigin (s : State) (k : Nat) : Nat := s.cumDesc k 0x10 % 64
def State.cumAlt (s : State) (k : Nat) : Nat := s.cumDesc k 0x10 / 64 % 64

/-- A member-set command reaches the set's origin or ALT (R280): it waits for its row. -/
def cumCmdIn (origin seq at_ : Nat) (w : Word) (s : State) : State :=
  let k := R.cumCmd_set.of w
  if s.selfId ≠ s.cumOrigin k ∧ s.selfId ≠ s.cumAlt k then s
  else if (s.leadTo 2 at_).any (fun (t : Int) => decide (0 < t)) then
    gopAnswer origin seq false
      { s with dup := { s.dup with changes := s.dup.changes ++ [⟨k, R.cumCmd_op.of w == 1, R.cumCmd_mbr.of w, at_⟩] } }
  else gopAnswer origin seq true s

/-- An operation reaches this member (R269 to R272). -/
def gopDeliver (origin seq op tgt atMode at_ : Nat) (data : List Word) (s : State) : State :=
  if op = opCUM then cumCmdIn origin seq at_ (data.getD 0 0) s
  else if op = opBROADCAST then gopAnswer origin seq false (broadcastIn origin data s)
  else if op = opBARRIER then
    let held := s.gal.arrived
    let s := { s with gal := { s.gal with arrived := false, barriers := s.gal.barriers ++ [(origin, seq, held)] } }
    if held then barrierArrived origin seq s else s
  else
    match s.leadTo atMode at_ with
    | some t =>
      if t ≤ 0 then gopAnswer origin seq true s
      else gopAnswer origin seq false { s with gal := { s.gal with due := s.gal.due ++ [⟨op, origin, seq, tgt, atMode, at_⟩] } }
    | none => gopAnswer origin seq true s

/-- The effect of a write to GAL_GOP_CMD (R269 to R272). -/
def gopEffect (m : Nat) (v : Word) (s : State) : State :=
  let op := R.galGopCmd_op.of v
  let atMode := R.galGopCmd_atmode.of v
  let set := (s.reg R.galGopSetLo).toNat + (s.reg R.galGopSetHi).toNat * 2 ^ 32
  let at_ := (s.reg R.galGopAt).toNat
  let lead := s.leadTo atMode at_
  if op = 0 ∨ 4 < op then s
  else if s.gal.gop.isSome then s.raise .gal 0x0101 m
  else if set = 0 then s.raise .gal 0x0103 m
  else if opSNAPSHOT ≤ op ∧ !lead.any (fun (t : Int) => decide (((10 * gopTime (s.setDepth set) : Nat) : Int) < t)) then s.raise .gal 0x0102 m
  else
    let tgt := if op = opRESET then R.galGopCmd_tgt.of v else 0
    let len := Nat.min 14 (Nat.max 1 (R.galGopCmd_len.of v))
    let data := if op = opBROADCAST then (List.range len).map (fun i => s.reg (R.galGopData i)) else []
    let seq := s.gal.gopSeq + 1
    let g : Gop := { op := op, seq := seq, set := set, data := data, tgt := tgt, atMode := atMode, at_ := at_, reach := s.members, issued := s.time.ticks }
    let s := ({ s with gal := { s.gal with gop := some g, gopSeq := seq } } : State).invalidate R.galGopRes
    let s := s.emit (.gop s.selfId seq set op tgt atMode at_ data)
    if s.inSet set then gopDeliver s.selfId seq op tgt atMode at_ data s else s

/-- The command word with its OP. -/
def withOp (op : Nat) (v : Word) : Word := R.galGopCmd_op.put v op

/-- BARRIER. -/
def execBarrier (m : Master) (v : Word) (s : State) := done (s.guarded m.val .gal (gopEffect m.val (withOp 1 v)))

/-- BROADCAST. -/
def execBroadcast (m : Master) (v : Word) (s : State) := done (s.guarded m.val .gal (gopEffect m.val (withOp 2 v)))

/-- SNAPSHOT. -/
def execSnapshot (m : Master) (v : Word) (s : State) := done (s.guarded m.val .gal (gopEffect m.val (withOp 3 v)))

/-- GOP_RESET. -/
def execGopReset (m : Master) (v : Word) (s : State) := done (s.guarded m.val .gal (gopEffect m.val (withOp 4 v)))

/-- GOP_DELIVERY: an operation of another member. -/
def execGopDelivery (origin : Fin 64) (seq : Nat) (op : Fin 6) (tgt : Fin 8) (atMode : Fin 4) (at_ : BitVec 32) (data : List Word) (s : State) :=
  if op.val = 0 ∨ origin.val = s.selfId ∨ s.get R.galStat_num ≠ 1 then done s
  else done (gopDeliver origin seq op tgt atMode at_.toNat data s)

/-- BROADCAST_RECEIVED: a broadcast of another member. -/
def execBroadcastReceived (origin : Fin 64) (seq : Nat) (data : List Word) (s : State) :=
  if origin.val = s.selfId ∨ s.get R.galStat_num ≠ 1 then done s
  else done (gopDeliver origin seq opBROADCAST 0 0 0 data s)

/-- GAL_SNAP latches (R270): the last sealed row, the instant, inputs, outputs and lines. -/
def snapLatch (time : Word) (s : State) : State :=
  let row : Word := if s.bit R.gridStat_run then s.groupWord R.gridNow 1 else 0
  s.complete R.galSnap ([row, time, s.reg R.fioFiState, s.reg R.fioFoPin &&& 0x1FFFF#32]
    ++ (List.range 8).map (fun i => BitVec.ofNat 32 (s.trm.lines / 2 ^ (32 * i))))

/-- The sticky registers a STICKY target clears (R270). -/
def stickyRegs : List Nat :=
  [R.afeOvrSticky, R.afeBsiOvrSticky, R.dfcSatStickyLo, R.dfcSatStickyHi, R.gridSatStickyLo, R.gridSatStickyHi,
   R.trmStkStickyLo, R.trmStkStickyHi, R.fioOvlSticky, R.fioClampSticky]

/-- The targets of a scheduled reset (R270); SYNC is ignored while the chain is off (R272). -/
def resetTargets (tgt : Nat) (s : State) : State :=
  let s := if tgt.testBit 0 && s.bit R.dfcCtrl_en then s.syncRequest 3 else s
  let s := if tgt.testBit 1 then latchRstEffect 0xFFFF#32 s else s
  if tgt.testBit 2 then stickyRegs.foldl (fun (s : State) a => s.storeReg a 0xFFFFFFFF#32) s else s

/-- GOP_INSTANT: the instant has come; every operation that names it acts, snapshots first. -/
def execGopInstant (row : Bool) (at_ : BitVec 32) (s : State) :=
  let md := if row then 2 else 1
  let hit := fun (d : GopDue) => d.atMode == md && d.at_ == at_.toNat
  let now := s.gal.due.filter hit
  let time := if row then tstamp32 (s.rowInstant at_.toNat).toNat else at_
  let s := { s with gal := { s.gal with due := s.gal.due.filter (fun (d : GopDue) => !hit d) } }
  let s := (now.filter (fun d => d.op == opSNAPSHOT)).foldl (fun (s : State) _ => snapLatch time s) s
  done ((now.filter (fun d => d.op == opRESET)).foldl (fun (s : State) d => resetTargets d.tgt s) s)

/-- The effect of a write to GAL_BAR_ARRIVE (R271): the oldest barrier this member has not arrived at, else the arrival is
held. -/
def barArriveEffect (v : Word) (s : State) : State :=
  if R.galBarArrive_go.of v = 0 then s
  else match s.gal.barriers.find? (fun b => !b.2.2) with
    | none => { s with gal := { s.gal with arrived := true } }
    | some b =>
      barrierArrived b.1 b.2.1 { s with gal := { s.gal with
        barriers := s.gal.barriers.map (fun (x : Nat × Nat × Bool) => if x == b then (x.1, x.2.1, true) else x) } }

/-- BARRIER_ARRIVE. -/
def execBarrierArrive (m : Master) (v : Word) (s : State) := done (s.guarded m.val .gal (barArriveEffect (v ||| 1#32)))

/-- GAL_GOP_RES completes at the origin (R271, R272): STATUS, OP, MISS, ELAPSED in 10 ns units. -/
def gopFinish (status miss : Nat) (s : State) : State :=
  match s.gal.gop with
  | none => s
  | some g =>
    let el := (s.time.ticks - g.issued) * 4 / 10
    let s := { s with gal := { s.gal with gop := none } }
    (s.complete R.galGopRes [BitVec.ofNat 32 (status + g.op * 4), BitVec.ofNat 32 miss, BitVec.ofNat 32 (miss / 2 ^ 32), BitVec.ofNat 32 el]).edge .gal 3

/-- BARRIER_RELEASE: every member of the set that the barrier reached has arrived, and the release reaches this member. -/
def execBarrierRelease (origin : Fin 64) (seq : Nat) (s : State) :=
  let here := s.gal.barriers.any (fun b => b.1 == origin.val && b.2.1 == seq)
  let arr := s.gal.barriers.any (fun b => b.1 == origin.val && b.2.1 == seq && b.2.2)
  if here && !arr then done s
  else
    let s := if arr then
        ({ s with gal := { s.gal with barriers := s.gal.barriers.filter (fun (b : Nat × Nat × Bool) => !(b.1 == origin.val && b.2.1 == seq)) } } : State).edge .gal 3
      else s
    match s.gal.gop with
    | some g =>
      if origin.val = s.selfId ∧ g.op = opBARRIER ∧ g.seq = seq then
        let miss := g.set - (g.set &&& g.reach)
        done ((gopFinish (if miss = 0 then 0 else 1) miss s).emit (.barrier origin seq true))
      else done s
    | none => done s

/-- BARRIER_TIMEOUT: BAR_TO has passed at the origin; `arrived` are the other members that have arrived. -/
def execBarrierTimeout (arrived : BitVec 64) (s : State) :=
  match s.gal.gop with
  | some g =>
    if g.op ≠ opBARRIER then done s
    else
      let got := (arrived.toNat - (arrived.toNat &&& 2 ^ s.selfId)) ||| g.acked
      let miss := g.set - (g.set &&& got)
      let s := { s with gal := { s.gal with barriers := s.gal.barriers.filter (fun (b : Nat × Nat × Bool) => !(b.1 == s.selfId && b.2.1 == g.seq)) } }
      done (gopFinish 2 miss s)
  | none => done s

/-- The members whose acknowledgement counts: `acked` and `late` name other members; this member's own answer is in the state. -/
def answered (self ownAck ownLate acked late : Nat) : Nat :=
  let others := acked - (acked &&& 2 ^ self)
  let got := others ||| ownAck
  got - (got &&& (late ||| ownLate))

/-- CUM_CMD_RES completes (R280): 0 OK, 1 PARTIAL, 2 LATE. -/
def cumCmdFinish (c : CumCmd) (acked late : Nat) (s : State) : State :=
  let o := s.cumOrigin c.set
  let ok := answered s.selfId c.acked c.late acked late
  let st := if (late ||| c.late).testBit o then 2 else if ok.testBit o && ok.testBit (s.cumAlt c.set) then 0 else 1
  (({ s with dup := { s.dup with cmd := none } } : State).complete R.cumCmdRes [BitVec.ofNat 32 st, BitVec.ofNat 32 c.row]).edge .dup 3

/-- GOP_COMPLETE: the operation numbered `seq` ends; the acknowledgements of the other members, and those that answered LATE. -/
def execGopComplete (seq : Nat) (acked late : BitVec 64) (s : State) :=
  match s.dup.cmd.filter (fun c => c.seq == seq) with
  | some c => done (cumCmdFinish c acked.toNat late.toNat s)
  | none =>
    match s.gal.gop with
    | some g =>
      if g.op = opBARRIER ∨ g.seq ≠ seq then done s
      else
        let ok := answered s.selfId g.acked g.late acked.toNat late.toNat
        let miss := g.set - (g.set &&& ok)
        done (gopFinish (if miss = 0 then 0 else 1) miss s)
    | none => done s

/-- R272: a grid set discards the operations that wait under ATMODE TIME; each is answered LATE. -/
def gopDiscard (s : State) : State :=
  let gone := s.gal.due.filter (fun d => d.atMode == 1)
  let s := { s with gal := { s.gal with due := s.gal.due.filter (fun (d : GopDue) => d.atMode != 1) } }
  gone.foldl (fun (s : State) d => gopAnswer d.origin d.seq true s) s

end Sys2Proof.Machine
end

