-- ==== Sys2Proof/Machine/Mac.lean ====
section
/-! DEFINITION. The Ethernet MACs (chapter 18): receive steering and rings, transmit priority, rings and large send, PAUSE
(R289 to R298). The MACs act as master 5. -/

namespace Sys2Proof.Machine

/-- A page of a MAC. -/
def macPage : Nat → Page | 0 => .mac0 | 1 => .mac1 | 2 => .mac2 | _ => .mac3

/-- Places of the counters in MAC_CNT. -/
def cRXOK : Nat := 0
def cRUNT : Nat := 1
def cOVERSIZE : Nat := 2
def cFCS : Nat := 3
def cFILTERED : Nat := 4
def cFIFO : Nat := 5
def cNOBUF : Nat := 6
def cPAUSE : Nat := 7
def cTXOK : Nat := 8
def cTXERR : Nat := 9
def cPAUSED : Nat := 10
def cHW : Nat := 11

/-- A counter adds `n` and wraps. -/
def State.macCount (s : State) (p c n : Nat) : State :=
  s.updMac p (fun x => { x with cnt := x.cnt.set c ((x.cnt.getD c 0 + n) % 2 ^ 32) })

/-! ## Frames as bytes (without FCS) -/

/-- A big-endian number of two bytes at an offset. -/
def be16 (bs : List Byte) (o : Nat) : Nat := (bs.getD o 0).toNat * 256 + (bs.getD (o + 1) 0).toNat
/-- A frame carries a VLAN tag. -/
def frTagged (bs : List Byte) : Bool := be16 bs 12 == 0x8100
/-- Offset of the Ethertype. -/
def frType (bs : List Byte) : Nat := if frTagged bs then 16 else 12
def frEther (bs : List Byte) : Nat := be16 bs (frType bs)
/-- The destination address, byte 0 lowest. -/
def frDst (bs : List Byte) : Nat := leNat (bs.take 6)
def frPcp (bs : List Byte) (dflt : Nat) : Nat := if frTagged bs then be16 bs 14 / 2 ^ 13 else dflt
/-- The station address, byte 0 lowest. -/
def State.macAddr (s : State) (p : Nat) : Nat := (s.reg (R.macAddrLo p)).toNat + s.get (R.macAddrHi_addr p) * 2 ^ 32
def State.macMax (s : State) (p : Nat) : Nat := s.get (R.macMaxlen_maxlen p)

/-- The one's-complement sum of a run of bytes as 16-bit big-endian words. -/
def onesSum : List Byte → Nat → Nat
  | a :: b :: t, x => let y := x + a.toNat * 256 + b.toNat; onesSum t (y % 65536 + y / 65536)
  | [a], x => let y := x + a.toNat * 256; y % 65536 + y / 65536
  | [], x => x

/-- Offset and kind of the layer 4 header of an IPv4 frame that carries a whole TCP (6) or UDP (17) datagram. -/
def l4Of (bs : List Byte) : Option (Nat × Nat) :=
  let i := frType bs + 2
  if frEther bs ≠ 0x0800 then none
  else
    let proto := (bs.getD (i + 9) 0).toNat
    if be16 bs (i + 6) % 2 ^ 14 % 2 ^ 13 ≠ 0 ∨ be16 bs (i + 6) / 2 ^ 13 % 2 = 1 ∨ (proto ≠ 6 ∧ proto ≠ 17) then none
    else some (i + (bs.getD i 0).toNat % 16 * 4, proto)

/-- CSUM of a received frame (R293). -/
def rxCsum (bs : List Byte) : Nat :=
  let i := frType bs + 2
  match l4Of bs with
  | none => 0
  | some (o, proto) =>
    let tot := be16 bs (i + 2)
    let body := (bs.drop o).take (tot - (o - i))
    let head := onesSum ((bs.drop i).take (o - i)) 0
    let l4 := onesSum body (onesSum ((bs.drop (i + 12)).take 8) (proto + body.length))
    if head = 0xFFFF ∧ (l4 = 0xFFFF ∨ (proto = 17 ∧ be16 bs (o + 6) = 0)) then 1 else 2

/-! ## Rings (R292 to R295) -/

/-- Descriptors in ring `q` (0 to 3 receive, 4 to 7 transmit). -/
def State.ringSize (s : State) (p q : Nat) : Nat := 2 ^ Nat.min 12 (Nat.max 4 (s.get (R.macRingCfg_log2 p q)))
def State.ringHead (s : State) (p q : Nat) : Nat := s.get (R.macRingIdx_head p q)
/-- Descriptors the device owns. -/
def State.ringOwned (s : State) (p q : Nat) : Nat :=
  let n := s.ringSize p q
  (s.get (R.macRingIdx_tail p q) % n + n - s.ringHead p q % n) % n
def State.ringBase (s : State) (p q : Nat) : Nat := (s.reg (R.macRingBaseLo p q)).toNat + s.get (R.macRingBaseHi_base p q) * 2 ^ 32
def State.ringMove (s : State) (p q k : Nat) : State := s.put (R.macRingIdx_head p q) ((s.ringHead p q + k) % s.ringSize p q)

/-- A descriptor or buffer access has failed (R294, R296). -/
def ringFail (p q : Nat) (s : State) : State := (s.putBit (R.macRingCfg_en p q) false).raise (macPage p) 0x0103 15

/-- The words of a descriptor, none where the access fails. -/
def descRead (a words : Nat) (s : State) : Option (List Nat) × State :=
  let r := s.devRead 5 a (4 * words)
  if r.1.isSome then (none, r.2.2) else (some ((List.range words).map (fun k => leNat ((r.2.1.drop (4 * k)).take 4))), r.2.2)

/-! ## Receive -/

/-- Words 2 and 3 of the receive descriptors from HEAD, and their buffers. -/
def rxStore (p q : Nat) (bs : List Byte) (frag : Bool) (pcp csum total : Nat) : Nat → Nat → State → Bool × State
  | 0, _, s => (true, s)
  | n + 1, k, s =>
    let d := s.ringBase p q + 16 * ((s.ringHead p q + k) % s.ringSize p q)
    let r := descRead d 2 s
    match r.1 with
    | none => (false, r.2)
    | some ws =>
      let buf := ws.getD 0 0 + ws.getD 1 0 % 65536 * 2 ^ 32
      let part := (bs.drop (2048 * k)).take 2048
      let w := r.2.devWrite 5 buf part
      if w.1.isSome then (false, w.2)
      else
        let eof := k + 1 == total && !frag
        let w2 := (if frag then 0 else part.length) + 2 ^ 16 + b2n (k == 0) * 2 ^ 17 + b2n eof * 2 ^ 18 + b2n frag * 2 ^ 19 + b2n (frTagged bs) * 2 ^ 20
          + csum * 2 ^ 21 + pcp * 2 ^ 23
        let x := w.2.devWrite 5 (d + 8) (leBytes 4 w2 ++ leBytes 4 w.2.tstamp.toNat)
        if x.1.isSome then (false, x.2) else rxStore p q bs frag pcp csum total n (k + 1) x.2

/-- A frame bound for ring `q` (R292 to R294). -/
def toRing (p q : Nat) (bs : List Byte) (full : Bool) (s : State) : State :=
  let total := Nat.max 1 ((bs.length + 2047) / 2048)
  let owned := s.ringOwned p q
  let nobuf := fun (s : State) => (s.macCount p cNOBUF 1).edge (macPage p) 9
  if full then s.macCount p cFIFO 1
  else if !s.bit (R.macRingCfg_en p q) || owned == 0 then nobuf s
  else
    let frag := decide (owned < total)
    let n := Nat.min owned total
    let r := rxStore p q bs frag (frPcp bs (s.get (R.macSteer_def_pcp p))) (rxCsum bs) total n 0 s
    if !r.1 then ringFail p q r.2
    else
      let s := (r.2.ringMove p q n).edge (macPage p) (1 + q)
      if frag then nobuf s else s.macCount p cRXOK 1

/-- The address filter (R290 step 7). -/
def State.macAccepts (s : State) (p : Nat) (bs : List Byte) : Bool :=
  let d := frDst bs
  let multi := d % 2 == 1
  let h := (crc32 (bs.take 6)).toNat / 2 ^ 26
  s.bit (R.macCtrl_promisc p) || (!multi && d == s.macAddr p) || (d == 2 ^ 48 - 1 && s.bit (R.macCtrl_bcast_en p))
    || (multi && d != 2 ^ 48 - 1 && (s.bit (R.macCtrl_allmulti p) || s.arrBit (R.macMchashLo p) h))

/-- PTP messages handled in hardware (R247): Sync, Pdelay_Req, Pdelay_Resp, Follow_Up, Pdelay_Resp_Follow_Up, Announce. -/
def ptpHandled (t : Nat) : Bool := [0, 2, 3, 8, 10, 11].contains t

/-- Address of subscription `k` (R299). -/
def subAddr (k : Nat) : Nat := 0x1420000 + 0x80 * k
def State.subEn (s : State) (k : Nat) : Bool := (s.word (subAddr k)).getLsbD 0

/-- A frame matches subscription `k` (R303). -/
def State.subMatches (s : State) (k port dmac appid : Nat) (ref : List Byte) : Bool :=
  let w0 := (s.word (subAddr k)).toNat
  let w2 := (s.word (subAddr k + 8)).toNat
  w0 % 2 == 1 && w0 / 2 ^ (1 + port) % 2 == 1 && (s.word (subAddr k + 4)).toNat + w2 % 65536 * 2 ^ 32 == dmac && w2 / 65536 == appid
    && memBytes s.mem (subAddr k + 0x11) (Nat.min 111 (memByte s.mem (subAddr k + 0x10)).toNat) == ref

/-- A hardware function claims a frame (R290 steps 3 to 5). DESIGN CHOICE (safe, log entry 91): while GS_EN = 0 no subscription is enabled. -/
def State.hwClaims (s : State) (p : Nat) (bs ref : List Byte) : Bool :=
  let o := frType bs + 2
  match frEther bs with
  | 0x88F7 =>
    ptpHandled ((bs.getD o 0).toNat % 16) && [0, 1].any (fun d => s.bit (R.timDCfg_en d) && (s.get (R.timDCfg_ports d)).testBit p)
  | 0x88BA =>
    decide (p < 2) && (List.range 64).any (fun k => s.bit (R.svsSlCfg_en k)
      && (s.reg (R.svsSlCfg k + 4)).toNat + s.get (R.svsSlAddr_dmac_hi k) * 2 ^ 32 == frDst bs && s.get (R.svsSlAddr_appid k) == be16 bs o)
  | 0x88B8 => s.bit R.gosCtrl_gs_en && (List.range 512).any (fun k => s.subMatches k p (frDst bs) (be16 bs o) ref)
  | _ => false

/-! ## PAUSE (R297) -/

/-- Transmission resumes; the time held is counted. -/
def pauseEnd (p : Nat) (s : State) : State :=
  if !s.bit (R.macStat_paused p) then s
  else (s.macCount p cPAUSED ((s.time.ticks - (s.macPort p).pausedAt) * 4 / 1000)).putBit (R.macStat_paused p) false

/-- SVP_FRAME_DROP: SV frames that have not started within 10 µs of their instant. -/
def svDrop (p : Nat) (s : State) : State :=
  let lateF := fun (x : TxItem) => match x with | .sv f => decide (f.due + 2500 < s.time.ticks) | _ => false
  let n := ((s.macPort p).svQ.filter lateF).length
  if n = 0 then s
  else ({ (s.updMac p (fun x => { x with svQ := x.svQ.filter (fun y => !lateF y) })) with gos := { s.gos with svpDrop := (s.gos.svpDrop + n) % 2 ^ 32 } }).edge .gos 3

/-- A PAUSE frame with its quanta. -/
def pauseIn (p quanta : Nat) (s : State) : State :=
  let s := s.macCount p cPAUSE 1
  if s.bit (R.macCtrl_ignore_pause p) then s
  else if quanta = 0 then svDrop p (pauseEnd p s)
  else
    let s := if s.bit (R.macStat_paused p) then s else s.updMac p (fun x => { x with pausedAt := s.time.ticks })
    svDrop p (s.putBit (R.macStat_paused p) true)

/-- PAUSE_RECEIVED. -/
def execPauseReceived (p : Fin 4) (quanta : BitVec 16) (s : State) :=
  done (if s.bit (R.macCtrl_en p.val) then pauseIn p.val quanta.toNat s else s)

/-- PAUSE_EXPIRY. -/
def execPauseExpiry (p : Fin 4) (s : State) := done (svDrop p.val (pauseEnd p.val s))

/-- MAC_RX_FRAME (R290, R291): a frame without its FCS, whether the FCS is good, the gocbRef it carries, and whether the receive
FIFO is full. What a hardware function makes of a frame it claims is that function's own command. The command stands at the frame's
timestamp point (DESIGN CHOICE, log entry 91). -/
def execMacRxFrame (p : Fin 4) (bs : List Byte) (fcs : Bool) (ref : List Byte) (full : Bool) (s : State) :=
  let p := p.val
  let len := bs.length + 4
  let ring := fun (q : Nat) => toRing p q bs full s
  let t := frEther bs
  done (
    if !s.bit (R.macCtrl_en p) then s
    else if len ≤ 63 then s.macCount p cRUNT 1
    else if s.macMax p < len then s.macCount p cOVERSIZE 1
    else if !fcs then (s.macCount p cFCS 1).addLife (278 + p) 1
    else if t = 0x8808 ∧ be16 bs (frType bs + 2) = 0x0001 then pauseIn p (be16 bs (frType bs + 4)) s
    else if t = 0x8808 ∧ be16 bs (frType bs + 2) = 0x0101 then s.macCount p cFILTERED 1
    else if s.hwClaims p bs ref then s.macCount p cHW 1
    else if t = 0x88BA then (if s.bit (R.macSteer_drop_sv p) then s else ring (s.get (R.macSteer_sv_ring p)))
    else if t = 0x88B8 then (if s.bit (R.macSteer_drop_goose p) then s else ring (s.get (R.macSteer_goose_ring p)))
    else if !s.macAccepts p bs then s.macCount p cFILTERED 1
    else if t = 0x88F7 then ring (s.get (R.macSteer_ptp_ring p))
    else ring (s.get (R.macSteer_pcpmap p) / 4 ^ (frPcp bs (s.get (R.macSteer_def_pcp p))) % 4))

/-! ## Transmit (R295 to R298) -/

/-- Bytes replaced from an offset. -/
def patch (bs : List Byte) (o : Nat) (new : List Byte) : List Byte := bs.take o ++ new ++ bs.drop (o + new.length)

/-- `n` big-endian bytes. -/
def beBytes (n v : Nat) : List Byte := (leBytes n v).reverse

/-- The TCP or UDP checksum inserted over the pseudo-header and the segment. -/
def l4Insert (ipv6 udp : Bool) (l3 l4 : Nat) (bs : List Byte) : List Byte :=
  let len := bs.length - l4
  let addrs := if ipv6 then (bs.drop (l3 + 8)).take 32 else (bs.drop (l3 + 12)).take 8
  let z := patch bs (l4 + (if udp then 6 else 16)) [0, 0]
  let c := 0xFFFF - onesSum (z.drop l4) (onesSum addrs ((if udp then 17 else 6) + len / 65536 + len % 65536))
  patch z (l4 + (if udp then 6 else 16)) (beBytes 2 (if udp ∧ c = 0 then 0xFFFF else c))

/-- Segment `i` of `S` of a large send (R298). -/
def lsoSegment (ipv6 udp : Bool) (l3 l4 mss S i : Nat) (head body : List Byte) : List Byte :=
  let x := head ++ body
  let x := if ipv6 then patch x (l3 + 4) (beBytes 2 (x.length - l3 - 40))
    else
      let y := patch (patch (patch x (l3 + 2) (beBytes 2 (x.length - l3))) (l3 + 4) (beBytes 2 ((be16 x (l3 + 4) + i) % 65536))) (l3 + 10) [0, 0]
      patch y (l3 + 10) (beBytes 2 (0xFFFF - onesSum ((y.drop l3).take (l4 - l3)) 0))
  let x := if udp then patch x (l4 + 4) (beBytes 2 (x.length - l4))
    else
      let sq := be16 x (l4 + 4) * 65536 + be16 x (l4 + 6)
      let f := (x.getD (l4 + 13) 0).toNat
      let f := if i + 1 < S then f - (f &&& 0x09) else f
      let f := if 0 < i then f - (f &&& 0x80) else f
      patch (patch x (l4 + 4) (beBytes 4 ((sq + i * mss) % 2 ^ 32))) (l4 + 13) [BitVec.ofNat 8 f]
  l4Insert ipv6 udp l3 l4 x

/-- Zero bytes up to 60. -/
def padFrame (bs : List Byte) : List Byte := bs ++ List.replicate (60 - bs.length) 0

/-- The 10-byte originTimestamp inserted, and the UDP checksum of an IPv4 datagram set to 0 (R295). -/
def insertTs (s : State) (o : Nat) (bs : List Byte) : List Byte :=
  let ns := s.wallNs
  let x := patch bs o (beBytes 6 (ns / 1000000000) ++ beBytes 4 (ns % 1000000000))
  match l4Of x with
  | some (u, 17) => patch x (u + 6) [0, 0]
  | _ => x

/-- A tag inserted after the source address. -/
def insertTag (tci : Nat) (bs : List Byte) : List Byte := bs.take 12 ++ beBytes 2 0x8100 ++ beBytes 2 tci ++ bs.drop 12

/-- The transmit descriptors from HEAD through the first with EOF, within `n`: index and words; whether EOF was found, and whether an
access failed. -/
def txDescs (p r : Nat) : Nat → Nat → State → List (Nat × List Nat) × Bool × Bool × State
  | 0, _, s => ([], false, false, s)
  | n + 1, k, s =>
    let i := (s.ringHead p (4 + r) + k) % s.ringSize p (4 + r)
    let d := descRead (s.ringBase p (4 + r) + 32 * i) 6 s
    match d.1 with
    | none => ([], false, true, d.2)
    | some ws =>
      if (ws.getD 2 0).testBit 20 then ([(i, ws)], true, false, d.2)
      else
        let t := txDescs p r n (k + 1) d.2
        ((i, ws) :: t.1, t.2)

/-- The bytes of every buffer of a frame, none where an access fails. -/
def txBytes : List (Nat × List Nat) → State → Option (List (List Byte)) × State
  | [], s => (some [], s)
  | (_, ws) :: t, s =>
    let len := ws.getD 2 0 % 2 ^ 19
    let r := if len = 0 then (none, [], s) else s.devRead 5 (ws.getD 0 0 + ws.getD 1 0 % 65536 * 2 ^ 32) len
    if r.1.isSome then (none, r.2.2)
    else
      let x := txBytes t r.2.2
      (x.1.map (fun l => r.2.1 :: l), x.2)

/-- A ring frame as it is sent or rejected: STATUS and the frames (R295, R296, R298). -/
def txBuild (s : State) (p : Nat) (ds : List (Nat × List Nat)) (bufs : List (List Byte)) : Nat × List (List Byte) :=
  let ws := match ds with | d :: _ => d.2 | [] => []
  let w := fun (k : Nat) => ws.getD k 0
  let bs := bufs.flatten
  let lso := (w 2).testBit 21
  let hdr := w 3 % 256
  let l3 := w 3 / 2 ^ 8 % 128
  let l4 := w 3 / 2 ^ 15 % 128
  let ipv6 := (w 3).testBit 22
  let udp := (w 3).testBit 23
  let mss := w 4 % 2 ^ 14
  let tag := fun (x : List Byte) => if (w 2).testBit 23 then insertTag (w 4 / 65536) x else x
  let stamp := w 2 / 2 ^ 24 % 4 == 2
  let max := s.macMax p - 4
  if lso then
    let P := bs.length - hdr
    if hdr < 14 ∨ 128 < hdr ∨ (bufs.headD []).length < hdr ∨ max < hdr + mss ∨ mss < 64 ∨ P = 0 ∨ 262144 < P then (3, [])
    else
      let S := (P + mss - 1) / mss
      (0, (List.range S).map (fun i => padFrame (tag (lsoSegment ipv6 udp l3 l4 mss S i (bs.take hdr) ((bs.drop (hdr + i * mss)).take mss)))))
  else
    let x := if (w 2).testBit 22 then l4Insert ipv6 udp l3 l4 bs else bs
    let y := tag (if stamp then insertTs s (w 5 % 256) x else x)
    if max < y.length then (2, [])
    else if y.length < 60 ∧ s.bit (R.macCtrl_pad_en p) = false then (1, [])
    else if stamp && frEther bs == 0x86DD then (4, [])
    else (0, [padFrame y])

/-- A host frame's next frame on the wire starts: the only one, or the next segment of a large send (R297). -/
def txSend (p : Nat) (h : HostTx) (s : State) : State :=
  (s.updMac p (fun x => { x with wire := some { h with next := h.next + 1 }, part := tset none x.part h.ring none })).emit
    (.frame p (.host { h with frames := (h.frames.drop h.next).take 1 }))

/-- A frame that cannot be sent, with its STATUS. -/
def txReject (p r : Nat) (ds : List (Nat × List Nat)) (status : Nat) (s : State) : State :=
  s.updMac p (fun x => { x with wire := some { ring := r, idx := ds.map (fun x => x.1), status := status } })

/-- Transmit ring `r`: the next segment of its large send, else the first frame whose EOF is owned (R295 to R298). -/
def txRing (p r : Nat) (s : State) : Option State :=
  match tget none (s.macPort p).part r with
  | some h => some (txSend p h s)
  | none =>
    if !s.bit (R.macRingCfg_en p (4 + r)) then none
    else
      let d := txDescs p r (s.ringOwned p (4 + r)) 0 s
      let s := d.2.2.2
      if d.2.2.1 then some (txReject p r d.1 5 s)
      else if !d.2.1 then none
      else
        let b := txBytes d.1 s
        match b.1 with
        | none => some (txReject p r d.1 5 b.2)
        | some bufs =>
          let f := txBuild b.2 p d.1 bufs
          if f.1 ≠ 0 then some (txReject p r d.1 f.1 b.2)
          else
            let asks := match d.1 with | x :: _ => x.2.getD 2 0 / 2 ^ 24 % 4 == 1 || x.2.getD 2 0 / 2 ^ 24 % 4 == 2 | [] => false
            some (txSend p { ring := r, idx := d.1.map (fun x => x.1), frames := f.2,
                               ts := if asks then some (s.wallSec, BitVec.ofNat 32 s.wallSub) else none } b.2)

/-- The next frame of a port in strict priority (R297). -/
def txNext (p : Nat) (s : State) : State :=
  let m := s.macPort p
  match m.ptpQ with
  | f :: t => (s.updMac p (fun x => { x with ptpQ := t })).emit (.frame p f)
  | [] => match m.gooseQ with
    | .goose f :: t =>
      let s := s.updMac p (fun x => { x with gooseQ := t })
      ({ s with gos := { s.gos with frames := (s.gos.frames + 1) % 2 ^ 32 } }).emit
        (.frame p (.goose { f with src := s.macAddr p }))
    | _ => match m.svQ with
      | .sv f :: t => (s.updMac p (fun x => { x with svQ := t })).emit (.frame p (.sv { f with src := s.macAddr p }))
      | _ => (((txRing p 3 s).or (txRing p 2 s)).or ((txRing p 1 s).or (txRing p 0 s))).getD s

/-- TX_FRAME (R297): the port is free and chooses its next frame. -/
def execTxFrame (p : Fin 4) (s : State) :=
  let p := p.val
  let s := svDrop p s
  done (if !s.bit (R.macCtrl_en p) || !s.bit (R.macStat_link p) || s.bit (R.macStat_paused p) || (s.macPort p).wire.isSome then s else txNext p s)

/-- Words 5 to 7 of a descriptor written back; where no time was captured TS_SEC and TS_NS are free values. -/
def txBack (p : Nat) (h : HostTx) (i : Nat) (s : State) : State :=
  let a := s.ringBase p (4 + h.ring) + 32 * i + 20
  let f := s.fresh
  let g := f.2.fresh
  let t := h.ts.getD (f.1, g.1)
  (g.2.devWrite 5 a (leBytes 4 t.1.toNat ++ leBytes 4 (1 + h.status * 2 + h.frames.length % 65536 * 2 ^ 16) ++ leBytes 4 t.2.toNat)).2

/-- A host frame has been sent or rejected: write-back, HEAD, counts (R295, R296). -/
def txFinish (p : Nat) (h : HostTx) (s : State) : State :=
  let s := h.idx.foldl (fun (s : State) i => txBack p h i s) s
  let s := (s.ringMove p (4 + h.ring) h.idx.length).edge (macPage p) (5 + h.ring)
  let s := if h.status = 0 then s.macCount p cTXOK 1 else (s.macCount p cTXERR 1).edge (macPage p) 10
  if h.status = 5 then ringFail p (4 + h.ring) s else s

/-- TX_FRAME_COMPLETE (R295 to R297): the frame on the wire has ended; a large send with segments left gives way. -/
def execTxFrameComplete (p : Fin 4) (s : State) :=
  let p := p.val
  match (s.macPort p).wire with
  | none => done s
  | some h =>
    let s := s.updMac p (fun x => { x with wire := none })
    if h.status = 0 ∧ h.next < h.frames.length then
      done ((s.updMac p (fun x => { x with part := tset none x.part h.ring (some h) })).macCount p cTXOK 1)
    else done (txFinish p h s)

/-! ## Registers -/

/-- The effect of a write to a ring's IDX: TAIL (R294, R295). -/
def tailEffect (p q : Nat) (v : Word) (s : State) : State := s.storeReg (R.macRingIdx p q) v

/-- RX_TAIL_WRITE. -/
def execRxTailWrite (m : Master) (p r : Fin 4) (v : Word) (s : State) :=
  done (s.guarded m.val (macPage p.val) (tailEffect p.val r.val v))

/-- TX_TAIL_WRITE. -/
def execTxTailWrite (m : Master) (p r : Fin 4) (v : Word) (s : State) :=
  done (s.guarded m.val (macPage p.val) (tailEffect p.val (4 + r.val) v))

/-- The effect of a write to BASE_LO (0), BASE_HI (1) or CFG (2) of a ring: while EN = 1 only a write that clears EN and keeps
the rest is taken (R292, R294). -/
def ringCfgEffect (m p q w : Nat) (v : Word) (s : State) : State :=
  let a := R.macRingBaseLo p q + 4 * w
  let on := s.bit (R.macRingCfg_en p q)
  let clears := w == 2 && (R.macRingCfg_en p q).of v == 0 && (R.macRingCfg_log2 p q).of v == s.get (R.macRingCfg_log2 p q)
  if on && !clears then s.raise (macPage p) 0x0102 m
  else
    let s := s.storeReg a v
    if !on && s.bit (R.macRingCfg_en p q) then s.setReg (R.macRingIdx p q) 0 else s

/-- MAC_RING_CFG_WRITE. -/
def execMacRingCfgWrite (m : Master) (p : Fin 4) (q : Fin 8) (w : Fin 3) (v : Word) (s : State) :=
  done (s.guarded m.val (macPage p.val) (ringCfgEffect m.val p.val q.val w.val v))

/-- The effect of a write to MAC_MAXLEN (R291). -/
def maxlenEffect (m p : Nat) (v : Word) (s : State) : State :=
  let n := (R.macMaxlen_maxlen p).of v
  if n < 64 ∨ 9600 < n then s.raise (macPage p) 0x0101 m else s.storeReg (R.macMaxlen p) v

/-- MAC_MAXLEN_WRITE. -/
def execMacMaxlenWrite (m : Master) (p : Fin 4) (v : Word) (s : State) :=
  done (s.guarded m.val (macPage p.val) (maxlenEffect m.val p.val v))

/-- The effect of a write to a MAC's CTRL. -/
def macCtrlEffect (p : Nat) (v : Word) (s : State) : State :=
  let s := s.storeReg (R.macCtrl p) v
  if s.bit (R.macCtrl_en p) then s else s.invalidate (R.macCnt p)

/-- MAC_LINK_CHANGE (R289). -/
def execMacLinkChange (p : Fin 4) (up : Bool) (rate : Fin 4) (s : State) :=
  let r := if p.val < 2 then 0 else Nat.max 1 rate.val
  let moved := s.bit (R.macStat_link p.val) != up || s.get (R.macStat_rate p.val) != r
  done (((s.putBit (R.macStat_link p.val) up).put (R.macStat_rate p.val) r).edgeIf moved (macPage p.val) 0)

/-- MAC_CNT_INTERVAL. -/
def execMacCntInterval (p : Fin 4) (s : State) :=
  done (if s.bit (R.macCtrl_en p.val) then s.complete (R.macCnt p.val) ((s.macPort p.val).cnt.map (fun n => BitVec.ofNat 32 n)) else s)

end Sys2Proof.Machine
end

