-- ==== Sys2Proof/Machine/Gos.lean ====
section
/-! DEFINITION. GOOSE and sampled-value publication on their schedules, and GOOSE subscription (R119 to R122, R299 to R304). -/

namespace Sys2Proof.Machine

/-! ## Publication (R300, R301) -/

/-- GOOSE_RETRANSMIT (R300): the interval of dataset `d` expires. -/
def execGooseRetransmit (d : Fin 128) (s : State) :=
  let d := d.val
  let x := s.ds d
  if s.bit R.gosCtrl_gp_en && s.dsEn d && x.on && s.dsOpen d then
    done (dsQueue d false (s.setDs d { x with sqNum := gNext x.sqNum, ivl := Nat.min (2 * x.ivl) (s.dsTmax d) }))
  else done s

/-! ## Subscription (R303) -/

def gsOFF : Nat := 0
def gsWAIT : Nat := 1
def gsRUN : Nat := 2
def gsSTALE : Nat := 3
def gsFAILED : Nat := 4

def State.sub (s : State) (k : Nat) : GSub := tget {} s.gos.sub k

/-- STAT.NSTALE and GOS_GS_STALE follow the subscriptions. -/
def gosStat (s : State) : State :=
  let st := fun (k : Nat) => s.subEn k && ((s.sub k).st == gsSTALE || (s.sub k).st == gsFAILED)
  let n := ((List.range 512).filter st).length
  let s := iterUp 16 (fun w (s : State) => s.setReg (R.gosGsStale w) (wordOfBits 32 (fun i => st (32 * w + i)))) s
  s.put R.gosStat_nstale (Nat.min 255 n)

/-- GIN `i` as its map entry reads it (R304): validity, value, and the test flag it carries, valid or not. -/
def State.ginRead (s : State) (i : Nat) : Bool × Bool × Bool :=
  let w := (s.word (0x1432000 + 4 * i)).toNat
  let x := s.sub (w % 512)
  let en := w.testBit 23
  let q : Bool × Bool := if w.testBit 22 then (match x.vals.getD (w / 2 ^ 16 % 64) .other with | .quality g t => (g, t) | _ => (false, false)) else (true, false)
  let on := s.bit R.gosCtrl_gs_en && en
  let test := on && (x.sim || q.2)
  match x.vals.getD (w / 2 ^ 9 % 64) .other with
  | .bool b => if on && x.st == gsRUN && q.1 then (true, b, test) else (false, false, test)
  | _ => (false, false, test)

/-- Every GIN of a subscription, or of all, takes what its entry reads. -/
def ginRefresh (k : Option Nat) (s : State) : State :=
  iterUp 1024 (fun i (s : State) =>
    let w := (s.word (0x1432000 + 4 * i)).toNat
    if k.isNone || k == some (w % 512) then
      let r := s.ginRead i
      s.setGin i ((s.gin i).offer r.1 r.2.1 r.2.2)
    else s) s

/-- A subscription takes a new state: its status entry, the status registers and its inputs follow. -/
def setSub (k : Nat) (x : GSub) (s : State) : State :=
  let s := { s with gos := { s.gos with sub := tset {} s.gos.sub k x } }
  let a := 0x1430000 + 0x10 * k
  let s := s.engine 5 [(a, 16, true)] (fun s => s.setWords a [BitVec.ofNat 32 (x.st + x.flags * 8), BitVec.ofNat 32 x.stNum, BitVec.ofNat 32 x.sqNum, x.ts])
  ginRefresh (some k) (gosStat s)

def fCONFREV : Nat := 1
def fNDSCOM : Nat := 2
def fDSLEN : Nat := 4
def fSIMDROP : Nat := 8
def fRESTART : Nat := 16

/-- A matched frame is judged (R303). -/
def judgeGoose (f : GooseRx) (k : Nat) (s : State) : State :=
  let x := s.sub k
  let w0 := (s.word (subAddr k)).toNat
  if f.confRev ≠ (s.word (subAddr k + 12)).toNat then setSub k { x with st := gsFAILED, flags := fCONFREV } s
  else if f.ndsCom then setSub k { x with st := gsFAILED, flags := fNDSCOM } s
  else if f.vals.length ≠ w0 / 2 ^ 6 % 128 then setSub k { x with st := gsFAILED, flags := fDSLEN } s
  else if f.sim && !w0.testBit 5 then setSub k { x with flags := x.flags ||| fSIMDROP } s
  else if x.some_ && f.stNum == x.stNum && f.sqNum == x.sqNum then
    let s := { s with gos := { s.gos with rxDup := (s.gos.rxDup + 1) % 2 ^ 32 } }
    if x.st = gsFAILED then setSub k { x with st := gsRUN, flags := 0 } s else s
  else
    let y : GSub := { st := gsRUN, stNum := f.stNum, sqNum := f.sqNum, some_ := true, ts := s.tstamp, sim := f.sim, vals := f.vals
                      flags := if x.some_ && decide (f.stNum < x.stNum) then fRESTART else 0 }
    setSub k y { s with gos := { s.gos with rxAccept := (s.gos.rxAccept + 1) % 2 ^ 32 } }

/-- The template of dataset `d` names a destination address and APPID (R301). -/
def State.dsIdentity (s : State) (d : Nat) : Nat × Nat :=
  let bs := memBytes s.mem (dsAddr d + 0x10) 20
  (frDst bs, be16 bs (frType bs + 2))

/-- R301: a frame heard of a dataset from another source. -/
def gooseHeard (f : GooseRx) (s : State) : State :=
  iterUp 128 (fun d (s : State) =>
    if s.dsEn d && (s.dsPorts d).contains f.port && s.dsIdentity d == (f.dmac, f.appid) && f.src != s.macAddr f.port then
      s.setDs d { s.ds d with heard := Nat.max (s.ds d).heard f.stNum } else s) s

/-- GOOSE_FRAME_RECEIVED (R301, R303, R304). -/
def execGooseFrameReceived (f : GooseRx) (s : State) :=
  let s := gooseHeard f s
  if !s.bit R.gosCtrl_gs_en then done s
  else done (((List.range 512).filter (fun k => s.subMatches k f.port f.dmac f.appid f.ref)).foldl (fun (s : State) k => judgeGoose f k s) s)

/-- GOOSE_TAL_EXPIRY (R303). -/
def execGooseTalExpiry (k : Fin 512) (s : State) :=
  done (if (s.sub k.val).st = gsRUN then setSub k.val { s.sub k.val with st := gsSTALE } s else s)

/-- GIN_HOLD_END (R304). -/
def execGinHoldEnd (i : Fin 1024) (s : State) := done (s.setGin i.val (s.gin i.val).release)

/-- Subscriptions start or stop: enabled ones wait for their first frame (R303). -/
def gsStart (on : Bool) (s : State) : State :=
  let s := iterUp 512 (fun k (s : State) =>
    let x : GSub := { st := if on && s.subEn k then gsWAIT else gsOFF }
    if s.sub k = x then s
    else ({ s with gos := { s.gos with sub := tset {} s.gos.sub k x } } : State).engine 5 [(0x1430000 + 0x10 * k, 16, true)]
      (fun s => s.setWords (0x1430000 + 0x10 * k) [BitVec.ofNat 32 x.st, 0, 0, 0])) s
  ginRefresh none (gosStat s)

def State.svp (s : State) (p : Nat) : SvpState := tget {} s.gos.svp p
def State.setSvp (s : State) (p : Nat) (x : SvpState) : State := { s with gos := { s.gos with svp := tset {} s.gos.svp p x } }

/-- The effect of a write to GOS CTRL. A stream that is enabled while SVP_EN rises counts as enabled then. -/
def gosCtrlEffect (v : Word) (s : State) : State :=
  let gp := s.bit R.gosCtrl_gp_en
  let gs := s.bit R.gosCtrl_gs_en
  let sv := s.bit R.gosCtrl_svp_en
  let s := s.storeReg R.gosCtrl v
  let gp' := s.bit R.gosCtrl_gp_en
  let gs' := s.bit R.gosCtrl_gs_en
  let s := if gp = gp' then s else if gp' then gosEnable s else gosDisable s
  let s := if gs = gs' then s else gsStart gs' s
  let s := if sv = s.bit R.gosCtrl_svp_en then s
    else iterUp 8 (fun p (s : State) => if (s.svp p).on then s.setSvp p { s.svp p with enAt := s.gridNs, next := none } else s) s
  if gp' || gs' || s.bit R.gosCtrl_svp_en then s else s.invalidate R.gosCnt

/-- GOS_CNT_INTERVAL. -/
def execGosCntInterval (s : State) :=
  let g := s.gos
  done (if s.bit R.gosCtrl_gp_en || s.bit R.gosCtrl_gs_en || s.bit R.gosCtrl_svp_en then
    s.complete R.gosCnt ([g.states, g.frames, g.merged, g.rxAccept, g.rxDup, g.svpDrop].map (fun n => BitVec.ofNat 32 n)) else s)

/-! ## Sampled-value publication (R119 to R122) -/

/-- The effect of a write to register `w` of stream `p` (the GOS page). -/
def svpCfgEffect (m p w : Nat) (v : Word) (s : State) : State :=
  let on := s.bit (R.gosSvpCfg_en p)
  let clears := w == 0 && (R.gosSvpCfg_en p).of v == 0
  if on && !clears then s.raise .gos 0x0101 m
  else
    let s := s.storeReg (R.gosSvpCfg p + 4 * w) v
    let now := s.bit (R.gosSvpCfg_en p)
    let a := 0x1433000 + 64 * p
    if !on && now then (s.setSvp p { on := true, enAt := s.gridNs }).engine 5 [(a, 64, false)] (fun s =>
      s.setSvp p { s.svp p with svid := memBytes s.mem (a + 1) (Nat.min 63 (memByte s.mem a).toNat) })
    else if on && !now then s.setSvp p {} else s

/-- SV_STREAM_ENABLE: a write to GOS_SVPp_CFG. -/
def execSvStreamEnable (m : Master) (p : Fin 8) (v : Word) (s : State) :=
  done (s.guarded m.val .gos (svpCfgEffect m.val p.val 0 v))

/-- Taps of the publisher's filter (R119). -/
def pubTaps (rate : Nat) : Nat := if rate = 14400 then 95 else 255

/-- A sample of the publisher's filter over 96 kHz samples, `i` back from the newest; the filter's taps and its rounding are free. -/
def pubFilter (rate : Nat) (xs : List Tagged) (i : Nat) : Int :=
  let a : Int := ((List.range (pubTaps rate)).map (fun j => (Config.pubRaw rate j).toInt * (xs.getD (i + j) {}).val)).sum
  satInt32 (qRound 11 [a] a (2 ^ 22))

/-- Position of sample number `n` in the filter's output of LCc, counted from the newest (R79, R119). -/
def State.pubPos (s : State) (c rate n : Nat) : Int :=
  s.chainPos c 9057 (tget {} s.dfc.chan c).pubClk (n * 96000 * 2 ^ 32 / rate) + ((pubTaps rate - 1) / 2 * 2 ^ 32 : Nat)

/-- R120: DC gain of a half-band stage's active bank, in units of 2^-23 (R76). -/
def State.hbGain (s : State) (k : Nat) : Int := 2 ^ 22 + 2 * ((List.range (hbU k)).map (s.hbCoef k)).sum

/-- R119, R120: what converts a plane value of LCc to units of 1 mA (entries 0 to 3) or 10 mV: numerator and denominator. None where
the scale is not a number or a gain is 0: the spec states no value there. -/
def State.pubScale (s : State) (c e : Nat) : Option (Int × Nat) :=
  let w := s.word (scaleAddr c)
  if F32.expo w == 255 then none
  else
    let q := F32.toQ w
    let unit : Int := if e < 4 then 1000 else 100
    let path := s.get R.dfcStat_path
    if path ≤ 1 then some (q.num * unit, q.den)
    else
      let sh : Int := s.chainShift c 4 + s.chainShift c 5 + (if (pathTail path).isSome then s.chainShift c 6 else 0)
      let g : Int := s.hbGain 3 * s.hbGain 4
      if g = 0 then none
      else some (q.num * unit * (2 ^ (46 + sh.toNat) : Nat) * (if g < 0 then -1 else 1), q.den * 2 ^ (-sh).toNat * g.natAbs)

/-- R121: the filter span of sample number `n` includes a probe pulse of the channel. -/
def State.pulseIn (s : State) (c rate n : Nat) : Bool :=
  let t := n * 24576000 / rate
  let half := (pubTaps rate - 1) / 2 * 256
  decide (c < 32) && (s.ain c).pulsed && decide ((s.ain c).pulseClk ≤ t + half) && decide (t ≤ (s.ain c).pulseClk + pulseClocks + half)

/-- The quality word of channel `c` in a published ASDU (R121, R122), from the tags under its filter. -/
def State.svpQuality (s : State) (c : Nat) (inv ovr pulse : Bool) : Word :=
  let bad := inv || (decide (c < 32) && s.regBit R.afeOwStat c)
  let quest := s.get R.timStat_wall != 1 || s.get R.timStat_grid == 2 || pulse
  BitVec.ofNat 32 ((if bad then 1 + 2 ^ 6 else if quest then 3 else 0) + 4 * b2n ovr + 2 ^ 10 * b2n (s.get (R.gridQCfg_sub c) == 1)
    + 2 ^ 11 * b2n (s.bit (R.gridQCfg_test c)))

/-- smpSynch (R121). -/
def State.smpSynch (s : State) : Nat := if s.get R.timStat_wall = 1 then 2 else if s.time.locked then 1 else 0

/-- Entry `e` of sample number `n` of stream `p` (R119 to R122): filter, resampler, conversion rounded to nearest with ties away from
zero (DESIGN CHOICE, log entry 97: of the ties) and saturated, and the quality word. -/
def svpEntry (p rate n e : Nat) (s : State) : (Int × Word) × State :=
  let c := 8 * p + e
  let xs := (tget {} s.dfc.chan c).pub
  let d := s.pubPos c rate n
  let i : Int := -(d / (2 ^ 32 : Nat)) - 8
  let span := (xs.drop i.toNat).take (15 + pubTaps rate)
  let inv := decide (i < 0) || decide (span.length < 15 + pubTaps rate) || span.any (·.invalid)
  let v := (kernelSum (protoTap 0) (d % (2 ^ 32 : Nat)).toNat (fun j => pubFilter rate xs (i.toNat + j))).1
  let pulse := s.pulseIn c rate n
  match s.pubScale c e with
  | some (num, den) =>
    let r := roundDiv (v * num) den
    ((satInt32 r, s.svpQuality c inv (span.any (·.ovr) || satInt32 r != r) pulse), s)
  | none =>
    let f := s.fresh
    ((f.1.toInt, s.svpQuality c inv (span.any (·.ovr)) pulse), f.2)

/-- The entries of one ASDU. -/
def svpEntries (p rate n : Nat) (s : State) : List (Int × Word) × State :=
  (List.range 8).foldl (fun (a : List (Int × Word) × State) e =>
    let r := svpEntry p rate n e a.2
    (a.1 ++ [r.1], r.2)) ([], s)

/-- The ASDUs of a frame from sample number `n`. -/
def svpAsdus (p rate : Nat) : Nat → Nat → State → List (Nat × List (Int × Word)) × State
  | 0, _, s => ([], s)
  | k + 1, n, s =>
    let e := svpEntries p rate n s
    let t := svpAsdus p rate k (n + 1) e.2
    ((n % rate, e.1) :: t.1, t.2)

def State.svpRate (s : State) (p : Nat) : Nat := if s.bit (R.gosSvpCfg_rate p) then 14400 else 4800
/-- ASDUs of a frame. -/
def State.svpNasdu (s : State) (p : Nat) : Nat :=
  let k := s.get (R.gosSvpCfg_nasdu p)
  if k = 0 then 1 else Nat.min 8 k

/-- R122: number of the next sample of stream `p`: after an enable the first at or after it whose filter history, that of the stream's
lowest channel, is full. -/
def State.svpNext (s : State) (p : Nat) : Option Nat :=
  let rate := s.svpRate p
  match (s.svp p).next with
  | some n => some n
  | none =>
    let len := (tget {} s.dfc.chan (8 * p)).pub.length
    if len < pubTaps rate + 15 then none
    else
      let t := -(s.pubPos (8 * p) rate 0) - ((len - 7 - pubTaps rate) * 2 ^ 32 : Nat)
      let full := (t.toNat * rate + (96000 * 2 ^ 32 - 1)) / (96000 * 2 ^ 32)
      some (Nat.max full (((s.svp p).enAt * rate + 999999999) / 1000000000))

/-- The newest sample that the frame from number `n` needs has left the chain, or the chain is stopped (R119, R122). -/
def State.svpReady (s : State) (p n : Nat) : Bool :=
  !s.bit R.dfcStat_run || decide (s.pubPos (8 * p) (s.svpRate p) (n + s.svpNasdu p - 1) / (2 ^ 32 : Nat) ≤ -8)

/-- The frame of stream `p` from sample number `n` is built and queued on its ports. -/
def svPublish (p n : Nat) (s : State) : State :=
  let x := s.svp p
  let rate := s.svpRate p
  let k := s.svpNasdu p
  let a := svpAsdus p rate k n s
  let s := a.2.setSvp p { x with next := some (n + k) }
  let f : SvTx := { stream := p, svid := x.svid, confRev := (s.reg (R.gosSvpConfrev p)).toNat, smpSynch := s.smpSynch, tagged := s.bit (R.gosSvpCfg_tagged p)
                    pcp := s.get (R.gosSvpCfg_pcp p), vid := s.get (R.gosSvpCfg_vid p), appid := s.get (R.gosSvpAddr_appid p), smpRate := rate
                    dmac := (s.reg (R.gosSvpDmac p)).toNat + s.get (R.gosSvpAddr_dmac_hi p) * 2 ^ 32, due := s.time.ticks, asdus := a.1 }
  let both := s.get (R.gosSvpCfg_ports p) == 3
  let seq := s.gos.prpSeq
  let ports := match s.get (R.gosSvpCfg_ports p) with | 2 => [1] | 3 => [0, 1] | _ => [0]
  let s : State := { s with gos := { s.gos with prpSeq := (seq + b2n both) % 65536 } }
  ports.foldl (fun (s : State) q =>
    svDrop q (s.updMac q (fun y => { y with svQ := y.svQ ++ [.sv { f with prp := if both then some (seq, q == 1) else none }] }))) s

/-- SV_PUBLISH_FRAME (R119 to R122): the next frame of stream `p` is due; nothing is sent before its history is full. -/
def execSvPublishFrame (p : Fin 8) (s : State) :=
  done (match (if s.bit R.gosCtrl_svp_en && (s.svp p.val).on then s.svpNext p.val else none) with
    | some n => if s.svpReady p.val n then svPublish p.val n s else s
    | none => s)

end Sys2Proof.Machine
end

