-- ==== Sys2Proof/Machine/F64.lean ====
section
/-! DEFINITION. The binary64 sums of a Cumulus reduction (R277): exact on rationals, rounded once to nearest, ties to even. -/

namespace Sys2Proof.Machine

abbrev F64 := BitVec 64

def f64NaN : F64 := 0x7FF8000000000000#64
def F64.neg (x : F64) : Bool := x.getLsbD 63
def F64.expo (x : F64) : Nat := x.toNat / 2 ^ 52 % 2048
def F64.frac (x : F64) : Nat := x.toNat % 2 ^ 52
def F64.isNaN (x : F64) : Bool := F64.expo x == 2047 && F64.frac x != 0
def F64.isInf (x : F64) : Bool := F64.expo x == 2047 && F64.frac x == 0

/-- The value of a finite pattern. -/
def F64.toQ (x : F64) : Q :=
  let e := F64.expo x
  let m := if e = 0 then F64.frac x else F64.frac x + 2 ^ 52
  let e := if e = 0 then 1 else e
  let sg : Int := if F64.neg x then -1 else 1
  if 1075 ≤ e then ⟨sg * (m * 2 ^ (e - 1075) : Nat), 1⟩ else ⟨sg * m, 2 ^ (1075 - e)⟩

/-- A pattern with its sign bit set to `s`. -/
def F64.withSign (s : Bool) (x : Nat) : F64 := BitVec.ofNat 64 (x + if s then 2 ^ 63 else 0)

/-- The magnitude pattern nearest to `n / d`; beyond the range, infinity. -/
def roundMag64 (n d : Nat) : Nat :=
  if n = 0 ∨ d = 0 then 0
  else
    let e0 : Int := (Nat.log2 n : Int) - (Nat.log2 d : Int)
    let ge : Bool := if e0 ≥ 0 then decide (d * 2 ^ e0.toNat ≤ n) else decide (d ≤ n * 2 ^ (-e0).toNat)
    let e := if ge then e0 else e0 - 1
    let q := max (e - 52) (-1074)
    let a := if q ≥ 0 then n else n * 2 ^ (-q).toNat
    let b := if q ≥ 0 then d * 2 ^ q.toNat else d
    let m := a / b
    let r := a % b
    let m := if 2 * r > b ∨ (2 * r = b ∧ m % 2 = 1) then m + 1 else m
    let bits := if m < 2 ^ 52 then m else (q + 1075).toNat * 2 ^ 52 + (m - 2 ^ 52)
    if bits ≥ 0x7FF0000000000000 then 0x7FF0000000000000 else bits

/-- The binary64 nearest to a rational. -/
def Q.toF64 (a : Q) : F64 := F64.withSign (decide (a.num < 0)) (roundMag64 a.num.natAbs a.den)

/-- A binary32 value widened. -/
def f32to64 (x : F32) : F64 :=
  if F32.isNaN x then f64NaN
  else if F32.isInf x then F64.withSign (F32.neg x) 0x7FF0000000000000
  else F64.withSign (F32.neg x) (roundMag64 (F32.toQ x).num.natAbs (F32.toQ x).den)

/-- A binary64 value rounded to binary32. -/
def f64to32 (x : F64) : F32 :=
  if F64.isNaN x then f32NaN
  else if F64.isInf x then F32.withSign (F64.neg x) 0x7F800000
  else F32.withSign (F64.neg x) (roundMag (F64.toQ x).num.natAbs (F64.toQ x).den)

/-- Addition. -/
def fadd64 (x y : F64) : F64 :=
  if F64.isNaN x || F64.isNaN y then f64NaN
  else if F64.isInf x then (if F64.isInf y && F64.neg x != F64.neg y then f64NaN else x)
  else if F64.isInf y then y
  else
    let r := Q.add (F64.toQ x) (F64.toQ y)
    if r.num = 0 then F64.withSign (F64.neg x && F64.neg y) 0 else r.toF64

end Sys2Proof.Machine
end

