-- ==== Sys2Proof/Machine/Cum.lean ====
section
/-! DEFINITION. Cumulus sets: contributions, the reduction in a tick, validity and changes of the member set (R273 to R281). -/

namespace Sys2Proof.Machine

/-! ## Descriptors (R273, R274) -/

def State.cumSet (s : State) (k : Nat) : CumSet := tget {} s.dup.set k
def State.updCum (s : State) (k : Nat) (f : CumSet → CumSet) : State := { s with dup := { s.dup with set := tupd {} s.dup.set k f } }
def State.cumListen (s : State) (k : Nat) : Nat := s.cumDesc k 8 + s.cumDesc k 12 * 2 ^ 32
def State.cumDmax (s : State) (k : Nat) : Nat := s.cumDesc k 0x10 / 2 ^ 12 % 64
/-- The set runs on this member. -/
def State.cumOn (s : State) (k : Nat) : Bool := s.bit R.dupCtrl_cum_en && (s.cumDesc k 0x10).testBit 18
def State.cumPbase (s : State) (k : Nat) : Nat := s.cumDesc k 0x14 % 64
def State.cumPcount (s : State) (k : Nat) : Nat := s.cumDesc k 0x14 / 2 ^ 6 % 128
def State.cumIbase (s : State) (k : Nat) : Nat := s.cumDesc k 0x14 / 2 ^ 13 % 64
def State.cumIcount (s : State) (k : Nat) : Nat := s.cumDesc k 0x14 / 2 ^ 19 % 128
def State.cumPlaces (s : State) (k : Nat) : Nat := s.cumPcount k + s.cumIcount k
/-- The duplex pairs of the set: byte pairs of the DPAIR word, 0xFF in both bytes none. -/
def State.cumPairs (s : State) (k : Nat) : List (Nat × Nat) :=
  let w := s.cumDesc k 0x1C
  ([(w % 256, w / 256 % 256), (w / 2 ^ 16 % 256, w / 2 ^ 24 % 256)]).filter (fun p => decide (p.1 < 64 ∧ p.2 < 64))
/-- The origin in use (R280). -/
def State.cumRoot (s : State) (k : Nat) : Nat := if (s.cumSet k).moved then s.cumAlt k else s.cumOrigin k
/-- Members expected: MASK less the excluded. -/
def State.cumExpected (s : State) (k : Nat) : Nat := s.cumMask k - (s.cumMask k &&& (s.cumSet k).excluded)
/-- The member is joined to the set (DUP STAT.JOINED). -/
def State.cumJoined (s : State) (k : Nat) : Bool := s.regBit R.dupStat (8 + k)

/-- Every member of a set of members is in a mask, one of a duplex pair being enough where both are asked for (R281). -/
def cumCovered (pairs : List (Nat × Nat)) (need mask : Nat) : Bool :=
  (List.range 64).all (fun m => !need.testBit m || mask.testBit m
    || pairs.any (fun p => (p.1 == m && need.testBit p.2 && mask.testBit p.2) || (p.2 == m && need.testBit p.1 && mask.testBit p.1)))

/-! ## Contributions (R274, R275) -/

/-- A GRP phase with its clock rotation and zero-sequence removal (R275). -/
def Ctx.cumPhase (c : Ctx) (w : Nat) : Cx :=
  let g := w / 16 % 4096
  let clk : Nat := w / 2 ^ 22 % 16
  let ref := 0x2000 + g
  let x0 : Cx := if w.testBit 26 then (0, 0) else c.seq ref 0
  let rot := fun (sg : Int) (x : Cx) => if clk = 0 then x else cmul x (cpolar f32One (fofInt (sg * 30 * (clk : Int))))
  let x1 := rot (-1) (c.seq ref 1)
  let x2 := rot 1 (c.seq ref 2)
  let acb := c.s.bit (R.pheGrpCfg_rot g)
  let p := cadd (cadd x0 (cmul cA2 x1)) (cmul cA x2)
  let n := cadd (cadd x0 (cmul cA x1)) (cmul cA2 x2)
  match w / 2 ^ 20 % 4 with
  | 0 => cadd (cadd x0 x1) x2
  | 1 => if acb then n else p
  | _ => if acb then p else n

/-- The contribution of PCk: phasor and quality byte. -/
def Ctx.contribP (c : Ctx) (k : Nat) : Cx × Nat :=
  let a := 0x1384000 + 16 * k
  let w := (c.s.word a).toNat
  let idx := w / 16 % 4096
  let ka := cpolar (c.s.word (a + 4)) (c.s.word (a + 8))
  match w % 16 with
  | 1 => (cmul (c.bin idx (w / 2 ^ 16 % 16)) ka, c.refQual (0x1000 + idx) 0)
  | 2 => (cmul (c.cumPhase w) ka, c.refQual (0x2000 + idx) 0)
  | 3 => (cmul (c.seq (0x2000 + idx) (w / 2 ^ 20 % 4)) ka, c.refQual (0x2000 + idx) 0)
  | _ => ((0, 0), 0)

/-- The contribution of ICk: value and quality byte. -/
def Ctx.contribI (c : Ctx) (k : Nat) : F32 × Nat :=
  let a := 0x1384400 + 16 * k
  let w := (c.s.word a).toNat
  let idx := w / 16 % 4096
  let kf := c.s.word (a + 4)
  match w % 16 with
  | 1 => (fmul (c.sample c.r idx) kf, c.s.planeQual c.r idx)
  | 2 => (fmul (cmag (c.bin idx (w / 2 ^ 16 % 16))) (fabs kf), c.refQual (0x1000 + idx) 0)
  | 3 => (fmul (cmag (c.cumPhase w)) (fabs kf), c.refQual (0x2000 + idx) 0)
  | _ => (0, 0)

/-- This member's contributions by channel place. -/
def State.contributions (s : State) (k r : Nat) : List CumChan :=
  let c : Ctx := { s := s, e := 0, r := r }
  let own := 2 ^ s.selfId
  (List.range (s.cumPcount k)).map (fun i =>
    let x := c.contribP (s.cumPbase k + i)
    { re := f32to64 x.1.1, im := f32to64 x.1.2, qual := x.2, mask := own })
  ++ (List.range (s.cumIcount k)).map (fun i =>
    let x := c.contribI (s.cumIbase k + i)
    { re := f32to64 x.1, im := 0, qual := x.2, mask := own })

/-- Whether this member contributes to a set (R277, R279, R281): in MASK, joined, and with output authority where it is one of a
duplex pair. -/
def State.contributes (s : State) (k : Nat) : Bool :=
  s.cumOn k && s.get R.galStat_num == 1 && (s.cumMask k).testBit s.selfId && s.cumJoined k
    && (!(s.cumPairs k).any (fun p => p.1 == s.selfId || p.2 == s.selfId) || s.authority)

/-- One channel of a frame joins the sum (R277): values add, quality bytes and masks are ORed. At the origin an excluded
member's share is ignored (R280). -/
def CumChan.join (ign : Nat) (a b : CumChan) : CumChan :=
  if b.mask != 0 && b.mask &&& ign == b.mask then a
  else
    let first := a.mask == 0
    { re := if first then b.re else fadd64 a.re b.re, im := if first then b.im else fadd64 a.im b.im
      qual := a.qual ||| b.qual, mask := a.mask ||| (b.mask - (b.mask &&& ign)), open_ := a.open_ || b.open_ || b.mask &&& ign != 0 }

/-- Channels from a place up join the sums of a set. -/
def cumAdd (k first : Nat) (cs : List CumChan) (s : State) : State :=
  let ign := if s.cumRoot k = s.selfId then (s.cumSet k).excluded else 0
  s.updCum k (fun x => { x with chans := cs.zipIdx.foldl (fun (t : Table CumChan) ci => tupd {} t (first + ci.2) (fun c => CumChan.join ign c ci.1)) x.chans })

/-! ## Totals (R276, R277, R279) -/

/-- A status word (R276): quality byte, MISSING bit 8, LATE 9, DOUBLE 10, NOSET 11; any of these sets INVALID. -/
def cumStatus (q flags : Nat) : Nat := if flags = 0 then q else (q ||| qINVALID) + flags * 256

/-- Bytes of a totals buffer. -/
def cumBufBytes : Nat := 0x700

/-- Every enabled set has its totals: the buffer at `b` is sealed. -/
def cumSeal (b : Nat) (s : State) : State :=
  if (List.range 8).all (fun j => (s.cumSet j).returned) then
    s.engine 6 [(b, 16, true)] (fun s => (s.setWord (b + 4) s.tstamp).setWord (b + 12) (s.word (b + 12) ||| 0x80000000#32))
  else s

/-- The totals of a set are written: by place two parts and a status word. -/
def cumWrite (k : Nat) (ts : List (Word × Word × Word)) (s : State) : State :=
  let b := s.cumBuf (s.cumSet k).row
  let np := s.cumPcount k
  let s := s.engine 6 [(b, cumBufBytes, true)] (iterUp (s.cumPlaces k) (fun i (s : State) =>
    let t := ts.getD i (0, 0, BitVec.ofNat 32 (cumStatus 0 1))
    let t := if t.2.2.toNat % 2 = 1 then (0, 0, t.2.2) else t
    if i < np then s.setWords (b + 0x100 + 16 * (s.cumPbase k + i)) [t.1, t.2.1, t.2.2]
    else s.setWords (b + 0x500 + 8 * (s.cumIbase k + (i - np))) [t.1, t.2.2]))
  let fl : Nat := ts.foldl (fun (a : Nat) (t : Word × Word × Word) => a ||| t.2.2.toNat / 256 % 16) 0
  let s := if fl = 0 then s.engine 6 [(b + 12, 4, true)] (fun s => s.setWord (b + 12) (s.word (b + 12) ||| BitVec.ofNat 32 (2 ^ k))) else s
  let ret := (s.time.ticks - (s.cumSet k).start) * 4 / 10 - s.phasorReservation / 10
  cumSeal b (s.updCum k (fun x => { x with
    returned := true, bad := fl != 0, retMax := Nat.max x.retMax ret
    missing := x.missing + b2n (fl &&& 5 != 0), late := x.late + b2n (fl &&& 2 != 0) }))

/-- The origin's totals (R277, R279): rounded to binary32 once, with MISSING and DOUBLE. -/
def State.cumTotals (s : State) (k : Nat) : List (Word × Word × Word) × State :=
  let x := s.cumSet k
  let chans := (List.range (s.cumPlaces k)).map (fun i => tget ({} : CumChan) x.chans i)
  let missing := chans.any (fun c => !cumCovered (s.cumPairs k) (s.cumExpected k) c.mask)
  let dbl := chans.any (fun c => (s.cumPairs k).any (fun p => c.mask.testBit p.1 && c.mask.testBit p.2))
  let fl := b2n missing + 4 * b2n dbl
  chans.foldl (fun (a : List (Word × Word × Word) × State) c =>
    let f1 := a.2.fresh
    let f2 := f1.2.fresh
    let st := BitVec.ofNat 32 (cumStatus c.qual fl)
    if c.open_ then (a.1 ++ [(f1.1, f2.1, st)], f2.2)
    else (a.1 ++ [(f64to32 c.re, f64to32 c.im, st)], a.2)) ([], s)

/-- A list in chunks, each with the place it starts at. -/
def cumChunks (base size : Nat) (cs : List CumChan) : List (Nat × List CumChan) :=
  (List.range ((cs.length + size - 1) / size)).map (fun i => (base + size * i, (cs.drop (size * i)).take size))

/-- The set forwards what it holds (R277): the origin sends the totals, another member its partial sums in frames of 6 phasor or
10 instantaneous channels. -/
def cumForward (k : Nat) (s : State) : State :=
  let x := s.cumSet k
  if x.sent || !s.cumOn k then s
  else
    let s := s.updCum k (fun x => { x with sent := true })
    if s.cumRoot k = s.selfId then
      let t := s.cumTotals k
      let s := t.2.emit (.cumTotals k x.row t.1)
      if x.returned then s else cumWrite k t.1 s
    else if (treeParent s.gal.links (s.cumRoot k) s.selfId).isNone then s
    else
      let chans := (List.range (s.cumPlaces k)).map (fun i => tget ({} : CumChan) x.chans i)
      let np := s.cumPcount k
      (cumChunks 0 6 (chans.take np) ++ cumChunks np 10 (chans.drop np)).foldl (fun (s : State) f =>
        if f.2.all (fun c => c.mask == 0) then s
        else s.emit (.cumFrame k x.row f.1 (f.2.map (fun c => (c.re, c.im, c.qual, c.mask))))) s

/-- The sum is complete: at the origin every expected member is in it, elsewhere every member of MASK below this one. -/
def State.cumComplete (s : State) (k : Nat) : Bool :=
  let root := s.cumRoot k
  let need := if root = s.selfId then s.cumExpected k
    else (List.range 64).foldl (fun a m => if (s.cumMask k).testBit m && below s.gal.links root s.selfId 64 m then a + 2 ^ m else a) 0
  (List.range (s.cumPlaces k)).all (fun i => cumCovered (s.cumPairs k) need (tget ({} : CumChan) (s.cumSet k).chans i).mask)

/-- Send (R277): at the seal of the PHE buffer this member adds its contributions and forwards what is complete. -/
def contribute (r : Nat) (s : State) : State :=
  iterUp 8 (fun k (s : State) =>
    if !s.cumOn k || (s.cumSet k).row != r then s
    else
      let s := if s.contributes k then cumAdd k 0 (s.contributions k r) s else s
      if s.cumComplete k then cumForward k s else s) s

/-- PHE_DONE (R131): the buffer is sealed, contributions leave, the pairs start phase 1; `vs` is what engines B find in it. -/
def execPheDone (vs : List Sys2Proof.BVerdict) (s : State) :=
  done (pheDone (fun s' => match s.phe.busy with | some r => contribute r s' | none => s') vs s)

/-- A channel of a totals buffer with a status and value 0. -/
def cumChanFlag (b i st : Nat) (s : State) : State :=
  if i < 64 then s.setWords (b + 0x100 + 16 * i) [0, 0, BitVec.ofNat 32 st] else s.setWords (b + 0x500 + 8 * (i - 64)) [0, BitVec.ofNat 32 st]

/-- The channel (64 and up: instantaneous) lies in an enabled set of this member. -/
def State.cumHas (s : State) (i : Nat) : Bool :=
  (List.range 8).any (fun k => s.cumOn k &&
    (if i < 64 then decide (s.cumPbase k ≤ i ∧ i < s.cumPbase k + s.cumPcount k)
     else decide (s.cumIbase k ≤ i - 64 ∧ i - 64 < s.cumIbase k + s.cumIcount k)))

/-- NOSET on every channel of a buffer that lies in no enabled set (R276). -/
def cumNoset (b : Nat) (s : State) : State :=
  iterUp 128 (fun i (s : State) => if s.cumHas i then s else cumChanFlag b i (cumStatus 0 8) s) s

/-- The row from which a member-set change applies has come (R280). -/
def cumChangeApply (r : Nat) (s : State) : State :=
  let hit := fun (c : CumChange) => rowReached r c.row
  let now := s.dup.changes.filter hit
  let s := { s with dup := { s.dup with changes := s.dup.changes.filter (fun (c : CumChange) => !hit c) } }
  now.foldl (fun (s : State) c =>
    let isO := c.mbr == s.cumOrigin c.set
    let s := s.updCum c.set (fun x =>
      if c.include_ then { x with excluded := x.excluded - (x.excluded &&& 2 ^ c.mbr), moved := x.moved && !isO }
      else { x with excluded := x.excluded ||| 2 ^ c.mbr, moved := x.moved || isO })
    (s.setReg (R.cumSetExpLo c.set) (BitVec.ofNat 32 (s.cumExpected c.set))).setReg (R.cumSetExpHi c.set) (BitVec.ofNat 32 (s.cumExpected c.set / 2 ^ 32))) s

/-- A tick starts at row `r`: the totals buffer is opened, and every enabled set starts a new sum. -/
def cumTickStart (r : Nat) (s : State) : State :=
  let s := cumChangeApply r s
  let b := s.cumBuf r
  let s := s.engine 6 [(b, cumBufBytes, true)] (fun s => cumNoset b (s.setWords b [BitVec.ofNat 32 r, 0, 0, 0]))
  iterUp 8 (fun k (s : State) =>
    if s.cumOn k then s.updCum k (fun x => { x with
        row := r, start := s.time.ticks, chans := [], sent := false, returned := false
        deep := x.deep || (match s.depthOn (s.cumRoot k) with | some d => decide (s.cumDmax k < d) | none => false) })
    else s.updCum k (fun x => { x with sent := true, returned := true })) s

/-! ## Commands -/

/-- CUMULUS_FRAME_RECEIVED: a child's contribution or partial sums for a row, from a channel place up. -/
def execCumulusFrameReceived (k : Fin 8) (row : BitVec 32) (first : Nat) (chans : List (BitVec 64 × BitVec 64 × BitVec 8 × BitVec 64)) (s : State) :=
  if !s.cumOn k then done s
  else
    let x := s.cumSet k
    if row.toNat ≠ x.row then done (s.updCum k (fun x => { x with discard := x.discard + 1 }))
    else if x.sent then done s
    else
      let s := cumAdd k first (chans.map (fun c => { re := c.1, im := c.2.1, qual := c.2.2.1.toNat, mask := c.2.2.2.toNat })) s
      done (if s.phe.busy.isNone && s.cumComplete k then cumForward k s else s)

/-- CUMULUS_CUTOFF. -/
def execCumulusCutoff (k : Fin 8) (s : State) := done (cumForward k s)

/-- CUMULUS_TOTALS_RECEIVED: the totals of an origin; they are passed on down its tree. -/
def execCumulusTotalsReceived (k : Fin 8) (origin : Fin 64) (row : BitVec 32) (totals : List (Word × Word × Word)) (s : State) :=
  if !s.cumOn k then done s
  else
    let x := s.cumSet k
    if row.toNat ≠ x.row then done (s.updCum k (fun x => { x with discard := x.discard + 1 }))
    else
      let s := if s.selfId = s.cumOrigin k ∨ s.selfId = s.cumAlt k then s
        else s.updCum k (fun x => { x with moved := origin.val == s.cumAlt k && origin.val != s.cumOrigin k })
      let s := s.emit (.cumTotals k row.toNat totals)
      done (if x.returned then s else cumWrite k totals s)

/-- CUMULUS_RETURN_BOUND: the set's channels are written with LATE. -/
def execCumulusReturnBound (k : Fin 8) (s : State) :=
  if !s.cumOn k || (s.cumSet k).returned then done s
  else done (cumWrite k (List.replicate (s.cumPlaces k) (0, 0, BitVec.ofNat 32 (cumStatus 0 2))) s)

/-- CUMULUS_JOIN (R279): DHASH is sent to the origin; the member is joined if the echo matches. -/
def execCumulusJoin (k : Fin 8) (echo : Word) (s : State) :=
  if !s.cumOn k then done s
  else
    let h := BitVec.ofNat 32 (s.cumDesc k 0x18)
    done ((s.emit (.cumJoin k h)).setRegBit R.dupStat (8 + k.val) (echo == h))

/-- The effect of a write to CUM_CMD (R280). -/
def cumCmdEffect (m : Nat) (v : Word) (s : State) : State :=
  if R.cumCmd_go.of v = 0 then s
  else
    let k := R.cumCmd_set.of v
    let mbr := R.cumCmd_mbr.of v
    let inc := R.cumCmd_op.of v == 1
    let at_ := (s.reg R.cumAt).toNat
    let exp := s.cumExpected k
    let lead := s.leadTo 2 at_
    let exO := !exp.testBit (s.cumOrigin k)
    if !lead.any (fun (t : Int) => decide (((10 * gopTime (s.cumDmax k) : Nat) : Int) < t)) then s.raise .dup 0x0101 m
    else if !(s.cumMask k).testBit mbr
        || (!inc && (!exp.testBit mbr || (mbr == s.cumAlt k && exO) || exp == 2 ^ mbr)) then s.raise .dup 0x0102 m
    else
      let seq := s.gal.gopSeq + 1
      let set := 2 ^ s.cumOrigin k ||| 2 ^ s.cumAlt k
      let s := { s with gal := { s.gal with gopSeq := seq }, dup := { s.dup with cmd := some { seq := seq, set := k, row := at_ } } }
      let s := (s.invalidate R.cumCmdRes).emit (.gop s.selfId seq set opCUM 0 2 at_ [v])
      if s.inSet set then gopDeliver s.selfId seq opCUM 0 2 at_ [v] s else s

/-- EXCLUDE. -/
def execExclude (m : Master) (v : Word) (s : State) :=
  done (s.guarded m.val .dup (cumCmdEffect m.val (R.cumCmd_op.put v 0)))

/-- INCLUDE. -/
def execInclude (m : Master) (v : Word) (s : State) :=
  done (s.guarded m.val .dup (cumCmdEffect m.val (R.cumCmd_op.put v 1)))

/-- The effect of a write to DUP CTRL: with CUM_EN = 0 every total reads NOSET. -/
def dupCtrlEffect (v : Word) (s : State) : State :=
  let s := s.storeReg R.dupCtrl v
  if s.bit R.dupCtrl_cum_en then s
  else
    let s := iterUp 8 (fun k (s : State) => s.updCum k (fun x => { x with sent := true, returned := true })) s
    cumNoset 0x1381000 (cumNoset 0x1380000 s)

/-- CUM_SET_STAT_INTERVAL. -/
def execCumSetStatInterval (s : State) :=
  done (iterUp 8 (fun k (s : State) =>
    if !s.cumOn k then s
    else
      let x := s.cumSet k
      let s := s.complete (R.cumSetSt k)
        [BitVec.ofNat 32 (s.cumRoot k + (s.depthOn (s.cumRoot k)).getD 0 % 64 * 64 + b2n x.deep * 2 ^ 12),
         BitVec.ofNat 32 (Nat.min 0xFFFF x.missing + Nat.min 0xFFFF x.late * 2 ^ 16),
         BitVec.ofNat 32 (Nat.min 0xFFFF x.retMax + Nat.min 0xFFFF x.discard * 2 ^ 16)]
      s.updCum k (fun x => { x with missing := 0, late := 0, retMax := 0, discard := 0, deep := false })) s)

end Sys2Proof.Machine
end

