-- ==== Sys2Proof/Machine/GridRow.lean ====
section
/-! DEFINITION. The row seal: substitution, the row header, the frequency tracker's measurement and the tick that starts there
(R18, R19, R66, R67, R94 to R98, R103 to R105, R107). -/

namespace Sys2Proof.Machine

/-! ## Values at the seal -/

/-- R66, R67, R98: what the seal makes of local quantity `n` of a row. -/
def sealLocal (rec' : RowRec) (n : Nat) (s : State) : State :=
  let r := rec'.row
  let s := match (s.ain n).pulseRow with
    | none => s
    | some p =>
      let j1 := (p + 1) % rowMod
      if n < 32 ∧ (r = p ∨ r = j1) then
        let x := satInt32 (predictWave 2 1 s.gridN ((s.ain n).made.getD 0 0) ((s.ain n).made.getD 1 0))
        let q := s.planeQual r n ||| qINTERP
        let s := s.setPlane r n (if qHas q qINVALID then 0 else x) q
        if r = j1 then s.updAin n (fun c => { c with pulseRow := none }) else s
      else s
  let open_ := n < 32 && s.regBit R.afeOwStat n
  let add := (if open_ then qOPENW ||| qINVALID else 0) ||| (if rec'.moved then qINVALID else 0)
  let s := if add = 0 then s else s.setPlane r n 0 (s.planeQual r n ||| add)
  if n < 32 ∧ s.owMode n = 2 then s.updAin n (fun c => { c with made := (s.planeVal r n :: c.made).take 2 }) else s

/-- R98, R104, R105: QUEST, TEST and substitution of quantity `q`; the last good value since grid start is kept under every
SUB. -/
def sealQuantity (r q : Nat) (s : State) : State :=
  let test := s.bit (R.gridQCfg_test q)
  let ql := s.planeQual r q ||| (if test then qTEST else 0) ||| (if s.bit R.gridStat_desync then qQUEST else 0)
  let tq := if test then qTEST else 0
  let h := tget (0, false, 0) s.grid.hold q
  let bad := qHas ql qINVALID
  let run := Nat.min 256 (h.2.2 + 1)
  let h' := if !bad then (s.planeVal r q, true, 0) else if h.2.1 then (h.1, true, run) else h
  let s := if h' = h then s else { s with grid := { s.grid with hold := tset (0, false, 0) s.grid.hold q h' } }
  match s.get (R.gridQCfg_sub q) with
  | 1 => s.setPlane r q (s.word (substAddr q)).toInt (qSUBST ||| tq)
  | 2 =>
    if !bad then s.setPlane r q (s.planeVal r q) ql
    else if run ≤ s.get (R.gridQCfg_hold_max q) ∧ h.2.1 = true then s.setPlane r q h.1 (qHELD ||| tq)
    else s.setPlane r q 0 (ql ||| qINVALID)
  | _ => s.setPlane r q (s.planeVal r q) ql

/-- f_tracked in 0.1 mHz units; its rounding is free. -/
def freqUnits (f : Nat) : Word := BitVec.ofInt 32 (qRound 19 [f] (f * 10000 : Nat) (2 ^ 32))

/-- Header words 0 to 6 of a row (R103). -/
def rowHeader (rec' : RowRec) (s : State) : List Word :=
  let trk := s.get R.gridStat_trk
  let fl := b2n (s.isTickRow rec'.row) + 2 * b2n (s.tracked && rec'.row % s.gridN == 0) + 4 * b2n (trk == trkFROZEN)
    + 8 * b2n (s.bit R.gridStat_overcast) + 16 * b2n (s.bit R.gridStat_clamp) + 32 * b2n (!s.tracked)
    + 64 * b2n (s.bit R.gridStat_desync) + 128 * b2n (s.tracked && (trk == trkNOMINAL || trk == trkACQUIRE)) + 2 ^ 31
  [BitVec.ofNat 32 rec'.row, rec'.tstamp, freqUnits rec'.freq, BitVec.ofNat 32 fl, BitVec.ofNat 32 rec'.inc,
   BitVec.ofNat 32 (rec'.inc / 2 ^ 32 % 2 ^ 16), s.tstamp]

/-! ## The frequency tracker (R94 to R97) -/

/-- Quantities of the tracker's source. DESIGN CHOICE (unsafe, log entry 91): a SRC beyond the groups or quantities reads the register or
plane address that its number gives. -/
def State.trkQuantities (s : State) : List Nat :=
  let n := s.get R.gridTrk_src
  if s.bit R.gridTrk_src_kind then [n]
  else [s.get (R.pheGrpCfg_qa n), s.get (R.pheGrpCfg_qb n), s.get (R.pheGrpCfg_qc n)]

/-- The source's phasor of the cycle ending at row `r` in counts on a fixed scale; |V| below VMIN; |V2| / |V1| above NEG. -/
def State.trkPhasor (s : State) (r : Nat) : (Int × Int) × Bool × Bool :=
  let n := s.gridN
  let kpos := fun i => s.ago r i % n
  let vm : Int := (s.get R.gridFrz_vmin ^ 2 * 2 ^ 32 * n ^ 2 * 2 ^ 44 : Nat)
  let ng : Int := (s.get R.gridFrz_neg ^ 2 : Nat)
  if s.bit R.gridTrk_src_kind then
    let v := binSum s (s.get R.gridTrk_src) r n n 1 kpos
    (v, decide (2 * (v.1 ^ 2 + v.2 ^ 2) < vm), false)
  else
    let t := groupTriplet s (s.get R.gridTrk_src) r n (fun _ => n) kpos
    (t.v1Fixed, ltRoot3 (2 * t.pPart) (2 * t.qPart) (36 * vm), ltRoot3 ((ng - 65536) * t.pPart) ((ng + 65536) * t.qPart) 0)

/-- A freeze condition other than the deviation (R96) at row `r`. -/
def State.frozenAt (s : State) (r : Nat) (below neg : Bool) : Bool :=
  let bad := s.trkQuantities.any (fun q => qHas (qualOr s q r s.gridN) (qINVALID ||| qOVR ||| qOPENW))
  below || neg || bad || decide (s.grid.sealed < s.gridN) || s.bit R.gridCtrl_force_frz
    || (s.bit R.gridFrzTl_en && s.trm.lines.testBit (s.get R.gridFrzTl_tl))

/-- TRACKER_MEASUREMENT at a row with c = 0 (R94 to R97). -/
def trackerMeasure (rec' : RowRec) (s : State) : State :=
  let trk := s.get R.gridStat_trk
  if !s.tracked || rec'.row % s.gridN != 0 || trk == trkFIXED || trk == trkFOLLOW then s
  else
    let v := s.trkPhasor rec'.row
    let fz := s.frozenAt rec'.row v.2.1 v.2.2
    let now : Int := rec'.freq
    let meas : Option Int := s.grid.prevPhasor.map (fun p =>
      let a := angleStep p.1 p.2 v.1.1 v.1.2
      qRound 15 [s.grid.freqPrev, a] ((s.grid.freqPrev : Int) * (2 ^ 32 + a)) (2 ^ 32))
    let s := { s with grid := { s.grid with prevPhasor := some v.1 } }
    let dev : Int := ((meas.getD now) - now).natAbs
    let df : Bool := decide (((s.get R.gridFrz_df * 2 ^ 32 : Nat) : Int) < dev * 100)
    let near := meas.isSome && decide (dev * 100 < 2 ^ 32)
    let freeze := fun (s : State) =>
      ({ (s.setTrk trkFROZEN) with grid := { s.grid with frozenAt := s.gridNs, clearCycles := 0, relMeas := none, goodCycles := 0 } } : State).edge .grid 0
    let update := fun (slew : Nat) (s : State) =>
      match meas with
      | none => s
      | some m => formInc slew rec'.row m now s
    let settle := fun (s : State) =>
      let g := if near then s.grid.goodCycles + 1 else 0
      let s := { s with grid := { s.grid with goodCycles := g } }
      if 3 ≤ g then (s.setTrk trkLOCKED).edge .grid 1 else s
    let slew := s.get R.gridTrk_slew
    let rel := s.get R.gridFrz2_rel_slew
    if trk = trkNOMINAL then
      if fz then { s with grid := { s.grid with goodCycles := 0 } }
      else
        let g := s.grid.goodCycles + 1
        if g < 3 then { s with grid := { s.grid with goodCycles := g } }
        else update slew { (s.setTrk trkACQUIRE) with grid := { s.grid with goodCycles := 0 } }
    else if trk = trkACQUIRE then (if fz || df then freeze s else settle (update slew s))
    else if trk = trkLOCKED then (if fz || df then freeze s else update slew s)
    else if trk = trkRELEASE then (if fz then freeze s else settle (update rel s))
    else { s with grid := { s.grid with
      clearCycles := if fz then 0 else Nat.min 256 (s.grid.clearCycles + 1)
      relMeas := if fz then none else meas.map (fun m => (rec'.row, m, now)) } }

/-- TRACKER_UPDATE_MISSING (R98): at its target ROW a follower has no update; after 3 in a row it asks for an ALIGN. At an ALIGN point
DESYNC falls. DESIGN CHOICE (unsafe, log entry 91): every cycle start without an update counts, whether or not the source has formed an
INC for it. -/
def updateMissing (rec' : RowRec) (s : State) : State :=
  if rec'.align then { s with grid := { s.grid with missing := 0 } }.putBit R.gridStat_desync false
  else if s.get R.gridStat_trk ≠ trkFOLLOW ∨ !s.grid.aligned ∨ s.grid.align.isSome then s
  else if !s.tracked || rec'.row % s.gridN != 0 then s
  else if rec'.updated then { s with grid := { s.grid with missing := 0 } }
  else
    let n := s.grid.missing + 1
    let s := ({ s with grid := { s.grid with missing := n % 3 } } : State).putBit R.gridStat_desync true
    if n = 3 then s.emit (.alignReq (s.get R.gridTrk_trk_mbr)) else s

/-! ## The seal -/

/-- The grid has stopped (R107, R316). -/
def gridHalt (s : State) : State := (gridStopped s).drcStop

/-- ROW_SEAL: the oldest row in flight is sealed. A row of the run before a restart moves neither the tracker nor the row count (R107). -/
def rowSeal (s : State) : State :=
  match s.grid.inflight with
  | [] => s
  | rec' :: rest =>
    let r := rec'.row
    let old := decide (0 < s.grid.old)
    let s := { s with grid := { s.grid with inflight := rest, sealed := s.grid.sealed + b2n (!old) } }
    let s := if old then s else updateMissing rec' s
    let s := iterUp 64 (sealLocal rec') s
    let s := iterUp 576 (sealQuantity r) s
    let s := s.engine 3 [(headAddr r, 32, true)] (fun s => s.setWords (headAddr r) (rowHeader rec' s))
    let s := s.complete R.gridNow [BitVec.ofNat 32 r, rec'.tstamp, freqUnits rec'.freq, BitVec.ofNat 32 rec'.inc,
      BitVec.ofNat 32 (rec'.inc / 2 ^ 32 % 2 ^ 16)]
    let s := if old then s else trackerMeasure rec' s
    let s := if s.isTickRow r then
        let s := tickStart r (drcScales r s)
        if s.phe.busy = some r then cumTickStart r s else s
      else s
    let s := { s with grid := { s.grid with old := s.grid.old - 1 } }
    let s := drcRow r s
    if s.grid.stopAt.isSome && s.grid.inflight.isEmpty && !s.rowDue then gridHalt s else s

/-- ROW_WRITE (R90 to R92, R104): the chain has run to the samples the row needs; the strike comparators judge its sinc samples. -/
def execRowWrite (clocks : Nat) (ain : List (Nat × List ModBit)) (lines : List (Nat × List Bool)) (s : State) :=
  done (writeRow (chainStep clocks ain lines s))

/-- ROW_SEAL (R18). -/
def execRowSeal (s : State) := done (rowSeal s)

/-- The effect of a write to GRID CTRL (R107, R383). -/
def gridCtrlEffect (v : Word) (s : State) : State :=
  let e0 := s.bit R.gridCtrl_en
  let s := s.storeReg R.gridCtrl v
  let e1 := s.bit R.gridCtrl_en
  if !e0 && e1 then gridStart s
  else if e0 && !e1 then
    let s := { s with grid := { s.grid with stopAt := some s.gridNs } }
    if s.grid.inflight.isEmpty && !s.rowDue then gridHalt s else s
  else s

/-- GRID_ENABLE (R107, R383). -/
def execGridEnable (m : Master) (v : Word) (s : State) := done (s.guarded m.val .grid (gridCtrlEffect (v ||| 1#32)))

/-- GRID_DISABLE (R107). -/
def execGridDisable (m : Master) (v : Word) (s : State) := done (s.guarded m.val .grid (gridCtrlEffect (v &&& ~~~1#32)))

end Sys2Proof.Machine
end

