-- ==== Sys2Proof/Machine/Hka.lean ====
section
/-! DEFINITION. The housekeeping ADC (R215 to R217). -/

namespace Sys2Proof.Machine

/-- The input of entry `i` of the sequence. -/
def State.hkaEntry (s : State) (i : Nat) : Nat := ((s.reg (R.hkaSeq (i / 4))).toNat / 2 ^ (8 * (i % 4))) % 64
def State.hkaLen (s : State) : Nat := s.get R.hkaSeqLen_len

/-- STAT.LEVEL and HKA_FIFO_DATA follow the FIFO. -/
def hkaFifo (l : List Word) (s : State) : State :=
  (({ s with hka := { s.hka with fifo := l } }).put R.hkaStat_level l.length).setReg R.hkaFifoData (l.headD 0)

/-- A conversion begins, on a cold converter after its 5 µs wait (R215). -/
def hkaBegin (r : HkaRun) (s : State) : State :=
  let warm := s.bit R.hkaStat_warm || s.bit R.hkaCtrl_keep_warm
  let s := { s with hka := { s.hka with run := r, warming := !s.bit R.hkaStat_warm && !s.bit R.hkaCtrl_keep_warm } }
  if warm then s.putBit R.hkaStat_warm true else s

/-- What the converter does next: an urgent conversion, the pass's next entry, else it powers down (R215, R217). -/
def hkaNext (s : State) : State :=
  match s.hka.urg with
  | some u => hkaBegin (.urgent u) { s with hka := { s.hka with urg := none } }
  | none =>
    match s.hka.next with
    | some i => hkaBegin (.seq i) s
    | none =>
      let s := { s with hka := { s.hka with run := .idle, warming := false } }
      let s := if s.bit R.hkaCtrl_keep_warm then s else s.putBit R.hkaStat_warm false
      s.putBit R.hkaStat_busy false

/-- A pass starts. -/
def hkaPass (s : State) : State :=
  let s := ({ s with hka := { s.hka with next := some 0 } }).putBit R.hkaStat_busy true
  if s.hka.run = .idle then hkaNext s else s

/-- The last entry of a pass has been converted. -/
def hkaPassEnd (s : State) : State :=
  let s := ({ s with hka := { s.hka with next := none } }).edge .hka 0
  if s.bit R.hkaCtrl_go && s.bit R.hkaCtrl_cont then
    if s.get R.hkaCtrl_period = 0 then { s with hka := { s.hka with next := some 0 } } else s
  else s.putBit R.hkaCtrl_go false

/-- The effect of a write to HKA CTRL (R215, R217). -/
def hkaCtrlEffect (m : Nat) (v : Word) (s : State) : State :=
  let go := R.hkaCtrl_go.of v == 1 && !s.bit R.hkaCtrl_go
  let ch := R.hkaCtrl_dma_ch.of v
  let seqBad := s.hkaLen == 0 || decide (40 < s.hkaLen) || (List.range s.hkaLen).any (fun i => decide (39 < s.hkaEntry i))
  if go && seqBad then s.raise .hka 0x0102 m
  else if go && (R.hkaCtrl_en.of v == 0 || s.get (R.dmaChStat_state ch) != 1) then s.raise .hka 0x0103 m
  else
    let s := s.storeReg R.hkaCtrl v
    let s := if s.bit R.hkaCtrl_keep_warm || s.hka.run != .idle then s else s.putBit R.hkaStat_warm false
    let s := if go then hkaPass (s.putBit R.hkaStat_fifo_ovf false) else s
    let stop := !s.bit R.hkaCtrl_en || (s.bit R.hkaCtrl_go && !s.bit R.hkaCtrl_cont && s.hka.next.isNone && s.hka.run == .idle)
    if stop then
      let s := ({ s with hka := { s.hka with next := none } }).putBit R.hkaCtrl_go false
      if s.hka.run = .idle then s.putBit R.hkaStat_busy false else s
    else s

/-- HKA_GO: a write to HKA CTRL with GO = 1. -/
def execHkaGo (m : Master) (v : Word) (s : State) := done (s.guarded m.val .hka (hkaCtrlEffect m.val (v ||| 2#32)))

/-- HKA_PASS_PERIOD (R215). -/
def execHkaPassPeriod (s : State) :=
  if s.bit R.hkaCtrl_en && s.bit R.hkaCtrl_go && s.bit R.hkaCtrl_cont && s.hka.next.isNone then done (hkaPass s) else done s

/-- HKA_WARMUP_DONE (R215). -/
def execHkaWarmupDone (s : State) :=
  if s.hka.warming then done (({ s with hka := { s.hka with warming := false } }).putBit R.hkaStat_warm true) else done s

/-- R216: the code of a result: with OVR 0xFFF where the input lies above full scale, 0x000 where it lies below; the operand's top bit says
which. -/
def hkaCode (code : BitVec 12) (ovr : Bool) : Nat := if !ovr then code.toNat else if code.getLsbD 11 then 0xFFF else 0

/-- A result word (the HKA page). RNG is 1 for a channel that is OFF (R216). -/
def State.hkaWord (s : State) (input code : Nat) (ovr : Bool) : Word :=
  let rng := decide (input < 16) && s.foState input == foOFF
  BitVec.ofNat 32 (code + b2n ovr * 2 ^ 12 + b2n rng * 2 ^ 13 + input * 2 ^ 14 + s.tstamp.toNat / 256 % 4096 * 2 ^ 20)

/-- A result is pushed, or discarded where the FIFO is full (R215). -/
def hkaPush (w : Word) (s : State) : State :=
  if 64 ≤ s.hka.fifo.length then (s.putBit R.hkaStat_fifo_ovf true).edge .hka 2 else hkaFifo (s.hka.fifo ++ [w]) s

/-- HKA_CONVERSION_DONE (R215 to R217): the code and OVR of the input being converted. -/
def execHkaConversionDone (code : BitVec 12) (ovr : Bool) (s : State) :=
  if s.hka.warming then done s
  else match s.hka.run with
  | .idle => done s
  | .seq i =>
    let inp := s.hkaEntry i
    let w := s.hkaWord inp (hkaCode code ovr) ovr
    let s := (hkaPush w (s.complete (R.hkaIn inp) [w])).edgeIf ovr .hka 3
    let s := if i + 1 < s.hkaLen ∧ s.hka.next.isSome then { s with hka := { s.hka with next := some (i + 1) } } else hkaPassEnd s
    done (hkaNext s)
  | .urgent u =>
    let w := s.hkaWord u (hkaCode code ovr) ovr
    let s := (hkaPush w ((s.complete (R.hkaIn u) [w]).complete R.hkaUrgRes [w])).edgeIf ovr .hka 3
    done (hkaNext (s.edge .hka 1))

/-- The effect of a write to HKA_URG (R217); an input above 39 names nothing. -/
def hkaUrgEffect (m : Nat) (v : Word) (s : State) : State :=
  let u := R.hkaUrg_in.of v
  let busy := s.hka.urg.isSome || (match s.hka.run with | .urgent _ => true | _ => false)
  if R.hkaUrg_go.of v = 0 ∨ 39 < u then s
  else if busy then s.raise .hka 0x0101 m
  else
    let s := (({ s with hka := { s.hka with urg := some u } }).putBit R.hkaStat_busy true).invalidate R.hkaUrgRes
    if s.hka.run = .idle then hkaNext s else s

/-- HKA_URGENT_REQUEST. -/
def execHkaUrgentRequest (m : Master) (v : Word) (s : State) := done (s.guarded m.val .hka (hkaUrgEffect m.val v))

/-- A read of HKA_FIFO_DATA by master 1 (R215). -/
def hkaPop (s : State) : State := if s.hka.fifo.isEmpty then s else hkaFifo (s.hka.fifo.drop 1) s

/-- HKA_FIFO_POP: the head result goes to the DMA. -/
def execHkaFifoPop (s : State) := done (hkaPop (s.emit (.readData 1 R.hkaFifoData (leBytes 4 (s.reg R.hkaFifoData).toNat))))

/-- The lifetime bin of the hottest of TS0 to TS3 (R363): codes are 0.0625 °C from −50 °C (R216). -/
def tempBin (code : Nat) : Nat := Nat.min 15 ((code - 160) / 160)

/-- HKA_TEMPERATURE_SAMPLE (R217, R363): the AON island's own conversion of one sensor; each thousandth closes a second. -/
def execHkaTemperatureSample (sensor : Fin 8) (code : BitVec 12) (ovr : Bool) (s : State) :=
  let w := s.hkaWord (19 + sensor.val) (hkaCode code ovr) ovr
  let s := { s with hka := { s.hka with temps := tset 0 s.hka.temps sensor (hkaCode code ovr), samples := (s.hka.samples + 1) % 1000 } }
  let s := (hkaPush w (s.complete (R.hkaIn (19 + sensor.val)) [w])).edgeIf ovr .hka 3
  if s.hka.samples = 0 then
    let hot := (List.range 4).foldl (fun a i => Nat.max a (tget 0 s.hka.temps i)) 0
    done ((s.addLife 0 1).addLife (16 + tempBin hot) 1)
  else done s

end Sys2Proof.Machine
end

