-- ==== Sys2Proof/Machine/LogicBlocks.lean ====
section
/-! DEFINITION. The block library of the Triov engine (R222 to R225, R231). -/

namespace Sys2Proof.Machine

/-- What one instance leaves: its fields, whether a case marked ARITH arose (R224), and the counter of drawn free values. -/
structure LRes where
  cell : LCell
  arith : Bool := false
  free : Nat := 0

/-- Cost of a block type in CORE cycles (R223). -/
def blockCost (t : Nat) : Nat :=
  if t ≤ 0x06 then 10 else if t ≤ 0x0B then 12 else if t ≤ 0x13 then 28 else if t ≤ 0x1A then 20 else if t ≤ 0x25 then 14
  else if t = 0x2B ∨ t = 0x2C then 36 else if t ≤ 0x31 then 16 else if t = 0x38 then 14 else if t = 0x39 then 18 else if t = 0x3A then 10
  else if t ≤ 0x41 then 26 else 12

/-- Size of an instance in bytes (R223). -/
def blockSize (t n : Nat) : Nat :=
  if t ≤ 0x06 then 12 + 4 * n else if t ≤ 0x09 then 16 else if t ≤ 0x0B then 20 else if t ≤ 0x13 then 40 else if t ≤ 0x1A then 28
  else if t ≤ 0x25 then 20 else if t ≤ 0x31 then 24 else if t = 0x38 then 24 else if t = 0x39 then 20 + 4 * n else if t = 0x3A then 16
  else if t ≤ 0x41 then 40 else 16

/-- The 40 block types (R223). -/
def blockTypes : List Nat :=
  [0x01, 0x02, 0x03, 0x04, 0x05, 0x06, 0x08, 0x09, 0x0A, 0x0B, 0x10, 0x11, 0x12, 0x13, 0x18, 0x19, 0x1A, 0x20, 0x21, 0x22, 0x23, 0x24, 0x25,
   0x28, 0x29, 0x2A, 0x2B, 0x2C, 0x2D, 0x2E, 0x2F, 0x30, 0x31, 0x38, 0x39, 0x3A, 0x40, 0x41, 0x48, 0x49]

def lBit (b : Bool) : Word := if b then 1 else 0
def lBool (x : BitVec 64) : Bool := x.toNat % 2 ^ 32 != 0
def lInt (x : BitVec 64) : Int := (x.setWidth 32).toInt
def lReal (x : BitVec 64) : F32 := x.setWidth 32

/-- An INT32 result, saturated (R224). -/
def satI (x : Int) : Word := BitVec.ofInt 32 (if x > 0x7FFFFFFF then 0x7FFFFFFF else if x < -0x80000000 then -0x80000000 else x)

/-- A REAL32 result (R224): a NaN gives +0.0, an infinity the largest finite value of its sign; both set ARITH. -/
def satR (x : F32) : Word × Bool :=
  if F32.isNaN x then (0, true) else if F32.isInf x then (F32.withSign (F32.neg x) 0x7F7FFFFF, true) else (x, false)

/-- The truncated remainder of two REAL32 values. -/
def fmod (x y : F32) : F32 :=
  let a := F32.toQ x
  let b := F32.toQ y
  let q := Q.div a b
  (Q.sub a (Q.mul b (Q.ofInt (q.num.tdiv q.den)))).toF32

/-- Arithmetic on INT32 (R223, R224). -/
def arithI (t : Nat) (a b c : Int) : Word × Bool :=
  match t with
  | 0x28 => (satI (a + b), false)
  | 0x29 => (satI (a - b), false)
  | 0x2A => (satI (a * b), false)
  | 0x2B => if b = 0 then (0, true) else (satI (a.tdiv b), false)
  | 0x2C => if b = 0 then (0, true) else (satI (a.tmod b), false)
  | 0x2D => (satI a.natAbs, false)
  | 0x2E => (satI (-a), false)
  | 0x2F => (satI (if b < a then a else if c < b then c else b), false)
  | 0x30 => (satI (min a b), false)
  | _ => (satI (max a b), false)

/-- Arithmetic on REAL32 (R223, R224). -/
def arithR (t : Nat) (xs : List F32) : Word × Bool :=
  let a := xs.getD 0 0; let b := xs.getD 1 0; let c := xs.getD 2 0
  if xs.any F32.isNaN then (0, true)
  else match t with
  | 0x28 => satR (fadd a b)
  | 0x29 => satR (fsub a b)
  | 0x2A => satR (fmul a b)
  | 0x2B => if F32.isZero b then (0, true) else satR (fdiv a b)
  | 0x2C => if F32.isZero b then (0, true) else if F32.isInf a then (0, true) else if F32.isInf b then satR a else satR (fmod a b)
  | 0x2D => satR (fabs a)
  | 0x2E => satR (fneg a)
  | 0x2F => satR (if flt b a then a else if flt c b then c else b)
  | 0x30 => satR (fmin a b)
  | _ => satR (fmax a b)

/-- A comparison (R223); with a NaN the result is 0 and ARITH is set (R224). -/
def compareL (t : Nat) (real : Bool) (a b : BitVec 64) : Bool × Bool :=
  if real then
    let x := lReal a; let y := lReal b
    if F32.isNaN x || F32.isNaN y then (false, true)
    else (match t with | 0x20 => feq x y | 0x21 => !feq x y | 0x22 => fgt x y | 0x23 => fge x y | 0x24 => flt x y | _ => fle x y, false)
  else
    let x := lInt a; let y := lInt b
    (match t with | 0x20 => x == y | 0x21 => x != y | 0x22 => decide (y < x) | 0x23 => decide (y ≤ x) | 0x24 => decide (x < y) | _ => decide (x ≤ y), false)

/-- The nearest INT32 to a REAL32, ties to even (R223, R224). -/
def realToInt (x : F32) : Word × Bool :=
  if F32.isNaN x then (0, true)
  else if F32.isInf x then (satI (if F32.neg x then -(2 ^ 40) else 2 ^ 40), true)
  else
    let q := F32.toQ x
    let f := q.num / (q.den : Int)
    let r := 2 * (q.num - f * q.den) - q.den
    let n := if r > 0 ∨ (r = 0 ∧ f % 2 ≠ 0) then f + 1 else f
    (satI n, decide (n > 0x7FFFFFFF ∨ n < -0x80000000))

/-- A rising edge of edge input `k`; a primed memory gives none (R231). -/
def lRise (c : LCell) (k : Nat) (x : Bool) : Bool := x && !c.prev.testBit k && !c.primed
def lFall (c : LCell) (k : Nat) (x : Bool) : Bool := !x && c.prev.testBit k && !c.primed

/-- Timers (R225, R231). -/
def lTimer (t now : Nat) (inp : Bool) (pt : Int) (rst : Bool) (c : LCell) (free : Nat) : LRes :=
  let was := c.prev.testBit 0
  let c := if c.restart then { c with start := if t = 0x13 then now - c.et else now, restart := false } else c
  let c := { c with prev := if inp then 1 else 0, primed := false }
  match t with
  | 0x10 =>
    let c := if inp && !was then { c with start := now } else c
    let el : Int := (now - c.start : Nat)
    let et := if inp then (min el (max pt 0)).toNat else 0
    ⟨{ c with out := lBit (inp && decide (pt ≤ el)), et := et, out2 := BitVec.ofNat 64 et }, false, free⟩
  | 0x13 =>
    let c := if rst then { c with et := 0, start := now } else if inp && !was then { c with start := now - c.et } else c
    let el : Int := (now - c.start : Nat)
    let et := if rst then 0 else if inp then (min el (max pt 0)).toNat else (min (c.et : Int) (max pt 0)).toNat
    ⟨{ c with out := lBit (inp && !rst && decide (pt ≤ el)), et := et, out2 := BitVec.ofNat 64 et }, false, free⟩
  | 0x11 =>
    let c := if !inp && was then { c with start := now } else c
    let q := inp || decide (((now - c.start : Nat) : Int) < pt)
    ⟨{ c with out := lBit q, out2 := (Config.freeValue free).setWidth 64 }, false, free + 1⟩
  | _ =>
    let c := if inp && !was && c.out == (0 : Word) then { c with start := now } else c
    let q := decide (((now - c.start : Nat) : Int) < pt)
    ⟨{ c with out := lBit q, out2 := (Config.freeValue free).setWidth 64 }, false, free + 1⟩

/-- Counters (R223, R224). -/
def lCounter (t : Nat) (xs : List (BitVec 64)) (c : LCell) (free : Nat) : LRes :=
  let b := fun i => lBool (xs.getD i 0)
  let v := fun i => lInt (xs.getD i 0)
  let up := fun (x : Int) => if x < 0x7FFFFFFF then x + 1 else x
  let dn := fun (x : Int) => if -0x80000000 < x then x - 1 else x
  let rise := fun k => lRise c k (b k)
  let fin := fun (cv : Int) (q qd : Bool) (prev : Nat) =>
    (⟨{ c with cv := cv, out := lBit q, out2 := (BitVec.ofInt 32 cv).setWidth 64, out3 := lBit qd, prev := prev, primed := false }, false, free⟩ : LRes)
  match t with
  | 0x18 =>
    let cv := if b 1 then 0 else if rise 0 then up c.cv else c.cv
    fin cv (decide (v 2 ≤ cv)) false (if b 0 then 1 else 0)
  | 0x19 =>
    let cv := if b 1 then v 2 else if rise 0 then dn c.cv else c.cv
    fin cv (decide (cv ≤ 0)) false (if b 0 then 1 else 0)
  | _ =>
    let cv := if b 2 then 0 else if b 3 then v 4
      else
        let x := if rise 0 then up c.cv else c.cv
        if rise 1 then dn x else x
    fin cv (decide (v 4 ≤ cv)) (decide (cv ≤ 0)) ((if b 0 then 1 else 0) + (if b 1 then 2 else 0))

/-- PULSE and BLINK (R223). -/
def lPulse (t now : Nat) (inp : Bool) (pt : Int) (c : LCell) (free : Nat) : LRes :=
  if t = 0x41 then ⟨{ c with out := lBit ((Config.freeValue free).getLsbD 0), primed := false }, false, free + 1⟩
  else
    let on0 := c.et != 0
    let go := lRise c 0 inp && !(on0 && decide (((now - c.start : Nat) : Int) < pt))
    let c := if go then { c with start := now, et := 1 } else c
    let q := c.et != 0 && decide (((now - c.start : Nat) : Int) < pt)
    ⟨{ c with out := lBit q, et := if q then 1 else 0, prev := if inp then 1 else 0, primed := false, restart := false }, false, free⟩

/-- One instance with its inputs at a NOW. -/
def lEval (now : Nat) (i : LInst) (xs : List (BitVec 64)) (c : LCell) (free : Nat) : LRes :=
  let b := fun k => lBool (xs.getD k 0)
  let bs := xs.map lBool
  let t := i.type
  let put := fun (w : Word) (ar : Bool) => (⟨{ c with out := w, primed := false }, ar, free⟩ : LRes)
  if t = 0x01 then put (lBit (bs.all (fun x => x))) false
  else if t = 0x02 then put (lBit (bs.any (fun x => x))) false
  else if t = 0x03 then put (lBit (bs.foldl (fun a x => a != x) false)) false
  else if t = 0x04 then put (lBit (!b 0)) false
  else if t = 0x05 then put (lBit (!bs.all (fun x => x))) false
  else if t = 0x06 then put (lBit (!bs.any (fun x => x))) false
  else if t = 0x08 then ⟨{ c with out := lBit (lRise c 0 (b 0)), prev := if b 0 then 1 else 0, primed := false }, false, free⟩
  else if t = 0x09 then ⟨{ c with out := lBit (lFall c 0 (b 0)), prev := if b 0 then 1 else 0, primed := false }, false, free⟩
  else if t = 0x0A then put (lBit (b 0 || (!b 1 && c.out != 0))) false
  else if t = 0x0B then put (lBit (!b 1 && (b 0 || c.out != 0))) false
  else if t ≤ 0x13 then lTimer t now (b 0) ((xs.getD 1 0).toInt) (b 2) c free
  else if t ≤ 0x1A then lCounter t xs c free
  else if t ≤ 0x25 then
    let r := compareL t i.real (xs.getD 0 0) (xs.getD 1 0)
    put (lBit r.1) r.2
  else if t ≤ 0x31 then
    let r := if i.real then arithR t (xs.map lReal) else arithI t (lInt (xs.getD 0 0)) (lInt (xs.getD 1 0)) (lInt (xs.getD 2 0))
    put r.1 r.2
  else if t = 0x38 then put (if b 0 then (xs.getD 2 0).setWidth 32 else (xs.getD 1 0).setWidth 32) false
  else if t = 0x39 then
    let k := lInt (xs.getD 0 0)
    if 0 ≤ k ∧ k + 1 < xs.length then put ((xs.getD (k.toNat + 1) 0).setWidth 32) false
    else ⟨{ c with out := Config.freeValue free, primed := false }, false, free + 1⟩
  else if t = 0x3A then put ((xs.getD 0 0).setWidth 32) false
  else if t ≤ 0x41 then lPulse t now (b 0) ((xs.getD 1 0).toInt) c free
  else if t = 0x48 then
    let r := satR (fofInt (lInt (xs.getD 0 0)))
    put r.1 r.2
  else
    let r := realToInt (lReal (xs.getD 0 0))
    put r.1 r.2

end Sys2Proof.Machine
end

