-- ==== Sys2Proof/Machine/Logic.lean ====
section
/-! DEFINITION. The Triov engine: images and slices, the cycle, the watchdog, starts, retain data and forcing (R218 to R233). -/

namespace Sys2Proof.Machine

/-! ## States and roles (R218, R229) -/

def leEMPTY : Nat := 0
def leSTOPPED : Nat := 1
def leSTARTING : Nat := 2
def leRUN : Nat := 3
def leREMOTE : Nat := 4
def leREMOTESAFE : Nat := 5

/-- Causes of a stop (R228). -/
def stCOMMAND : Nat := 1
def stWDT : Nat := 2
def stMEMORY : Nat := 3
def stLOAD : Nat := 4
def stMASTERLOST : Nat := 5
def stRESET : Nat := 6

/-- PHASE of a recast. -/
def rcIDLE : Nat := 0
def rcPREPARING : Nat := 1
def rcREADY : Nat := 2
def rcSWAPPEND : Nat := 3
def rcSWAPPING : Nat := 4

def State.le (s : State) : Nat := s.get R.lgeStat_state
def State.setLe (s : State) (x : Nat) : State := s.put R.lgeStat_state x
def State.lgeMaster (s : State) : Bool := s.get R.lgeCfg_role == 1
def State.lgeRemote (s : State) : Bool := s.get R.lgeCfg_role == 2
def State.lgeRuns (s : State) : Bool := s.le == leSTARTING || s.le == leRUN
def State.rcPhase (s : State) : Nat := s.get R.lgeRcStat_phase
def State.lgeDom (s : State) : Nat := (s.reg R.lgeDomLo).toNat + (s.reg R.lgeDomHi).toNat * 2 ^ 32
def State.updLge (s : State) (f : LgeState → LgeState) : State := { s with lge := f s.lge }
/-- Logic time in µs (R225). -/
def State.logicUs (s : State) : Nat := (((s.time.grid : Int) - s.lge.ofs) / (2 ^ 32 * 1000 : Nat)).toNat

/-! ## Images and slices (R220) -/

/-- A cold instance (R231): from INIT, timers at 0, edge detectors primed. -/
def LInst.cold (i : LInst) : LCell := { i.init with primed := true, restart := true, et := 0 }

def imgAddr (m : Nat) : Nat := 0x1080000 + 0x200 * m
def sliceAddr (m : Nat) : Nat := 0x1090000 + 0xC0 * m
def safeAddr (m : Nat) : Nat := 0x1094000 + 0xC0 * m

/-- What an invalid GIN reads in an image: the FAILV of the literals that name it where they agree. -/
def State.ginFailv (s : State) (i : Nat) : Option Bool :=
  let fs := (List.range 256).flatMap (fun l => ((s.lineLits l).flatten.filter (fun w => litKind w == 5 && litIndex w == i)).map litFailv)
  match fs with
  | [] => none
  | f :: rest => if rest.all (fun x => x == f) then some f else none

/-- Words 9 to 40 of an image; a bit the literals leave open is a free one. -/
def ginWords (s : State) : List Word × State :=
  (List.range 32).foldl (fun (a : List Word × State) w =>
    let bits := (List.range 32).map (fun b => let g := s.gin (32 * w + b); if g.valid then some g.val else s.ginFailv (32 * w + b))
    if bits.all (fun x => x.isSome) then (a.1 ++ [wordOfBits 32 (fun b => (bits.getD b none).getD false)], a.2)
    else
      let f := a.2.fresh
      (a.1 ++ [wordOfBits 32 (fun b => (bits.getD b none).getD (f.1.getLsbD b))], f.2)) ([], s)

/-- The quality of the field at an offset of the PHE buffer. -/
def State.pheFieldInvalid (s : State) (buf o : Nat) : Bool :=
  if o < 0x16900 then qHas (recQual s buf ((o - 0x100) / 0xA0)) qINVALID
  else
    let g := (o - 0x16900) / 0x60
    let f := (o - 0x16900) % 0x60
    let w := (s.word (gRec buf g + 0x20)).toNat
    qHas (w >>> (if f = 0x18 then 8 else if f = 0x1C then 16 else 0)) qINVALID

/-- The input image as it stands (R220). -/
def inputImage (s : State) : List Word × State :=
  let g := ginWords s
  let s := g.2
  let buf := 0xC00000 + s.get R.pheStat_buf * 0x20000
  let flags := b2n (s.bit R.peaStat_fault) + 2 * b2n (s.bit R.fioStat_uvlo_a) + 4 * b2n (s.bit R.fioStat_uvlo_b) + 8 * b2n (s.bit R.fioFoPin_foh)
    + 16 * b2n s.authority + 32 * b2n (s.bit R.gridStat_overcast)
  let elem := (List.range 16).map (fun i => BitVec.ofNat 32 ((List.range 4).foldl (fun a k =>
    a + (match s.lge.iomap.slots[4 * i + k]? with | some e => tget 0 s.pea.committed e | none => 0) % 256 * 2 ^ (8 * k)) 0))
  let phe := (List.range 32).map (fun i => match s.lge.iomap.phe[i]? with
    | some o => if s.pheFieldInvalid buf o then 0 else s.word (buf + o)
    | none => 0)
  ([s.reg R.fioFiState] ++ (List.range 8).map (fun i => BitVec.ofNat 32 (s.trm.lines / 2 ^ (32 * i))) ++ g.1
    ++ [BitVec.ofNat 32 (s.get R.trmFoCmd_cmd + s.get R.fioFoPin_pin * 2 ^ 16), BitVec.ofNat 32 flags] ++ elem ++ phe ++ List.replicate 37 0, s)

/-- A slice with one field set. -/
def setField (bs : List Byte) (aout : Bool) (idx : Nat) (v : Word) : List Byte :=
  if aout then (List.range 4).foldl (fun (b : List Byte) k => b.set (128 + 4 * (idx % 16) + k) (BitVec.ofNat 8 (v.toNat / 2 ^ (8 * k)))) bs
  else
    let i := idx % 1024
    let old := (bs.getD (i / 8) 0).toNat
    let m := 2 ^ (i % 8)
    bs.set (i / 8) (BitVec.ofNat 8 (old - (old &&& m) + (if v == 0 then 0 else m)))

/-- A slice is applied as the state becomes what `enter` makes it: LGO literals and AOUT read what the new state gives; a changed LGO bit
starts a pass (R226). -/
def applySlice (bs : List Byte) (enter : State → State) (s : State) : State :=
  let old := s.slice
  let s := enter (s.engine 4 [(ownSlice, 192, true)] (fun s => s.setBytes ownSlice (padSlice bs)))
  let s := if old.take 128 = s.slice.take 128 then s else s.requestPass
  gosPass s

/-! ## The arrays of a program (R219, R222) -/

/-- Type, flags and size, and the symbol identity: the header of an instance. -/
def LInst.header (i : LInst) (forced : Bool) (c : LCell) : List Word :=
  [BitVec.ofNat 32 (i.type + b2n i.retain * 2 ^ 8 + b2n forced * 2 ^ 9 + b2n c.primed * 2 ^ 10 + blockSize i.type i.ins.length * 2 ^ 16), i.sym]

/-- The headers of a program's instances are written from a base address up. -/
def writeHeaders (base : Nat) (p : LProg) (cells : List LCell) (forced : Nat → Bool) (s : State) : State :=
  (List.range p.insts.length).foldl (fun (s : State) k =>
    match p.insts[k]? with
    | some i => s.setWords (base + i.addr) (i.header (forced k) (cells.getD k {}))
    | none => s) s

/-- The active forces on a field of instance `k`. -/
def State.forcedInst (s : State) (p : LProg) (k : Nat) : Bool :=
  s.lge.forces.any (fun f => match p.syms.find? (fun x => x.sym == f.1) with
    | some y => (match y.loc with | .field j _ => j == k | _ => false)
    | none => false)

/-- The headers of the running program are up to date. -/
def State.ownHeaders (s : State) : State :=
  match s.lge.prog with
  | some p => s.engine 4 [(instBase, Nat.max 8 p.memBytes, true)] (writeHeaders instBase p s.lge.cells (s.forcedInst p))
  | none => s

/-- Code and initial instance memory of a program at the active or the staging set. -/
def writeProg (instAt codeAt : Nat) (p : LProg) (s : State) : State :=
  writeHeaders instAt p (p.insts.map LInst.cold) (fun _ => false) ((s.setBytes instAt p.initBytes).setBytes codeAt p.code)

/-- The bytes of the RETAIN segment as they stand. -/
def State.retainImage (s : State) (p : LProg) : List Byte := (p.retainMap.flatMap (fun r => memBytes s.mem (instBase + r.1) r.2)).take (256 * 1024)

/-- The input words an instance reads. -/
def LSrc.reads (x : LSrc) : List Nat := match x with | .imgBit m w _ => [imgAddr m + 4 * w] | .imgWord m w => [imgAddr m + 4 * w] | _ => []

/-- R219: the first word with an uncorrectable error that the engine reads in this EXEC, and the instance executing: its code entry of
64 bytes (log entry 100), its memory, its inputs. -/
def State.lgePoison (s : State) (p : LProg) : Option (Nat × Nat) :=
  if s.sram.poison.isEmpty then none
  else (List.range p.insts.length).findSome? (fun k =>
    match p.insts[k]? with
    | some i =>
      let hit := fun (w : Nat) => decide (w / 64 = codeBase / 64 + k)
        || decide (instBase + i.addr < w + 8 ∧ w < instBase + i.addr + blockSize i.type i.ins.length)
        || (i.ins.flatMap LSrc.reads).any (fun a => decide (w = a / 8 * 8))
      (s.sram.poison.find? hit).map (fun w => (w, k))
    | none => none)

/-! ## Stops (R228) -/

/-- The fields of LGE_RC_RES (chapter 14) with DONE's event. -/
def rcResult (outcome : Nat) (w : LSwap) (s : State) : State :=
  let p : Word := match s.lge.prog with | some p => p.progId.setWidth 32 | none => 0
  let o := outcome + 8 * b2n w.rollback
  (((s.complete R.lgeRcRes [BitVec.ofNat 32 (o + w.fdrop * 16), w.time, BitVec.ofNat 32 w.cycles, p]).edge .lge 6).event 0x21 4 0 p 0 o)

/-- DONE of a recast is written (R236, R243). -/
def recastDone (outcome : Nat) (s : State) : State :=
  match s.jFind (fun o => o.cls == 5) with
  | some op => s.jDone op outcome op.data
  | none => s

/-- A recast that waits for its swap, or whose first new cycle runs, meets a stop (R243). -/
def recastStop (cause : Nat) (s : State) : State :=
  match s.lge.swap with
  | some w =>
    let o := if cause = stWDT then 2 else if cause = stMEMORY then 3 else 4
    let s := rcResult o w (recastDone o s)
    (s.updLge (fun l => { l with swap := none, rollback := false, saveNow := false })).put R.lgeRcStat_phase rcIDLE
  | none =>
    if s.rcPhase = rcSWAPPEND then
      (rcResult 4 { rollback := s.lge.rollback } (s.updLge (fun l => { l with rollback := false }))).put R.lgeRcStat_phase rcREADY
    else s

/-- The engine stops, or a remote member leaves RUN of its master: the safe slice is applied, CAUSE and LGE_STOP_INFO say
why. -/
def lgeHalt (state cause inst : Nat) (s : State) : State :=
  let el := if s.lge.phase = LPhase.idle then 0 else (s.time.ticks - s.lge.lead) * 4 / 10
  let s := recastStop cause s
  let s := applySlice s.lge.safe (fun s => (s.setLe state).put R.lgeStat_cause cause) (s.updLge (fun l => { l with phase := .idle, held := none }))
  let s := s.requestPass
  let s := (s.invalidate R.lgeNow).invalidate R.lgeCyc
  let s := s.complete R.lgeStopInfo [BitVec.ofNat 32 (cause + inst % 8192 * 16), s.tstamp, BitVec.ofNat 32 el]
  (s.event 0x21 0 0 (BitVec.ofNat 32 inst) 0 cause).edge .lge 0

/-- A stop of the master's engine. -/
def lgeStop (cause inst : Nat) (s : State) : State :=
  if s.lgeMaster && s.lgeRuns then
    let s := if cause = stWDT then s.addLife 7 1 else s
    (lgeHalt leSTOPPED cause inst s).emit (.logicStop cause)
  else s

/-- A remote member goes to REMOTE_SAFE. -/
def lgeSafe (cause : Nat) (s : State) : State := if s.lgeRemote && s.le == leREMOTE then lgeHalt leREMOTESAFE cause 0 s else s

/-! ## Forcing (R233) -/

/-- STAT.FORCED follows the force table. -/
def State.forceStat (s : State) : State := (s.putBit R.lgeStat_forced (!s.lge.forces.isEmpty)).ownHeaders

/-- A force command takes effect. -/
def forceApply (c : LForceCmd) (s : State) : State :=
  let fs := s.lge.forces
  if c.op = 1 then
    let fs := if fs.any (fun f => f.1 == c.sym) then fs.map (fun (f : Word × Word) => if f.1 == c.sym then (f.1, c.val) else f) else fs ++ [(c.sym, c.val)]
    ((s.updLge (fun l => { l with forces := fs })).forceStat).event 0x21 1 0 c.sym 0 0
  else
    let gone := if c.op = 3 then fs else fs.filter (fun f => f.1 == c.sym)
    let s := s.updLge (fun l => { l with forces := fs.filter (fun (f : Word × Word) => !gone.contains f) })
    gone.foldl (fun (s : State) f => s.event 0x21 2 0 f.1 0 0) s.forceStat

/-- The force commands that wait take effect, oldest first. -/
def forceWaiting (s : State) : State := (s.lge.fcmd.foldl (fun (s : State) c => forceApply c s) s).updLge (fun l => { l with fcmd := [] })

/-- LGE_FORCE_RES completes. -/
def forceResult (sym : Word) (s : State) : State := s.complete R.lgeForceRes [sym, BitVec.ofNat 32 s.lge.forces.length]

/-- The symbol of a variable in the program. -/
def LProg.sym (p : LProg) (y : Word) : Option LSym := p.syms.find? (fun x => x.sym == y)

/-- The effect of a write to LGE_FORCE_CMD (R233). -/
def forceCmdEffect (m : Nat) (v : Word) (s : State) : State :=
  let op := R.lgeForceCmd_op.of v
  let y := s.reg R.lgeForceSym
  let after := s.lge.fcmd.foldl (fun (fs : List Word) c =>
    if c.op = 1 then (if fs.contains c.sym then fs else fs ++ [c.sym]) else if c.op = 2 then fs.filter (fun x => x != c.sym) else []) (s.lge.forces.map (fun f => f.1))
  let accept := fun (c : LForceCmd) (s : State) =>
    let s := s.invalidate R.lgeForceRes
    let sym := if c.op = 3 then 0 else c.sym
    match s.lge.phase with
    | .exec => s.updLge (fun l => { l with fcmd := l.fcmd ++ [c], fres := some sym })
    | .out => s.updLge (fun l => { l with fcmd := l.fcmd ++ [c], fres := some sym })
    | .idle => forceApply c ((forceWaiting s).updLge (fun l => { l with fres := some sym }))
    | _ => forceResult sym (forceApply c s)
  if op = 0 then s
  else if !s.bit R.lgeCtrl_force_en then s.raise .lge 0x0102 m
  else if op = 1 then
    let ok := match s.lge.prog with
      | some p => (match p.sym y with | some x => x.forceable && x.ty != .time | none => false)
      | none => false
    if !ok then s.raise .lge 0x0103 m
    else if 256 ≤ after.length ∧ !after.contains y then s.raise .lge 0x0104 m
    else accept ⟨1, y, s.reg R.lgeForceVal⟩ s
  else if op = 2 then (if after.contains y then accept ⟨2, y, 0⟩ s else s)
  else accept ⟨3, 0, 0⟩ s

/-- The command word with its OP. -/
def forceOp (op : Nat) (v : Word) : Word := R.lgeForceCmd_op.put v op

/-- FORCE_SET. -/
def execForceSet (m : Master) (v : Word) (s : State) := done (s.guarded m.val .lge (forceCmdEffect m.val (forceOp 1 v)))

/-- FORCE_CLEAR. -/
def execForceClear (m : Master) (v : Word) (s : State) := done (s.guarded m.val .lge (forceCmdEffect m.val (forceOp 2 v)))

/-- FORCE_CLEAR_ALL. -/
def execForceClearAll (m : Master) (v : Word) (s : State) := done (s.guarded m.val .lge (forceCmdEffect m.val (forceOp 3 v)))

/-! ## The cycle (R226, R227) -/

/-- LOGIC_CYCLE_LEAD. -/
def execLogicCycleLead (s : State) :=
  if !s.lgeMaster || !s.lgeRuns || s.lge.phase != LPhase.idle then done s
  else
    let s := forceWaiting s
    let s := match s.lge.fres with | some y => forceResult y s | none => s
    let s := s.updLge (fun l => { l with fres := none, phase := .lead, lead := s.time.ticks })
    done (s.emit (.logicSnap (s.get R.lgeRcStat_gen)))

/-- The snapshot: the image is latched at 0x0109_E000 and LGE_NOW completes. -/
def snapLogic (s : State) : State × List Word :=
  let im := inputImage s
  let now := im.2.logicUs
  let s := im.2.engine 4 [(ownImage, 512, true)] (fun s => s.setWords ownImage im.1)
  let s := s.updLge (fun l => { l with now := now })
  (if s.lgeRuns || s.le == leREMOTE then s.complete R.lgeNow [BitVec.ofNat 32 now, BitVec.ofNat 32 (now / 2 ^ 32)] else s, im.1)

/-- LOGIC_SNAPSHOT; on a remote member the snapshot command carries a generation (R240). -/
def execLogicSnapshot (gen : BitVec 16) (s : State) :=
  if !s.bit R.lgeCtrl_en then done s
  else if s.lgeMaster then
    if s.lge.phase != LPhase.lead then done s
    else
      let r := snapLogic s
      let s := r.1.engine 4 [(imgAddr s.selfId, 512, true)] (fun s => s.setWords (imgAddr s.selfId) r.2)
      done (s.updLge (fun l => { l with phase := .gather, valid := 2 ^ s.selfId }))
  else if s.lgeRemote then
    let s := match s.lge.newMap with
      | some (g, mp, sf) => if g = gen.toNat then s.updLge (fun l => { l with iomap := mp, safe := sf, newMap := none, gen := g }) else s
      | none => s
    let r := snapLogic s
    done (r.1.emit (.logicImage (s.get R.lgeCfg_master_mbr) (bytesOf r.2)))
  else done s

/-- INPUT_IMAGE_RECEIVED: member `m`'s image of this exchange. -/
def execInputImageReceived (m : Fin 64) (image : List Byte) (s : State) :=
  if !s.lgeMaster || s.lge.phase != LPhase.gather || m.val == s.selfId || !s.lgeDom.testBit m then done s
  else
    let bs := (List.range 512).map (fun i => image.getD i 0)
    done ((s.engine 4 [(imgAddr m, 512, true)] (fun s => s.setBytes (imgAddr m) bs)).updLge (fun l => { l with valid := l.valid ||| 2 ^ m.val }))

/-- The value of an instance's input. -/
def srcVal (s : State) (cells : List LCell) : LSrc → BitVec 64
  | .const v => v
  | .imgBit m w b => if (s.word (imgAddr m + 4 * w)).getLsbD b then 1 else 0
  | .imgWord m w => (s.word (imgAddr m + 4 * w)).setWidth 64
  | .out i k =>
    let c := cells.getD i {}
    match k with | 0 => c.out.setWidth 64 | 1 => c.out2 | _ => c.out3.setWidth 64

/-- Active forces with where they lie. -/
def State.forceLocs (s : State) (p : LProg) : List (LLoc × Word) :=
  s.lge.forces.filterMap (fun f => (p.sym f.1).map (fun x => (x.loc, f.2)))

/-- Forces on fields of instance `i` apply at its write. -/
def forceCell (fl : List (LLoc × Word)) (i : Nat) (c : LCell) : LCell :=
  fl.foldl (fun (c : LCell) f => match f.1 with
    | .field j k => if j = i then (match k with | 0 => { c with out := f.2 } | 1 => { c with out2 := f.2.setWidth 64 } | _ => { c with out3 := f.2 }) else c
    | _ => c) c

/-- The instances run in program order (R226): cells, ARITH, drawn free values. -/
def runInstances (s : State) (p : LProg) (fl : List (LLoc × Word)) (now : Nat) (cells : List LCell) : List LCell × Bool × Nat :=
  p.insts.zipIdx.foldl (fun (a : List LCell × Bool × Nat) x =>
    let i := x.1
    let r := lEval now i (i.ins.map (srcVal s a.1)) (a.1.getD x.2 {}) a.2.2
    (a.1.set x.2 (forceCell fl x.2 r.cell), a.2.1 || r.arith, r.free)) (cells, false, s.free)

/-- The output slice of member `m`: the safe slice, what instances write, forces (R226, R237). -/
def memberSlice (s : State) (p : LProg) (fl : List (LLoc × Word)) (cells : List LCell) (m : Nat) : List Byte :=
  let bs := padSlice (((p.safe.find? (fun x => x.1 == m)).map (fun x => x.2)).getD [])
  let bs := (p.outs.filter (fun o => o.mbr == m)).foldl (fun (b : List Byte) o => setField b o.aout o.idx ((srcVal s cells o.src).setWidth 32)) bs
  fl.foldl (fun (b : List Byte) f => match f.1 with
    | .slice j ao i => if j = m then setField b ao i f.2 else b
    | _ => b) bs

/-- Members of the domain. -/
def State.domList (s : State) : List Nat := (List.range 64).filter (fun m => s.lgeDom.testBit m)

/-- LOGIC_EXEC: the end of GATHER; `memErr` names an instance that meets an uncorrectable error not known before (R219, R329). -/
def execLogicExec (memErr : Option (Fin 8192)) (s : State) :=
  match s.lge.prog with
  | none => done s
  | some p =>
    if !s.lgeMaster || s.lge.phase != LPhase.gather then done s
    else
      let v := s.lge.valid
      let s := (s.setReg R.lgeValidLo (BitVec.ofNat 32 v)).setReg R.lgeValidHi (BitVec.ofNat 32 (v / 2 ^ 32))
      let ws := [BitVec.ofNat 32 v, BitVec.ofNat 32 (v / 2 ^ 32)]
      let s := s.engine 4 [(imgAddr s.selfId, 512, true), (ownImage, 512, true)] (fun s => (s.setWords (imgAddr s.selfId + 504) ws).setWords (ownImage + 504) ws)
      let s := s.edgeIf (s.lgeDom &&& v != s.lgeDom) .lge 2
      let hit := s.lgePoison p
      match hit, memErr with
      | some x, _ => done (lgeStop stMEMORY x.2 (eccRead 4 x.1 s))
      | none, some i => done (lgeStop stMEMORY i.val s)
      | none, none =>
        let fl := s.forceLocs p
        let s := fl.foldl (fun (s : State) (f : LLoc × Word) => match f.1 with
          | .image m w => s.engine 4 [(imgAddr m + 4 * w, 4, true)] (fun s => s.setWord (imgAddr m + 4 * w) f.2)
          | _ => s) s
        let r := runInstances s p fl s.lge.now s.lge.cells
        let s := { s with free := r.2.2 }
        let s := if r.2.1 then (s.edgeIf (!s.bit R.lgeStat_arith) .lge 5).putBit R.lgeStat_arith true else s
        let s := s.updLge (fun l => { l with cells := r.1, exec := (p.insts.map (fun (i : LInst) => blockCost i.type)).sum + 200, phase := .exec })
        done (s.domList.foldl (fun (s : State) m => s.engine 4 [(sliceAddr m, 192, true)] (fun s => s.setBytes (sliceAddr m) (memberSlice s p fl r.1 m)))
          s.ownHeaders)

/-! ## Retain data (R230) -/

/-- The RETAIN instances with their fields. -/
def retainCells (p : LProg) (cells : List LCell) : List (Word × Nat × LCell) :=
  (p.insts.zipIdx.filter (fun x => x.1.retain)).map (fun x => (x.1.sym, x.1.type, cells.getD x.2 {}))

/-- A save starts: the frozen shadow goes to the older copy. -/
def saveStart (s : State) : State :=
  match s.lge.prog with
  | none => s
  | some p =>
    if s.lge.saving.isSome || s.lge.frozen then s
    else
      let c : RetainCopy := ⟨p.retainId, s.lge.saveSeq + 1, Nat.min (256 * 1024) p.retainBytes, s.lge.shadow⟩
      (s.updLge (fun l => { l with saving := some c, saveSeq := l.saveSeq + 1, saveNow := false })).putBit R.lgeStat_save_busy true

/-- A copy is sealed in place of the older one. -/
def retainSeal (c : RetainCopy) (s : State) : State :=
  let intoA := match s.lge.copyA, s.lge.copyB with
    | none, _ => true
    | some _, none => false
    | some a, some b => decide (a.seq < b.seq)
  let s := s.updLge (fun l => if intoA then { l with copyA := some c, saving := none } else { l with copyB := some c, saving := none })
  (s.putBit R.lgeStat_save_busy false).complete R.lgeRetain [BitVec.ofNat 32 c.seq, BitVec.ofNat 32 c.size, s.tstamp]

/-- RETAIN_SAVE: SAVE_PER has passed, at the end of an OUT. -/
def execRetainSave (s : State) := done (if s.lgeMaster && s.le == leRUN && s.lge.phase == LPhase.idle then saveStart s else s)

/-- RETAIN_SAVE_DONE. -/
def execRetainSaveDone (s : State) := match s.lge.saving with | some c => done (retainSeal c s) | none => done s

/-! ## OUT -/

/-- The end of OUT on the master: STARTING becomes RUN, LGE_CYC completes, a recast completes (R226, R229, R236). -/
def outEnd (s : State) : State :=
  let el := Nat.max ((s.time.ticks - s.lge.lead) * 4 / 10) (s.get R.lgePace_mincyc * 100)
  let mx := Nat.max s.lge.cycMax el
  let mn := match s.lge.cycMin with | some x => Nat.min x el | none => el
  let s := s.updLge (fun l => { l with phase := .idle, cycMax := mx, cycMin := some mn, ncyc := (l.ncyc + 1) % 2 ^ 32 })
  let s := s.setLe leRUN
  let s := (s.complete R.lgeCyc [BitVec.ofNat 32 el, BitVec.ofNat 32 mx, BitVec.ofNat 32 mn, BitVec.ofNat 32 s.lge.exec, BitVec.ofNat 32 s.lge.ncyc]).edge .lge 1
  match s.lge.swap with
  | some w =>
    let s := (rcResult 0 w s).put R.lgeRcStat_phase rcIDLE
    saveStart (s.updLge (fun l => { l with swap := none, rollback := false }))
  | none => s

/-- The RETAIN lines go to the shadow (R226, R230). -/
def shadowCopy (p : LProg) (s : State) : State :=
  (s.engine 4 [(shadowBase, 0x40000, true)] (fun s => s.setBytes shadowBase (s.retainImage p))).updLge (fun l => { l with shadow := retainCells p l.cells })

/-- LOGIC_OUT: DONE of a recast is written first; the slices are broadcast and the RETAIN lines copied to the shadow; without
OUTSYNC the own slice is applied and OUT ends. -/
def execLogicOut (s : State) :=
  match s.lge.prog with
  | none => done s
  | some p =>
    if !s.lgeMaster || s.lge.phase != LPhase.exec then done s
    else
      let s := if s.lge.swap.isSome then recastDone 0 s else s
      let slice := fun (s : State) (m : Nat) => memBytes s.mem (sliceAddr m) 192
      let s := s.domList.foldl (fun (s : State) m => if m = s.selfId then s else s.emit (.logicSlice m (slice s m) (!s.lge.forces.isEmpty))) s
      let s := if s.lge.saving.isSome || s.lge.frozen then s else shadowCopy p s
      let own := slice s s.selfId
      if s.bit R.lgeCfg_outsync then done (s.updLge (fun l => { l with phase := .out, held := some own }))
      else done (applySlice own outEnd s)

/-- SLICE_RECEIVED: this remote member's slice. -/
def execSliceReceived (slice : List Byte) (s : State) :=
  if !s.lgeRemote || !s.bit R.lgeCtrl_en then done s
  else
    let s := s.updLge (fun l => { l with sliceAt := s.time.ticks })
    if s.bit R.lgeCfg_outsync then done (s.updLge (fun l => { l with held := some slice }))
    else done (applySlice slice (fun s => s.setLe leREMOTE) s)

/-- SLICE_APPLY_OUTSYNC. -/
def execSliceApplyOutsync (s : State) :=
  match s.lge.held with
  | none => done s
  | some bs =>
    let s := s.updLge (fun l => { l with held := none })
    if s.lgeMaster then (if s.lge.phase == LPhase.out then done (applySlice bs outEnd s) else done s)
    else if s.lgeRemote && s.bit R.lgeCtrl_en then done (applySlice bs (fun s => s.setLe leREMOTE) s)
    else done s

/-- LOGIC_WATCHDOG: WDT after the LEAD start without OUT; `inst` was executing. -/
def execLogicWatchdog (inst : Fin 8192) (s : State) :=
  done (if s.lge.phase == LPhase.lead || s.lge.phase == LPhase.gather || s.lge.phase == LPhase.exec then lgeStop stWDT inst.val s else s)

/-- MASTER_LOST (R227): a remote member has received no slice for WDT. -/
def execMasterLost (s : State) :=
  done (if s.lgeRemote && s.bit R.lgeCtrl_en && s.le != leREMOTESAFE then lgeHalt leREMOTESAFE stMASTERLOST 0 s else s)

/-- STOP_RECEIVED: the master's STOP with its cause. -/
def execStopReceived (cause : Fin 7) (s : State) := done (lgeSafe cause.val s)

/-! ## Starts and commands (R231, R232) -/

/-- The newest copy with a matching RETAIN_ID. -/
def State.retainCopy (s : State) (id : Word) : Option RetainCopy :=
  let ok := fun (c : Option RetainCopy) => c.filter (fun x => x.retainId == id)
  match ok s.lge.copyA, ok s.lge.copyB with
  | some a, some b => some (if a.seq < b.seq then b else a)
  | some a, none => some a
  | none, b => b

/-- The engine starts (R231). -/
def lgeBegin (cold : Bool) (p : LProg) (s : State) : State :=
  let copy := if cold then none else s.retainCopy p.retainId
  let lost := !cold && copy.isNone
  let cells := p.insts.map (fun i => match copy with
    | some c => if !i.retain then i.cold else
        (match c.cells.find? (fun x => x.1 == i.sym && x.2.1 == i.type) with | some x => { x.2.2 with restart := true } | none => i.cold)
    | none => i.cold)
  let s := if copy.isNone then forceApply ⟨3, 0, 0⟩ s else s
  let s := s.updLge (fun l => { l with cells := cells, phase := .idle, cycMax := 0, cycMin := none, ncyc := 0 })
  let s := (s.putBit R.lgeStat_retain_lost lost).putBit R.lgeStat_arith false
  ((s.edgeIf lost .lge 4).setLe leSTARTING).ownHeaders

/-- The effect of a write to LGE_CMD (R232). -/
def lgeCmdEffect (m : Nat) (v : Word) (s : State) : State :=
  if R.lgeCmd_stop.of v = 1 then lgeStop stCOMMAND 0 s
  else if R.lgeCmd_start.of v = 0 then s
  else if s.lgeRuns then s
  else match s.lge.prog with
    | some p => if !s.lgeMaster || s.le != leSTOPPED then s.raise .lge 0x0101 m
      else if s.bit R.lgeCtrl_en then lgeBegin (R.lgeCmd_mode.of v == 1) p s else s
    | none => s.raise .lge 0x0101 m

/-- LGE_START. -/
def execLgeStart (m : Master) (v : Word) (s : State) := done (s.guarded m.val .lge (lgeCmdEffect m.val (v ||| 1#32)))

/-- LGE_STOP. -/
def execLgeStop (m : Master) (v : Word) (s : State) := done (s.guarded m.val .lge (lgeCmdEffect m.val (v ||| 2#32)))

/-- The effect of a write to LGE CTRL (R227, R228). -/
def lgeCtrlEffect (v : Word) (s : State) : State :=
  let was := s.bit R.lgeCtrl_en
  let s := s.storeReg R.lgeCtrl v
  if was && !s.bit R.lgeCtrl_en then lgeSafe stCOMMAND (lgeStop stCOMMAND 0 s) else s

/-- LGE_CTRL_WRITE. -/
def execLgeCtrlWrite (m : Master) (v : Word) (s : State) := done (s.guarded m.val .lge (lgeCtrlEffect v))

/-- The effect of a write to LGE_WDT: dropped below 1.11 × LGE_WCET. -/
def lgeWdtEffect (m : Nat) (v : Word) (s : State) : State :=
  if R.lgeWdt_wdt.of v * 100000 < 111 * s.get R.lgeWcet_wcet then s.raise .lge 0x0105 m else s.storeReg R.lgeWdt v

/-- LGE_WDT_WRITE. -/
def execLgeWdtWrite (m : Master) (v : Word) (s : State) := done (s.guarded m.val .lge (lgeWdtEffect m.val v))

end Sys2Proof.Machine
end

