-- ==== Sys2Proof/Machine/Recast.lean ====
section
/-! DEFINITION. Online program exchange: prepare, swap, migration by identity, rollback (R234 to R244). -/

namespace Sys2Proof.Machine

def State.setPhase (s : State) (p : Nat) : State := s.put R.lgeRcStat_phase p

/-- A bank is ON and ready (R331). -/
def State.bankOn (s : State) (b : Nat) : Bool := s.get (R.memBankCfg_state b) == 1 && s.bit (R.memBankCfg_ready b)

/-- A list without repeats. -/
def nodup (l : List Word) : Bool := l.eraseDups.length == l.length

/-- A selection of a PHE field lies inside the profile. -/
def State.pheSelOk (s : State) (o : Nat) : Bool :=
  if o < 0x100 then false else if o < 0x16900 then decide ((o - 0x100) / 0xA0 < s.numQ) else decide ((o - 0x16900) / 0x60 < s.numGroups)

/-- The loader's rules on a program (R221), and no duplicate symbol identities (R235). -/
def State.progOk (s : State) (p : LProg) : Bool :=
  decide (p.memBytes ≤ 2 * 2 ^ 20) && decide (p.insts.length ≤ 8192) && decide (p.retainBytes ≤ 256 * 1024)
    && decide (p.wcet ≤ 900 * p.wdt) && p.insts.all (fun i => blockTypes.contains i.type)
    && p.iomap.all (fun x => x.2.slots.all (fun e => decide (e < s.numSlots)) && x.2.phe.all s.pheSelOk)
    && nodup (p.insts.map (fun i => i.sym)) && nodup (p.syms.map (fun y => y.sym))

/-! ## Migration (R237, R239) -/

/-- The old place of a new instance: the same identity. -/
def LProg.place (p : LProg) (y : Word) : Option Nat := (p.insts.findIdx? (fun i => i.sym == y))

/-- New instances that migrate: same identity and TYPE. -/
def migrates (old : LProg) (i : LInst) : Bool := old.insts.any (fun j => j.sym == i.sym && j.type == i.type)

/-- Items counted as RETYPED. -/
def retyped (old new : LProg) : Nat :=
  (new.insts.filter (fun i => old.insts.any (fun j => j.sym == i.sym && j.type != i.type))).length
  + (new.syms.filter (fun y => old.syms.any (fun z => z.sym == y.sym && z.ty != y.ty))).length

/-- The cells of the new program (R237). -/
def migrate (old new : LProg) (cells : List LCell) : List LCell :=
  let base := new.insts.map (fun i =>
    if migrates old i then (match old.place i.sym with | some k => cells.getD k i.cold | none => i.cold) else i.cold)
  new.syms.foldl (fun (cs : List LCell) y =>
    match y.loc, old.sym y.sym with
    | .field i k, some z =>
      (match z.loc with
      | .field j l =>
        if z.ty = y.ty then
          let src := cells.getD j {}
          let v : BitVec 64 := match l with | 0 => src.out.setWidth 64 | 1 => src.out2 | _ => src.out3.setWidth 64
          let c := cs.getD i {}
          cs.set i (match k with | 0 => { c with out := v.setWidth 32 } | 1 => { c with out2 := v } | _ => { c with out3 := v.setWidth 32 })
        else cs
      | _ => cs)
    | _, _ => cs) base

/-- A force survives (R239). -/
def forceKept (old new : LProg) (y : Word) : Bool :=
  match old.sym y, new.sym y with
  | some a, some b => a.ty == b.ty && b.forceable
      && (match b.loc with | .slice m ao i => new.outs.any (fun o => o.mbr == m && o.aout == ao && o.idx == i) | _ => true)
  | _, _ => false

/-- Forces that the new program drops. -/
def forceDrops (old new : LProg) (fs : List (Word × Word)) : List Word := (fs.filter (fun f => !forceKept old new f.1)).map (fun f => f.1)

/-- T_SWAP in CORE cycles (R236). -/
def tSwap (old new : LProg) (forces : Nat) : Nat :=
  let mig := new.insts.filter (migrates old)
  let bytes : Nat := (mig.map (fun (i : LInst) => blockSize i.type i.ins.length)).sum
  400 + 12 * mig.length + 4 * ((bytes + 63) / 64) + 4 * ((new.retainBytes + 63) / 64) + 8 * forces

/-! ## Prepare (R235) -/

/-- The figures of LGE_RC_PREP for a program. -/
def prepFigures (status : Nat) (waits : List Nat) (old new : LProg) (s : State) : LPrep :=
  let mig := (new.insts.filter (migrates old)).length
  { status := status, waits := waits, tSwap := tSwap old new s.lge.forces.length, matched := mig, fresh := new.insts.length - mig
    fdrop := (forceDrops old new s.lge.forces).length, retyped := retyped old new, prog := new.progId.setWidth 32 }

/-- Steps 3 to 6 begin: every remote member is sent its new IOMAP entry and safe slice. -/
def prepRun (status : Nat) (new : LProg) (s : State) : State :=
  let old := s.lge.prog.getD {}
  let remotes := s.domList.filter (fun m => m != s.selfId)
  let waits := if status = 0 then remotes else []
  let s := (s.updLge (fun l => { l with prep := some (prepFigures status waits old new s), prepProg := some new })).setPhase rcPREPARING
  let s := s.invalidate R.lgeRcPrep
  waits.foldl (fun (s : State) m => s.emit (.logicMap m ((s.get R.lgeRcStat_gen + 1) % 65536)
    (((new.iomap.find? (fun x => x.1 == m)).map (fun x => x.2)).getD {}) (((new.safe.find? (fun x => x.1 == m)).map (fun x => x.2)).getD []))) s

/-- LGE_RC_PREP completes with a status. -/
def prepResult (status : Nat) (p : LPrep) (s : State) : State :=
  (s.complete R.lgeRcPrep [BitVec.ofNat 32 status, BitVec.ofNat 32 (p.tSwap % 2 ^ 20), BitVec.ofNat 32 (p.matched % 2 ^ 14 + p.fresh % 2 ^ 14 * 2 ^ 14),
    BitVec.ofNat 32 (p.fdrop % 2 ^ 9 + p.retyped % 2 ^ 14 * 2 ^ 9), p.prog]).edge .lge 6

/-- A prepare ends (R235): a failure records RC_PREP and returns to IDLE; else the program is staged and PHASE is READY, or for
a rollback SWAP_PEND (R242). -/
def prepEnd (status : Nat) (s : State) : State :=
  match s.lge.prep with
  | none => s
  | some p =>
    let rb := s.lge.rollback
    let s := prepResult status p (s.updLge (fun l => { l with prep := none }))
    if status ≠ 0 then
      let s := ((s.updLge (fun l => { l with prepProg := none, rollback := false })).raise .lge 0x0107 15).setPhase rcIDLE
      if rb then rcResult 4 { rollback := true } s else s
    else if rb then (s.updLge (fun l => { l with prepProg := none })).setPhase rcSWAPPEND
    else
      let new := s.lge.prepProg.getD {}
      let s := s.engine 4 [(0x1100000, 0x280000, true)] (writeProg 0x1100000 0x1300000 new)
      (s.updLge (fun l => { l with stage := l.prepProg, stageCells := new.insts.map LInst.cold, prepProg := none })).setPhase rcREADY

/-- SWAP_MAX in CORE cycles. -/
def State.swapMax (s : State) : Nat := Nat.min 5000 (Nat.max 100 (s.get R.lgeRcLim_swap_max)) * 400

/-- RECAST_PREPARE_DONE: the first failed step, else the comparison of step 7. -/
def execRecastPrepareDone (s : State) :=
  match s.lge.prep with
  | none => done s
  | some p =>
    if p.status ≠ 0 then done (prepEnd p.status s)
    else if !p.waits.isEmpty then done s
    else done (prepEnd (if s.swapMax < p.tSwap then 6 else 0) s)

/-- NOACK: 10 ms have passed without a remote member's acknowledgement, or a remote member is lost (R235, R243). -/
def execNoack (s : State) :=
  match s.lge.prep with
  | some p => done (if p.status = 0 ∧ !p.waits.isEmpty then prepEnd 5 s else s)
  | none => done s

/-- IOMAP_ACK: on the master member `m` acknowledges; on a remote member its own entry has arrived and it acknowledges. -/
def execIomapAck (m : Fin 64) (gen : BitVec 16) (map : LIomap) (safe : List Byte) (s : State) :=
  if s.lgeRemote && m.val == s.selfId then
    done ((s.updLge (fun l => { l with newMap := some (gen.toNat, map, padSlice safe) })).emit (.logicMapAck gen.toNat))
  else match s.lge.prep with
    | some p => done (s.updLge (fun l => { l with prep := some { p with waits := p.waits.filter (fun x => x != m.val) } }))
    | none => done s

/-! ## Commands (R235, R242, R243) -/

/-- Where a cell of either set lies after the role switch (R234): B12 to B16 and B18 to B22 change places. -/
def swapAddr (a : Nat) : Nat :=
  if instBase ≤ a ∧ a < 0x1080000 then a + 0x300000 else if 0x1100000 ≤ a ∧ a < 0x1380000 then a - 0x300000 else a

/-- The contents of the two sets change places. -/
def State.swapSets (s : State) : State :=
  let part := fun (lo hi : Nat) => s.mem.filter (fun (e : Host.Cell) => decide (lo ≤ e.1) && decide (e.1 < hi))
  let move := fun (l : List Host.Cell) => l.map (fun (e : Host.Cell) => (swapAddr e.1, e.2))
  { s with mem := part 0 instBase ++ move (part 0x1100000 0x1380000) ++ part 0x1080000 0x1100000 ++ move (part instBase 0x1080000)
                    ++ s.mem.filter (fun (e : Host.Cell) => decide (0x1380000 ≤ e.1))
           sram := { s.sram with poison := s.sram.poison.map swapAddr } }

/-- The roles of the two sets switch (R234): GEN adds 1, RB_AVAIL = 1; the master's own selections and the safe slices follow
the program. -/
def roleSwitch (s : State) : State :=
  let s := (s.updLge (fun l => { l with prog := l.stage, cells := l.stageCells, stage := l.prog, stageCells := l.cells })).swapSets
  let p := s.lge.prog.getD {}
  let own := fun (l : List (Nat × List Byte)) (m : Nat) => padSlice (((l.find? (fun x => x.1 == m)).map (fun x => x.2)).getD [])
  let s := s.updLge (fun l => { l with iomap := ((p.iomap.find? (fun x => x.1 == s.selfId)).map (fun x => x.2)).getD {}, safe := own p.safe s.selfId })
  let s := s.domList.foldl (fun (s : State) m => s.engine 4 [(safeAddr m, 192, true)] (fun s => s.setBytes (safeAddr m) (own p.safe m))) s
  (s.ownHeaders.put R.lgeRcStat_gen (s.get R.lgeRcStat_gen + 1)).putBit R.lgeRcStat_rb_avail true

/-- In STOPPED the sets switch without migration (R242, R243). -/
def stoppedSwitch (rollback : Bool) (s : State) : State :=
  let s := (roleSwitch s).setPhase rcIDLE
  let s := applySlice s.lge.safe id s
  rcResult 0 { time := s.tstamp, rollback := rollback } s

/-- ABORT (R243). -/
def recastAbort (m : Nat) (s : State) : State :=
  let p := s.rcPhase
  if p = rcPREPARING ∨ p = rcREADY then
    let rb := s.lge.rollback
    let s := match s.lge.prep with | some x => prepResult 7 x s | none => s
    let s := (s.updLge (fun l => { l with prep := none, prepProg := none, rollback := false, stage := none, stageCells := [] })).setPhase rcIDLE
    let s := s.putBit R.lgeRcStat_rb_avail false
    if rb then rcResult 4 { rollback := true } s else s
  else if p = rcSWAPPEND then
    let rb := s.lge.rollback
    rcResult 4 { rollback := rb } ((s.updLge (fun l => { l with rollback := false })).setPhase rcREADY)
  else if p = rcSWAPPING then s
  else s.raise .lge 0x0106 m

/-- The effect of a write to LGE_RC_CMD; `img` is the image at LGE_RC_SRC as verification finds it. -/
def rcCmdEffect (m : Nat) (v : Word) (img : LImage) (s : State) : State :=
  let op := R.lgeRcCmd_op.of v
  let p := s.rcPhase
  let bad := s.raise .lge 0x0106 m
  if op = 1 then
    if !s.lgeMaster || !(s.le == leSTOPPED || s.le == leRUN) || !(p == rcIDLE || p == rcREADY) then bad
    else
      let status := if !(List.range 5).all (fun i => s.bankOn (18 + i)) then 4
        else if !img.signed then 1
        else if 4 * 2 ^ 20 < s.get R.lgeRcLen_len ∨ !s.progOk img.prog then 2
        else if img.role ≠ s.get R.lgeCfg_role ∨ img.master ≠ s.get R.lgeCfg_master_mbr ∨ img.dom ≠ s.lgeDom then 3
        else 0
      let s := (s.updLge (fun l => { l with stage := none, stageCells := [], rollback := false })).putBit R.lgeRcStat_rb_avail false
      prepRun status img.prog s
  else if op = 2 then
    if p ≠ rcREADY then bad
    else if s.le = leSTOPPED then stoppedSwitch false (s.invalidate R.lgeRcRes)
    else if s.le = leRUN then (s.invalidate R.lgeRcRes).setPhase rcSWAPPEND
    else bad
  else if op = 3 then recastAbort m s
  else if op = 4 then
    if p ≠ rcIDLE ∨ !s.bit R.lgeRcStat_rb_avail ∨ !s.lgeMaster then bad
    else if s.le = leSTOPPED then stoppedSwitch true (s.invalidate R.lgeRcRes)
    else if s.le = leRUN then
      prepRun 0 (s.lge.stage.getD {}) ((s.invalidate R.lgeRcRes).updLge (fun l => { l with rollback := true }))
    else bad
  else s

/-- The command word with its OP. -/
def rcOp (op : Nat) (v : Word) : Word := R.lgeRcCmd_op.put v op

/-- RECAST_PREPARE. -/
def execRecastPrepare (m : Master) (v : Word) (img : LImage) (s : State) := done (s.guarded m.val .lge (rcCmdEffect m.val (rcOp 1 v) img))

/-- RECAST_SWAP. -/
def execRecastSwap (m : Master) (v : Word) (s : State) := done (s.guarded m.val .lge (rcCmdEffect m.val (rcOp 2 v) {}))

/-- RECAST_ABORT. -/
def execRecastAbort (m : Master) (v : Word) (s : State) := done (s.guarded m.val .lge (rcCmdEffect m.val (rcOp 3 v) {}))

/-- RECAST_ROLLBACK. -/
def execRecastRollback (m : Master) (v : Word) (s : State) := done (s.guarded m.val .lge (rcCmdEffect m.val (rcOp 4 v) {}))

/-! ## The swap (R236) -/

/-- The conditions of a swap at the end of an OUT. -/
def State.swapDue (s : State) : Bool :=
  let at_ := s.reg R.lgeRcAt
  s.lgeMaster && s.le == leRUN && s.rcPhase == rcSWAPPEND && s.lge.phase == LPhase.idle && s.lge.saving.isNone && !s.lge.frozen
    && (s.lge.rollback || at_ == 0 || decide (0 ≤ ((BitVec.ofNat 32 s.lge.now) - at_).toInt))

/-- SWAP_START: OPEN, migration, forces, role switch, and the new RETAIN segment into the shadow; `cycles` is how long the phase
takes. -/
def execSwapStart (cycles : BitVec 20) (s : State) :=
  if !s.swapDue then done s
  else
    let old := s.lge.prog.getD {}
    let new := s.lge.stage.getD {}
    let rb := s.lge.rollback
    let s := (s.jOpen 5 [new.progId.setWidth 32, BitVec.ofNat 32 (b2n rb)]).setPhase rcSWAPPING
    let drops := forceDrops old new s.lge.forces
    let cells := migrate old new s.lge.cells
    let s := s.updLge (fun l => { l with stageCells := cells, forces := l.forces.filter (fun (f : Word × Word) => !drops.contains f.1) })
    let s := (s.engine 4 [(0x109F800, 0x400, true)] (fun s => s.setWords 0x109F800 drops)).forceStat
    let s := drops.foldl (fun (s : State) y => s.event 0x21 3 0 y 0 0) s
    let s := roleSwitch s
    let w : LSwap := ⟨s.tstamp, cycles.toNat, drops.length, rb⟩
    done (shadowCopy new (s.updLge (fun l => { l with swap := some w })))

/-- SWAP_OVERRUN. -/
def execSwapOverrun (s : State) := done (if s.rcPhase == rcSWAPPING && s.lge.swap.isSome && s.lge.phase == LPhase.idle then lgeStop stWDT 0 s else s)

/-- A recast in any phase is cancelled by a load or a member reset (R243): the staging contents are lost. -/
def recastCancel (s : State) : State :=
  let p := s.rcPhase
  let rb := s.lge.rollback
  let s := match s.lge.swap with | some w => rcResult 4 w (recastDone 4 s) | none => if p = rcSWAPPEND then rcResult 4 { rollback := rb } s else s
  let s := match s.lge.prep with | some x => prepResult 7 x s | none => s
  ((s.updLge (fun l => { l with swap := none, prep := none, prepProg := none, rollback := false, stage := none, stageCells := [] })).setPhase rcIDLE).putBit
    R.lgeRcStat_rb_avail false

/-- A power-fail warning (R230, R243): a swap that has not switched is abandoned; the shadow is frozen. -/
def lgePowerFail (s : State) : State :=
  let s := if s.rcPhase = rcSWAPPEND then
      (rcResult 1 { rollback := s.lge.rollback } (s.updLge (fun l => { l with rollback := false }))).setPhase rcREADY
    else s
  (s.updLge (fun l => { l with frozen := true, saving := none })).putBit R.lgeStat_save_busy false

end Sys2Proof.Machine
end

