-- ==== Sys2Proof/Machine/PortQueue.lean ====
section
/-! DEFINITION. Traffic classes (R266): what this member's own frames are, the ports they leave by, and the strict priority of a port. -/

namespace Sys2Proof.Machine

/-- The most payload of a class in bytes (R266). -/
def classMax (cls : Nat) : Nat := if cls = 3 then 256 else 64

/-- The class of a frame, and its payload in bytes. DESIGN CHOICE (safe, log entry 103): the spec gives no encoding of a payload; a
frame of classes 0 to 2 counts as 64 bytes, logic images, slices and selections go in class 0 in parts of 64 bytes, and shadow and
pairing frames go in class 1. -/
def frameClass : Emit → Option (Nat × Nat)
  | .gop .. | .gopAck .. | .barrier .. | .linkState .. | .trackInc .. | .align .. | .alignReq .. => some (0, 64)
  | .cumFrame .. | .cumJoin .. => some (0, 64)
  | .cumTotals _ _ l => some (0, 12 * l.length)
  | .logicSnap .. | .logicStop .. | .logicMapAck .. => some (0, 64)
  | .logicImage _ b => some (0, b.length)
  | .logicSlice _ b _ => some (0, b.length)
  | .logicMap _ _ _ b => some (0, 64 + b.length)
  | .fabricBits .. | .tripHash .. | .forward | .shadow .. | .pairing .. => some (1, 64)
  | .timeMsg .. | .delayMeas .. => some (2, 64)
  | .remoteReq _ _ _ _ b => some (3, b.length)
  | .remoteAnswer _ _ b => some (3, b.length)
  | .msix .. | .readData .. | .hbPulse | .nak .. | .frame .. => none

/-- The ports to this member's children on an origin's tree (R263). -/
def State.childPorts (s : State) (o : Nat) : List Nat :=
  (((nbrs s.gal.links s.selfId).eraseDups.filter (fun n => treeParent s.gal.links o n == some s.selfId)).map s.linkTo)

/-- The port to this member's parent on an origin's tree. -/
def State.parentPort (s : State) (o : Nat) : List Nat := (treeParent s.gal.links o s.selfId).toList.map s.linkTo

/-- The ports a frame leaves by: its own tree, the tree of the operation's or the set's origin, the route to its destination, every UP
port for a flood. -/
def State.framePorts (s : State) : Emit → List Nat
  | .gop o .. => s.childPorts o
  | .gopAck o .. => s.parentPort o
  | .barrier o _ rel => if rel then s.childPorts o else s.parentPort o
  | .linkState .. => s.ownLinks.map (fun l => l.1)
  | .trackInc .. | .align .. | .fabricBits .. | .timeMsg .. | .logicSnap .. | .logicStop .. => s.childPorts s.selfId
  | .alignReq m => [s.routePort m]
  | .cumFrame k .. | .cumJoin k .. => s.parentPort (s.cumRoot k)
  | .cumTotals k .. => s.childPorts (s.cumRoot k)
  | .logicImage m _ => [s.routePort m]
  | .logicSlice m .. | .logicMap m .. => [s.routePort m]
  | .logicMapAck .. => [s.routePort (s.get R.lgeCfg_master_mbr)]
  | .tripHash .. | .shadow .. | .pairing .. => [s.routePort (s.get R.dupCfg_partner)]
  | .forward => [s.routePort 0]
  | .delayMeas p => [p]
  | .remoteReq _ m .. | .remoteAnswer m .. => [s.routePort m]
  | .msix .. | .readData .. | .hbPulse | .nak .. | .frame .. => []

/-- The frames that carry something: parts of at most the class's payload. -/
def framesOf (e : Emit) : List PortFrame :=
  match frameClass e with
  | none => []
  | some (c, n) =>
    let k := classMax c
    (List.range (Nat.max 1 ((n + k - 1) / k))).map (fun i => { cls := c, bytes := Nat.min k (n - k * i), what := e, part := i })

/-- What the member may send: a numbered one everything, one without a number what it passes on, an isolated one only HELLO (R261,
R262). -/
def State.maySend (s : State) (e : Emit) : Bool :=
  s.bit R.galCtrl_en && match s.get R.galStat_num, e with
    | 1, _ => true
    | 0, .linkState .. => true
    | _, .delayMeas .. => true
    | _, _ => false

/-- A frame joins the queues of its ports that are UP. -/
def portQueue (e : Emit) (s : State) : State :=
  if !s.maySend e then s
  else (s.framePorts e).eraseDups.foldl (fun (s : State) p =>
    if decide (p < 6) && (s.galPort p).st == .up then s.updPort p (fun g => { g with queue := g.queue ++ framesOf e }) else s) s

/-- 4 ns ticks a frame takes on the wire at 10 Gbit/s. DEDUCED (log entry 103): 19 bytes beside the payload, so that 256 bytes take
0.22 µs (R266). -/
def wireTicks (bytes : Nat) : Nat := ((bytes + 19) * 8 + 39) / 40

/-- The frame a port sends next (R266): strict priority, oldest first in a class; a class 3 frame goes before the others once they have
sent three times its bytes while it waited, which leaves class 3 a quarter of the link. -/
def nextFrame (g : GalPort) : Option PortFrame :=
  match g.queue.find? (fun f => f.cls == 3) with
  | some f => if 3 * (f.bytes + 19) ≤ g.owed then some f else (List.range 4).findSome? (fun c => g.queue.find? (fun f => f.cls == c))
  | none => (List.range 3).findSome? (fun c => g.queue.find? (fun f => f.cls == c))

/-- One 4 ns tick of a port's sending side: a frame on the wire is never cut short. -/
def portSend (g : GalPort) : GalPort :=
  let g := match g.wire with
    | some (f, n + 1) => { g with wire := if n = 0 then none else some (f, n) }
    | _ => { g with wire := none }
  if g.wire.isSome || g.st != .up then g
  else match nextFrame g with
    | none => { g with owed := 0 }
    | some f =>
      let q := g.queue.erase f
      { g with queue := q, wire := some (f, wireTicks f.bytes)
               owed := if f.cls != 3 && q.any (fun x => x.cls == 3) then g.owed + f.bytes + 19 else 0 }

/-- One 4 ns tick of the ports: what the member has formed since the last tick joins its queues, and every port sends on. -/
def portTick (s : State) : State :=
  let new := s.out.drop s.gal.taken
  let s := { s with gal := { s.gal with taken := s.out.length } }
  let s := new.foldl (fun (s : State) e => portQueue e s) s
  iterUp 6 (fun p (s : State) => s.updPort p portSend) s

end Sys2Proof.Machine
end

