-- ==== Sys2Proof/Machine/Time.lean ====
section
/-! DEFINITION. The TIME island (chapter 15): PTP domains, the wall class, the grid class, fabric time, PPS and the holdover
oscillator (R245 to R257). -/

namespace Sys2Proof.Machine

def State.updTime (s : State) (f : TimeState → TimeState) : State := { s with time := f s.time }
def State.pdom (s : State) (d : Nat) : PtpDom := tget {} s.time.dom d
def State.updDom (s : State) (d : Nat) (f : PtpDom → PtpDom) : State := s.updTime (fun t => { t with dom := tupd {} t.dom d f })

/-- STAT.Dd (R249). -/
def domField (d : Nat) : Fld := if d = 0 then R.timStat_d0 else R.timStat_d1
def State.domSt (s : State) (d : Nat) : Nat := s.get (domField d)
def State.setDom (s : State) (d x : Nat) : State := s.put (domField d) x

def dsDISABLED : Nat := 0
def dsLISTENING : Nat := 1
def dsUNCAL : Nat := 2
def dsSLAVE : Nat := 3
def dsHOLDOVER : Nat := 4

def wFREE : Nat := 0
def wLOCKED : Nat := 1
def wHOLDOVER : Nat := 2

def gUNSET : Nat := 0
def gTRACK : Nat := 1
def gOVERCAST : Nat := 2

/-- One nanosecond in units of 2^-32 ns. -/
def nsUnit : Int := 4294967296

/-- Whole nanoseconds of a difference, toward zero. -/
def toNs (x : Int) : Int := x.tdiv nsUnit

/-- Units per 4 ns of a rate in ppm. -/
def ppmAdj (ppm : Nat) : Int := (ppm * 4 * 2 ^ 32 / 1000000 : Nat)

/-- A 64-bit two's-complement value as two words, low first. -/
def words64 (x : Int) : Word × Word := (BitVec.ofInt 32 x, BitVec.ofInt 32 (x / (2 ^ 32 : Nat)))

def State.timSrc (s : State) : Nat := s.get R.timCtrl_src
def srcPTP : Nat := 0
def srcFABRIC : Nat := 1
def srcPPS : Nat := 2
def srcFREE : Nat := 3

/-! ## Wall class (R250, R251) -/

/-- The domain the wall class follows now. -/
def State.followed (s : State) : Option Nat :=
  if s.timSrc = srcPTP ∧ s.get R.timStat_wall = wLOCKED then some (s.get R.timStat_wall_dom) else none

/-- The wall class's rate: under PTP its domain's. -/
def State.wallRate (s : State) : Int := match s.followed with | some d => (s.pdom d).adj | none => s.time.wallAdj

/-- O of R250: wall time − domain time. -/
def State.blendO (s : State) : Int := match s.followed with | some d => (s.time.wall : Int) - (s.pdom d).clock | none => 0

/-- STAT.BLEND. -/
def State.blendStat (s : State) : State := s.putBit R.timStat_blend (s.blendO != 0)

/-- WALL_STEP (R250): the wall class steps, adds an event and pulses WALL_STEP. -/
def wallStep (delta : Int) (s : State) : State :=
  let w := words64 (toNs delta)
  ((s.updTime (fun t => { t with wall := ((t.wall : Int) + delta).toNat, stepped := true })).event 0x22 0 0 w.1 w.2 0).edge .tim 2

/-- The wall class enters a state that follows no domain, at its last rate. -/
def wallLeave (x : Nat) (s : State) : State :=
  let r := s.wallRate
  ((s.updTime (fun t => { t with wallAdj := r })).put R.timStat_wall x).putBit R.timStat_blend false

/-- The wall class follows domain `d`: from LOCKED with the offset captured, else by a step or a slew (R250). -/
def wallFollow (d : Nat) (s : State) : State :=
  let e := (s.pdom d).clock - s.time.wall
  let was := s.get R.timStat_wall == wLOCKED
  let s := s.edgeIf (s.time.locked && s.get R.timStat_wall_dom != d) .tim 3
  let s := if !was && decide (100 * nsUnit < e.natAbs) then wallStep e s else s
  let s := (s.put R.timStat_wall wLOCKED).put R.timStat_wall_dom d
  (s.updTime (fun t => { t with locked := true })).blendStat

/-- The choice of the active domain under PTP (R250). -/
def wallUpdate (s : State) : State :=
  if s.timSrc ≠ srcPTP then s
  else
    let slave := fun (d : Nat) => s.domSt d == dsSLAVE
    let pref := s.get R.timWallCfg_pref
    let act := s.get R.timStat_wall_dom
    if s.get R.timStat_wall = wLOCKED ∧ slave act = true then s.blendStat
    else if slave pref then wallFollow pref s
    else if slave (1 - pref) then wallFollow (1 - pref) s
    else wallLeave (if s.time.locked then wHOLDOVER else wFREE) s

/-! ## Grid class (R252 to R254) -/

/-- The grid class's source is present. -/
def State.srcPresent (s : State) : Bool :=
  match s.timSrc with
  | 1 => s.bit R.timStat_fab_ok
  | 3 => true
  | _ => s.get R.timStat_wall == wLOCKED

/-- The source's time and rate. -/
def State.srcTime (s : State) : Int × Int :=
  if s.timSrc = srcFABRIC then (s.time.fab.grid, s.time.fab.gridAdj) else (s.time.wall, s.wallRate)

/-- e of R252. -/
def State.gridErr (s : State) : Int := s.srcTime.1 - s.time.grid

/-- STEP_LIM in 2^-32 ns. -/
def State.stepLim (s : State) : Int := (Nat.min 100000 (Nat.max 10 (s.get R.timGridCfg_step_lim)) * 10 : Nat) * nsUnit

/-- The states as the registers show them; under FABRIC a follower mirrors its source (R255). -/
def gridShow (s : State) : State :=
  let own := s.time.gridSt
  let mir := if s.timSrc = srcFABRIC ∧ s.bit R.timStat_fab_ok = true then s.time.fab.gridSt else own
  let x := if own = gUNSET ∨ mir = gUNSET then gUNSET else if own = gOVERCAST ∨ mir = gOVERCAST then gOVERCAST else gTRACK
  (s.put R.timStat_grid x).putBit R.gridStat_overcast (x == gOVERCAST)

/-- The grid and the filter chain are stopped. -/
def State.gridIdle (s : State) : Bool := !s.bit R.gridCtrl_en && !s.bit R.dfcCtrl_en

/-- A grid set (R252): the step, its event, and what follows it (R225, R272). -/
def gridSetNow (s : State) : State :=
  let d := s.gridErr
  let w := words64 (toNs d)
  let rate := s.srcTime.2
  let s := s.updTime (fun t => { t with grid := ((t.grid : Int) + d).toNat, gridSt := gTRACK, gridAdj := rate, trackAdj := rate, accepted := false, srcLost := false, stepped := false })
  let s := s.updLge (fun l => { l with ofs := l.ofs + d })
  gridShow (gopDiscard (svsGridSet ((s.event 0x22 2 0 w.1 w.2 0).edge .tim 7)))

/-- REFUSED_CORRECTION (R253). -/
def refuse (s : State) : State :=
  let e := satInt32 (toNs s.gridErr)
  let n := s.groupWord R.timRefused 1 + 1
  let s := s.complete R.timRefused [n, BitVec.ofInt 32 e, s.tstamp]
  ((s.event 0x22 1 0 (BitVec.ofInt 32 e) 0 0).edge .tim 0).addLife 5 1

/-- Overcast slews (R253). -/
def State.slewing (s : State) : Bool := !s.bit R.timGridCfg_ovc_mode || s.time.accepted

/-- The rate in OVERCAST with a source (R253). -/
def overcastRate (s : State) : State :=
  let e := s.gridErr
  let r := s.srcTime.2
  let r := if s.slewing then (if 0 ≤ e then r + ppmAdj 10 else r - ppmAdj 10) else r
  s.updTime (fun t => { t with gridAdj := r, gridSt := gOVERCAST })

/-- The rate in TRACK: e closes over 8 s, within 10 ppm of the source. -/
def trackRate (s : State) : State :=
  let c := s.gridErr / 2000000000
  let c := if ppmAdj 10 < c then ppmAdj 10 else if c < -(ppmAdj 10) then -(ppmAdj 10) else c
  let r := s.srcTime.2 + c
  s.updTime (fun t => { t with gridAdj := r, trackAdj := r, gridSt := gTRACK, accepted := false })

/-- An update of the grid class (R252 to R254). -/
def gridUpdate (s : State) : State :=
  let lost := !s.srcPresent
  let past := decide (s.stepLim < (s.gridErr.natAbs : Int))
  let t := s.time
  let s :=
    if t.gridSt = gUNSET then (if !lost && s.gridIdle then gridSetNow s else s)
    else if lost then
      s.updTime (fun t => { t with gridAdj := t.trackAdj, gridSt := gOVERCAST, accepted := t.accepted && t.gridSt == gOVERCAST })
    else if t.gridSt = gTRACK ∧ t.srcLost = false then
      if past then overcastRate (refuse (s.updTime (fun t => { t with accepted := false }))) else trackRate s
    else if t.srcLost then
      if past then overcastRate (refuse s) else trackRate s
    else
      let s := if t.stepped && past then refuse s else s
      if s.slewing && decide (s.gridErr.natAbs ≤ 100 * nsUnit) then trackRate s else overcastRate s
  let s := if lost then s.invalidate R.timGridErr else s
  gridShow (s.updTime (fun t => { t with srcLost := lost, stepped := false }))

/-- The source has been updated. -/
def sourceUpdate (s : State) : State := gridUpdate (wallUpdate s)

/-- GRID_TIME_UPDATE (R252): every 10 ms; TIM_GRID_ERR completes while there is a source. -/
def execGridTimeUpdate (s : State) :=
  let s := sourceUpdate s
  done (if s.srcPresent then s.complete R.timGridErr [BitVec.ofInt 32 (satInt32 (toNs s.gridErr))] else s)

/-- The effect of a write to TIM_GRID_CMD (R252 to R254). -/
def gridCmdEffect (m : Nat) (v : Word) (s : State) : State :=
  let s := if R.timGridCmd_set.of v = 0 then s
    else if !s.gridIdle then s.raise .tim 0x0102 m
    else if s.srcPresent then gridSetNow s else s
  if R.timGridCmd_accept.of v = 1 ∧ s.time.gridSt = gOVERCAST ∧ s.bit R.timGridCfg_ovc_mode = true then
    gridUpdate (s.updTime (fun t => { t with accepted := true })) else s

/-- GRID_SET (R252, R254). -/
def execGridSet (m : Master) (v : Word) (s : State) := done (s.guarded m.val .tim (gridCmdEffect m.val (v ||| 2#32)))

/-- ACCEPT (R253, R254). -/
def execAccept (m : Master) (v : Word) (s : State) := done (s.guarded m.val .tim (gridCmdEffect m.val (v ||| 1#32)))

/-! ## PTP domains (R247 to R249) -/

/-- The domains that take a message of domain `num` on MAC `p`. -/
def State.domainsOn (s : State) (p num : Nat) : List Nat :=
  [0, 1].filter (fun d => s.bit (R.timDCfg_en d) && (s.get (R.timDCfg_ports d)).testBit p && s.get (R.timDCfg_domnum d) == num)

/-- Order of numbers read one after the other. -/
def lexLess : List Nat → List Nat → Bool
  | a :: as, b :: bs => decide (a < b) || (a == b && lexLess as bs)
  | _, _ => false

/-- Dataset comparison of IEEE 1588 (R247). -/
def ptpBetter (x y : PtpForeign) : Bool :=
  let a := x.a
  let b := y.a
  if a.gm = b.gm then lexLess [a.steps, a.sender, x.port] [b.steps, b.sender, y.port]
  else lexLess [a.prio1, a.cls, a.accuracy, a.variance, a.prio2, a.gm.toNat] [b.prio1, b.cls, b.accuracy, b.variance, b.prio2, b.gm.toNat]

/-- A master qualifies at its second Announce within four intervals, below 255 steps (IEEE 1588). -/
def PtpForeign.qualified (x : PtpForeign) : Bool := decide (2 ≤ x.count) && decide (x.a.steps < 255)

/-- The best master of a list. -/
def ptpBest (l : List PtpForeign) : Option PtpForeign :=
  (l.filter PtpForeign.qualified).foldl (fun b x => match b with | none => some x | some y => if ptpBetter x y then some x else some y) none

/-- Four Announce intervals in TIME ticks. -/
def announceWindow (logIvl : Int) : Nat := 1000000000 * 2 ^ (logIvl + 8).toNat / 256

/-- An Announce in domain `d`. -/
def announceIn (d p : Nat) (a : PtpAnnounce) (s : State) : State :=
  let now := s.time.ticks
  let same := fun (x : PtpForeign) => x.a.sender == a.sender && x.port == p
  let old := (s.pdom d).foreign.find? same
  let n := match old with | some x => if now ≤ x.at_ + announceWindow a.logIvl then Nat.min 2 (x.count + 1) else 1 | none => 1
  let rest := (s.pdom d).foreign.filter (fun x => !same x)
  let l := rest ++ [⟨a, p, n, now⟩]
  let s := s.updDom d (fun x => { x with foreign := l, parent := (ptpBest l).or x.parent })
  if (ptpBest l).isSome ∧ (s.domSt d = dsLISTENING ∨ s.domSt d = dsHOLDOVER) then
    (s.updDom d (fun x => { x with run := 0 })).setDom d dsUNCAL
  else s

/-- PTP_ANNOUNCE_RECEIVED (R247, R249). -/
def execPtpAnnounceReceived (p : Fin 4) (a : PtpAnnounce) (s : State) :=
  done (if s.domainsOn p.val a.dom = [] then s
    else sourceUpdate ((s.domainsOn p.val a.dom).foldl (fun (s : State) d => announceIn d p.val a s) s))

/-- TIM_Dd_ST. -/
def domStat (d : Nat) (off : Int) (s : State) : State :=
  let x := s.pdom d
  let par := x.parent.getD {}
  s.complete (R.timDSt d)
    [BitVec.ofNat 32 (s.domSt d + par.port * 2 ^ 3 + par.a.cls % 256 * 2 ^ 5 + Nat.min 255 par.a.steps * 2 ^ 13),
     BitVec.ofInt 32 (satInt32 (toNs off)), BitVec.ofInt 32 (x.adj * 1000000000 / (4 * nsUnit)),
     par.a.gm.setWidth 32, (par.a.gm >>> 32).setWidth 32, BitVec.ofInt 32 (tget 0 s.time.pdelay par.port)]

/-- The offset a Sync shows in domain `d`, master − domain clock, in 2^-32 ns (R248, R249): `t1` is the master's time with its
corrections in 2^-16 ns, `lag` the TIME ticks since the frame crossed the balls. -/
def State.syncOffset (s : State) (d p t1 lag : Nat) : Int :=
  let x := s.pdom d
  let t2 := x.clock - (lag : Int) * (4 * nsUnit + x.adj) - (s.get (R.timPortDly_rx p) : Int) * nsUnit
  (t1 : Int) * 65536 + (tget 0 s.time.pdelay p + (s.reg (R.timPortAsym p)).toInt) * nsUnit - t2

/-- A Sync of the best master in domain `d`: the offset steps or slews the domain clock (R249). -/
def syncIn (d p sender t1 lag : Nat) (s : State) : State :=
  let x := s.pdom d
  let st := s.domSt d
  let mine := match x.parent with | some f => f.a.sender == sender && f.port == p | none => false
  if !mine || !(st == dsUNCAL || st == dsSLAVE) then s
  else
    let off := s.syncOffset d p t1 lag
    let s :=
      if 1000 * nsUnit < off.natAbs then (s.updDom d (fun x => { x with clock := x.clock + off, run := 0 })).setDom d dsUNCAL
      else
        let n := if off.natAbs ≤ 250 * nsUnit then Nat.min 4 (x.run + 1) else 0
        let s := s.updDom d (fun x => { x with adj := Config.ptpServo off x.adj, run := n })
        if n = 4 then s.setDom d dsSLAVE else s
    domStat d off s

/-- PTP_SYNC_RECEIVED (R247, R249): a one-step Sync, or the Follow_Up of a two-step Sync. -/
def execPtpSyncReceived (p : Fin 4) (num : BitVec 8) (sender t1 lag : Nat) (s : State) :=
  done (if s.domainsOn p.val num.toNat = [] then s
    else sourceUpdate ((s.domainsOn p.val num.toNat).foldl (fun (s : State) d => syncIn d p.val sender t1 lag s) s))

/-- PDELAY_REQ_RECEIVED (R247): answered on the port, in one step, or in two with the response and its follow-up. -/
def execPdelayReqReceived (p : Fin 4) (num : BitVec 8) (seq : BitVec 16) (s : State) :=
  done (match s.domainsOn p.val num.toNat with
  | [] => s
  | d :: _ =>
    let two := s.bit (R.timDCfg_pd_2step d)
    let first : TxItem := .ptp 3 num.toNat seq.toNat (!two)
    let more : List TxItem := if two then [.ptp 10 num.toNat seq.toNat false] else []
    s.updMac p.val (fun q => { q with ptpQ := q.ptpQ ++ first :: more }))

/-- PDELAY_RESP_RECEIVED (R247, R248): round trip and turnaround in ns as the balls see them. -/
def execPdelayRespReceived (p : Fin 4) (num : BitVec 8) (roundTrip turn : Nat) (s : State) :=
  done (if s.domainsOn p.val num.toNat = [] then s
    else
      let d : Int := ((roundTrip : Int) - turn - s.get (R.timPortDly_rx p.val) - s.get (R.timPortDly_tx p.val)) / 2
      s.updTime (fun t => { t with pdelay := tset 0 t.pdelay p.val d }))

/-- A domain has lost its master. -/
def domLost (d x : Nat) (s : State) : State :=
  sourceUpdate ((s.updDom d (fun q => { q with foreign := [], parent := none, run := 0 })).setDom d x)

/-- ANNOUNCE_TIMEOUT (R249). -/
def execAnnounceTimeout (d : Fin 2) (s : State) :=
  done (if s.domSt d.val = dsSLAVE then domLost d.val dsHOLDOVER s
    else if s.domSt d.val = dsUNCAL then domLost d.val dsLISTENING s else s)

/-- SYNC_TIMEOUT (R249). -/
def execSyncTimeout (d : Fin 2) (s : State) := done (if s.domSt d.val = dsSLAVE then domLost d.val dsHOLDOVER s else s)

/-- WALL_REVERT (R250). -/
def execWallRevert (s : State) :=
  let pref := s.get R.timWallCfg_pref
  done (if s.bit R.timWallCfg_revert_en && (match s.followed with | some d => d != pref | none => false) && s.domSt pref == dsSLAVE then
    gridUpdate (wallFollow pref s) else s)

/-- BLEND_COMPLETE (R250): O has reached 0. -/
def execBlendComplete (s : State) :=
  done (match s.followed with
  | some d => gridUpdate ((s.updTime (fun t => { t with wall := (s.pdom d).clock.toNat })).putBit R.timStat_blend false)
  | none => s)

/-- The effect of a write to TIM_Dd_CFG (R249). -/
def domCfgEffect (m d : Nat) (v : Word) (s : State) : State :=
  let old := s.reg (R.timDCfg d)
  if s.bit (R.timDCfg_en d) && (old ^^^ v) &&& 0x003FFFFE#32 != 0 then s.raise .tim 0x0101 m
  else
    let was := s.bit (R.timDCfg_en d)
    let s := s.storeReg (R.timDCfg d) v
    let on := s.bit (R.timDCfg_en d)
    if on && !was then (s.updDom d (fun _ => {})).setDom d dsLISTENING
    else if was && !on then sourceUpdate (((s.updDom d (fun q => { q with foreign := [], parent := none, run := 0 })).setDom d dsDISABLED).invalidate (R.timDSt d))
    else s

/-- TIM_DOMAIN_CFG_WRITE (R249). -/
def execTimDomainCfgWrite (m : Master) (d : Fin 2) (v : Word) (s : State) :=
  done (s.guarded m.val .tim (domCfgEffect m.val d.val v))

/-! ## Other sources (R251, R255) -/

/-- PPS_IN_EDGE (R251, R256): `dev` is the edge's distance in ns from the second the preceding accepted edge gives. -/
def execPpsInEdge (dev : Int) (s : State) :=
  if !s.bit R.timCtrl_ppsi_en then done s
  else
    let w := s.wallNs % 1000000000
    let perr : Int := if w < 500000000 then w else (w : Int) - 1000000000
    let s := (s.complete R.timPpsIn [s.tstamp, BitVec.ofNat 32 w, BitVec.ofInt 32 perr]).edge .tim 5
    if s.timSrc = srcPPS ∧ (s.time.ppsRun = 0 ∨ dev.natAbs ≤ 1000000) then
      let s := s.updTime (fun t => { t with ppsRun := Nat.min 4 (t.ppsRun + 1), wallAdj := Config.ppsServo perr t.wallAdj })
      let s := if s.time.ppsRun = 4 then (s.put R.timStat_wall wLOCKED).updTime (fun t => { t with locked := true }) else s
      done (gridUpdate s)
    else done s

/-- PPS_EDGE_MISSING (R251): two expected edges are missing. -/
def execPpsEdgeMissing (s : State) :=
  done (if s.timSrc = srcPPS then
    let s := s.updTime (fun t => { t with ppsRun := 0 })
    gridUpdate (if s.get R.timStat_wall = wLOCKED then s.put R.timStat_wall wHOLDOVER else s)
  else s)

/-- The effect of a write to TIM_WALL_SET.GO (R251). -/
def wallSetEffect (m : Nat) (v : Word) (s : State) : State :=
  if R.timWallSetGo_go.of v = 0 then s
  else if s.timSrc = srcPTP ∨ s.timSrc = srcFABRIC then s.raise .tim 0x0103 m
  else
    let sec := (s.reg R.timWallSetLo).toNat + s.get R.timWallSetHi_sec_hi * 2 ^ 32
    let ns := sec * 1000000000 + Nat.min 999999999 (s.get R.timWallSetNs_ns)
    gridUpdate (wallStep ((ns : Int) * nsUnit - s.time.wall) s)

/-- TIM_WALL_SET (R251). -/
def execTimWallSet (m : Master) (v : Word) (s : State) := done (s.guarded m.val .tim (wallSetEffect m.val (v ||| 1#32)))

/-- FABRIC_TIME_MESSAGE (R255): a message of member `m`, compensated for the way: its times in 2^-32 ns, rates, and states. -/
def execFabricTimeMessage (m : Fin 64) (wall grid : Nat) (wallAdj gridAdj : Int) (wallSt gridSt : Fin 3) (s : State) :=
  if s.timSrc = srcFABRIC ∧ s.get R.timCtrl_src_mbr = m.val then
    let d := (wall : Int) - s.time.wall
    let s := if 100 * nsUnit < d.natAbs then wallStep d s else s.updTime (fun t => { t with wall := wall })
    let s := s.updTime (fun t => { t with
      wallAdj := wallAdj, locked := t.locked || wallSt.val == wLOCKED, fab := ⟨grid, gridAdj, gridSt.val⟩ })
    done (gridUpdate ((s.put R.timStat_wall wallSt.val).putBit R.timStat_fab_ok true))
  else done s

/-- FABRIC_TIME_TIMEOUT (R255). -/
def execFabricTimeTimeout (s : State) :=
  if s.timSrc = srcFABRIC then
    let s := s.putBit R.timStat_fab_ok false
    done (gridUpdate (if s.get R.timStat_wall = wLOCKED then s.put R.timStat_wall wHOLDOVER else s))
  else done s

/-- The effect of a write to TIM CTRL (R251, R254, R256, R257). -/
def timCtrlEffect (v : Word) (s : State) : State :=
  let src := R.timCtrl_src.of v
  let moved := src != s.timSrc || (src == srcFABRIC && R.timCtrl_src_mbr.of v != s.get R.timCtrl_src_mbr)
  let s := if moved then wallLeave (if src = srcFREE then wFREE else if s.time.locked then wHOLDOVER else wFREE) s else s
  let s := s.storeReg R.timCtrl v
  let s := (s.putBit R.timStat_xo_active (s.bit R.timCtrl_xo_en)).putBit R.timStat_xo_lost false
  let s := if s.bit R.timCtrl_ppso_en then s else s.updTime (fun t => { t with ppsOut := false })
  if moved then
    sourceUpdate ((s.updTime (fun t => { t with srcLost := true, ppsRun := 0, wallAdj := if src = srcFREE then 0 else t.wallAdj })).putBit R.timStat_fab_ok false)
  else s

/-! ## Outputs (R246, R256, R257) -/

/-- XO_LOST (R257). -/
def execXoLost (s : State) :=
  done (if s.bit R.timStat_xo_active then (s.putBit R.timStat_xo_active false).putBit R.timStat_xo_lost true else s)

/-- Seconds and nanoseconds of a time in ns, as the snapshot gives them. -/
def timeWords (ns : Nat) : List Word :=
  [BitVec.ofNat 32 (ns / 1000000000), BitVec.ofNat 32 (ns / 1000000000 / 2 ^ 32 % 2 ^ 16), BitVec.ofNat 32 (ns % 1000000000)]

/-- The effect of a write to TIM_SNAP_CMD (R245, R246). -/
def snapCmdEffect (v : Word) (s : State) : State :=
  if R.timSnapCmd_go.of v = 0 then s
  else s.complete R.timSnap (timeWords s.gridNs ++ timeWords s.wallNs ++ [s.tstamp])

/-- TIM_SNAP_CMD. -/
def execTimSnapCmd (m : Master) (v : Word) (s : State) := done (s.guarded m.val .tim (snapCmdEffect (v ||| 1#32)))

/-- PPS_OUT_EDGE (R256). -/
def execPpsOutEdge (s : State) := done (if s.bit R.timCtrl_ppso_en then s.updTime (fun t => { t with ppsOut := true }) else s)

/-- PPS_OUT_PULSE_END (R256). -/
def execPpsOutPulseEnd (s : State) := done (s.updTime (fun t => { t with ppsOut := false }))

/-! ## The TIME clock -/

/-- Every 1 ms (250000 clocks) a numbered member sends its times and states (R255), and each UP port takes part in a delay measurement
(R260). DESIGN CHOICE (safe, log entry 102): a source does not know who follows it, and sends whether or not a member does. -/
def fabricMs (s : State) : State :=
  if s.time.ticks % 250000 ≠ 0 ∨ s.bit R.galCtrl_en = false then s
  else
    let s := if s.get R.galStat_num = 1 then s.emit (.timeMsg s.time.wall s.time.grid (s.get R.timStat_wall) (s.get R.timStat_grid)) else s
    iterUp 6 (fun p (s : State) => if (s.galPort p).st == .up then s.emit (.delayMeas p) else s) s

/-- One TIME clock of 4 ns: every clock advances by its addend (R245), O moves toward 0 at BLEND ppm (R250), every 10 µs (2500 clocks)
the shadow frame repeats (R287), every 1 ms time messages leave (R255), and the ports send (R266). -/
def timeTick (s : State) : State :=
  let step : Int := 4 * nsUnit
  let o := s.blendO
  let b := ppmAdj (Nat.min 200 (Nat.max 1 (s.get R.timWallCfg_blend)))
  let corr := if b < o then -b else if o < -b then b else -o
  let wr := s.wallRate
  let s := s.updTime (fun t => { t with
    ticks := t.ticks + 1, grid := ((t.grid : Int) + step + t.gridAdj).toNat, wall := ((t.wall : Int) + step + wr + corr).toNat
    fab := { t.fab with grid := t.fab.grid + step + t.fab.gridAdj }
    dom := [0, 1].foldl (fun (m : Table PtpDom) d =>
      if s.domSt d < dsUNCAL then m else tupd {} m d (fun x => { x with clock := x.clock + step + x.adj })) t.dom })
  let s := s.blendStat
  portTick (fabricMs (if s.time.ticks % 2500 = 0 then shadowSend s else s))

end Sys2Proof.Machine
end

