-- ==== Sys2Proof/Machine/RegFx.lean ====
section
/-! DEFINITION. What a write to each register of a page other than SYS and PCI does, by its address: the effect of the register's
own command where it has one, and storage of its RW, W1C and W1S bits where it has none (R6, R47). -/

namespace Sys2Proof.Machine

/-- `n` bytes the spec does not fix. -/
def State.freeBytes (s : State) (n : Nat) : List Byte × State :=
  ((List.range n).map (fun i => (Config.freeValue (s.free + i)).setWidth 8), { s with free := s.free + n })

/-- A write to STO_CMD by a master that names no card content: what the card holds is free (R324). -/
def stoCmdFree (m : Nat) (v : Word) (s : State) : State :=
  match R.stoCmd_op.of v with
  | 1 => let f := s.freeBytes (s.get R.stoLen_len); stoCmdEffect m v f.1 f.2
  | 7 => let f := s.freeBytes 256; stoCmdEffect m v f.1 f.2
  | _ => stoCmdEffect m v [] s

/-- The coefficient word, with its bank, at an offset of the DFC page. -/
def coefAt (o : Nat) : Option (Nat × Nat) :=
  let b := (o - 0x400) / 0x100
  ((List.range 41).find? (fun k => coefAddr b k == 0x09000 + o)).map (fun k => (b, k))

def afeFx (m o : Nat) (v : Word) (s : State) : State :=
  if o = 0x008 then afeCtrlEffect m v s
  else if 0x100 ≤ o ∧ o < 0x180 then afeAinCfgEffect m ((o - 0x100) / 4) v s
  else if 0x180 ≤ o ∧ o < 0x200 then afeBsiCfgEffect m ((o - 0x180) / 4) v s
  else s.storeReg (0x08000 + o) v

def dfcFx (m o : Nat) (v : Word) (s : State) : State :=
  if o = 0x008 then dfcCtrlEffect v s
  else if o = 0x040 then hbSwapEffect v s
  else if o = 0x048 then syncCmdEffect m v s
  else if 0x200 ≤ o ∧ o < 0x300 then dfcIntEffect m ((o - 0x200) / 4) v s
  else match (if 0x400 ≤ o then coefAt o else none) with
    | some (b, k) => coefEffect m b k v s
    | none => s.storeReg (0x09000 + o) v

def gridFx (m o : Nat) (v : Word) (s : State) : State :=
  if o = 0x008 then gridCtrlEffect v s
  else if o = 0x044 then gridTrkEffect m v s
  else if o = 0x058 then gridAlignEffect m v s
  else s.storeReg (0x0A000 + o) v

def svsFx (m o : Nat) (v : Word) (s : State) : State :=
  if o = 0x008 then svsCtrlEffect v s
  else if 0x100 ≤ o ∧ o < 0x500 then slotCfgEffect m ((o - 0x100) / 16) ((o - 0x100) / 4 % 4) v s
  else s.storeReg (0x0B000 + o) v

def pheFx (m o : Nat) (v : Word) (s : State) : State :=
  if o = 0x008 then pheCtrlEffect v s
  else if 0x100 ≤ o ∧ o < 0xA00 then pheQCfgEffect m ((o - 0x100) / 4) v s
  else if 0xA00 ≤ o ∧ (o - 0xA00) % 8 = 0 then pheGrpEffect m ((o - 0xA00) / 8) v s
  else s.storeReg (0x0C000 + o) v

def peaFx (m o : Nat) (v : Word) (s : State) : State :=
  if o = 0x008 then peaCtrlEffect v s
  else if o = 0x340 then liveGoEffect m v s
  else s.storeReg (0x0D000 + o) v

def trmFx (m o : Nat) (v : Word) (s : State) : State :=
  if o = 0x008 then trmCtrlEffect v s
  else if o = 0x048 then latchRstEffect v s
  else if o = 0x050 ∨ o = 0x054 ∨ (0x0C0 ≤ o ∧ o < 0x100) then fbCfgEffect (0x0E000 + o) v s
  else if 0x100 ≤ o ∧ o < 0x140 then foCfgEffect ((o - 0x100) / 4) v s
  else if 0x400 ≤ o ∧ o < 0x800 ∧ (o - 0x400) / 4 % 4 = 0 then stkCfgEffect ((o - 0x400) / 16) v s
  else if 0x400 ≤ o ∧ o < 0x800 ∧ (o - 0x400) / 4 % 4 = 2 then stkBlkEffect m ((o - 0x400) / 16) v s
  else s.storeReg (0x0E000 + o) v

def fioFx (m o : Nat) (v : Word) (s : State) : State :=
  if o = 0x008 then fioCtrlEffect v s
  else if o = 0x04C then rearmEffect m v s
  else if 0x100 ≤ o ∧ o < 0x180 then fiFltEffect m ((o - 0x100) / 4) v s
  else if 0x180 ≤ o ∧ o < 0x1C0 then foCfgWriteEffect ((o - 0x180) / 4) v s
  else s.storeReg (0x0F000 + o) v

def hkaFx (m o : Nat) (v : Word) (s : State) : State :=
  if o = 0x008 then hkaCtrlEffect m v s
  else if o = 0x044 then hkaUrgEffect m v s
  else s.storeReg (0x10000 + o) v

/-- A write to LGE_RC_CMD by a master that names no image finds none that verifies. -/
def lgeFx (m o : Nat) (v : Word) (s : State) : State :=
  if o = 0x008 then lgeCtrlEffect v s
  else if o = 0x044 then lgeWdtEffect m v s
  else if o = 0x050 then lgeCmdEffect m v s
  else if o = 0x0C8 then forceCmdEffect m v s
  else if o = 0x10C then rcCmdEffect m v {} s
  else s.storeReg (0x11000 + o) v

def evrFx (m o : Nat) (v : Word) (s : State) : State :=
  if o = 0x008 then evrCtrlEffect v s
  else if o = 0x044 then evrSqEffect m v s
  else if o = 0x048 then evrCursorEffect v s
  else if o = 0x04C then evrClrEffect m v s
  else if o = 0x058 then evrUserEffect m v s
  else s.storeReg (0x12000 + o) v

def drcFx (m o : Nat) (v : Word) (s : State) : State :=
  if o = 0x008 then drcCtrlEffect m v s
  else if 0x040 ≤ o ∧ o ≤ 0x04C then drcRingEffect m (0x13000 + o) v s
  else if o = 0x050 then drcCmdEffect v s
  else s.storeReg (0x13000 + o) v

def stoFx (m o : Nat) (v : Word) (s : State) : State :=
  if o = 0x008 then stoCtrlEffect v s
  else if o = 0x040 then stoCmdFree m v s
  else s.storeReg (0x14000 + o) v

def timFx (m o : Nat) (v : Word) (s : State) : State :=
  if o = 0x008 then timCtrlEffect v s
  else if o = 0x040 then domCfgEffect m 0 v s
  else if o = 0x050 then domCfgEffect m 1 v s
  else if o = 0x064 then gridCmdEffect m v s
  else if o = 0x07C then wallSetEffect m v s
  else if o = 0x080 then snapCmdEffect v s
  else s.storeReg (0x15000 + o) v

def macFx (m p o : Nat) (v : Word) (s : State) : State :=
  if o = 0x008 then macCtrlEffect p v s
  else if o = 0x048 then maxlenEffect m p v s
  else if 0x080 ≤ o ∧ o < 0x100 then
    if o / 4 % 4 = 3 then tailEffect p ((o - 0x080) / 16) v s else ringCfgEffect m p ((o - 0x080) / 16) (o / 4 % 4) v s
  else s.storeReg (0x16000 + 0x1000 * p + o) v

def gosFx (m o : Nat) (v : Word) (s : State) : State :=
  if o = 0x008 then gosCtrlEffect v s
  else if 0x200 ≤ o ∧ o < 0x280 then svpCfgEffect m ((o - 0x200) / 16) (o / 4 % 4) v s
  else s.storeReg (0x1A000 + o) v

def galFx (m o : Nat) (v : Word) (s : State) : State :=
  if o = 0x008 then galCtrlEffect m v s
  else if o = 0x06C then gopEffect m v s
  else if o = 0x070 then barArriveEffect v s
  else if 0x400 ≤ o ∧ o < 0x800 then galFbiEffect ((o - 0x400) / 4) v s
  else s.storeReg (0x1B000 + o) v

def dupFx (m o : Nat) (v : Word) (s : State) : State :=
  if o = 0x008 then dupCtrlEffect v s
  else if o = 0x080 then dupCmdEffect m v s
  else if o = 0x0A0 then cumCmdEffect m v s
  else s.storeReg (0x1C000 + o) v

def memFx (m o : Nat) (v : Word) (s : State) : State :=
  if o = 0x044 then marchEffect m v s
  else if 0x100 ≤ o ∧ o < 0x1C0 then bankCfgEffect m ((o - 0x100) / 4) v s
  else s.storeReg (0x03000 + o) v

def dmaFx (m o : Nat) (v : Word) (s : State) : State :=
  let n := (o - 0x1000) / 0x100
  let w := o % 0x100
  if o = 0x008 then dmaCtrlEffect v s
  else if o < 0x1000 then s.storeReg (0x04000 + o) v
  else if w = 0x00 then chCtrlEffect n v s
  else if w = 0x08 then chHeadEffect m n 0 v s
  else if w = 0x0C then chHeadEffect m n 1 v s
  else if w = 0x10 then chKickEffect m n v s
  else s.storeReg (0x04000 + o) v

/-- The effect of a write by master `m` to the register at page offset `o` of a page other than SYS and PCI. -/
def blockFx (m : Nat) (p : Page) (o : Nat) (v : Word) (s : State) : State :=
  match p with
  | .life => if o = 0x040 then lifeSelEffect m v s else s.storeReg (0x01000 + o) v
  | .jrnl => if o = 0x060 then jCursorEffect v s else if o = 0x0B0 then jResolveEffect m v s else s.storeReg (0x02000 + o) v
  | .mem => memFx m o v s | .dma => dmaFx m o v s | .afe => afeFx m o v s | .dfc => dfcFx m o v s | .grid => gridFx m o v s
  | .svs => svsFx m o v s | .phe => pheFx m o v s | .pea => peaFx m o v s | .trm => trmFx m o v s | .fio => fioFx m o v s
  | .hka => hkaFx m o v s | .lge => lgeFx m o v s | .evr => evrFx m o v s | .drc => drcFx m o v s | .sto => stoFx m o v s
  | .tim => timFx m o v s | .mac0 => macFx m 0 o v s | .mac1 => macFx m 1 o v s | .mac2 => macFx m 2 o v s | .mac3 => macFx m 3 o v s
  | .gos => gosFx m o v s | .gal => galFx m o v s | .dup => dupFx m o v s
  | .sys => s.storeReg o v | .pci => s.storeReg (0x1D000 + o) v

end Sys2Proof.Machine
end

