-- ==== Sys2Proof/Machine/Loader.lean ====
section
/-! DEFINITION. The configuration loader: what it checks of an image, how it stops the blocks, applies an image and starts the
blocks (R18, R21, R29, R31, R71, R101, R115, R154, R172, R192, R218, R221, R273, R278, R352, R384). -/

namespace Sys2Proof.Machine

/-! ## Row seal and pair limits -/

/-- R29, R101: the most cycles a pair's list may hold. -/
def State.pairLimit (s : State) : Nat :=
  let p := s.get R.sysProfile_active
  let prof := match p with | 0 => 49250 | 1 => 45110 | _ => 104874
  if s.tracked || s.get R.gridCfg_mode == 1 then prof
  else Nat.min prof ((66666 - s.rowsPerTick * (if p = 2 then 2320 else 4600) - 200) * 9 / 10)

/-- R71: by how much a BSI channel's sample comes later than an AIN channel's, 0.1 ns. -/
def State.bsiLag (s : State) (n : Nat) : Int :=
  let slow := s.get R.afeCtrl_mclk_div == 2
  let dev : Int := match s.get (R.afeBsiCfg_mode n) with
    | 0 => if slow then 1017 else 610
    | 1 => if slow then 203 else -204
    | _ => if slow then 1424 else 1017
  100 * (s.get (R.afeBsiCfg_ret_dly n) : Nat) + dev

/-- R18, R71, R101, R115: the computed seal, 10 ns units. DESIGN CHOICE (safe, log entry 91): the largest BSI delay is rounded up to a
whole unit. -/
def State.computedSeal (s : State) : Nat :=
  let base := match s.get R.gridCfg_mode with | 2 => 71800 | 3 => 201000 | 4 => 334300 | _ => 26600
  let bsi := ((List.range 32).foldl (fun (a : Int) n => if s.bit (R.afeBsiCfg_en n) then max a (s.bsiLag n) else a) 0).toNat
  (List.range 64).foldl (fun (a : Nat) k => if s.bit (R.svsSlCfg_en k) then Nat.max a (slotNeed (s.get (R.svsSlCfg_jb k)) (s.slotRate k)) else a)
    (base + (bsi + 99) / 100)

/-! ## Element slots (R29, R141, R153, R154, R171, R172, R384) -/

/-- The slots that are not empty. -/
def State.usedSlots (s : State) : List Nat := (List.range 4096).filter (fun e => s.slotType e != 0)

/-- A pair's list, phase 1 before phase 2, each in the image's order. -/
def pairOrder (pairs : List (Nat × Nat)) (s : State) (p : Nat) : List Nat :=
  let l := (pairs.filter (fun x => x.2 == p && s.slotType x.1 != 0)).map (fun x => x.1)
  l.filter (fun e => !hasCum (s.slotRefs e)) ++ l.filter (fun e => hasCum (s.slotRefs e))

/-- The schedule lists are written, with PEA_PAIRp_LIST and PEA_PAIRp_PH2. -/
def writeLists (pairs : List (Nat × Nat)) (s : State) : State :=
  ((List.range 8).foldl (fun (a : State × Nat) p =>
    let l := pairOrder pairs s p
    let st := a.1.setBytes (0xCC2000 + 2 * a.2) (l.flatMap (fun e => leBytes 2 e))
    let st := ((st.put (R.peaPairList_start p) a.2).put (R.peaPairList_count p) l.length).put (R.peaPairPh2_first p)
      (l.filter (fun e => !hasCum (s.slotRefs e))).length
    (st, a.2 + l.length)) (s, 0)).1

/-- R384: every non-empty slot has a pair, within 0 to 7, and no slot is named twice. -/
def pairsOk (pairs : List (Nat × Nat)) (s : State) : Bool :=
  pairs.all (fun x => decide (x.2 < 8)) && s.usedSlots.all (fun e => pairs.any (fun x => x.1 == e))
    && (pairs.map (fun x => x.1)).eraseDups.length == pairs.length

def State.slotSet (s : State) (e : Nat) : List Word := (List.range 8).map (fun i => s.slotWord e (4 + i))

/-- What a slot asks of its quantities: HARM_QPH one-cycle windows with the bins it reads (R184), BF equal scales (R186). -/
def State.quantitiesOk (s : State) (e : Nat) : Bool :=
  let refs := s.slotRefs e
  let on := fun (w : Nat) => !F32.isZero ((s.slotSet e).getD w 0)
  match s.slotType e with
  | 0x0A02 => (refs.filter (fun x => refKind x == 1)).all (fun x =>
      let cfg := s.reg (R.pheQCfg (refIdx x))
      !cfg.getLsbD 1 && (!on 0 || (binsOf cfg).testBit 2) && (!on 1 || (binsOf cfg).testBit 5))
  | 0x0B01 =>
    let sc := fun i => s.word (scaleAddr (refIdx (refs.getD i 0)))
    sc 0 == sc 1 && sc 0 == sc 2
  | _ => true

/-- A slot within the profile whose references, settings and reserved bits pass. -/
def State.slotOk (s : State) (e : Nat) : Bool :=
  decide (e < s.numSlots) && decide (s.slotFlags e < 64) && refsOk s.numQ s.numGroups s.numSlots (s.slotType e) (s.slotRefs e) (s.slotBlk e)
    && setOk (s.slotType e) (s.slotRefs e) (s.slotSet e) && s.quantitiesOk e

def isFollower (ty : Nat) : Bool := ty == 0x0802 || ty == 0x0812

/-- R172: a follower's head stands GRPPOS places before it, with followers only between them; its inputs are the head's, its ZONE
differs, and the group lies together in one pair's list. -/
def State.followerOk (s : State) (pairs : List (Nat × Nat)) (e : Nat) : Bool :=
  let pos := (s.slotWord e 11).toNat / 2 ^ 19 % 8
  let h := e - pos
  let zone := fun x => (s.slotWord x 11).toNat % 8
  let l := (List.range 8).map (pairOrder pairs s)
  decide (1 ≤ pos ∧ pos ≤ 4 ∧ pos ≤ e) && s.slotType h + 1 == s.slotType e
    && (List.range pos).all (fun i => i == 0 || s.slotType (h + i) == s.slotType e)
    && (s.slotRefs e).take 2 == (s.slotRefs h).take 2
    && (List.range pos).all (fun i => zone (h + i) != zone e)
    && l.any (fun x => match x.findIdx? (fun y => y == h) with
        | some i => (x.drop i).take (pos + 1) == (List.range (pos + 1)).map (fun k => h + k)
        | none => false)

/-- The element array's part of an image. -/
def State.elementsOk (s : State) (pairs : List (Nat × Nat)) : Bool :=
  pairsOk pairs s && s.usedSlots.all (fun e => s.slotOk e && (!isFollower (s.slotType e) || s.followerOk pairs e))
    && (List.range 8).all (fun p => decide (s.pairLoad p ≤ s.pairLimit))

/-! ## Quantity groups and open-wire probing (R68, R130) -/

/-- R130: no group with unequal member scales. -/
def State.scalesOk (s : State) : Bool :=
  (List.range 192).all (fun g => !s.bit (R.pheGrpCfg_en g) ||
    (let sc := fun q => s.word (scaleAddr q)
     sc (s.get (R.pheGrpCfg_qa g)) == sc (s.get (R.pheGrpCfg_qb g)) && sc (s.get (R.pheGrpCfg_qa g)) == sc (s.get (R.pheGrpCfg_qc g))))

/-- R29: streams, quantities and groups within the profile's limits. -/
def State.limitsOk (s : State) : Bool :=
  let cool := s.get R.sysProfile_active == 2
  let on := (List.range 64).filter (fun k => s.bit (R.svsSlCfg_en k))
  on.all (fun k => decide (k < (if cool then 28 else 64)))
    && decide ((on.filter (fun k => s.slotRate k == 96000)).length ≤ (if cool then 4 else 8))
    && (List.range 576).all (fun q => decide (q < s.numQ) || !s.bit (R.pheQCfg_en q))
    && (List.range 192).all (fun g => decide (g < s.numGroups) || !s.bit (R.pheGrpCfg_en g))

/-- R68: pulsed probing needs a tracked grid with N = 48 or 96. -/
def State.probingOk (s : State) : Bool :=
  (s.tracked && s.gridN != 192) || (List.range 32).all (fun n => s.get (R.afeAinCfg_ow_mode n) != 2)

/-! ## Cumulus sets (R31, R273, R274, R278) -/

def State.cumDescOn (s : State) (k : Nat) : Bool := (s.cumDesc k 0x10).testBit 18

/-- Two ranges overlap. -/
def overlap (a n b m : Nat) : Bool := decide (a < b + m ∧ b < a + n ∧ 0 < n ∧ 0 < m)

/-- R274: a channel's source lies in the profile, and a bin is one its quantity computes. -/
def State.cumSourceOk (s : State) (inst : Bool) (w : Nat) : Bool :=
  let idx := w / 16 % 4096
  let bin := decide (idx < s.numQ) && s.bit (R.pheQCfg_en idx) && (binsOf (s.reg (R.pheQCfg idx))).testBit (w / 2 ^ 16 % 16)
  match inst, w % 16 with
  | _, 0 => true
  | false, 1 => bin
  | true, 1 => decide (idx < s.numQ)
  | true, 2 => bin
  | false, 2 => decide (idx < s.numGroups)
  | _, 3 => decide (idx < s.numGroups)
  | _, _ => false

/-- R277: T_C of a set in CORE cycles, rounded up. -/
def State.cumCycles (s : State) (k : Nat) : Nat :=
  let f := (s.cumPcount k + 5) / 6 + (s.cumIcount k + 9) / 10
  ((1100 + 600 * s.cumDmax k + 120 * (f - 1)) * 2 + 4) / 5

/-- R278: T of R269 with D = DMAX is at most half the tick period at 70 Hz, or in preset mode. -/
def State.cumDepthOk (s : State) (k : Nat) : Bool :=
  let rate := if s.tracked then s.gridN / s.rowsPerTick * 70 else 6000
  decide (20 * gopTime (s.cumDmax k) * rate ≤ 1000000000)

/-- The sets that a slot's references read. -/
def State.setsRead (s : State) (e : Nat) : List Nat :=
  (List.range 8).filter (fun k => s.cumDescOn k && (s.slotRefs e).any (fun x => refKind x == 4 &&
    (if refIdx x < 64 then decide (s.cumPbase k ≤ refIdx x ∧ refIdx x < s.cumPbase k + s.cumPcount k)
     else decide (s.cumIbase k + 64 ≤ refIdx x ∧ refIdx x < s.cumIbase k + s.cumIcount k + 64))))

/-- R278: phase 2 fits after the latest return. -/
def State.placementOk (s : State) (p : Nat) : Bool :=
  let f := s.get (R.peaPairPh2_first p)
  let l := (s.pairSlots p f (s.get (R.peaPairList_count p) - f)).map (fun x => x.2)
  let tc := (l.flatMap s.setsRead).foldl (fun (a : Nat) k => Nat.max a (s.cumCycles k)) 0
  decide (tc + (l.map (fun e => typeCost (s.slotType e))).sum ≤ s.pairLimit)

/-- The Cumulus part of an image, for the member with ID `self`. -/
def State.cumulusOk (s : State) (self : Nat) (sets : List (Nat × Nat × Nat)) : Bool :=
  let on := (List.range 8).filter s.cumDescOn
  on.all (fun i => on.all (fun j => i == j ||
      (!overlap (s.cumPbase i) (s.cumPcount i) (s.cumPbase j) (s.cumPcount j) && !overlap (s.cumIbase i) (s.cumIcount i) (s.cumIbase j) (s.cumIcount j))))
    && on.all (fun k =>
      !((s.cumMask k).testBit self && (s.cumListen k).testBit self)
        && (s.cumMask k ||| s.cumListen k).testBit (s.cumOrigin k) && (s.cumMask k ||| s.cumListen k).testBit (s.cumAlt k)
        && sets.all (fun x => x.1 != k || (x.2.1 == s.get R.gridCfg_mode && x.2.2 == s.gridN))
        && s.get R.gridCfg_mode != 1 && s.cumDepthOk k
        && (List.range (s.cumPcount k)).all (fun i => s.cumSourceOk false (s.word (0x1384000 + 16 * (s.cumPbase k + i))).toNat)
        && (List.range (s.cumIcount k)).all (fun i => s.cumSourceOk true (s.word (0x1384400 + 16 * (s.cumIbase k + i))).toNat))
    && (List.range 8).all s.placementOk

/-! ## Logic (R218, R221) -/

/-- The rules on roles, masters and the program. -/
def State.logicOk (s : State) (self : Nat) (img : CfgImage) : Bool :=
  let ds := img.domains
  (!img.hasProg || s.progOk img.lge.prog)
    && ds.all (fun a => ds.all (fun b => a == b || (a.2 &&& b.2 == 0)))
    && (img.lge.role != 2 || (!img.hasProg && ds.any (fun d => d.1 == img.lge.master && d.2.testBit self)))

/-! ## Applying an image -/

/-- Registers that only the loader writes. -/
def loaderRegs : List Nat := [R.gridCfg, R.lgeCfg, R.dupCfg]

/-- A register value of the image is set: at once where only the loader writes the register, and for a coefficient; else as a write
would, any former value first taken back to 0 so that no rule on live changes stands in the way. -/
def applyReg (a : Nat) (v : Word) (s : State) : State :=
  match pageOf a with
  | none => s
  | some p =>
    let o := a - pageBase p
    if o = 0x008 ∨ o < 0x040 ∨ (p = .sys ∧ o ≠ 0x044 ∧ o < 0x140) ∨ p = .pci ∨ s.reg a = v then s
    else if loaderRegs.contains a || (coefAt o).isSome && p == .dfc then s.setReg a v
    else
      let e := s.hdrs
      blockFx 15 p o v { blockFx 15 p o 0 s with hdrs := e }

/-- Words that enable a BSI channel, a group, a stream slot or a publisher with what other words hold: how many bytes belong to one. -/
def lateSpan (a : Nat) : Nat :=
  if 0x08180 ≤ a ∧ a < 0x08200 then 4
  else if 0x0CA00 ≤ a ∧ a < 0x0D000 ∧ a % 8 = 0 then 8
  else if (0x0B100 ≤ a ∧ a < 0x0B500 ∨ 0x1A200 ≤ a ∧ a < 0x1A280) ∧ a % 16 = 0 then 16
  else 0

def lateReg (a : Nat) : Bool := lateSpan a != 0

/-- Such a word with its enable bit cleared. -/
def lateOff (a : Nat) (v : Word) : Word := if 0x0CA00 ≤ a ∧ a < 0x0D000 then v &&& 0x7FFFFFFF#32 else v &&& ~~~1#32

/-- A running one is taken down: its word is written back with the enable bit cleared. -/
def takeDown (x : Nat × Word) (s : State) : State :=
  match pageOf x.1 with
  | some p => blockFx 15 p (x.1 - pageBase p) (lateOff x.1 x.2) s
  | none => s

/-- The image's value of a register, or the one it has. -/
def CfgImage.regOr (img : CfgImage) (s : State) (a : Nat) : Word :=
  match img.regs.find? (fun x => x.1 == a) with | some x => x.2 | none => s.reg a

/-- The running BSI channels, groups, stream slots and publishers that the image changes: they are taken down before their words are
rewritten, so that no rule on live changes stands in the way. -/
def CfgImage.touched (img : CfgImage) (s : State) : List (Nat × Word) :=
  let mclk := img.regOr s R.afeCtrl != s.reg R.afeCtrl
  s.regs.filter (fun x => lateReg x.1 && x.2 != 0 &&
    (img.regs.any (fun y => decide (x.1 ≤ y.1 ∧ y.1 < x.1 + lateSpan x.1) && s.reg y.1 != y.2) || (mclk && x.1 < 0x08200)))

/-- A block's CTRL takes a value, where it has another. -/
def applyCtrl (p : Page) (v : Word) (s : State) : State := if s.reg (pageBase p + 0x008) = v then s else blockFx 15 p 0x008 v s

/-- The tables in SRAM that the loader writes whole: address and size. -/
def loaderTables : List (Nat × Nat) :=
  [(0xC80000, 0x40000), (0xCC2000, 0x2000), (0xCD0000, 0x10000), (0xD40000, 0x10000), (0xD00000, 0x40000), (0xD80000, 0x8400),
   (0x1382000, 0x2480), (0x1400000, 0x33200)]

/-- R299: GATED is set on every dataset with an entry that is a trip line. -/
def setGated (s : State) : State :=
  iterUp 128 (fun d (s : State) =>
    let a := 0x1400000 + 0x400 * d
    let w := s.word a
    let n := w.toNat / 2 ^ 8 % 128
    if (List.range n).any (fun e => (s.word (a + 0x300 + 4 * e)).toNat % 4 == 0) then s.setWord a (w ||| 0x40#32) else s) s

/-- The logic part of an image (R218, R221, R229). -/
def applyLogic (self : Nat) (img : CfgImage) (s : State) : State :=
  let p := img.lge.prog
  let master := img.lge.role == 1 && img.hasProg
  let own := fun (l : List (Nat × List Byte)) (m : Nat) => padSlice (((l.find? (fun x => x.1 == m)).map (fun x => x.2)).getD [])
  let s := (s.put R.lgeCfg_role img.lge.role).put R.lgeCfg_master_mbr img.lge.master
  let s := ((s.setReg R.lgeDomLo (BitVec.ofNat 32 img.lge.dom)).setReg R.lgeDomHi (BitVec.ofNat 32 (img.lge.dom / 2 ^ 32))).put R.lgeWcet_wcet p.wcet
  let s := ((s.put R.lgeWdt_wdt p.wdt).put R.lgePace_mincyc p.mincyc).put R.lgeSave_save_per p.savePer
  let s := s.updLge (fun l => { l with
    prog := if master then some p else none, cells := if master then p.insts.map LInst.cold else []
    iomap := ((p.iomap.find? (fun x => x.1 == self)).map (fun x => x.2)).getD {}
    safe := if img.lge.role = 0 then padSlice [] else own p.safe self, newMap := none, held := none, phase := .idle, shadow := [], saving := none })
  let s := if master then s.domList.foldl (fun (s : State) m => s.setBytes (safeAddr m) (own p.safe m)) (writeProg instBase codeBase p s) else s
  applySlice s.lge.safe (fun s => s.setLe (if master then leSTOPPED else leEMPTY)) s

/-- The image is applied to stopped blocks: profile, loader registers, tables, lists, the other registers, row seal, logic, Cumulus,
digest. -/
def applyImage (img : CfgImage) (s : State) : State :=
  let down := img.touched s
  let s := down.foldl (fun (s : State) x => takeDown x s) s
  let s := s.put R.sysProfile_active (let p := s.get R.sysProfile_pend; if p = 3 then 0 else p)
  let first := img.regs.filter (fun x => loaderRegs.contains x.1)
  let s := first.foldl (fun (s : State) x => applyReg x.1 x.2 s) s
  let s := s.put R.dfcStat_path (s.get R.gridCfg_mode)
  let s := if s.tracked then s.put R.gridCfg_nsel (match s.get R.sysProfile_active with | 1 => 2 | 2 => 0 | _ => 1) else s
  let s := loaderTables.foldl (fun (s : State) t => s.clearRange t.1 t.2) s
  let s := img.mem.foldl (fun (s : State) x => s.setBytes x.1 x.2) s
  let used := s.usedSlots
  let s := writeLists img.pairs s
  let s := used.foldl (fun (s : State) e =>
    let s := s.setWord (slotAddr e) (s.slotWord e 0 ||| 0x01000000#32)
    bImage e (initState e (s.setWord (slotAddr e + 12) (BitVec.ofNat 32 (s.slotBlk e))))) s
  let s := setGated s
  let rest := img.regs.filter (fun x => !loaderRegs.contains x.1)
  let s := (rest.filter (fun x => !lateReg x.1)).foldl (fun (s : State) x => applyReg x.1 x.2 s) s
  let s := applyCtrl .afe (img.regOr s R.afeCtrl) s
  let s := s.put R.gridSeal_delay 0xFFFFF
  let s := ((rest.filter (fun x => lateReg x.1)) ++ down.filter (fun x => !img.regs.any (fun y => y.1 == x.1))).foldl (fun (s : State) x => applyReg x.1 x.2 s) s
  let s := s.put R.gridSeal_delay (Nat.max img.reqSeal s.computedSeal)
  let s := { s with afe := { s.afe with
    sampDly := (List.range 32).foldl (fun t n => tset 0 t n (s.get (R.afeBsiCfg_samp_dly n))) s.afe.sampDly
    retDly := (List.range 32).foldl (fun t n => tset 0 t n (s.bsiLag n)) s.afe.retDly } }
  let self := if img.member = 0 then s.selfId else img.member
  let s := applyLogic self img s
  let s := { s with gal := { s.gal with stored := if img.member = 0 then none else some img.member },
                    dup := { s.dup with set := [], changes := [], cmd := none } }
  let s := (s.put R.dupStat_joined 0)
  let s := iterUp 8 (fun k (s : State) =>
    let x := if s.cumDescOn k then s.cumMask k else 0
    (s.setReg (R.cumSetExpLo k) (BitVec.ofNat 32 x)).setReg (R.cumSetExpHi k) (BitVec.ofNat 32 (x / 2 ^ 32))) s
  (s.setPheCost).setRegs (R.sysDigest 0) ((img.digest ++ List.replicate 8 0).take 8)

/-- Any page's ERR holds a code. -/
def State.anyErr (s : State) : Bool := Page.all.any (fun p => (s.hdr p).errCode != 0)

/-- The state with every page's ERR empty. -/
def State.noErr (s : State) : State := Page.all.foldl (fun (s : State) p => errEffect p s) s

/-- The image, applied to `s` whose blocks are stopped, keeps every rule of the loader. -/
def loaderOk (img : CfgImage) (s : State) : Bool :=
  let c := applyImage img s.noErr
  let self := if img.member = 0 then s.selfId else img.member
  !c.anyErr && c.limitsOk && c.elementsOk img.pairs && (List.range 256).all c.lineLegal && c.scalesOk && c.probingOk
    && c.cumulusOk self img.sets && c.logicOk self img

/-! ## Stopping and starting -/

/-- R284: DUP STAT.AUTH follows PAIRED after a load. -/
def authFix (s : State) : State :=
  if !s.paired then setAuth auUNPAIRED false s
  else if s.auth = auUNPAIRED then healthRecovery (setAuth auDOWN false s)
  else healthRecovery (healthLoss s)

/-- R282: FORMED after a load, whose digest and profile the partner's last frame is held to again. -/
def formedFix (s : State) : State :=
  setFormed (s.paired && s.dup.partner.any (fun p => p.digest == s.digest && p.profile == s.get R.sysProfile_active)) s

/-- R352: the blocks stop: LGE (cause LOAD), TRM, PEA, PHE, GRID, DFC, DRC (TRUNC). The ACTIVE member of a pair relinquishes (R283). -/
def stopBlocks (s : State) : State :=
  let s := lgeSafe stLOAD (lgeStop stLOAD 0 (recastCancel s))
  let s := { s with trm := { s.trm with loading := true } }
  let s := if s.paired && s.auth == auACTIVE then relinquish s else gateUpdate s
  let s := trmCtrlEffect (s.reg R.trmCtrl &&& ~~~1#32) s
  let s := peaCtrlEffect (s.reg R.peaCtrl &&& ~~~1#32) { s with pea := { s.pea with tick := none, live := none } }
  let s := (pheCtrlEffect (s.reg R.pheCtrl &&& ~~~1#32) { s with phe := { s.phe with busy := none } }).putBit R.peaStat_live_pend false
  let s := gridCtrlEffect (s.reg R.gridCtrl &&& ~~~1#32) { s with grid := { s.grid with inflight := [] } }
  let s := if s.grid.stopAt.isSome then gridHalt s else s
  let s := dfcCtrlEffect (s.reg R.dfcCtrl &&& ~~~1#32) s
  drcCtrlEffect 15 (s.reg R.drcCtrl &&& ~~~1#32) s.drcTruncAll

/-- The order in which the blocks that an image enables start. -/
def startOrder : List Page :=
  [.sys, .mem, .afe, .dfc, .svs, .grid, .phe, .pea, .trm, .fio, .hka, .tim, .gal, .dup, .mac0, .mac1, .mac2, .mac3, .gos, .evr, .sto, .drc, .dma, .lge]

/-- R29, R259: under COOL the ports GP2 to GP5 are powered down and their PORT_EN bits read 0. -/
def coolPorts (s : State) : State :=
  if s.get R.sysProfile_active = 2 then galCtrlEffect 15 (s.reg R.galCtrl &&& 0xFFFFFF87#32) s else s

/-- CTRL of the blocks takes the image's value; a block whose CTRL the image does not give takes back what `old` held. -/
def startBlocks (img : CfgImage) (old : State) (s : State) : State :=
  coolPorts (startOrder.foldl (fun (s : State) p => applyCtrl p (img.regOr old (pageBase p + 0x008)) s) s)

/-- The GOOSE and SV functions take up their new tables (R299). -/
def gosReload (s : State) : State :=
  let v := s.reg R.gosCtrl
  if v.toNat % 8 = 0 then s else gosCtrlEffect v (gosCtrlEffect (v &&& ~~~7#32) s)

/-- A load (R352): none where the loader rejects the image. -/
def loadImage (img : CfgImage) (s : State) : Option State :=
  let t := stopBlocks s
  if loaderOk img t then
    let c := applyImage img t.noErr
    some (formedFix <| authFix <| gosReload <| startBlocks img s { c with hdrs := t.hdrs })
  else none

end Sys2Proof.Machine
end

