-- ==== Sys2Proof/Machine/Sys.lean ====
section
/-! DEFINITION. Supplies, resets, boot, configuration operations, and the Ladle (R342 to R356). -/

namespace Sys2Proof.Machine

def rcPOR : Nat := 1
def rcPIN : Nat := 2
def rcSUPPLY : Nat := 3
def rcCOMMAND : Nat := 4
def rcRECOVER : Nat := 5
def rcTHERMAL : Nat := 6

def State.updSys (s : State) (f : SysState → SysState) : State := { s with sys := f s.sys }

/-- A SYS event (R349). -/
def State.sysEvent (s : State) (code : Nat) (d0 : Word) (d2 : Nat) : State := s.event 0x02 code 0 d0 0 d2

/-! ## Resets (R345, R346) -/

/-- A Ladle that runs stops where it is: what it has not written stays unflushed. -/
def ladleCut (s : State) : State :=
  match s.sys.ladle with
  | none => s
  | some r => { s with evr := { s.evr with unfl := if r.booted then r.first else s.evr.unfl }, sys := { s.sys with ladle := none } }

/-- Registers of the AON island, and the fuses: bank STATE and MODE (R326), region registers (R328), the pending profile, the bit
LADLE and the link (R346, R347). -/
def keptRegs (s : State) : Table Word :=
  let t : State := { regs := s.regs.filter (fun e => (decide (0x03100 ≤ e.1 ∧ e.1 < 0x031C0) || decide (0x03400 ≤ e.1 ∧ e.1 < 0x03D00) || e.1 == R.sysFuse)) }
  (((((t.put R.sysProfile_pend (s.get R.sysProfile_pend)).putBit R.sysStat_ladle s.sys.ladle.isSome).setReg R.pciLink (s.reg R.pciLink)).putBit R.pciLink_root false)).regs

/-- A member reset (R345, R346): AON, RETAIN banks and the MRAM are kept; everything else takes its reset value. -/
def memberReset (cause : Nat) (s : State) : State :=
  { pending := s.pending, mem := s.mem, out := s.out, free := s.free, regs := keptRegs s
    host := { perst := s.host.perst, d3hot := s.host.d3hot, busMaster := s.host.busMaster, msixEn := s.host.msixEn, funcMask := s.host.funcMask,
              nextTag := s.host.nextTag, late := s.host.late ++ s.host.remote.map (fun r => r.tag) }
    time := { ticks := s.time.ticks }
    evr := { next := s.evr.next, unfl := s.evr.unfl, oldest := s.evr.oldest, lost := s.evr.lost, journal := s.evr.journal, closed := s.sys.ladle.isSome }
    jrnl := { s.jrnl with waiting := [], load := none, scanOpen := [], bad := 0 }
    life := s.life
    lge := { copyA := s.lge.copyA, copyB := s.lge.copyB, saveSeq := s.lge.saveSeq }
    sto := { recs := s.sto.recs, newest := s.sto.newest, pos := s.sto.pos }
    hka := { temps := s.hka.temps, samples := s.hka.samples }
    sram := { poison := s.sram.poison }
    gal := { taken := s.out.length }
    sys := { s.sys with inReset := true, cause := cause, op := none, after := none } }

/-- A power-on reset (R345): AON and the member; the MRAM, the card and the fuses keep what they hold, SRAM does not. -/
def powerOnReset (s : State) : State :=
  let s := ladleCut s
  let t : State := { regs := s.regs.filter (fun e => e.1 == R.sysFuse) }
  { pending := s.pending, out := s.out, free := s.free
    mem := s.mem.filter (fun e => !decide (0x800000 ≤ e.1 ∧ e.1 < 0x2000000))
    regs := (t.put R.sysProfile_pend (s.get R.sysProfile_pend)).regs
    evr := { next := s.evr.next, unfl := s.evr.unfl, oldest := s.evr.oldest, lost := s.evr.lost, journal := s.evr.journal }
    jrnl := { s.jrnl with queue := [], waiting := [], load := none, scanOpen := [], bad := 0 }
    life := { copyA := s.life.copyA, copyB := s.life.copyB, seq := s.life.seq }
    lge := { copyA := s.lge.copyA, copyB := s.lge.copyB, saveSeq := s.lge.saveSeq }
    sto := { recs := s.sto.recs, newest := s.sto.newest, pos := s.sto.pos }
    gal := { taken := s.out.length }
    sys := { slotA := s.sys.slotA, slotB := s.sys.slotB, active := s.sys.active, seq := s.sys.seq, cause := rcPOR } }

/-! ## The Ladle (R353 to R356) -/

/-- Every arrival on its way enters the ring. -/
def evTakeAll (s : State) : State := s.evr.queue.foldl (fun (s : State) e => s.evAccept e) { s with evr := { s.evr with queue := [] } }

/-- The shadow as the next copy of the retain data (R230), up to 256 KB. -/
def State.nextRetain (s : State) : Option RetainCopy :=
  match s.lge.prog with
  | none => none
  | some p => if s.lge.shadow.isEmpty then none else some ⟨p.retainId, s.lge.saveSeq + 1, Nat.min (256 * 1024) p.retainBytes, s.lge.shadow⟩

/-- A Ladle trigger: 0 ball, 1 VMAIN_SNS, 2 rail, 3 thermal. One that falls while the Ladle runs, or after its seal, has no effect. -/
def ladleStart (trig : Nat) (s : State) : State :=
  if s.sys.ladle.isSome || s.evr.closed then s
  else
    let s := evTakeAll s
    let s := (s.evAccept (s.mkEvent 0x02 5 0 0 0 trig)).addLife 4 1
    let up := s.bit R.sysStat_booted
    let run : LadleRun := ⟨s.evr.unfl, s.evU, s.life.counts, s.nextRetain, s.jrnl.queue.length, up⟩
    let s := { s with evr := { s.evr with unfl := if up then s.evr.next else s.evr.unfl, closed := true, tripFlush := false } }
    let s := s.updSys (fun x => { x with ladle := some run, op := x.op.filter (fun o => o.img.isNone) })
    lgePowerFail ((s.putBit R.evrStat_flushing false).putBit R.sysStat_ladle true)

/-- The event entries (R311, R354 step 4): up to 4096, else the oldest 4095 and an OVERFLOW marker for the rest. -/
def ladleEvents (r : LadleRun) (s : State) : State :=
  let end_ := (r.first + r.count) % 2 ^ 32
  let s := { s with evr := { s.evr with unfl := r.first } }
  let s := if r.count ≤ 4096 then s.evCopy r.count true false
    else
      let s := s.evCopy 4095 true false
      let q := (r.first + 4095) % 2 ^ 32
      let mk := s.mkEvent 0x01 3 0 (BitVec.ofNat 32 (r.count - 4095)) (s.word (evAddr (r.first + r.count - 1) + 4)) 0
      let e : Event := { mk with ts := s.word (evAddr q + 4), ladle := true }
      { s with evr := { s.evr with journal := tset [] s.evr.journal (q % 262144) (e.words q), lost := (s.evr.lost + (r.count - 4095)) % 2 ^ 32 } }
  { s with evr := { s.evr with unfl := end_ } }

/-- The retain data (R354 step 5): the frozen shadow as the next copy. -/
def ladleRetain (r : LadleRun) (s : State) : State :=
  match r.retain with
  | none => s
  | some c => retainSeal c (s.updLge (fun l => { l with saveSeq := c.seq }))

/-- The journal entries that the AON queue holds are written. -/
def drainAll (s : State) : State := iterUp 256 (fun _ (s : State) => if s.jrnl.queue.isEmpty then s else jDrain s) s

/-- The Ladle writes its parts and its seal (R354); a member reset that waits for it follows (R344, R345). -/
def ladleSeal (s : State) : State :=
  match s.sys.ladle with
  | none => s
  | some r =>
    let s := drainAll s
    let live := s.life.counts
    let s := lifeWrite { s with life := { s.life with counts := r.counts } }
    let s := { s with life := { s.life with counts := live } }
    let s := if r.booted then ladleRetain r (ladleEvents r s) else s
    let s := s.jWrite (s.jEntry 0 0 6 0 [])
    let s := (s.updSys (fun x => { x with ladle := none })).putBit R.sysStat_ladle false
    match s.sys.after with
    | some c => memberReset c s
    | none => s

/-- A trigger whose seal is followed by a member reset with this cause; where the Ladle has sealed already, the reset follows at
once. -/
def ladleThenReset (trig cause : Nat) (s : State) : State :=
  if s.evr.closed && s.sys.ladle.isNone then memberReset cause s
  else (ladleStart trig s).updSys (fun x => { x with after := x.after.orElse (fun _ => some cause) })

/-- PFW_ASSERT (R353): the PFW ball, or VMAIN_SNS below PF_THR. -/
def execPfwAssert (vmain : Bool) (s : State) :=
  let s := if vmain then healthLoss (s.putBit R.sysStat_supply_ok false) else s
  done (if vmain then (if s.bit R.sysCtrl_vmain_en then ladleStart 1 s else s)
    else if s.bit R.sysCtrl_pfw_en then ladleStart 0 s else s)

/-- LADLE_SEAL (R354). -/
def execLadleSeal (s : State) := done (ladleSeal s)

/-- RECOVER_RESET (R356). -/
def execRecoverReset (s : State) := done (if s.evr.closed && s.sys.ladle.isNone && !s.sys.inReset then memberReset rcRECOVER s else s)

/-! ## Supplies (R344) -/

/-- A rail lies outside its levels: its bit of SYS_SUPPLY and a SUPPLY event. -/
def railFault (rail : Nat) (high : Bool) (s : State) : State :=
  let s := s.setRegBit R.sysSupply (rail + 8 * b2n high) true
  healthLoss ((s.putBit R.sysStat_supply_ok false).sysEvent 4 0 (rail + 16 * b2n high))

/-- RAIL_UNDERVOLTAGE (R344): rails in the order of R342. -/
def execRailUndervoltage (rail : Fin 8) (s : State) :=
  let r := rail.val
  if r = 0 then done (powerOnReset s)
  else
    let s := railFault r false s
    done (if r ≤ 2 then (let s := ladleCut (evTakeAll s); (memberReset rcSUPPLY s).setRegBit R.sysSupply r true) else ladleThenReset 2 rcSUPPLY s)

/-- RAIL_OVERVOLTAGE (R344). -/
def execRailOvervoltage (rail : Fin 8) (s : State) := done (ladleThenReset 2 rcSUPPLY (railFault rail.val true s))

/-! ## Reset sources (R345) -/

/-- POWER_ON_RESET. -/
def execPowerOnReset (s : State) := done (powerOnReset s)

/-- RESET_PIN. -/
def execResetPin (s : State) := done (memberReset rcPIN s)

/-- The effect of a write to SYS_RST_CMD. -/
def rstCmdEffect (m : Nat) (v : Word) (s : State) : State :=
  if R.sysRstCmd_go.of v = 0 then s
  else if R.sysRstCmd_key.of v = 0xB5EF then memberReset rcCOMMAND s
  else s.raise .sys 0x0105 m

/-- SYS_RST_CMD. -/
def execSysRstCmd (m : Master) (v : Word) (s : State) := done (s.guarded m.val .sys (rstCmdEffect m.val v))

/-- The code of the hottest of TS0 to TS3 (R217, R345); 16 codes to a degree, 160 at −40 °C. -/
def State.hottest (s : State) : Nat := (List.range 4).foldl (fun a i => Nat.max a (tget 0 s.hka.temps i)) 0
def tempCode (t : Nat) : Nat := 160 + 16 * (t + 40)

/-- THERMAL_TRIP (R345): at or above 135 °C for 10 ms. -/
def execThermalTrip (s : State) :=
  if s.bit R.sysCtrl_therm_en && decide (tempCode 135 ≤ s.hottest) then
    done (ladleThenReset 3 rcTHERMAL (s.updSys (fun x => { x with thermal := true })))
  else done s

/-! ## Configuration operations (R350, R352) -/

/-- R350: an image verifies; the ERR code where it does not. -/
def State.verify (s : State) (img : CfgImage) : Option Nat :=
  let key := match img.key with
    | some k => (s.get R.sysFuse_valid).testBit k.val && !(s.get R.sysFuse_revoked).testBit k.val
    | none => false
  if !key || !img.signed || decide (img.secver < s.get R.sysFuse_secver_min) then some 0x0101
  else if !img.format then some 0x0102 else none

/-- The image in the active slot. -/
def State.activeImage (s : State) : Option CfgImage := if s.sys.active then s.sys.slotB else s.sys.slotA

def CfgImage.digest0 (img : CfgImage) : Word := img.digest.getD 0 0

/-- An operation is under way. -/
def State.cfgBegin (s : State) (o : CfgOp) : State :=
  (s.updSys (fun x => { x with op := some { o with start := s.time.ticks } })).invalidate R.sysCfgRes

/-- LOAD (R352): STATUS, and the state it leaves. -/
def cfgLoad (m : Nat) (s : State) : Nat × State :=
  match s.activeImage with
  | none => (1, s.raise .sys 0x0102 m)
  | some img =>
    match loadImage img s with
    | some t =>
      let t := ((t.putBit R.sysStat_safe false).putBit R.sysStat_fallback false).putBit R.sysStat_slot s.sys.active
      (0, t.sysEvent 1 img.digest0 0)
    | none => (3, (s.raise .sys 0x0103 m).sysEvent 3 0x0103 0)

/-- The effect of a write to SYS_CFG_CMD; `img` is the image at SYS_CFG_SRC. -/
def cfgCmdEffect (m : Nat) (v : Word) (img : CfgImage) (s : State) : State :=
  let op := R.sysCfgCmd_op.of v
  if op = 0 then s
  else if s.sys.op.isSome then s.raise .sys 0x0104 m
  else if op = 2 then
    let t := s.cfgBegin { op := 2, slotB := s.sys.active, digest := (s.activeImage.getD {}).digest0 }
    let r := cfgLoad m t
    r.2.updSys (fun x => { x with op := x.op.map (fun (o : CfgOp) => { o with status := r.1 }) })
  else
    let bad := if 1984 * 1024 < s.get R.sysCfgLen_len then some 0x0102 else s.verify img
    match bad with
    | some e => (s.raise .sys e m).cfgBegin { op := op, status := 1, slotB := !s.sys.active, digest := img.digest0 }
    | none =>
      (s.jOpen 6 [img.digest0, BitVec.ofNat 32 (b2n !s.sys.active)]).cfgBegin { op := op, img := some img, slotB := !s.sys.active, digest := img.digest0 }

/-- CONFIG_WRITE. -/
def execConfigWrite (m : Master) (v : Word) (img : CfgImage) (s : State) :=
  done (s.guarded m.val .sys (cfgCmdEffect m.val (R.sysCfgCmd_op.put v 1) img))

/-- CONFIG_LOAD. -/
def execConfigLoad (m : Master) (v : Word) (s : State) := done (s.guarded m.val .sys (cfgCmdEffect m.val (R.sysCfgCmd_op.put v 2) {}))

/-- CONFIG_WRITE_LOAD. -/
def execConfigWriteLoad (m : Master) (v : Word) (img : CfgImage) (s : State) :=
  done (s.guarded m.val .sys (cfgCmdEffect m.val (R.sysCfgCmd_op.put v 3) img))

/-- A slot write has ended (R352): the slot is active, or the boot record stays. -/
def cfgWritten (o : CfgOp) (img : CfgImage) (ok : Bool) (s : State) : Nat × State :=
  let s := s.jDoneAll (fun (x : OpenOp) => x.cls == 6) (if ok then 0 else 2) (fun x => x.data)
  if !ok then (2, s.raise .sys 0x0106 15)
  else
    let s := s.updSys (fun x => { x with slotA := if o.slotB then x.slotA else some img, slotB := if o.slotB then some img else x.slotB,
                                         active := o.slotB, seq := x.seq + 2 })
    let s := s.sysEvent 2 img.digest0 (b2n o.slotB)
    if o.op = 3 then cfgLoad 15 s else (0, s)

/-- CONFIG_OPERATION_END (R352); `ok` is false where a slot write or readback has failed. -/
def execConfigOperationEnd (ok : Bool) (s : State) :=
  match s.sys.op with
  | none => done s
  | some o =>
    let r := match o.img with | some img => cfgWritten o img ok s | none => (o.status, s)
    let s := r.2.updSys (fun x => { x with op := none })
    let s := gateUpdate { s with trm := { s.trm with loading := false } }
    let s := s.complete R.sysCfgRes [BitVec.ofNat 32 (r.1 + 8 * b2n o.slotB), o.digest, BitVec.ofNat 32 ((s.time.ticks - o.start) / 2500)]
    done (s.edge .sys 2)

/-- The effect of a write to SYS_PROFILE (R31): kept, with the boot record, for the next load. -/
def profileEffect (v : Word) (s : State) : State := (s.storeReg R.sysProfile v).updSys (fun x => { x with seq := x.seq + 2 })

/-- SYS_PROFILE_WRITE. -/
def execSysProfileWrite (m : Master) (v : Word) (s : State) := done (s.guarded m.val .sys (profileEffect v))

/-! ## Boot (R348 to R350, R361, R364, R365) -/

/-- An entry of the scan changes what is open (Reading the journal). -/
def scanEntry (ops : List OpenOp) (e : JEntry) (seq : Option Nat) : List OpenOp :=
  let rest := ops.filter (fun o => o.opid != e.opid)
  match e.kind with
  | 0 => rest ++ [⟨e.opid, e.cls, e.data, 0, seq⟩]
  | 3 => rest ++ [⟨e.opid, e.cls, e.data, 0, seq⟩]
  | 2 => rest
  | 4 => rest
  | _ => ops

/-- The journal scan: copy A of each entry where its CRC is good, else copy B; then what the AON queue still holds. It finds what is
open, and whether a LADLE seal follows the last BOOT entry (R365). -/
def bootJournal (f : BootFinds) (s : State) : State :=
  let j := s.jrnl
  let a := j.copyA.filter (fun x => !f.badA.contains x.1)
  let b := j.copyB.filter (fun x => !f.badB.contains x.1)
  let get := fun (k : Nat) => (tget none a k).orElse (fun _ => tget none b k)
  let lost := (List.range 4096).filter (fun k => ((tget none j.copyA k).isSome || (tget none j.copyB k).isSome) && (get k).isNone)
  let seqs := (List.range 4096).map (fun i => (j.next + 2 ^ 32 - 4096 + i) % 2 ^ 32)
  let ops := seqs.foldl (fun (ops : List OpenOp) q => match get (q % 4096) with
    | some e => if e.seq = q then scanEntry ops e (some q) else ops
    | none => ops) []
  let ops := j.queue.foldl (fun (ops : List OpenOp) e => scanEntry ops e none) ops
  let ends := (seqs.filterMap (fun q => (get (q % 4096)).filter (fun e => e.seq == q)) ++ j.queue).filter (fun e => e.kind == 5 || e.kind == 6)
  let sealed_ := match ends.getLast? with | some e => e.kind == 6 | none => a.isEmpty && b.isEmpty
  let s := { s with jrnl := { j with copyA := a, copyB := b, ops := ops, scanOpen := ops, bad := lost.length, sealed_ := sealed_ } }
  (s.putBit R.jrnlStat_scanned true).jOpenGroup

/-- The lifetime record (R362 to R365): restored after power-on, kept through a member reset. -/
def bootLife (f : BootFinds) (s : State) : State :=
  let a := if f.lifeA then none else s.life.copyA
  let b := if f.lifeB then none else s.life.copyB
  let toB := match a, b with | some x, some y => decide (x.seq < y.seq) | none, some _ => true | _, none => false
  let newest := if toB then b else a
  let por := s.sys.cause == rcPOR
  let s := { s with life := { copyA := a, copyB := b, counts := if por then (newest.getD {}).counts else s.life.counts,
                              seq := match newest with | some r => (r.seq + 1) % 2 ^ 32 | none => s.life.seq } }
  let s := (s.putBit R.lifeStat_newest toB).putBit R.lifeStat_restored_ok newest.isSome
  let s := s.addLife (if por then 1 else 3) 1
  let s := if por && newest.isNone then s.sysEvent 7 0 0 else s
  if por && !s.jrnl.sealed_ then
    let f := s.fresh
    (f.2.addLife 2 1).sysEvent 6 f.1 0
  else s

/-- March tests at boot (R326, R333, R335, R336): ON and FAILED banks destructively, RETAIN banks transparently. -/
def bootMarch (f : BootFinds) (s : State) : State :=
  let banks := (List.range 48).filter (fun b => s.bankSt b != bkOFF)
  let rounds := (banks.length + 7) / 8
  let ms : Nat := ((List.range rounds).map (fun i => marchTime 8 (((banks.drop (8 * i)).take 8).any (fun b => s.bankSt b == bkRETAIN)))).sum
  let s := (List.range 48).foldl (fun (s : State) b =>
    if s.bankSt b = bkOFF then s.clearBank b
    else
      let bad := f.fails.getLsbD b
      let was := s.bankSt b
      let s := marchBank (was == bkRETAIN) bad b s
      if bad then s else (if was = bkFAILED then s.put (R.memBankCfg_state b) bkON else s).putBit (R.memBankCfg_ready b) true) s
  let failed : Nat := banks.foldl (fun (a : Nat) b => if f.fails.getLsbD b then a + 2 ^ b else a) 0
  (s.complete R.memMarchRes [BitVec.ofNat 32 failed, BitVec.ofNat 32 (failed / 2 ^ 32), BitVec.ofNat 32 ms]).edge .mem 3

/-- The CRC of a ring entry is good. -/
def State.evGood (s : State) (q : Nat) : Bool :=
  let ws := (List.range 8).map (fun k => s.word (evAddr q + 4 * k))
  let d2 := (ws.getD 7 0).toNat % 2 ^ 16
  ws.getD 0 0 == BitVec.ofNat 32 q && crc16 (bytesOf (ws.take 7) ++ leBytes 2 d2) == (ws.getD 7 0).toNat / 2 ^ 16

/-- Event restore (R311): after a member reset, unflushed entries with a good CRC in RETAIN banks are flushed with RESTORED, and one
RESTORED entry follows; entries lost are counted by an OVERFLOW marker, whose times of the first and last lost are free. -/
def bootEvents (retain : Nat → Bool) (s : State) : State :=
  let n := s.evU
  let s := { s with evr := { s.evr with closed := false } }
  if n = 0 then s
  else
    let qs := (List.range n).map (fun i => (s.evr.unfl + i) % 2 ^ 32)
    let ok := fun (q : Nat) => s.sys.cause != rcPOR && retain (bankOf (evAddr q)) && s.evGood q
    let held := qs.filter (fun q => s.sys.cause != rcPOR && retain (bankOf (evAddr q)))
    let good := qs.filter ok
    let t := good.foldl (fun (t : State) q => ({ t with evr := { t.evr with unfl := q } }).evCopy 1 false true) s
    let t := { t with evr := { t.evr with unfl := s.evr.next } }
    let lost := n - good.length
    let t := if lost = 0 then t else
      let first := t.fresh
      let last := first.2.fresh
      let t := last.2
      let mk := t.mkEvent 0x01 3 0 (BitVec.ofNat 32 lost) last.1 0
      { t with evr := { t.evr with lost := (t.evr.lost + lost) % 2 ^ 32 } }.evWrite { mk with ts := first.1 }
    if held.isEmpty then t
    else (t.evWrite (t.mkEvent 0x01 4 0 (BitVec.ofNat 32 good.length) (BitVec.ofNat 32 (held.length - good.length)) 0)).putBit R.evrStat_restored true

/-- An image slot verifies and loads (R350). -/
def State.bootSlot (s : State) (bad b : Bool) : Option (CfgImage × State) :=
  match (if b then s.sys.slotB else s.sys.slotA) with
  | none => none
  | some img =>
    if bad || (s.verify img).isSome then none
    else (loadImage img s).map (fun t => (img, { t with trm := { t.trm with loading := false } }))

/-- A rejected or unverified slot leaves its ERR, and a LOAD_REJECT event where the loader rejected it. -/
def State.bootReject (s : State) (bad b : Bool) : State :=
  match (if b then s.sys.slotB else s.sys.slotA) with
  | none => s
  | some img => match (if bad then some 0x0101 else s.verify img) with
    | some e => s.raise .sys e 15
    | none => (s.raise .sys 0x0103 15).sysEvent 3 0x0103 0

/-- The image part of boot (R350): the active slot, else the other with FALLBACK, else SAFE. Answers the slot, FALLBACK and SAFE. -/
def bootImage (f : BootFinds) (s : State) : State × Bool × Bool × Bool :=
  let act := s.sys.active
  let bad := fun (b : Bool) => if b then f.slotB else f.slotA
  let take := fun (r : CfgImage × State) (b fb : Bool) =>
    let t := r.2
    let t := if r.1.advance then t.put R.sysFuse_secver_min (Nat.max (t.get R.sysFuse_secver_min) r.1.secver) else t
    let t := (t.putBit R.sysStat_slot b).putBit R.sysStat_fallback fb
    ((t, b, fb, false) : State × Bool × Bool × Bool)
  match s.bootSlot (bad act) act with
  | some r => take r act false
  | none =>
    let s := s.bootReject (bad act) act
    match s.bootSlot (bad (!act)) (!act) with
    | some r => take r (!act) true
    | none => ((s.bootReject (bad (!act)) (!act)).putBit R.sysStat_safe true, false, false, true)

/-- After a member reset the logic engine shows cause RESET and starts under AUTOSTART (R228, R231). -/
def bootLogic (s : State) : State :=
  match s.lge.prog with
  | none => s
  | some p =>
    let s := s.put R.lgeStat_cause stRESET
    let a := s.get R.lgeCfg_autostart
    if s.sys.cause != rcPOR && (a == 1 || a == 2) && s.bit R.lgeCtrl_en then lgeBegin (a == 2) p s else s

/-- BOOT (R348): from a reset that is released, once a running Ladle has sealed and the thermal source is clear. -/
def execBoot (f : BootFinds) (s : State) :=
  if !s.sys.inReset || s.sys.ladle.isSome || (s.sys.cause == rcTHERMAL && decide (tempCode 115 < s.hottest)) then done s
  else
    let retain := fun (b : Nat) => s.bankSt b == bkRETAIN && !f.fails.getLsbD b
    let s := { s with evr := { s.evr with closed := false } }
    let s := s.updSys (fun x => { x with thermal := false, after := none })
    let s := bootJournal f s
    let unw := s.sys.cause == rcPOR && !s.jrnl.sealed_
    let s := bootMarch f (bootLife f s)
    let r := bootImage f s
    let s := bootEvents retain r.1
    let s := s.sysEvent 0 (BitVec.ofNat 32 s.sys.cause) (b2n r.2.1 + 2 * b2n r.2.2.1 + 4 * b2n r.2.2.2)
    let s := s.jOffer (s.jEntry 0 0 5 0 [])
    let s := (s.putBit R.sysStat_booted true).putBit R.sysStat_supply_ok true
    let s := (bootLogic s).updSys (fun x => { x with inReset := false })
    let s := if r.2.2.2 then s else authFix s
    done (s.complete R.sysBoot [BitVec.ofNat 32 (s.sys.cause + 8 * b2n unw), BitVec.ofNat 32 f.time, BitVec.ofNat 32 s.jrnl.scanOpen.length])

end Sys2Proof.Machine
end

