-- ==== Sys2Proof/WellFormed.lean ====
section
/-! DEFINITION. Which command terms stand for something the outside world can send: widths, windows and ranges that the operand
types do not already bound. The meanings are total; what is not well-formed is no command of the device. -/

namespace Sys2Proof

/-- Longest payload of one access (R32, R267). -/
def maxPayload : Nat := 256

/-- Bytes an access carries or asks for. -/
def accessLen (len : Nat) (data : Option (List Byte)) : Nat := match data with | some bs => bs.length | none => len

/-- Bits of AIN0 to AIN31; levels of BSI_D0 to BSI_D31 and, from 32, BSI_CK0 to BSI_CK3. -/
def chainOk (ain : List (Nat × List Machine.ModBit)) (lines : List (Nat × List Bool)) : Bool :=
  ain.all (fun e => decide (e.1 < 32)) && lines.all (fun e => decide (e.1 < 36))

/-- A command is well-formed. -/
def Instr.wf (i : Instr) : Bool :=
  match i with
  | .registerWrite _ addr bytes _ => decide (addr < 0x800000) && decide (0 < bytes) && decide (bytes ≤ 8)
  | .resultLowWordRead _ addr => decide (addr < 0x20000) && addr % 4 == 0
  | .hostRemoteAccess bar0 off len data _ ans =>
    let n := accessLen len data
    decide (0 < n) && decide (n ≤ maxPayload) && (if bar0 then decide (off.toNat + n ≤ 0x2000000) else decide (off.toNat % 0x2000000 + n ≤ 0x2000000))
      && (match data, ans with | none, some bs => bs.length == n | _, _ => true)
  | .remoteAccessFrame _ off len data _ =>
    let n := accessLen len data
    decide (0 < n) && decide (n ≤ maxPayload) && decide (off.toNat + n ≤ 0x2000000)
  | .manchesterViolation _ inWindow => decide (inWindow ≤ 64)
  | .rowWrite _ ain lines => chainOk ain lines
  | .strikeAssert _ _ ain lines => chainOk ain lines
  | .strikeClear _ _ ain lines => chainOk ain lines
  | .svFrameReceive f => decide (f.port ≤ 1) && !f.asdus.isEmpty && decide (f.asdus.length ≤ 8)
  | .ptpAnnounceReceived _ a => decide (a.dom < 256) && decide (a.steps < 65536)
  | .linkStateFlood _ _ links => links.all (fun l => decide (l.1 < 6) && decide (l.2 < 64))
  | .gopDelivery _ _ _ _ _ _ data => decide (data.length ≤ 14)
  | .broadcastReceived _ _ data => decide (data.length ≤ 14)
  | .cumulusFrameReceived _ _ _ chans => !chans.isEmpty
  | .shadowFrame _ _ minon => minon.length == 16
  | .pairingFrame digest _ _ => digest.length == 8
  | .gooseFrameReceived f => decide (f.port < 4)
  | .macRxFrame _ bs _ _ _ => decide (14 ≤ bs.length)
  | .pheDone vs => vs.all (fun v => decide (v.slot < 4096))
  | .elementPhase2 _ vs => vs.all (fun v => decide (v.slot < 4096))
  | _ => true

end Sys2Proof
end

