-- ==== Sys2Proof/Machine/Host.lean ====
section
/-! DEFINITION. The PCIe endpoint as an agent of the outside: link, power states, function reset, MSI-X vectors, and the forward
messages of members other than the root (R33, R34, R54 to R56, R345). -/

namespace Sys2Proof.Machine

/-! ## Configuration space (R32, R35) -/

/-- A capability the endpoint offers. -/
inductive PciCap where
  | pciExpress | powerManagement | msix | advancedErrors | functionReset
  deriving DecidableEq, Repr

/-- A memory BAR: its width in bits, whether it is prefetchable, the address bits it decodes, the first device address it maps. -/
structure PciBar where
  bits : Nat
  prefetchable : Bool
  sizeLog : Nat
  base : Nat
  deriving DecidableEq, Repr

/-- What the one function presents in its configuration space. -/
structure Endpoint where
  vendor : BitVec 16
  device : BitVec 16
  revision : BitVec 8
  classCode : BitVec 24
  subVendor : BitVec 16
  subDevice : BitVec 16
  maxPayload : Nat
  maxReadRequest : Nat
  interruptPin : Nat
  msixVectors : Nat
  caps : List PciCap
  bar0 : PciBar
  bar2 : PciBar
  deriving DecidableEq, Repr

/-- R32, R35: the values. Subsystem IDs equal the vendor and device ID unless the part was ordered otherwise. -/
def endpoint : Endpoint where
  vendor := 0x1F6A
  device := 0x0064
  revision := 0x01
  classCode := 0x088000
  subVendor := (Config.orderedSubsystem.map (fun x => x.1)).getD 0x1F6A
  subDevice := (Config.orderedSubsystem.map (fun x => x.2)).getD 0x0064
  maxPayload := Sys2Proof.maxPayload
  maxReadRequest := 512
  interruptPin := 0
  msixVectors := 64
  caps := [.pciExpress, .powerManagement, .msix, .advancedErrors, .functionReset]
  bar0 := ⟨32, false, 25, 0⟩
  bar2 := ⟨64, false, 31, 0x10000000000⟩

/-- R33: from PERST# release to the first answer to a configuration request, at most, ms. -/
def configAnswerMs : Nat := 100

/-- The device address of an offset in BAR0 or BAR2 (R35). -/
def barAddr (bar0 : Bool) (off : Nat) : Nat :=
  let b := if bar0 then endpoint.bar0 else endpoint.bar2
  b.base + off % 2 ^ b.sizeLog

/-! ## Vectors (R55) -/

/-- This member is the root. -/
def State.isRoot (s : State) : Bool := s.bit R.pciLink_root

/-- Vector `v` is in SENT. -/
def State.vecSent (s : State) (v : Nat) : Bool := s.arrBit R.sysIrqVstatLo v
/-- The pending bit of vector `v`. -/
def State.vecPend (s : State) (v : Nat) : Bool := s.arrBit (R.pciPba 0) v
/-- The entry or the function is masked. -/
def State.vecMasked (s : State) (v : Nat) : Bool := s.host.funcMask || s.regBit (R.pciMsix (4 * v + 3)) 0

/-- The message leaves, and the vector is SENT. -/
def vecSend (v : Nat) (s : State) : State :=
  ((s.emit (.msix v)).setArrBit (R.pciPba 0) v false).setArrBit R.sysIrqVstatLo v true

/-- MSIX_MESSAGE_SEND: a message that is masked, or that the link, D3hot or Bus Master Enable holds (R34), is pending. -/
def vecMessage (v : Nat) (s : State) : State :=
  if s.vecMasked v || !s.hostOk then s.setArrBit (R.pciPba 0) v true else vecSend v s

/-- Vector `v` in IDLE acts on being asserted. -/
def vecTry (v : Nat) (s : State) : State :=
  if s.isRoot && s.host.msixEn && s.vecAsserted v && !s.vecSent v then vecMessage v s else s

/-- Vector `v` acts on being unmasked. -/
def vecUnmask (v : Nat) (s : State) : State :=
  if s.vecMasked v then s
  else if s.vecPend v && !s.vecAsserted v then s.setArrBit (R.pciPba 0) v false
  else if s.vecPend v then (if s.hostOk then vecSend v s else s)
  else vecTry v s

/-- Messages that R34 holds leave once the endpoint can send. -/
def sendHeld (s : State) : State :=
  iterUp 64 (fun v (s : State) => if s.vecPend v && !s.vecMasked v && s.hostOk then vecSend v s else s) s

/-- Every vector to IDLE, pending bits cleared. -/
def vecClear (s : State) : State :=
  iterUp 2 (fun k (s : State) => (s.setReg (R.sysIrqVstatLo + 4 * k) 0).setReg (R.pciPba k) 0) s

/-- The effect of a write to SYS_IRQ_ACK. -/
def irqAckEffect (v : Word) (s : State) : State :=
  let n := R.sysIrqAck_vec.of v
  if !s.vecSent n then s
  else if s.vecAsserted n then vecMessage n s
  else s.setArrBit R.sysIrqVstatLo n false

/-- SYS_IRQ_ACK. -/
def execSysIrqAck (m : Master) (v : Word) (s : State) := done (s.guarded m.val .sys (irqAckEffect v))

/-- A rise of the OR of enabled sources on a member other than the root sends a forward message (R56). -/
def forwardRise (s : State) : State :=
  if !s.isRoot && s.anyRouted && !s.host.fwdOr then { s.emit .forward with host := { s.host with fwdOr := true } } else s

/-- VECTOR_ASSERT. -/
def execVectorAssert (v : Fin 64) (s : State) := done (if s.isRoot then vecTry v.val s else forwardRise s)

/-- A write that clears the mask bit of an entry of the MSI-X table. -/
def entryUnmask (v : Nat) (s : State) : State := vecUnmask v (s.setRegBit (R.pciMsix (4 * v + 3)) 0 false)

/-- MSIX_UNMASK: the mask bit of an entry, by a host write to the table, or the function mask. -/
def execMsixUnmask (v : Option (Fin 64)) (s : State) :=
  match v with
  | some v => done (s.guarded 0 .pci (entryUnmask v.val))
  | none => done (iterUp 64 vecUnmask { s with host := { s.host with funcMask := false } })

/-- MSIX_ENABLE: with or without the function mask. -/
def execMsixEnable (masked : Bool) (s : State) :=
  done (iterUp 64 vecUnmask (iterUp 64 vecTry { s with host := { s.host with msixEn := true, funcMask := masked } }))

/-- MSIX_DISABLE. -/
def execMsixDisable (s : State) := done (vecClear { s with host := { s.host with msixEn := false } })

/-! ## Forward messages (R56) -/

/-- FORWARD_MESSAGE: from member `m`, at the root. -/
def execForwardMessage (m : Fin 64) (s : State) := done (if s.isRoot && m.val != 0 then s.setArrBit R.sysRmtPendLo m.val true else s)

/-- FORWARD_REPEAT. -/
def execForwardRepeat (s : State) :=
  done (if !s.isRoot && s.anyRouted then { s.emit .forward with host := { s.host with fwdOr := true } } else s)

/-! ## The endpoint (R33, R34, R345) -/

/-- Host reads in flight to remote members are discarded: their answers count as late. -/
def dropReads (s : State) : State :=
  { s with host := { s.host with remote := s.host.remote.filter (fun (r : RemoteReq) => r.write)
                                 late := s.host.late ++ (s.host.remote.filter (fun (r : RemoteReq) => !r.write)).map (fun (r : RemoteReq) => r.tag) } }

/-- SPEED, WIDTH and UP. -/
def State.setLink (s : State) (speed width : Nat) (up : Bool) : State :=
  ((s.put R.pciLink_speed speed).put R.pciLink_width width).putBit R.pciLink_up up

/-- The PCI page, with its MSI-X table and its header, at reset values; PCI_LINK keeps what the link and the fabric hold in it. -/
def pciPageReset (s : State) : State :=
  let keep := s.reg R.pciLink
  ({ s with regs := s.regs.filter (fun (e : Nat × Word) => decide (e.1 < 0x1D000) || decide (0x1E000 ≤ e.1))
            hdrs := tset {} s.hdrs Page.pci.idx {} }).setReg R.pciLink keep

/-- PERST_RELEASE (R33). -/
def execPerstRelease (s : State) := done { s with host := { s.host with perst := false } }

/-- PERST_ASSERT (R345): the endpoint and the PCI page take their reset values. -/
def execPerstAssert (s : State) :=
  let s := vecClear (dropReads (pciPageReset (s.setLink 0 0 false)))
  done { s with host := { s.host with perst := true, d3hot := false, busMaster := false, msixEn := false, funcMask := false } }

/-- PCIE_LINK_DOWN (R34): link down or hot reset. -/
def execPcieLinkDown (s : State) := done (dropReads (s.setLink 0 0 false))

/-- PCIE_LINK_RETRAIN (R34): the rate (0 for 2.5, 1 for 5, 2 for 8 GT/s) and whether two lanes are up. -/
def execPcieLinkRetrain (speed : Fin 3) (wide : Bool) (s : State) :=
  done (if s.host.perst then s else sendHeld (s.setLink (speed.val + 1) (if wide then 2 else 1) true))

/-- PCIE_D3HOT (R34). -/
def execPcieD3hot (s : State) := done { s with host := { s.host with d3hot := true } }

/-- D0_ENTRY (R34). -/
def execD0Entry (s : State) := done (sendHeld { s with host := { s.host with d3hot := false } })

/-- BUS_MASTER_ENABLE (R34). -/
def execBusMasterEnable (s : State) := done (sendHeld { s with host := { s.host with busMaster := true } })

/-- A channel whose descriptor addresses host memory. -/
def State.chOnHost (s : State) (n : Nat) : Bool :=
  let host := fun (a : Nat) => match s.target a with | .hostMem _ => true | _ => false
  let c := s.chan n
  s.chSt n == chRUNNING && (host c.desc || match c.words with | some ws => host (dSrc ws) || host (dDst ws) | none => false)

/-- FUNCTION_LEVEL_RESET (R34): host memory is out of reach while it is under way (R338). -/
def execFunctionLevelReset (s : State) :=
  let keep := s.host.perst
  let t := iterUp 16 (fun n (s : State) => if s.chOnHost n then chFail n 5 s else s) { s with host := { s.host with perst := true } }
  done (vecClear (pciPageReset { t with host := { t.host with perst := keep } }))

end Sys2Proof.Machine
end

