-- ==== Sys2Proof/Machine/Bus.lean ====
section
/-! DEFINITION. Accesses to register space and memory: widths, reserved offsets, LOCK, and the effect of a write by its address
(R6, R33, R42, R43, R46, R47); host accesses through the BARs and accesses between members (R35 to R38, R267). -/

namespace Sys2Proof.Machine

/-! ## Register writes -/

/-- The effect of a write to a register of the SYS page. -/
def sysFx (m o : Nat) (v : Word) (s : State) : State :=
  if o = 0x040 then profileEffect v s
  else if o = 0x048 then rstCmdEffect m v s
  else if o = 0x05C then cfgCmdEffect m v {} s
  else if o = 0x108 then irqAckEffect v s
  else s.storeReg o v

/-- The effect of a write to a register of the PCI page. -/
def pciFx (o : Nat) (v : Word) (s : State) : State :=
  let t := s.storeReg (0x1D000 + o) v
  let k := (o - 0x400) / 16
  if 0x400 ≤ o ∧ o < 0x800 ∧ o % 16 = 12 then (if s.regBit (0x1D000 + o) 0 && !v.getLsbD 0 then vecUnmask k t else t) else t

/-- The effect of a write to the register at page offset `o`. -/
def pageFx (m : Nat) (p : Page) (o : Nat) (v : Word) (s : State) : State :=
  match p with
  | .sys => sysFx m o v s
  | .pci => pciFx o v s
  | p => blockFx m p o v s

/-- A write of a 32-bit word by master `m` to an offset of a page (R43, R47). -/
def pageWrite (m : Nat) (p : Page) (o : Nat) (v : Word) (s : State) : State :=
  if o = 0x014 then s.ungated m p (irqEnEffect p v)
  else if o = 0x018 then s.ungated m p (pendEffect p v)
  else if o = 0x01C then s.ungated m p (lockEffect p v)
  else if o = 0x024 then s.ungated m p (errEffect p)
  else if 0x028 ≤ o ∧ o < 0x040 then s.ungated m p (fun t => t.raise p 0x0003 m)
  else if o < 0x040 ∧ o ≠ 0x008 then s
  else s.guarded m p (fun t => if o = 0x008 ∨ (regRow (pageBase p + o)).isSome then pageFx m p o v t else t.raise p 0x0003 m)

/-- A write of a 32-bit word to an aligned offset of register space; a reserved range outside any page records in SYS ERR. -/
def regWrite (m a : Nat) (v : Word) (s : State) : State :=
  match pageOf a with
  | some p => pageWrite m p (a - pageBase p) v s
  | none => if s.hostRefused m then s else s.raise .sys 0x0003 m

/-- R42: the width and alignment register space accepts. -/
def widthOk (a bytes : Nat) : Bool := (bytes == 4 && a % 4 == 0) || (bytes == 8 && a % 8 == 0)

/-- An access of a refused width records WIDTH. -/
def widthFault (m a : Nat) (s : State) : State :=
  match pageOf a with
  | some p => s.ungated m p (fun t => t.raise p 0x0002 m)
  | none => if s.hostRefused m then s else s.raise .sys 0x0002 m

/-- A write by a master to register space (R42). -/
def busWrite (m a bytes : Nat) (v : BitVec 64) (s : State) : State :=
  if !widthOk a bytes then widthFault m a s
  else
    let s := regWrite m a (v.setWidth 32) s
    if bytes = 8 then regWrite m (a + 4) ((v >>> 32).setWidth 32) s else s

/-- What a 32-bit read leaves: the latched high word (R52), and the FIFO entry the DMA takes (R215). -/
def regReadFx (m a : Nat) (s : State) : State :=
  match pageOf a with
  | some p => if s.bootGate m p then s else (let t := s.latchHigh m a; if m = 1 ∧ a = R.hkaFifoData then hkaPop t else t)
  | none => s

/-- A read by a master of register space (R42): the bytes. -/
def busLoad (m a bytes : Nat) (s : State) : List Byte × State :=
  if !widthOk a bytes then (List.replicate bytes 0, widthFault m a s)
  else
    let t := regReadFx m a s
    if bytes = 8 then (leBytes 4 (s.busRead m a).toNat ++ leBytes 4 (t.busRead m (a + 4)).toNat, regReadFx m (a + 4) t)
    else (leBytes 4 (s.busRead m a).toNat, t)

/-- REGISTER_WRITE: a write of `bytes` bytes at a member offset. -/
def execRegisterWrite (m : Master) (addr bytes : Nat) (v : BitVec 64) (s : State) := done (busWrite m.val addr bytes v s)

/-! ## Host accesses and accesses between members -/

/-- An access by master `m` to this member at a member offset: the bytes read, none where it is refused (R36, R328). -/
def localAccess (m a len : Nat) (data : Option (List Byte)) (s : State) : Option (List Byte) × State :=
  if a < 0x800000 then
    match data with
    | some bs => (some [], busWrite m a len (BitVec.ofNat 64 (leNat bs)) s)
    | none => let r := busLoad m a len s; (some r.1, r.2)
  else
    match data with
    | some bs => let r := s.devWrite m a bs; (if r.1.isSome then none else some [], r.2)
    | none => let r := s.devRead m a len; (if r.1.isSome then none else some r.2.1, r.2.2)

/-- All-ones in every byte. -/
def allOnes (len : Nat) : List Byte := List.replicate len 0xFF

/-- The answer to a host access at a device address: a read that was refused is answered with all-ones. -/
def hostAnswer (a len : Nat) (data : Option (List Byte)) (r : Option (List Byte) × State) : State :=
  if data.isSome then r.2 else r.2.emit (.readData 0 a (r.1.getD (allOnes len)))

/-- A host access sent to member `n` (R37, R267); `ans` is its answer within 40 µs, where there is one. -/
def hostSend (n off len : Nat) (data ans : Option (List Byte)) (s : State) : State :=
  let a := 0x10000000000 + n * 0x2000000 + off
  if !s.regionOk 0 a len data.isSome then hostAnswer a len data (none, s.memFault .region 0 a data.isSome)
  else
    let tag := s.host.nextTag
    let s := remoteFrames n off len data s
    match (if s.memberUp n then ans else none) with
    | some bs => hostAnswer a len data (some bs, s)
    | none => { s with host := { s.host with remote := s.host.remote ++ [⟨tag, n, off, data.isSome, len⟩] } }

/-- HOST_REMOTE_ACCESS: a host access through BAR0 or at an offset of BAR2: a write of `data`, or a read of `len` bytes; `errs`
are the ECC errors a local read meets, `ans` a remote member's answer. -/
def execHostRemoteAccess (bar0 : Bool) (off : BitVec 31) (len : Nat) (data : Option (List Byte)) (errs : List (Nat × Bool))
    (ans : Option (List Byte)) (s : State) :=
  let off := off.toNat
  let len := match data with | some bs => bs.length | none => len
  if s.host.perst || s.host.d3hot || !s.bit R.pciLink_up then done s
  else if !bar0 && !s.isRoot then
    done (hostAnswer (0x10000000000 + off) len data (none, s.raise .pci 0x0101 0))
  else if bar0 || off / 0x2000000 == 0 then
    let a := off % 0x2000000
    done (hostAnswer a len data (localAccess 0 a len data (errs.foldl (fun (s : State) e => eccFound 0 e s) s)))
  else done (hostSend (off / 0x2000000) (off % 0x2000000) len data ans s)

/-- REMOTE_ACCESS_TIMEOUT (R37, R267). -/
def execRemoteAccessTimeout (tag : Nat) (s : State) :=
  match s.host.remote.find? (fun r => r.tag == tag) with
  | none => done s
  | some r =>
    let s := { s with host := { s.host with remote := s.host.remote.filter (fun (x : RemoteReq) => x.tag != tag), late := s.host.late ++ [tag] } }
    let s := s.raise .pci 0x0004 0
    done (if r.write then s else s.emit (.readData 0 (0x10000000000 + r.member * 0x2000000 + r.addr) (allOnes r.len)))

/-- LATE_ANSWER_DISCARD (R37, R267). -/
def execLateAnswerDiscard (tag : Nat) (s : State) :=
  done { s with host := { s.host with late := s.host.late.filter (fun (t : Nat) => t != tag) } }

/-- REMOTE_ACCESS_FRAME (R267): an access by member `src` at a member offset, under the regions of master 6. One that is refused is not
answered, and a member without a number cannot be addressed (R261). -/
def execRemoteAccessFrame (src : Fin 64) (off : BitVec 25) (len : Nat) (data : Option (List Byte)) (errs : List (Nat × Bool)) (s : State) :=
  let a := off.toNat
  let len := match data with | some bs => bs.length | none => len
  if s.get R.galStat_num ≠ 1 then done s
  else
  let s := errs.foldl (fun (s : State) e => eccFound 6 e s) s
  if 0x800000 ≤ a ∨ s.regionOk 6 a len data.isSome then
    let r := localAccess 6 a len data s
    done (match r.1 with | some bs => r.2.emit (.remoteAnswer src.val a bs) | none => r.2)
  else done (s.memFault .region 6 a data.isSome)

end Sys2Proof.Machine
end

