-- ==== Sys2Proof/Machine/Dma.lean ====
section
/-! DEFINITION. What a DMA channel moves: elements, their accesses to registers, memory and other members, and the steps that end a
descriptor (R337 to R341). Answers of other members come with the command, one for each access to them, none where none came. -/

namespace Sys2Proof.Machine

/-- The answers still to come. -/
abbrev Answers := List (Option (List Byte))

/-- An element's read: its CODE, 0 where it is good, its bytes. -/
def elemRead (a n : Nat) (ans : Answers) (s : State) : Nat × List Byte × Answers × State :=
  match s.target a with
  | .reg x => let r := busLoad 1 x n s; (0, r.1, ans, r.2)
  | .member k o =>
    if !s.regionOk 1 a n false then (2, [], ans, s.memFault .region 1 a false)
    else
      let s := remoteFrames k o n none s
      match ans with
      | some bs :: rest => if s.memberUp k then (0, bs, rest, s) else (4, [], rest, s)
      | none :: rest => (4, [], rest, s)
      | [] => (4, [], [], s)
  | _ =>
    let r := s.devRead 1 a n
    match r.1 with | some f => (failCode f, [], ans, r.2.2) | none => (0, r.2.1, ans, r.2.2)

/-- An element's write. -/
def elemWrite (a : Nat) (bs : List Byte) (ans : Answers) (s : State) : Nat × Answers × State :=
  match s.target a with
  | .reg x => (0, ans, busWrite 1 x bs.length (BitVec.ofNat 64 (leNat bs)) s)
  | .member k o =>
    if !s.regionOk 1 a bs.length true then (2, ans, s.memFault .region 1 a true)
    else
      let s := remoteFrames k o bs.length (some bs) s
      match ans with
      | some _ :: rest => (if s.memberUp k then 0 else 4, rest, s)
      | none :: rest => (4, rest, s)
      | [] => (4, [], s)
  | _ =>
    let r := s.devWrite 1 a bs
    match r.1 with | some f => (failCode f, ans, r.2) | none => (0, ans, r.2)

/-- One element moves, in the order of R340. -/
def elemMove (n : Nat) (ans : Answers) (s : State) : Nat × Answers × State :=
  let c := s.chan n
  let ws := c.words.getD []
  let k := if c.backward then dTotal ws - 1 - c.moved else c.moved
  let r := elemRead (dAddr ws 0 k) (dSize ws) ans s
  if r.1 ≠ 0 then (r.1, r.2.2.1, r.2.2.2)
  else
    let w := elemWrite (dAddr ws 1 k) r.2.1 r.2.2.1 r.2.2.2
    if w.1 ≠ 0 then w else (0, w.2.1, w.2.2.setChan n { w.2.2.chan n with moved := c.moved + 1 })

/-- Up to `k` elements move; the first failure ends them. -/
def elemMoves (n : Nat) : Nat → Answers → State → Nat × State
  | 0, _, s => (0, s)
  | k + 1, ans, s =>
    let c := s.chan n
    if s.chSt n ≠ chRUNNING ∨ c.words.isNone ∨ dTotal (c.words.getD []) ≤ c.moved then (0, s)
    else
      let r := elemMove n ans s
      if r.1 ≠ 0 then (r.1, r.2.2) else elemMoves n k r.2.1 r.2.2

/-- The channel's descriptor waits for HKA requests. -/
def State.chWaits (s : State) (n : Nat) : Bool := dReq ((s.chan n).words.getD [])

/-- DMA_CUR_INTERVAL: `k` elements have moved since the last step of this channel. -/
def execDmaCurInterval (n : Fin 16) (k : Nat) (ans : List (Option (List Byte))) (s : State) :=
  let n := n.val
  if s.chSt n ≠ chRUNNING then done s
  else
    let r := elemMoves n (if s.chWaits n then 0 else k) ans s
    done (if r.1 ≠ 0 then chFail n r.1 r.2 else chCur n r.2)

/-- DMA_HKA_REQUEST (R337). -/
def execDmaHkaRequest (n : Fin 16) (ans : List (Option (List Byte))) (s : State) :=
  let n := n.val
  if s.chSt n = chRUNNING ∧ s.chWaits n = true ∧ s.get R.hkaCtrl_dma_ch = n ∧ s.hka.fifo.isEmpty = false then
    let r := elemMoves n 1 ans s
    done (if r.1 ≠ 0 then chFail n r.1 r.2 else r.2)
  else done s

/-- The end of the chain (R341). -/
def chEnd (n : Nat) (s : State) : State :=
  let c := s.chan n
  (((s.setLast n c.desc).setChSt n chATEND).setChan n { c with words := none }).chIrq n 2

/-- A descriptor's writes are complete (R339, R341). -/
def chComplete (n : Nat) (s : State) : State :=
  let l := chLink n s
  if l.1 ≠ 0 then chFail n l.1 l.2.2.2
  else
    let s := chWriteBack n 0 l.2.2.2
    let s := s.putBit (R.dmaChStat_kpend n) (s.bit (R.dmaChStat_kpend n) && !l.2.1)
    if l.2.1 then chEnd n s else chNext n l.2.2.1 s

/-- DMA_DESCRIPTOR_DONE: the elements still to move are moved first. -/
def execDmaDescriptorDone (n : Fin 16) (ans : List (Option (List Byte))) (s : State) :=
  let n := n.val
  let c := s.chan n
  if s.chSt n ≠ chRUNNING ∨ c.words.isNone then done s
  else
    let total := dTotal (c.words.getD [])
    let r := elemMoves n (if s.chWaits n then 0 else total - c.moved) ans s
    if r.1 ≠ 0 then done (chFail n r.1 r.2)
    else if (r.2.chan n).moved < total then done r.2
    else done (chComplete n r.2)

/-- The effect of ABORT: `k` elements, the one in flight among them, have moved since the channel's last step. -/
def abortEffect (n k : Nat) (ans : Answers) (v : Word) (s : State) : State :=
  let r := elemMoves n (if s.chWaits n then 0 else k) ans s
  if r.1 ≠ 0 then chCtrlEffect n v (chFail n r.1 r.2) else chCtrlEffect n v r.2

/-- DMA_ABORT: a write to DMA_CHn_CTRL with ABORT 1. -/
def execDmaAbort (m : Master) (n : Fin 16) (v : Word) (k : Nat) (ans : List (Option (List Byte))) (s : State) :=
  done (s.guarded m.val .dma (abortEffect n.val k ans (v ||| 4#32)))

end Sys2Proof.Machine
end

