-- ==== Sys2Proof/Machine/Dispatch.lean ====
section
/-! DEFINITION. One arm for each command of the opcode table, each a direct call of its meaning. -/

namespace Sys2Proof.Machine

def exec (i : Instr) (s : State) : Host.Outcome State Fault Refusal :=
  match i with
  | .registerWrite m addr bytes v => Sys2Proof.Machine.execRegisterWrite m addr bytes v s
  | .lockWrite m p v => Sys2Proof.Machine.execLockWrite m p v s
  | .errWrite m p v => Sys2Proof.Machine.execErrWrite m p v s
  | .irqPendClear m p v => Sys2Proof.Machine.execIrqPendClear m p v s
  | .irqEnWrite m p v => Sys2Proof.Machine.execIrqEnWrite m p v s
  | .resultLowWordRead m addr => Sys2Proof.Machine.execResultLowWordRead m addr s
  | .perstRelease => Sys2Proof.Machine.execPerstRelease s
  | .pcieLinkDown => Sys2Proof.Machine.execPcieLinkDown s
  | .pcieD3hot => Sys2Proof.Machine.execPcieD3hot s
  | .functionLevelReset => Sys2Proof.Machine.execFunctionLevelReset s
  | .busMasterEnable => Sys2Proof.Machine.execBusMasterEnable s
  | .hostRemoteAccess bar0 off len data errs ans => Sys2Proof.Machine.execHostRemoteAccess bar0 off len data errs ans s
  | .remoteAccessTimeout tag => Sys2Proof.Machine.execRemoteAccessTimeout tag s
  | .lateAnswerDiscard tag => Sys2Proof.Machine.execLateAnswerDiscard tag s
  | .vectorAssert v => Sys2Proof.Machine.execVectorAssert v s
  | .msixUnmask v => Sys2Proof.Machine.execMsixUnmask v s
  | .msixDisable => Sys2Proof.Machine.execMsixDisable s
  | .sysIrqAck m v => Sys2Proof.Machine.execSysIrqAck m v s
  | .forwardMessage m => Sys2Proof.Machine.execForwardMessage m s
  | .forwardRepeat => Sys2Proof.Machine.execForwardRepeat s
  | .afeAinCfgWrite m n v => Sys2Proof.Machine.execAfeAinCfgWrite m n v s
  | .afeCtrlWrite m v => Sys2Proof.Machine.execAfeCtrlWrite m v s
  | .afeBsiCfgWrite m n v => Sys2Proof.Machine.execAfeBsiCfgWrite m n v s
  | .modulatorSettled n => Sys2Proof.Machine.execModulatorSettled n s
  | .overrangeDetect n => Sys2Proof.Machine.execOverrangeDetect n s
  | .modulatorLoopReset n => Sys2Proof.Machine.execModulatorLoopReset n s
  | .openWireMeasurement n => Sys2Proof.Machine.execOpenWireMeasurement n s
  | .probePulse n => Sys2Proof.Machine.execProbePulse n s
  | .returnedClockLost g => Sys2Proof.Machine.execReturnedClockLost g s
  | .returnedClockRecovered g => Sys2Proof.Machine.execReturnedClockRecovered g s
  | .manchesterTransitionLost n => Sys2Proof.Machine.execManchesterTransitionLost n s
  | .manchesterViolation n inWindow => Sys2Proof.Machine.execManchesterViolation n inWindow s
  | .bsiStreamRecovered n => Sys2Proof.Machine.execBsiStreamRecovered n s
  | .identicalBitRun n run => Sys2Proof.Machine.execIdenticalBitRun n run s
  | .chainEnable m v => Sys2Proof.Machine.execChainEnable m v s
  | .chainDisable m v => Sys2Proof.Machine.execChainDisable m v s
  | .hbSwapRequest m v => Sys2Proof.Machine.execHbSwapRequest m v s
  | .hbSwapDone k => Sys2Proof.Machine.execHbSwapDone k s
  | .coefWrite m bank k v => Sys2Proof.Machine.execCoefWrite m bank k v s
  | .dfcIntWrite m n v => Sys2Proof.Machine.execDfcIntWrite m n v s
  | .integratorSettled n => Sys2Proof.Machine.execIntegratorSettled n s
  | .syncCmd m v => Sys2Proof.Machine.execSyncCmd m v s
  | .syncBallEdge => Sys2Proof.Machine.execSyncBallEdge s
  | .syncAlignment => Sys2Proof.Machine.execSyncAlignment s
  | .gridEnable m v => Sys2Proof.Machine.execGridEnable m v s
  | .gridDisable m v => Sys2Proof.Machine.execGridDisable m v s
  | .rowWrite clocks ain lines => Sys2Proof.Machine.execRowWrite clocks ain lines s
  | .rowSeal => Sys2Proof.Machine.execRowSeal s
  | .trackerRelease => Sys2Proof.Machine.execTrackerRelease s
  | .trackerStale => Sys2Proof.Machine.execTrackerStale s
  | .trackerUpdate row inc => Sys2Proof.Machine.execTrackerUpdate row inc s
  | .gridAlign row inc pos => Sys2Proof.Machine.execGridAlign row inc pos s
  | .gridAlignCmd m v => Sys2Proof.Machine.execGridAlignCmd m v s
  | .gridTrkWrite m v => Sys2Proof.Machine.execGridTrkWrite m v s
  | .gridQCfgWrite m q v => Sys2Proof.Machine.execGridQCfgWrite m q v s
  | .svFrameReceive f => Sys2Proof.Machine.execSvFrameReceive f s
  | .svSampleRelease k => Sys2Proof.Machine.execSvSampleRelease k s
  | .svsSlotCfgWrite m k w v => Sys2Proof.Machine.execSvsSlotCfgWrite m k w v s
  | .svsCountInterval => Sys2Proof.Machine.execSvsCountInterval s
  | .svPublishFrame p => Sys2Proof.Machine.execSvPublishFrame p s
  | .svStreamEnable m p v => Sys2Proof.Machine.execSvStreamEnable m p v s
  | .pheDone vs => Sys2Proof.Machine.execPheDone vs s
  | .pheLate => Sys2Proof.Machine.execPheLate s
  | .pheQCfgWrite m q v => Sys2Proof.Machine.execPheQCfgWrite m q v s
  | .pheGrpCfgWrite m g v => Sys2Proof.Machine.execPheGrpCfgWrite m g v s
  | .pheFcfgWrite m v => Sys2Proof.Machine.execPheFcfgWrite m v s
  | .elementPhase2 p vs => Sys2Proof.Machine.execElementPhase2 p vs s
  | .crucibleCommit p cycles => Sys2Proof.Machine.execCrucibleCommit p cycles s
  | .peaLiveGo m v => Sys2Proof.Machine.execPeaLiveGo m v s
  | .peaPairStatInterval => Sys2Proof.Machine.execPeaPairStatInterval s
  | .elementTimerExpiry e => Sys2Proof.Machine.execElementTimerExpiry e s
  | .resetTimerExpiry e => Sys2Proof.Machine.execResetTimerExpiry e s
  | .operateHoldExpiry e => Sys2Proof.Machine.execOperateHoldExpiry e s
  | .polarisingMemoryExpiry e => Sys2Proof.Machine.execPolarisingMemoryExpiry e s
  | .qualityHoldExpiry e => Sys2Proof.Machine.execQualityHoldExpiry e s
  | .tripMatrixPass => Sys2Proof.Machine.execTripMatrixPass s
  | .strikeAssert n clocks ain lines => Sys2Proof.Machine.execStrikeAssert n clocks ain lines s
  | .strikeClear n clocks ain lines => Sys2Proof.Machine.execStrikeClear n clocks ain lines s
  | .strikeBlockChange n => Sys2Proof.Machine.execStrikeBlockChange n s
  | .trmStkBlkWrite m n v => Sys2Proof.Machine.execTrmStkBlkWrite m n v s
  | .minonExpiry k => Sys2Proof.Machine.execMinonExpiry k s
  | .trmLatchRst m v => Sys2Proof.Machine.execTrmLatchRst m v s
  | .outputFrame die ok => Sys2Proof.Machine.execOutputFrame die ok s
  | .statusFrame die raw pins foh load => Sys2Proof.Machine.execStatusFrame die raw pins foh load s
  | .linklossTimeout die => Sys2Proof.Machine.execLinklossTimeout die s
  | .fioCtrlWrite m v => Sys2Proof.Machine.execFioCtrlWrite m v s
  | .inputFilterStep n => Sys2Proof.Machine.execInputFilterStep n s
  | .fiFltWrite m n v => Sys2Proof.Machine.execFiFltWrite m n v s
  | .foCurrentLimit k => Sys2Proof.Machine.execFoCurrentLimit k s
  | .ovlEntry k => Sys2Proof.Machine.execOvlEntry k s
  | .ovlRetry k => Sys2Proof.Machine.execOvlRetry k s
  | .demagEnd k => Sys2Proof.Machine.execDemagEnd k s
  | .thermalShutdown k => Sys2Proof.Machine.execThermalShutdown k s
  | .thermalCooled k => Sys2Proof.Machine.execThermalCooled k s
  | .foMismatchTimer k => Sys2Proof.Machine.execFoMismatchTimer k s
  | .clampEventEnd k energy => Sys2Proof.Machine.execClampEventEnd k energy s
  | .clampAverage => Sys2Proof.Machine.execClampAverage s
  | .tcsTimer k low => Sys2Proof.Machine.execTcsTimer k low s
  | .vfLow g => Sys2Proof.Machine.execVfLow g s
  | .uvlo g => Sys2Proof.Machine.execUvlo g s
  | .vfRecover g => Sys2Proof.Machine.execVfRecover g s
  | .vfRecoveryTimer g => Sys2Proof.Machine.execVfRecoveryTimer g s
  | .fioRearm m v => Sys2Proof.Machine.execFioRearm m v s
  | .fohKeepaliveLoss => Sys2Proof.Machine.execFohKeepaliveLoss s
  | .hkaGo m v => Sys2Proof.Machine.execHkaGo m v s
  | .hkaPassPeriod => Sys2Proof.Machine.execHkaPassPeriod s
  | .hkaWarmupDone => Sys2Proof.Machine.execHkaWarmupDone s
  | .hkaConversionDone code ovr => Sys2Proof.Machine.execHkaConversionDone code ovr s
  | .hkaUrgentRequest m v => Sys2Proof.Machine.execHkaUrgentRequest m v s
  | .hkaFifoPop => Sys2Proof.Machine.execHkaFifoPop s
  | .hkaTemperatureSample sensor code ovr => Sys2Proof.Machine.execHkaTemperatureSample sensor code ovr s
  | .logicCycleLead => Sys2Proof.Machine.execLogicCycleLead s
  | .logicSnapshot gen => Sys2Proof.Machine.execLogicSnapshot gen s
  | .inputImageReceived m image => Sys2Proof.Machine.execInputImageReceived m image s
  | .logicExec memErr => Sys2Proof.Machine.execLogicExec memErr s
  | .logicOut => Sys2Proof.Machine.execLogicOut s
  | .sliceReceived slice => Sys2Proof.Machine.execSliceReceived slice s
  | .sliceApplyOutsync => Sys2Proof.Machine.execSliceApplyOutsync s
  | .logicWatchdog inst => Sys2Proof.Machine.execLogicWatchdog inst s
  | .masterLost => Sys2Proof.Machine.execMasterLost s
  | .stopReceived cause => Sys2Proof.Machine.execStopReceived cause s
  | .lgeStart m v => Sys2Proof.Machine.execLgeStart m v s
  | .lgeStop m v => Sys2Proof.Machine.execLgeStop m v s
  | .lgeCtrlWrite m v => Sys2Proof.Machine.execLgeCtrlWrite m v s
  | .lgeWdtWrite m v => Sys2Proof.Machine.execLgeWdtWrite m v s
  | .retainSave => Sys2Proof.Machine.execRetainSave s
  | .retainSaveDone => Sys2Proof.Machine.execRetainSaveDone s
  | .forceSet m v => Sys2Proof.Machine.execForceSet m v s
  | .forceClear m v => Sys2Proof.Machine.execForceClear m v s
  | .forceClearAll m v => Sys2Proof.Machine.execForceClearAll m v s
  | .recastPrepare m v img => Sys2Proof.Machine.execRecastPrepare m v img s
  | .iomapAck m gen map safe => Sys2Proof.Machine.execIomapAck m gen map safe s
  | .noack => Sys2Proof.Machine.execNoack s
  | .recastPrepareDone => Sys2Proof.Machine.execRecastPrepareDone s
  | .recastSwap m v => Sys2Proof.Machine.execRecastSwap m v s
  | .swapStart cycles => Sys2Proof.Machine.execSwapStart cycles s
  | .swapOverrun => Sys2Proof.Machine.execSwapOverrun s
  | .recastAbort m v => Sys2Proof.Machine.execRecastAbort m v s
  | .recastRollback m v => Sys2Proof.Machine.execRecastRollback m v s
  | .ptpAnnounceReceived p a => Sys2Proof.Machine.execPtpAnnounceReceived p a s
  | .ptpSyncReceived p num sender t1 lag => Sys2Proof.Machine.execPtpSyncReceived p num sender t1 lag s
  | .pdelayReqReceived p num seq => Sys2Proof.Machine.execPdelayReqReceived p num seq s
  | .pdelayRespReceived p num roundTrip turn => Sys2Proof.Machine.execPdelayRespReceived p num roundTrip turn s
  | .announceTimeout d => Sys2Proof.Machine.execAnnounceTimeout d s
  | .syncTimeout d => Sys2Proof.Machine.execSyncTimeout d s
  | .wallRevert => Sys2Proof.Machine.execWallRevert s
  | .ppsInEdge dev => Sys2Proof.Machine.execPpsInEdge dev s
  | .ppsEdgeMissing => Sys2Proof.Machine.execPpsEdgeMissing s
  | .timWallSet m v => Sys2Proof.Machine.execTimWallSet m v s
  | .gridTimeUpdate => Sys2Proof.Machine.execGridTimeUpdate s
  | .gridSet m v => Sys2Proof.Machine.execGridSet m v s
  | .accept m v => Sys2Proof.Machine.execAccept m v s
  | .fabricTimeMessage m wall grid wallAdj gridAdj wallSt gridSt => Sys2Proof.Machine.execFabricTimeMessage m wall grid wallAdj gridAdj wallSt gridSt s
  | .fabricTimeTimeout => Sys2Proof.Machine.execFabricTimeTimeout s
  | .xoLost => Sys2Proof.Machine.execXoLost s
  | .timSnapCmd m v => Sys2Proof.Machine.execTimSnapCmd m v s
  | .ppsOutEdge => Sys2Proof.Machine.execPpsOutEdge s
  | .timDomainCfgWrite m d v => Sys2Proof.Machine.execTimDomainCfgWrite m d v s
  | .portSignalDetect p => Sys2Proof.Machine.execPortSignalDetect p s
  | .portBlockLoss p => Sys2Proof.Machine.execPortBlockLoss p s
  | .helloReceived p serial id port => Sys2Proof.Machine.execHelloReceived p serial id port s
  | .portTrainComplete p => Sys2Proof.Machine.execPortTrainComplete p s
  | .frameCrcError p => Sys2Proof.Machine.execFrameCrcError p s
  | .portFaultRetry p => Sys2Proof.Machine.execPortFaultRetry p s
  | .linkStateFlood origin seq links => Sys2Proof.Machine.execLinkStateFlood origin seq links s
  | .routeUpdate => Sys2Proof.Machine.execRouteUpdate s
  | .linkDelayMeasurement p delay => Sys2Proof.Machine.execLinkDelayMeasurement p delay s
  | .discovery l => Sys2Proof.Machine.execDiscovery l s
  | .remoteAccessFrame src off len data errs => Sys2Proof.Machine.execRemoteAccessFrame src off len data errs s
  | .fabricBitsFrame m bits => Sys2Proof.Machine.execFabricBitsFrame m bits s
  | .fabricBitsRefresh => Sys2Proof.Machine.execFabricBitsRefresh s
  | .fbiTimeout m => Sys2Proof.Machine.execFbiTimeout m s
  | .fbiHoldEnd n => Sys2Proof.Machine.execFbiHoldEnd n s
  | .galFbiWrite m n v => Sys2Proof.Machine.execGalFbiWrite m n v s
  | .barrier m v => Sys2Proof.Machine.execBarrier m v s
  | .broadcast m v => Sys2Proof.Machine.execBroadcast m v s
  | .snapshot m v => Sys2Proof.Machine.execSnapshot m v s
  | .gopReset m v => Sys2Proof.Machine.execGopReset m v s
  | .gopDelivery origin seq op tgt atMode at_ data => Sys2Proof.Machine.execGopDelivery origin seq op tgt atMode at_ data s
  | .gopInstant row at_ => Sys2Proof.Machine.execGopInstant row at_ s
  | .broadcastReceived origin seq data => Sys2Proof.Machine.execBroadcastReceived origin seq data s
  | .barrierArrive m v => Sys2Proof.Machine.execBarrierArrive m v s
  | .barrierRelease origin seq => Sys2Proof.Machine.execBarrierRelease origin seq s
  | .barrierTimeout arrived => Sys2Proof.Machine.execBarrierTimeout arrived s
  | .gopComplete seq acked late => Sys2Proof.Machine.execGopComplete seq acked late s
  | .cumulusFrameReceived k row first chans => Sys2Proof.Machine.execCumulusFrameReceived k row first chans s
  | .cumulusCutoff k => Sys2Proof.Machine.execCumulusCutoff k s
  | .cumulusTotalsReceived k origin row totals => Sys2Proof.Machine.execCumulusTotalsReceived k origin row totals s
  | .cumulusReturnBound k => Sys2Proof.Machine.execCumulusReturnBound k s
  | .cumulusJoin k echo => Sys2Proof.Machine.execCumulusJoin k echo s
  | .exclude m v => Sys2Proof.Machine.execExclude m v s
  | .include m v => Sys2Proof.Machine.execInclude m v s
  | .pairingFrame digest profile auth => Sys2Proof.Machine.execPairingFrame digest profile auth s
  | .pairingFrameSend => Sys2Proof.Machine.execPairingFrameSend s
  | .pairingTimeout => Sys2Proof.Machine.execPairingTimeout s
  | .authInChange level => Sys2Proof.Machine.execAuthInChange level s
  | .hbPulseReceived => Sys2Proof.Machine.execHbPulseReceived s
  | .hbPulseSend => Sys2Proof.Machine.execHbPulseSend s
  | .authMonostableExpiry => Sys2Proof.Machine.execAuthMonostableExpiry s
  | .healthLoss => Sys2Proof.Machine.execHealthLoss s
  | .healthRecovery => Sys2Proof.Machine.execHealthRecovery s
  | .claimWindowExpiry => Sys2Proof.Machine.execClaimWindowExpiry s
  | .claimConfirm => Sys2Proof.Machine.execClaimConfirm s
  | .backoffRetry => Sys2Proof.Machine.execBackoffRetry s
  | .shadowFrame drv latch minon => Sys2Proof.Machine.execShadowFrame drv latch minon s
  | .tripVectorHash row hash => Sys2Proof.Machine.execTripVectorHash row hash s
  | .handover m v => Sys2Proof.Machine.execHandover m v s
  | .clearUnfit m v => Sys2Proof.Machine.execClearUnfit m v s
  | .macRxFrame p bs fcs ref full => Sys2Proof.Machine.execMacRxFrame p bs fcs ref full s
  | .rxTailWrite m p r v => Sys2Proof.Machine.execRxTailWrite m p r v s
  | .txTailWrite m p r v => Sys2Proof.Machine.execTxTailWrite m p r v s
  | .txFrame p => Sys2Proof.Machine.execTxFrame p s
  | .txFrameComplete p => Sys2Proof.Machine.execTxFrameComplete p s
  | .pauseReceived p quanta => Sys2Proof.Machine.execPauseReceived p quanta s
  | .pauseExpiry p => Sys2Proof.Machine.execPauseExpiry p s
  | .macLinkChange p up rate => Sys2Proof.Machine.execMacLinkChange p up rate s
  | .macRingCfgWrite m p q w v => Sys2Proof.Machine.execMacRingCfgWrite m p q w v s
  | .macMaxlenWrite m p v => Sys2Proof.Machine.execMacMaxlenWrite m p v s
  | .gooseRetransmit d => Sys2Proof.Machine.execGooseRetransmit d s
  | .gooseFrameReceived f => Sys2Proof.Machine.execGooseFrameReceived f s
  | .gooseTalExpiry k => Sys2Proof.Machine.execGooseTalExpiry k s
  | .ginHoldEnd n => Sys2Proof.Machine.execGinHoldEnd n s
  | .eventArrival => Sys2Proof.Machine.execEventArrival s
  | .eventFlushPeriod => Sys2Proof.Machine.execEventFlushPeriod s
  | .eventFlushDone => Sys2Proof.Machine.execEventFlushDone s
  | .evrCursorWrite m v => Sys2Proof.Machine.execEvrCursorWrite m v s
  | .windowLoadDone => Sys2Proof.Machine.execWindowLoadDone s
  | .evrClearArm m v => Sys2Proof.Machine.execEvrClearArm m v s
  | .evrClearConfirm m v => Sys2Proof.Machine.execEvrClearConfirm m v s
  | .evrClearKeyExpiry => Sys2Proof.Machine.execEvrClearKeyExpiry s
  | .evrUserEvent m v => Sys2Proof.Machine.execEvrUserEvent m v s
  | .drcCtrlWrite m v => Sys2Proof.Machine.execDrcCtrlWrite m v s
  | .drcCmdTrig m v => Sys2Proof.Machine.execDrcCmdTrig m v s
  | .drcPostEnd => Sys2Proof.Machine.execDrcPostEnd s
  | .recordExtentWritten => Sys2Proof.Machine.execRecordExtentWritten s
  | .recordSeal => Sys2Proof.Machine.execRecordSeal s
  | .stoInit sectors eol lifeA lifeB mode => Sys2Proof.Machine.execStoInit sectors eol lifeA lifeB mode s
  | .stoRead m v data => Sys2Proof.Machine.execStoRead m v data s
  | .stoDelete m v => Sys2Proof.Machine.execStoDelete m v s
  | .stoKeep m v => Sys2Proof.Machine.execStoKeep m v s
  | .stoUnkeep m v => Sys2Proof.Machine.execStoUnkeep m v s
  | .stoSalvage m v => Sys2Proof.Machine.execStoSalvage m v s
  | .stoFormat m v => Sys2Proof.Machine.execStoFormat m v s
  | .stoDirent m v data => Sys2Proof.Machine.execStoDirent m v data s
  | .stoCommandDone => Sys2Proof.Machine.execStoCommandDone s
  | .cardTimeout => Sys2Proof.Machine.execCardTimeout s
  | .memBankCfgWrite m b v => Sys2Proof.Machine.execMemBankCfgWrite m b v s
  | .bankZeroDone b => Sys2Proof.Machine.execBankZeroDone b s
  | .scrubPass errs => Sys2Proof.Machine.execScrubPass errs s
  | .marchGo m v => Sys2Proof.Machine.execMarchGo m v s
  | .marchComplete fails => Sys2Proof.Machine.execMarchComplete fails s
  | .atomicAdd m b off wide data => Sys2Proof.Machine.execAtomicAdd m b off wide data s
  | .atomicSwap m b off wide data => Sys2Proof.Machine.execAtomicSwap m b off wide data s
  | .operandWrite m b off wide v => Sys2Proof.Machine.execOperandWrite m b off wide v s
  | .dmaHeadWrite m n w v => Sys2Proof.Machine.execDmaHeadWrite m n w v s
  | .dmaKick m n v => Sys2Proof.Machine.execDmaKick m n v s
  | .dmaAbort m n v k ans => Sys2Proof.Machine.execDmaAbort m n v k ans s
  | .dmaDescriptorFetch n errs => Sys2Proof.Machine.execDmaDescriptorFetch n errs s
  | .dmaHkaRequest n ans => Sys2Proof.Machine.execDmaHkaRequest n ans s
  | .dmaDescriptorDone n ans => Sys2Proof.Machine.execDmaDescriptorDone n ans s
  | .railUndervoltage rail => Sys2Proof.Machine.execRailUndervoltage rail s
  | .railOvervoltage rail => Sys2Proof.Machine.execRailOvervoltage rail s
  | .powerOnReset => Sys2Proof.Machine.execPowerOnReset s
  | .resetPin => Sys2Proof.Machine.execResetPin s
  | .sysRstCmd m v => Sys2Proof.Machine.execSysRstCmd m v s
  | .thermalTrip => Sys2Proof.Machine.execThermalTrip s
  | .boot f => Sys2Proof.Machine.execBoot f s
  | .configWrite m v img => Sys2Proof.Machine.execConfigWrite m v img s
  | .configLoad m v => Sys2Proof.Machine.execConfigLoad m v s
  | .configWriteLoad m v img => Sys2Proof.Machine.execConfigWriteLoad m v img s
  | .sysProfileWrite m v => Sys2Proof.Machine.execSysProfileWrite m v s
  | .pfwAssert vmain => Sys2Proof.Machine.execPfwAssert vmain s
  | .ladleSeal => Sys2Proof.Machine.execLadleSeal s
  | .recoverReset => Sys2Proof.Machine.execRecoverReset s
  | .journalDrain => Sys2Proof.Machine.execJournalDrain s
  | .tripIssueTimeout => Sys2Proof.Machine.execTripIssueTimeout s
  | .jrnlResolve m v => Sys2Proof.Machine.execJrnlResolve m v s
  | .jrnlCursorWrite m v => Sys2Proof.Machine.execJrnlCursorWrite m v s
  | .lifeUpdate => Sys2Proof.Machine.execLifeUpdate s
  | .lifeSelWrite m v => Sys2Proof.Machine.execLifeSelWrite m v s
  | .perstAssert => Sys2Proof.Machine.execPerstAssert s
  | .pcieLinkRetrain speed wide => Sys2Proof.Machine.execPcieLinkRetrain speed wide s
  | .d0Entry => Sys2Proof.Machine.execD0Entry s
  | .msixEnable masked => Sys2Proof.Machine.execMsixEnable masked s
  | .configOperationEnd ok => Sys2Proof.Machine.execConfigOperationEnd ok s
  | .jrnlWindowLoadDone => Sys2Proof.Machine.execJrnlWindowLoadDone s
  | .currentLimitEnd k => Sys2Proof.Machine.execCurrentLimitEnd k s
  | .vfFallDuringRecovery g => Sys2Proof.Machine.execVfFallDuringRecovery g s
  | .overrangeRelease n => Sys2Proof.Machine.execOverrangeRelease n s
  | .blendComplete => Sys2Proof.Machine.execBlendComplete s
  | .ppsOutPulseEnd => Sys2Proof.Machine.execPpsOutPulseEnd s
  | .macCntInterval p => Sys2Proof.Machine.execMacCntInterval p s
  | .gosCntInterval => Sys2Proof.Machine.execGosCntInterval s
  | .cumSetStatInterval => Sys2Proof.Machine.execCumSetStatInterval s
  | .drcStatInterval => Sys2Proof.Machine.execDrcStatInterval s
  | .evrPosInterval => Sys2Proof.Machine.execEvrPosInterval s
  | .jrnlPosInterval => Sys2Proof.Machine.execJrnlPosInterval s
  | .memArbInterval engine dma stolen other => Sys2Proof.Machine.execMemArbInterval engine dma stolen other s
  | .galPortStatInterval => Sys2Proof.Machine.execGalPortStatInterval s
  | .dmaCurInterval n k ans => Sys2Proof.Machine.execDmaCurInterval n k ans s

end Sys2Proof.Machine
end

