-- ==== Sys2Proof/Safety.lean ====
section
/-! DEFINITION. What counts as a safe run, in the terms the statements use: runs of steps, the invariants of a state, and what a
command may not touch. -/

namespace Sys2Proof.Safety

open Sys2Proof.Machine

/-- A step answers this next state. -/
def Steps (s t : State) : Prop := step s = .next t

/-- A run of steps. -/
inductive Run : State → State → Prop
  | refl (s : State) : Run s s
  | tail {s t u : State} : Run s t → Steps t u → Run s u

/-- IRQ_PEND holds every LEVEL source that reads 1, on every page (R44). -/
def PendCovers (s : State) : Prop := ∀ p : Page, levels s p &&& ~~~(s.hdr p).irqPend = 0

/-- The forward OR stands only while some enabled source is asserted (R56). -/
def ForwardOrHolds (s : State) : Prop := s.host.fwdOr = true → s.anyRouted = true

/-- Once boot is complete, the interrupt registers follow their sources. -/
def InterruptInv (s : State) : Prop := (s.bit R.sysStat_booted = true → PendCovers s) ∧ ForwardOrHolds s

/-- Memory has its canonical form. -/
def MemoryInv (s : State) : Prop := Memory.wf s.mem = true

/-! ## What a command answers -/

/-- A command answers a next state, of which `P` holds. -/
def Completes (c : Instr) (s : State) (P : State → Prop) : Prop := ∃ t : State, exec c s = .next t ∧ P t

/-- A write by master `m` reaches page `p`: the page is UNLOCKED (R47), and for the host boot is complete or the page is SYS, PCI or
LIFE (R33). -/
abbrev Reaches (s : State) (m : Master) (p : Page) : Prop := s.bootGate m.val p = false ∧ s.unlocked p = true

/-- An EDGE source of page `p` is pending at bit `b`. -/
abbrev Pends (t : State) (p : Page) (b : Nat) : Prop := (t.hdr p).irqPend.getLsbD b = true

/-! ## Frames -/

/-- Registers of every page but `p`, and of no page, read as before. -/
def OtherPages (p : Page) (s t : State) : Prop := ∀ a : Nat, pageOf a ≠ some p → t.reg a = s.reg a

/-- Every register but those of a list reads as before. -/
def OnlyRegs (l : List Nat) (s t : State) : Prop := ∀ a : Nat, a ∉ l → t.reg a = s.reg a

/-- Every byte of memory reads as before. -/
def SameMemory (s t : State) : Prop := ∀ a : Nat, memByte t.mem a = memByte s.mem a

/-- Every byte of memory outside a range reads as before. -/
def SameMemoryBut (lo n : Nat) (s t : State) : Prop := ∀ a : Nat, a < lo ∨ lo + n ≤ a → memByte t.mem a = memByte s.mem a

/-- Every byte outside the instance headers of the running program reads as before (R222). -/
def SameButHeaders (s t : State) : Prop :=
  ∀ a : Nat, (∀ p : LProg, s.lge.prog = some p → ∀ i ∈ p.insts, a < instBase + i.addr ∨ instBase + i.addr + 8 ≤ a) → memByte t.mem a = memByte s.mem a

/-- The stores of the logic engine of a master are granted: its arrays of R219 lie in banks that are ON. -/
def LogicMemory (p : LProg) (s : State) : Prop :=
  (∀ m : Fin 64, s.memCheck 4 (imgAddr m.val) 512 true = none ∧ s.memCheck 4 (sliceAddr m.val) 192 true = none ∧
    s.memCheck 4 (safeAddr m.val) 192 true = none) ∧
  s.memCheck 4 ownImage 512 true = none ∧ s.memCheck 4 ownSlice 192 true = none ∧ s.memCheck 4 instBase (Nat.max 8 p.memBytes) true = none ∧
  s.memCheck 4 shadowBase 0x40000 true = none

/-- The stores of the fabric engine to a totals buffer are granted (R273). -/
def CumulusMemory (b : Nat) (s : State) : Prop :=
  s.memCheck 6 b cumBufBytes true = none ∧ s.memCheck 6 (b + 12) 4 true = none ∧ s.memCheck 6 b 16 true = none

/-- The stores of the recorders to the event ring are granted (R305). -/
def EventMemory (s : State) : Prop := ∀ q : Nat, s.memCheck 7 (evAddr q) 32 true = none

/-- An access of `n` bytes at `a` by master `m` completes in this member's memory at that address: it is granted, lies in no window of an
ATOMIC bank, and a read meets neither a poisoned word (R329) nor bytes that log entry 100 leaves open. -/
def PlainAccess (s : State) (m a n : Nat) (write : Bool) : Prop :=
  s.memCheck m a n write = none ∧ s.remoteOf a = none ∧ s.localAddr a = a ∧ (∀ x : Nat, s.target a = .sram x → s.atomWin x = 0) ∧
  (write = true ∨ (s.poisoned a n = false ∧ s.lgeOpen a n = false))

/-- The header of page `p` is as before, but that IRQ_PEND has taken the LEVEL sources that read 1. -/
def SameHeader (p : Page) (s t : State) : Prop := t.hdr p = { s.hdr p with irqPend := (s.hdr p).irqPend ||| levels t p }

/-- The parts of the state beside registers and page headers. -/
inductive Part where
  | pending | latches | mem | out | free | host | time | afe | dfc | grid | svs | phe | pea | trm | dup | evr | drc | sto | jrnl | life
  | lge | gos | mac | gal | fio | hka | sram | dma | sys
  deriving DecidableEq, Repr

/-- A part is as before; of memory every byte reads as before, and of the endpoint the forward OR may have fallen (R56). -/
def Part.same (p : Part) (s t : State) : Prop :=
  match p with
  | .pending => t.pending = s.pending | .latches => t.latches = s.latches | .mem => SameMemory s t | .out => t.out = s.out
  | .free => t.free = s.free | .host => t.host = { s.host with fwdOr := t.host.fwdOr } | .time => t.time = s.time
  | .afe => t.afe = s.afe | .dfc => t.dfc = s.dfc | .grid => t.grid = s.grid | .svs => t.svs = s.svs | .phe => t.phe = s.phe
  | .pea => t.pea = s.pea | .trm => t.trm = s.trm | .dup => t.dup = s.dup | .evr => t.evr = s.evr | .drc => t.drc = s.drc
  | .sto => t.sto = s.sto | .jrnl => t.jrnl = s.jrnl | .life => t.life = s.life | .lge => t.lge = s.lge | .gos => t.gos = s.gos
  | .mac => t.mac = s.mac | .gal => t.gal = s.gal | .fio => t.fio = s.fio | .hka => t.hka = s.hka | .sram => t.sram = s.sram
  | .dma => t.dma = s.dma | .sys => t.sys = s.sys

/-- Every part but those of a list is as before. -/
def SameBut (l : List Part) (s t : State) : Prop := ∀ p : Part, p ∉ l → p.same s t

/-- The frame of a command: registers, parts and page headers outside the lists are as before. -/
def Frame (regs : List Nat) (parts : List Part) (pages : List Page) (s t : State) : Prop :=
  OnlyRegs regs s t ∧ SameBut parts s t ∧ ∀ q : Page, q ∉ pages → SameHeader q s t

/-- Registers that a change of authority may write: AUTH, the gates, FO_DRV and FO_CMD, the start of a flush, fabric inputs sourced by
this member, MEM_FAULT and DUP_TAKE. -/
def gateRegs : List Nat :=
  [R.dupStat, R.evrStat, R.gosStat, R.trmStat, R.trmFoDrv, R.trmFoCmd] ++ (List.range 8).map R.galFbiState ++ (List.range 8).map R.galFbiInv
    ++ (List.range 3).map (fun i => R.memFault.addr + 4 * i) ++ (List.range 4).map (fun i => R.dupTake.addr + 4 * i)

/-- The frame of a change of authority. -/
def GateFrame (s t : State) : Prop := Frame gateRegs [.dup, .evr, .gal, .gos, .jrnl, .mac, .out, .trm, .life] [.dup, .gos, .jrnl, .mem] s t

/-- Registers that a member reset keeps: bank STATE and MODE (R326), the regions (R328), and the fuses. -/
def resetKeeps (a : Nat) : Prop := (0x03100 ≤ a ∧ a < 0x031C0) ∨ (0x03400 ≤ a ∧ a < 0x03D00) ∨ a = R.sysFuse

/-- What a member reset keeps, and what it returns to its reset value (R345, R346). -/
def MemberReset (cause : Nat) (s t : State) : Prop :=
  t.sys = { s.sys with inReset := true, cause := cause, op := none, after := none } ∧ t.bit R.sysStat_booted = false ∧
  (∀ a : Nat, resetKeeps a → t.reg a = s.reg a) ∧
  (∀ a : Nat, ¬ resetKeeps a → a ∉ [R.sysProfile, R.sysStat, R.pciLink] → t.reg a = regReset a) ∧
  t.get R.sysProfile_pend = s.get R.sysProfile_pend ∧ (∀ p : Page, (t.hdr p).lock = .locked ∧ (t.hdr p).irqEn = 0 ∧ (t.hdr p).errCode = 0) ∧
  SameMemory s t ∧ t.out = s.out ∧ t.pending = s.pending ∧ t.life = s.life ∧
  t.jrnl.queue = s.jrnl.queue ∧ t.jrnl.copyA = s.jrnl.copyA ∧ t.jrnl.copyB = s.jrnl.copyB ∧ t.jrnl.next = s.jrnl.next ∧
  t.evr.next = s.evr.next ∧ t.evr.unfl = s.evr.unfl ∧ t.evr.journal = s.evr.journal ∧ t.evr.lost = s.evr.lost ∧ t.sto.recs = s.sto.recs ∧
  t.gal = { taken := s.out.length } ∧ t.trm = {} ∧ t.pea = {} ∧ t.dup = {} ∧ t.fio = {} ∧ t.grid = {} ∧ t.time = { ticks := s.time.ticks }

/-- The master and the page of a command that is a write to one register, where it is one that LOCK may drop (R47). -/
def writePage : Instr → Option (Master × Page)
  | .sysIrqAck m _ => some (m, .sys)
  | .afeAinCfgWrite m _ _ => some (m, .afe)
  | .afeCtrlWrite m _ => some (m, .afe)
  | .afeBsiCfgWrite m _ _ => some (m, .afe)
  | .chainEnable m _ => some (m, .dfc)
  | .chainDisable m _ => some (m, .dfc)
  | .hbSwapRequest m _ => some (m, .dfc)
  | .coefWrite m _ _ _ => some (m, .dfc)
  | .dfcIntWrite m _ _ => some (m, .dfc)
  | .syncCmd m _ => some (m, .dfc)
  | .gridEnable m _ => some (m, .grid)
  | .gridDisable m _ => some (m, .grid)
  | .gridAlignCmd m _ => some (m, .grid)
  | .gridTrkWrite m _ => some (m, .grid)
  | .gridQCfgWrite m _ _ => some (m, .grid)
  | .svsSlotCfgWrite m _ _ _ => some (m, .svs)
  | .svStreamEnable m _ _ => some (m, .gos)
  | .pheQCfgWrite m _ _ => some (m, .phe)
  | .pheGrpCfgWrite m _ _ => some (m, .phe)
  | .pheFcfgWrite m _ => some (m, .phe)
  | .peaLiveGo m _ => some (m, .pea)
  | .trmStkBlkWrite m _ _ => some (m, .trm)
  | .trmLatchRst m _ => some (m, .trm)
  | .fioCtrlWrite m _ => some (m, .fio)
  | .fiFltWrite m _ _ => some (m, .fio)
  | .fioRearm m _ => some (m, .fio)
  | .hkaGo m _ => some (m, .hka)
  | .hkaUrgentRequest m _ => some (m, .hka)
  | .lgeStart m _ => some (m, .lge)
  | .lgeStop m _ => some (m, .lge)
  | .lgeCtrlWrite m _ => some (m, .lge)
  | .lgeWdtWrite m _ => some (m, .lge)
  | .forceSet m _ => some (m, .lge)
  | .forceClear m _ => some (m, .lge)
  | .forceClearAll m _ => some (m, .lge)
  | .recastPrepare m _ _ => some (m, .lge)
  | .recastSwap m _ => some (m, .lge)
  | .recastAbort m _ => some (m, .lge)
  | .recastRollback m _ => some (m, .lge)
  | .timWallSet m _ => some (m, .tim)
  | .gridSet m _ => some (m, .tim)
  | .accept m _ => some (m, .tim)
  | .timSnapCmd m _ => some (m, .tim)
  | .timDomainCfgWrite m _ _ => some (m, .tim)
  | .galFbiWrite m _ _ => some (m, .gal)
  | .barrier m _ => some (m, .gal)
  | .broadcast m _ => some (m, .gal)
  | .snapshot m _ => some (m, .gal)
  | .gopReset m _ => some (m, .gal)
  | .barrierArrive m _ => some (m, .gal)
  | .exclude m _ => some (m, .dup)
  | .include m _ => some (m, .dup)
  | .handover m _ => some (m, .dup)
  | .clearUnfit m _ => some (m, .dup)
  | .rxTailWrite m p _ _ => some (m, (macPage p.val))
  | .txTailWrite m p _ _ => some (m, (macPage p.val))
  | .macRingCfgWrite m p _ _ _ => some (m, (macPage p.val))
  | .macMaxlenWrite m p _ => some (m, (macPage p.val))
  | .evrCursorWrite m _ => some (m, .evr)
  | .evrClearArm m _ => some (m, .evr)
  | .evrClearConfirm m _ => some (m, .evr)
  | .evrUserEvent m _ => some (m, .evr)
  | .drcCtrlWrite m _ => some (m, .drc)
  | .drcCmdTrig m _ => some (m, .drc)
  | .stoRead m _ _ => some (m, .sto)
  | .stoDelete m _ => some (m, .sto)
  | .stoKeep m _ => some (m, .sto)
  | .stoUnkeep m _ => some (m, .sto)
  | .stoSalvage m _ => some (m, .sto)
  | .stoFormat m _ => some (m, .sto)
  | .stoDirent m _ _ => some (m, .sto)
  | .memBankCfgWrite m _ _ => some (m, .mem)
  | .marchGo m _ => some (m, .mem)
  | .dmaHeadWrite m _ _ _ => some (m, .dma)
  | .dmaKick m _ _ => some (m, .dma)
  | .dmaAbort m _ _ _ _ => some (m, .dma)
  | .sysRstCmd m _ => some (m, .sys)
  | .configWrite m _ _ => some (m, .sys)
  | .configLoad m _ => some (m, .sys)
  | .configWriteLoad m _ _ => some (m, .sys)
  | .sysProfileWrite m _ => some (m, .sys)
  | .jrnlResolve m _ => some (m, .jrnl)
  | .jrnlCursorWrite m _ => some (m, .jrnl)
  | .lifeSelWrite m _ => some (m, .life)
  | _ => none

/-- A command that is a write to one register and carries nothing else: its master, the register's member offset, and the word written,
in which the field that names the command is forced. -/
def writeOf : Instr → Option (Master × Nat × Word)
  | .sysIrqAck m v => some (m, R.sysIrqAck, v)
  | .afeAinCfgWrite m n v => some (m, R.afeAinCfg n.val, v)
  | .afeCtrlWrite m v => some (m, R.afeCtrl, v)
  | .afeBsiCfgWrite m n v => some (m, R.afeBsiCfg n.val, v)
  | .chainEnable m v => some (m, R.dfcCtrl, v ||| 1#32)
  | .chainDisable m v => some (m, R.dfcCtrl, v &&& ~~~1#32)
  | .hbSwapRequest m v => some (m, 0x09040, v)
  | .coefWrite m b k v => some (m, coefAddr b.val k.val, v)
  | .dfcIntWrite m n v => some (m, 0x09200 + 4 * n.val, v)
  | .syncCmd m v => some (m, 0x09048, v)
  | .gridEnable m v => some (m, R.gridCtrl, v ||| 1#32)
  | .gridDisable m v => some (m, R.gridCtrl, v &&& ~~~1#32)
  | .gridAlignCmd m v => some (m, 0x0A058, v)
  | .gridTrkWrite m v => some (m, R.gridTrk, v)
  | .gridQCfgWrite m q v => some (m, R.gridQCfg q.val, v)
  | .svsSlotCfgWrite m k w v => some (m, R.svsSlCfg k.val + 4 * w.val, v)
  | .pheQCfgWrite m q v => some (m, R.pheQCfg q.val, v)
  | .pheGrpCfgWrite m g v => some (m, R.pheGrpCfg g.val, v)
  | .pheFcfgWrite m v => some (m, R.pheFcfg, v)
  | .peaLiveGo m v => some (m, 0x0D340, v)
  | .trmStkBlkWrite m n v => some (m, R.trmStkBlk n.val, v)
  | .trmLatchRst m v => some (m, 0x0E048, v)
  | .fioCtrlWrite m v => some (m, R.fioCtrl, v)
  | .fiFltWrite m n v => some (m, 0x0F100 + 4 * n.val, v)
  | .fioRearm m v => some (m, 0x0F04C, v)
  | .hkaGo m v => some (m, R.hkaCtrl, v ||| 2#32)
  | .hkaUrgentRequest m v => some (m, 0x10044, v)
  | .lgeStart m v => some (m, 0x11050, v ||| 1#32)
  | .lgeStop m v => some (m, 0x11050, v ||| 2#32)
  | .lgeCtrlWrite m v => some (m, R.lgeCtrl, v)
  | .lgeWdtWrite m v => some (m, 0x11044, v)
  | .forceSet m v => some (m, 0x110C8, forceOp 1 v)
  | .forceClear m v => some (m, 0x110C8, forceOp 2 v)
  | .forceClearAll m v => some (m, 0x110C8, forceOp 3 v)
  | .recastSwap m v => some (m, 0x1110C, rcOp 2 v)
  | .recastAbort m v => some (m, 0x1110C, rcOp 3 v)
  | .recastRollback m v => some (m, 0x1110C, rcOp 4 v)
  | .timWallSet m v => some (m, 0x1507C, v ||| 1#32)
  | .gridSet m v => some (m, 0x15064, v ||| 2#32)
  | .accept m v => some (m, 0x15064, v ||| 1#32)
  | .timSnapCmd m v => some (m, 0x15080, v ||| 1#32)
  | .timDomainCfgWrite m d v => some (m, 0x15040 + 16 * d.val, v)
  | .galFbiWrite m n v => some (m, R.galFbi n.val, v)
  | .barrier m v => some (m, 0x1B06C, withOp 1 v)
  | .broadcast m v => some (m, 0x1B06C, withOp 2 v)
  | .snapshot m v => some (m, 0x1B06C, withOp 3 v)
  | .gopReset m v => some (m, 0x1B06C, withOp 4 v)
  | .barrierArrive m v => some (m, 0x1B070, v ||| 1#32)
  | .exclude m v => some (m, 0x1C0A0, R.cumCmd_op.put v 0)
  | .include m v => some (m, 0x1C0A0, R.cumCmd_op.put v 1)
  | .handover m v => some (m, 0x1C080, v ||| 1#32)
  | .clearUnfit m v => some (m, 0x1C080, v ||| 2#32)
  | .rxTailWrite m p r v => some (m, 0x16000 + 0x1000 * p.val + 0x08C + 16 * r.val, v)
  | .txTailWrite m p r v => some (m, 0x16000 + 0x1000 * p.val + 0x0CC + 16 * r.val, v)
  | .macRingCfgWrite m p q w v => some (m, 0x16000 + 0x1000 * p.val + 0x080 + 16 * q.val + 4 * w.val, v)
  | .macMaxlenWrite m p v => some (m, 0x16048 + 0x1000 * p.val, v)
  | .svStreamEnable m p v => some (m, R.gosSvpCfg p.val, v)
  | .evrCursorWrite m v => some (m, R.evrCursor, v)
  | .evrClearArm m v => some (m, 0x1204C, R.evrClr_op.put v 1)
  | .evrClearConfirm m v => some (m, 0x1204C, R.evrClr_op.put v 2)
  | .evrUserEvent m v => some (m, 0x12058, v)
  | .drcCtrlWrite m v => some (m, R.drcCtrl, v)
  | .drcCmdTrig m v => some (m, 0x13050, v)
  | .stoDelete m v => some (m, 0x14040, opWord 2 v)
  | .stoKeep m v => some (m, 0x14040, opWord 3 v)
  | .stoUnkeep m v => some (m, 0x14040, opWord 4 v)
  | .stoSalvage m v => some (m, 0x14040, opWord 5 v)
  | .stoFormat m v => some (m, 0x14040, opWord 6 v)
  | .memBankCfgWrite m b v => some (m, R.memBankCfg b.val, v)
  | .marchGo m v => some (m, 0x03044, v ||| 1#32)
  | .dmaHeadWrite m n w v => some (m, R.dmaChCtrl n.val + 8 + 4 * w.val, v)
  | .dmaKick m n v => some (m, R.dmaChCtrl n.val + 0x10, v ||| 1#32)
  | .sysRstCmd m v => some (m, 0x00048, v)
  | .configLoad m v => some (m, 0x0005C, R.sysCfgCmd_op.put v 2)
  | .sysProfileWrite m v => some (m, R.sysProfile, v)
  | .jrnlResolve m v => some (m, 0x020B0, v)
  | .jrnlCursorWrite m v => some (m, R.jrnlCursor, v)
  | .lifeSelWrite m v => some (m, R.lifeSel, v)
  | _ => none

/-- A register, by page and page offset, whose write does more than store its RW, W1C and W1S bits. -/
def ownEffect (p : Page) (o : Nat) : Bool :=
  match p with
  | .sys => [0x040, 0x048, 0x05C, 0x108].contains o
  | .life => o == 0x040
  | .jrnl => o == 0x060 || o == 0x0B0
  | .mem => o == 0x044 || (decide (0x100 ≤ o) && decide (o < 0x1C0))
  | .dma => o == 0x008 || (decide (0x1000 ≤ o) && [0x00, 0x08, 0x0C, 0x10].contains (o % 0x100))
  | .afe => o == 0x008 || (decide (0x100 ≤ o) && decide (o < 0x200))
  | .dfc => [0x008, 0x040, 0x048].contains o || (decide (0x200 ≤ o) && decide (o < 0x300)) || decide (0x400 ≤ o)
  | .grid => [0x008, 0x044, 0x058].contains o
  | .svs => o == 0x008 || (decide (0x100 ≤ o) && decide (o < 0x500))
  | .phe => o == 0x008 || (decide (0x100 ≤ o) && decide (o < 0xA00)) || (decide (0xA00 ≤ o) && o % 8 == 0)
  | .pea => o == 0x008 || o == 0x340
  | .trm => [0x008, 0x048, 0x050, 0x054].contains o || (decide (0x0C0 ≤ o) && decide (o < 0x140)) || (decide (0x400 ≤ o) && o % 8 == 0)
  | .fio => [0x008, 0x04C].contains o || (decide (0x100 ≤ o) && decide (o < 0x1C0))
  | .hka => o == 0x008 || o == 0x044
  | .lge => [0x008, 0x044, 0x050, 0x0C8, 0x10C].contains o
  | .evr => [0x008, 0x044, 0x048, 0x04C, 0x058].contains o
  | .drc => o == 0x008 || (decide (0x040 ≤ o) && decide (o ≤ 0x050))
  | .sto => o == 0x008 || o == 0x040
  | .tim => [0x008, 0x040, 0x050, 0x064, 0x07C, 0x080].contains o
  | .mac0 | .mac1 | .mac2 | .mac3 => o == 0x008 || o == 0x048 || (decide (0x080 ≤ o) && decide (o < 0x100))
  | .gos => o == 0x008 || (decide (0x200 ≤ o) && decide (o < 0x280))
  | .gal => [0x008, 0x06C, 0x070].contains o || (decide (0x400 ≤ o) && decide (o < 0x800))
  | .dup => [0x008, 0x080, 0x0A0].contains o
  | .pci => decide (0x400 ≤ o) && decide (o < 0x800) && o % 16 == 12

end Sys2Proof.Safety
end

