-- ==== Sys2Proof/Certificates/Slice0/Obligations.lean ====
section
/-! DEFINITION. The statements about this model. Each docstring says what its statement says; OBLIGATIONS.json lists them with
the rules they rest on. -/

open Sys2Proof Sys2Proof.Machine Sys2Proof.Safety

/-- For every command c, queue rest and state s whose queue is c :: rest, a step of s is exec of c on s with the queue rest. On an
empty queue a step answers a next state (the model's choice, log entry 2: one TIME clock). (R38, R47) -/
def Obligations.StepRunsFrontCommand : Prop :=
  ∀ (c : Instr) (rest : List Instr) (s : State),
    (s.pending = c :: rest → step s = exec c { s with pending := rest }) ∧
    (s.pending = [] → step s = .next (timeTick s).fin)

/-- For every command and every state, exec answers a next state (no fault, no refusal), and the queue of waiting commands in it
is the one exec was given. (01_architecture.md, R34, R48) -/
def Obligations.EveryCommandEndsInANextState : Prop :=
  ∀ (c : Instr) (s : State), Completes c s (fun t => t.pending = s.pending)

/-- A LOCK_WRITE of the type code arms a LOCKED or UNLOCKED page; of its 16-bit complement unlocks an ARMED page; any other write
to LOCK leaves or makes the page LOCKED; no other page's lock changes, and the master does not matter. A write to CTRL or to a
register at 0x040 or above of an ARMED page locks it and is dropped. Writes to IRQ_EN, IRQ_PEND and ERR take effect and leave
every lock alone, and so does every read of a register. A member reset, whatever its source, locks every page. The host is
gated before boot (R33, the model's hypothesis here), so the clauses about writes ask that the write is not gated. (R46) -/
def Obligations.LockStatesFollowTheTable : Prop :=
  ∀ (m : Master) (p : Page) (v : Word) (s : State),
    (s.bootGate m.val p = false →
      Completes (.lockWrite m p v) s (fun t =>
        (t.hdr p).lock =
          (if v.toNat = pageCode p ∧ (s.hdr p).lock ≠ .armed then .armed
           else if v.toNat = 0xFFFF - pageCode p ∧ (s.hdr p).lock = .armed then .unlocked
           else .locked) ∧
        (∀ q : Page, q ≠ p → (t.hdr q).lock = (s.hdr q).lock) ∧ Frame [] [] [p] s t) ∧
      (∀ c : Instr, writePage c = some (m, p) → (s.hdr p).lock ≠ .unlocked → Completes c s (fun t => (t.hdr p).lock = .locked ∧
        (∀ q : Page, q ≠ p → (t.hdr q).lock = (s.hdr q).lock) ∧ Frame [] [] [p] s t)) ∧
      (∀ (o : Nat) (w : BitVec 64), pageOf (pageBase p + o) = some p → o % 4 = 0 → (o = 0x008 ∨ 0x040 ≤ o) → (s.hdr p).lock ≠ .unlocked →
        Completes (.registerWrite m (pageBase p + o) 4 w) s (fun t => (t.hdr p).lock = .locked ∧
          (∀ q : Page, q ≠ p → (t.hdr q).lock = (s.hdr q).lock) ∧ Frame [] [] [p] s t)) ∧
      Completes (.errWrite m p v) s (fun t => (∀ q : Page, (t.hdr q).lock = (s.hdr q).lock) ∧ (t.hdr p).errCode = 0) ∧
      Completes (.irqEnWrite m p v) s (fun t => (∀ q : Page, (t.hdr q).lock = (s.hdr q).lock) ∧ (t.hdr p).irqEn = v) ∧
      Completes (.irqPendClear m p v) s (fun t => (∀ q : Page, (t.hdr q).lock = (s.hdr q).lock) ∧
        (t.hdr p).irqPend = ((s.hdr p).irqPend &&& ~~~v) ||| levels s p)) ∧
    (∀ a : Nat, Completes (.resultLowWordRead m a) s (fun t => ∀ q : Page, (t.hdr q).lock = (s.hdr q).lock)) ∧
    (∀ (bar0 : Bool) (off : BitVec 31) (n : Nat) (errs : List (Nat × Bool)) (ans : Option (List Byte)),
      Completes (.hostRemoteAccess bar0 off n none errs ans) s (fun t => ∀ q : Page, (t.hdr q).lock = (s.hdr q).lock)) ∧
    (∀ (src : Fin 64) (off : BitVec 25) (n : Nat) (errs : List (Nat × Bool)),
      Completes (.remoteAccessFrame src off n none errs) s (fun t => ∀ q : Page, (t.hdr q).lock = (s.hdr q).lock)) ∧
    (∀ c : Instr, (c = .resetPin ∨ c = .powerOnReset ∨ c = .railUndervoltage 0 ∨ c = .railUndervoltage 1 ∨ c = .railUndervoltage 2 ∨
        (c = .recoverReset ∧ s.evr.closed = true ∧ s.sys.ladle = none ∧ s.sys.inReset = false) ∨
        (c = .ladleSeal ∧ s.sys.ladle ≠ none ∧ s.sys.after ≠ none) ∨
        (c = .sysRstCmd m v ∧ s.unlocked .sys = true ∧ v.getLsbD 0 = true ∧ v.toNat / 65536 = 0xB5EF) ∨
        (c = .thermalTrip ∧ s.bit R.sysCtrl_therm_en = true ∧ tempCode 135 ≤ s.hottest ∧ s.evr.closed = true ∧ s.sys.ladle = none) ∨
        (∃ r : Fin 8, 3 ≤ r.val ∧ c = .railUndervoltage r ∧ s.evr.closed = true ∧ s.sys.ladle = none) ∨
        (∃ r : Fin 8, c = .railOvervoltage r ∧ s.evr.closed = true ∧ s.sys.ladle = none)) →
      Completes c s (fun t => ∀ q : Page, (t.hdr q).lock = .locked))

/-- For every command that is a write to one register under LOCK, and for a 32-bit REGISTER_WRITE to CTRL or to any offset at
0x040 or above, reserved ones among them: while the page is not UNLOCKED and the write is not gated by boot, the next state is
the one before with the page LOCKED and WR_LOCKED recorded with the master, and nothing else changed but what ends every
command. (R47, R43, R46, R48) -/
def Obligations.LockedWritesAreDropped : Prop :=
  ∀ (m : Master) (p : Page) (s : State), s.bootGate m.val p = false → s.unlocked p = false →
    (∀ c : Instr, writePage c = some (m, p) →
      exec c s = .next ((s.updHdr p (fun h => { h with lock := .locked })).raise p 0x0001 m.val).fin) ∧
    (∀ (o : Nat) (v : BitVec 64), pageOf (pageBase p + o) = some p → o % 4 = 0 → (o = 0x008 ∨ 0x040 ≤ o) →
      exec (.registerWrite m (pageBase p + o) 4 v) s =
        .next ((s.updHdr p (fun h => { h with lock := .locked })).raise p 0x0001 m.val).fin)

/-- The block interrupt of a page is 1 exactly while some bit of IRQ_PEND AND IRQ_EN is 1. Where the write is not gated by boot,
whatever LOCK holds: IRQ_PEND_CLEAR clears the bits written 1 but leaves at 1 a LEVEL bit whose source still reads 1;
IRQ_EN_WRITE stores the word, and setting a bit whose IRQ_PEND bit is already 1 raises the block interrupt at once; ERR_WRITE
clears CODE, MASTER and MORE. The header of every other page, every register and every other part of the state are as before.
(R45) -/
def Obligations.BlockInterruptsFollowPendAndEnable : Prop :=
  ∀ (m : Master) (p : Page) (v : Word) (s : State),
    (∀ q : Page, s.blockIrq q = true ↔ ∃ b : Nat, (s.hdr q).irqPend.getLsbD b = true ∧ (s.hdr q).irqEn.getLsbD b = true) ∧
    (s.bootGate m.val p = false →
      Completes (.irqPendClear m p v) s (fun t =>
        (∀ b : Nat, b < 32 → (t.hdr p).irqPend.getLsbD b = (((s.hdr p).irqPend.getLsbD b && !v.getLsbD b) || (levels s p).getLsbD b)) ∧
        (∀ b : Nat, (levels s p).getLsbD b = true → Pends t p b) ∧ (t.hdr p).irqEn = (s.hdr p).irqEn ∧ Frame [] [] [p] s t) ∧
      Completes (.irqEnWrite m p v) s (fun t => (t.hdr p).irqEn = v ∧ (t.hdr p).irqPend = (s.hdr p).irqPend ||| levels s p ∧
        (∀ b : Nat, (s.hdr p).irqPend.getLsbD b = true → v.getLsbD b = true → t.blockIrq p = true) ∧ Frame [] [] [p] s t) ∧
      Completes (.errWrite m p v) s (fun t => (t.hdr p).errCode = 0 ∧ (t.hdr p).errMaster = 0 ∧ (t.hdr p).errMore = false ∧
        (t.hdr p).irqEn = (s.hdr p).irqEn ∧ Frame [] [] [p] s t))

/-- A REGISTER_WRITE of another width or alignment to a page changes nothing but that WIDTH is recorded in the page's ERR. An
aligned 32-bit write to header offsets 0x028 to 0x03F records UNMAPPED whatever LOCK holds; to a reserved offset at 0x040 or
above of an UNLOCKED page records UNMAPPED; to an offset outside every page records UNMAPPED in SYS ERR. Host writes are taken
where boot does not gate them. (R42, R43, R49, R33) -/
def Obligations.RegisterWidthsAndHoles : Prop :=
  ∀ (m : Master) (p : Page) (o : Nat) (v : BitVec 64) (s : State), s.bootGate m.val p = false → pageOf (pageBase p + o) = some p →
    (∀ n : Nat, widthOk (pageBase p + o) n = false →
      exec (.registerWrite m (pageBase p + o) n v) s = .next (s.raise p 0x0002 m.val).fin) ∧
    (o % 4 = 0 → 0x028 ≤ o → o < 0x040 →
      exec (.registerWrite m (pageBase p + o) 4 v) s = .next (s.raise p 0x0003 m.val).fin) ∧
    (o % 4 = 0 → 0x040 ≤ o → s.unlocked p = true → regRow (pageBase p + o) = none →
      exec (.registerWrite m (pageBase p + o) 4 v) s = .next (s.raise p 0x0003 m.val).fin) ∧
    (∀ a : Nat, pageOf a = none → a % 4 = 0 →
      exec (.registerWrite m a 4 v) s = .next (s.raise .sys 0x0003 m.val).fin)

/-- For every register of an UNLOCKED page whose write has no effect of its own, a 32-bit REGISTER_WRITE leaves RW bits as
written, W1C bits cleared where written 1, every other bit and every other register as before; memory is as before. An aligned
64-bit write to two such registers does so to both, low address first. CTRL of a block holds its RW bits as written also where
the write starts or stops the block. A command of the table that is a write to one register, and carries nothing else, answers
what REGISTER_WRITE of that register with that word answers, in every state and by every master. (R6, R42, R44, R46, R47) -/
def Obligations.PlainRegisterWritesStore : Prop :=
  ∀ (m : Master) (v : BitVec 64) (s : State),
    (∀ (p : Page) (o : Nat) (r : RegRow), Reaches s m p → pageOf (pageBase p + o) = some p → o % 4 = 0 → (o = 0x008 ∨ 0x040 ≤ o) →
      regRow (pageBase p + o) = some r → ownEffect p o = false →
      Completes (.registerWrite m (pageBase p + o) 4 v) s (fun t =>
        t.reg (pageBase p + o) = mergeWrite r (s.reg (pageBase p + o)) (v.setWidth 32) ∧ Frame [pageBase p + o] [] [] s t) ∧
      (∀ r' : RegRow, o % 8 = 0 → pageOf (pageBase p + o + 4) = some p → 0x040 ≤ o → regRow (pageBase p + o + 4) = some r' → ownEffect p (o + 4) = false →
        Completes (.registerWrite m (pageBase p + o) 8 v) s (fun t =>
          t.reg (pageBase p + o) = mergeWrite r (s.reg (pageBase p + o)) (v.setWidth 32) ∧
          t.reg (pageBase p + o + 4) = mergeWrite r' (s.reg (pageBase p + o + 4)) ((v >>> 32).setWidth 32) ∧
          Frame [pageBase p + o, pageBase p + o + 4] [] [] s t))) ∧
    (∀ (p : Page) (r : RegRow), p ∈ [Page.svs, .phe, .pea, .trm, .evr, .sto, .mac0, .mac1, .mac2, .mac3, .gos, .dup] → Reaches s m p →
      regRow (pageBase p + 0x008) = some r → Completes (.registerWrite m (pageBase p + 0x008) 4 v) s (fun t =>
        t.reg (pageBase p + 0x008) = mergeWrite r (s.reg (pageBase p + 0x008)) (v.setWidth 32))) ∧
    (∀ (c : Instr) (a : Nat) (w : Word), writeOf c = some (m, a, w) → exec c s = exec (.registerWrite m a 4 (w.setWidth 64)) s)

/-- RESULT_LOW_WORD_READ of the low word of a 64-bit field by a master that boot does not gate returns the word, latches that
field's high word for that master, and changes nothing else of registers, headers' errors and memory: a read of the high word
by the same master then returns the word the field held at the read, and what any other master would read at any address is as
before. A high word that a master has not latched since reset reads 0. (R52, R53) -/
def Obligations.LowWordReadLatchesTheHighWord : Prop :=
  ∀ (m : Master) (a : Nat) (s : State) (p : Page), pageOf a = some p → s.bootGate m.val p = false → a ∈ latchLows →
    Completes (.resultLowWordRead m a) s (fun t =>
      t.readReg m.val (a + 4) = s.reg (a + 4) ∧ Frame [] [.latches, .out] [] s t ∧
      t.out = s.out ++ [.readData m.val a (leBytes 4 (s.readReg m.val a).toNat)] ∧
      (∀ (n : Master) (b : Nat), n ≠ m → b ∈ latchLows → t.readReg n.val (b + 4) = s.readReg n.val (b + 4)) ∧
      (∀ b : Nat, b ∈ latchLows → b ≠ a → t.readReg m.val (b + 4) = s.readReg m.val (b + 4))) ∧
    State.reset.readReg m.val (a + 4) = 0

/-- At the root: an asserted vector in IDLE with MSI-X enabled sends its message and is SENT when it is unmasked and the link, the
power state and Bus Master Enable let it, and else sets its pending bit; one in SENT sends nothing. SYS_IRQ_ACK of a vector in
SENT sends again while it is asserted, and returns it to IDLE when it is not; of a vector in IDLE it has no effect. Unmasking
a pending vector sends and clears the pending bit where it is still asserted, and else clears the pending bit. MSIX_ENABLE
sends for asserted unmasked vectors; MSIX_DISABLE returns every vector to IDLE with no pending bit. Only the vector words, the
pending bits and the entry's mask change. (R55, R54, R34) -/
def Obligations.VectorsMoveAsTheTableSays : Prop :=
  ∀ (v : Fin 64) (s : State),
    (s.isRoot = true →
      (s.host.msixEn = true → s.vecAsserted v.val = true → s.vecSent v.val = false →
        (s.vecMasked v.val = false → s.hostOk = true → Completes (.vectorAssert v) s (fun t => t.out = s.out ++ [.msix v.val] ∧
          t.vecSent v.val = true ∧ t.vecPend v.val = false ∧ Frame [R.sysIrqVstatLo + 4 * (v.val / 32), R.pciPba (v.val / 32)] [.out] [] s t)) ∧
        ((s.vecMasked v.val = true ∨ s.hostOk = false) → Completes (.vectorAssert v) s (fun t => t.vecSent v.val = false ∧
          t.vecPend v.val = true ∧ Frame [R.pciPba (v.val / 32)] [] [] s t))) ∧
      ((s.host.msixEn = false ∨ s.vecAsserted v.val = false ∨ s.vecSent v.val = true) → exec (.vectorAssert v) s = .next s.fin)) ∧
    (∀ (m : Master) (w : Word), Reaches s m .sys → R.sysIrqAck_vec.of w = v.val →
      (s.vecSent v.val = true → s.vecAsserted v.val = true → s.vecMasked v.val = false → s.hostOk = true →
        Completes (.sysIrqAck m w) s (fun t => t.out = s.out ++ [.msix v.val] ∧ t.vecSent v.val = true ∧ Frame [R.sysIrqVstatLo + 4 * (v.val / 32), R.pciPba (v.val / 32)] [.out] [] s t)) ∧
      (s.vecSent v.val = true → s.vecAsserted v.val = true → (s.vecMasked v.val = true ∨ s.hostOk = false) →
        Completes (.sysIrqAck m w) s (fun t => t.vecSent v.val = true ∧ t.vecPend v.val = true ∧ Frame [R.pciPba (v.val / 32)] [] [] s t)) ∧
      (s.vecSent v.val = true → s.vecAsserted v.val = false → Completes (.sysIrqAck m w) s (fun t => t.vecSent v.val = false ∧ Frame [R.sysIrqVstatLo + 4 * (v.val / 32)] [] [] s t)) ∧
      (s.vecSent v.val = false → exec (.sysIrqAck m w) s = .next s.fin)) ∧
    (Reaches s 0 .pci → s.host.funcMask = false → s.vecPend v.val = true →
      (s.vecAsserted v.val = false → Completes (.msixUnmask (some v)) s (fun t => t.vecPend v.val = false ∧ t.vecMasked v.val = false ∧
        Frame [R.pciMsix (4 * v.val + 3), R.pciPba (v.val / 32)] [] [] s t)) ∧
      (s.vecAsserted v.val = true → s.hostOk = true → Completes (.msixUnmask (some v)) s (fun t => t.out = s.out ++ [.msix v.val] ∧
        t.vecSent v.val = true ∧ t.vecPend v.val = false ∧ t.vecMasked v.val = false ∧
        Frame [R.pciMsix (4 * v.val + 3), R.pciPba (v.val / 32), R.sysIrqVstatLo + 4 * (v.val / 32)] [.out] [] s t))) ∧
    Completes (.msixUnmask none) s (fun t => t.host = { s.host with funcMask := false, fwdOr := t.host.fwdOr } ∧
      (s.regBit (R.pciMsix (4 * v.val + 3)) 0 = false → s.vecPend v.val = true → s.vecAsserted v.val = false → t.vecPend v.val = false) ∧
      Frame [R.sysIrqVstatLo, R.sysIrqVstatLo + 4, R.pciPba 0, R.pciPba 1] [.host, .out] [] s t) ∧
    Completes .msixDisable s (fun t => t.vecSent v.val = false ∧ t.vecPend v.val = false ∧
      t.host = { s.host with msixEn := false, fwdOr := t.host.fwdOr } ∧ Frame [R.sysIrqVstatLo, R.sysIrqVstatLo + 4, R.pciPba 0, R.pciPba 1] [.host] [] s t) ∧
    (∀ b : Bool, Completes (.msixEnable b) s (fun t => t.host = { s.host with msixEn := true, funcMask := b, fwdOr := t.host.fwdOr } ∧
      (s.isRoot = true → b = false → s.vecAsserted v.val = true → s.vecSent v.val = false → s.regBit (R.pciMsix (4 * v.val + 3)) 0 = false →
        s.hostOk = true → t.vecSent v.val = true ∧ t.vecPend v.val = false ∧ .msix v.val ∈ t.out) ∧ Frame [R.sysIrqVstatLo, R.sysIrqVstatLo + 4, R.pciPba 0, R.pciPba 1] [.host, .out] [] s t))

/-- On a member other than the root with an enabled source asserted, VECTOR_ASSERT sends a forward message when none stands for
this rise, and FORWARD_REPEAT sends one; neither changes a register; with no enabled source neither sends. At the root
FORWARD_MESSAGE from member m sets the member's bit of SYS_RMT_PEND, but never bit 0 of LO. (R56, R54) -/
def Obligations.ForwardMessagesReachTheRoot : Prop :=
  ∀ (s : State),
    (s.isRoot = false → s.anyRouted = true → ∀ v : Fin 64,
      Completes (.vectorAssert v) s (fun t => t.out = (if s.host.fwdOr then s.out else s.out ++ [.forward]) ∧ t.host.fwdOr = true ∧
        Frame [] [.out] [] s t) ∧
      Completes .forwardRepeat s (fun t => t.out = s.out ++ [.forward] ∧ t.host.fwdOr = true ∧ Frame [] [.out] [] s t)) ∧
    (s.isRoot = false → s.anyRouted = false → ∀ v : Fin 64, exec (.vectorAssert v) s = .next s.fin ∧ exec .forwardRepeat s = .next s.fin) ∧
    (s.isRoot = true → exec .forwardRepeat s = .next s.fin) ∧
    (∀ m : Fin 64, (s.isRoot = true → m.val ≠ 0 → Completes (.forwardMessage m) s (fun t => t.arrBit R.sysRmtPendLo m.val = true ∧
        (∀ n : Fin 64, n ≠ m → t.arrBit R.sysRmtPendLo n.val = s.arrBit R.sysRmtPendLo n.val) ∧
        Frame [R.sysRmtPendLo + 4 * (m.val / 32)] [] [] s t)) ∧
      ((s.isRoot = false ∨ m.val = 0) → exec (.forwardMessage m) s = .next s.fin))

/-- PERST_RELEASE ends the endpoint's reset. PERST_ASSERT and PCIE_LINK_DOWN clear SPEED, WIDTH and UP and discard host reads in
flight (only writes stay in flight); PERST_ASSERT also returns the endpoint, the PCI page with its header, and the vectors to
reset. PCIE_LINK_RETRAIN, outside PERST#, shows the rate, the lanes and UP; under PERST# it does nothing. D3hot, D0 and Bus
Master Enable set the endpoint's bits. A function level reset returns the PCI page and the vector states to reset; where no
DMA descriptor addresses host memory nothing else changes. None of them changes memory (but a function level reset that ends
descriptors) nor the protection. (R33, R34, R345, R55) -/
def Obligations.EndpointEventsActAsListed : Prop :=
  ∀ (s : State),
    Completes .perstRelease s (fun t => t.host = { s.host with perst := false, fwdOr := t.host.fwdOr } ∧ Frame [] [.host] [] s t) ∧
    Completes .perstAssert s (fun t => t.host.perst = true ∧ t.host.d3hot = false ∧ t.host.busMaster = false ∧ t.host.msixEn = false ∧
      t.host.funcMask = false ∧ t.bit R.pciLink_up = false ∧ t.bit R.pciLink_root = s.bit R.pciLink_root ∧ (∀ r ∈ t.host.remote, r.write = true) ∧
      (∀ a : Nat, (a < 0x1D000 ∨ 0x1E000 ≤ a) → a ≠ R.sysIrqVstatLo → a ≠ R.sysIrqVstatLo + 4 → t.reg a = s.reg a) ∧
      (∀ a : Nat, 0x1D000 ≤ a → a < 0x1E000 → a ≠ R.pciLink → t.reg a = regReset a) ∧ (∀ v : Fin 64, t.vecSent v.val = false ∧ t.vecPend v.val = false) ∧
      (t.hdr .pci).lock = .locked ∧ (t.hdr .pci).errCode = 0 ∧ (t.hdr .pci).irqEn = 0 ∧ SameBut [.host] s t ∧ ∀ q : Page, q ≠ .pci → SameHeader q s t) ∧
    Completes .pcieLinkDown s (fun t => t.bit R.pciLink_up = false ∧ t.get R.pciLink_speed = 0 ∧ t.get R.pciLink_width = 0 ∧
      (∀ r ∈ t.host.remote, r.write = true) ∧ t.bit R.pciLink_root = s.bit R.pciLink_root ∧ Frame [R.pciLink] [.host] [] s t) ∧
    (∀ (sp : Fin 3) (wide : Bool), (s.host.perst = false → Completes (.pcieLinkRetrain sp wide) s (fun t => t.bit R.pciLink_up = true ∧
        t.get R.pciLink_speed = sp.val + 1 ∧ t.get R.pciLink_width = (if wide then 2 else 1) ∧ Frame [R.pciLink, R.sysIrqVstatLo, R.sysIrqVstatLo + 4, R.pciPba 0, R.pciPba 1] [.out] [] s t)) ∧
      (s.host.perst = true → exec (.pcieLinkRetrain sp wide) s = .next s.fin)) ∧
    Completes .pcieD3hot s (fun t => t.host = { s.host with d3hot := true, fwdOr := t.host.fwdOr } ∧ t.hostOk = false ∧ Frame [] [.host] [] s t) ∧
    Completes .d0Entry s (fun t => t.host = { s.host with d3hot := false, fwdOr := t.host.fwdOr } ∧ Frame [R.sysIrqVstatLo, R.sysIrqVstatLo + 4, R.pciPba 0, R.pciPba 1] [.host, .out] [] s t) ∧
    Completes .busMasterEnable s (fun t => t.host = { s.host with busMaster := true, fwdOr := t.host.fwdOr } ∧ Frame [R.sysIrqVstatLo, R.sysIrqVstatLo + 4, R.pciPba 0, R.pciPba 1] [.host, .out] [] s t) ∧
    Completes .functionLevelReset s (fun t => (∀ a : Nat, (a < 0x1D000 ∨ 0x1E000 ≤ a) → a ≠ R.sysIrqVstatLo → a ≠ R.sysIrqVstatLo + 4 → t.reg a = s.reg a) ∧
      (∀ a : Nat, 0x1D000 ≤ a → a < 0x1E000 → a ≠ R.pciLink → t.reg a = regReset a) ∧ (∀ v : Fin 64, t.vecSent v.val = false ∧ t.vecPend v.val = false) ∧
      (t.hdr .pci).lock = .locked ∧ (t.hdr .pci).errCode = 0 ∧ (t.hdr .pci).irqEn = 0 ∧ t.pea = s.pea ∧ t.trm = s.trm ∧
      ((∀ n : Nat, n < 16 → s.chOnHost n = false) → SameBut [] s t ∧ ∀ q : Page, q ≠ .pci → SameHeader q s t))

/-- Under PERST#, in D3hot or with the link down a host access does nothing. Else: a write through BAR0 to register space acts as
a register write by master 0, and a 4-byte read returns what master 0 reads there; granted memory is read and written byte for
byte; the root's own part of BAR2 acts as BAR0. Through BAR2 a member that is not the root reads all-ones and records NOTROOT.
An access to member n that regions allow leaves as a frame, and with no answer stays in flight. When its 40 µs run out it
leaves the list, NORESP is recorded in PCI ERR, and a read returns all-ones. A late answer is discarded. On a numbered member
an access frame reads a register as master 6 does, writes as REGISTER_WRITE of master 6, and reads and writes granted memory;
each is answered. With no number it is not. (R35, R36, R37, R39, R40, R42, R261, R262, R267, R328) -/
def Obligations.RemoteAccessesSettle : Prop :=
  ∀ (s : State),
    ((s.host.perst = true ∨ s.host.d3hot = true ∨ s.bit R.pciLink_up = false) → ∀ (bar0 : Bool) (off : BitVec 31) (n : Nat)
      (data ans : Option (List Byte)) (errs : List (Nat × Bool)), exec (.hostRemoteAccess bar0 off n data errs ans) s = .next s.fin) ∧
    (s.host.perst = false → s.host.d3hot = false → s.bit R.pciLink_up = true →
      (∀ (off : BitVec 31) (ans : Option (List Byte)), off.toNat < 0x2000000 →
        (off.toNat < 0x800000 → off.toNat % 4 = 0 → Completes (.hostRemoteAccess true off 4 none [] ans) s (fun t =>
          t.out = s.out ++ [.readData 0 off.toNat (leBytes 4 (s.busRead 0 off.toNat).toNat)] ∧ Frame [] [.out, .latches] [] s t)) ∧
        (∀ (n : Nat) (bs : List Byte), off.toNat < 0x800000 →
          exec (.hostRemoteAccess true off n (some bs) [] ans) s = exec (.registerWrite 0 off.toNat bs.length (BitVec.ofNat 64 (leNat bs))) s) ∧
        (∀ n : Nat, 0x800000 ≤ off.toNat → s.memCheck 0 off.toNat n false = none → s.atomWin off.toNat = 0 → s.poisoned off.toNat n = false →
          s.lgeOpen off.toNat n = false → Completes (.hostRemoteAccess true off n none [] ans) s (fun t =>
            t.out = s.out ++ [.readData 0 off.toNat (memBytes s.mem off.toNat n)] ∧ Frame [] [.out] [] s t)) ∧
        (∀ (n : Nat) (bs : List Byte), 0x800000 ≤ off.toNat → s.memCheck 0 off.toNat bs.length true = none → s.atomWin off.toNat = 0 →
          Completes (.hostRemoteAccess true off n (some bs) [] ans) s (fun t => memBytes t.mem off.toNat bs.length = bs ∧
            SameMemoryBut off.toNat bs.length s t ∧ Frame [] [.mem, .sram] [] s t)) ∧
        (∀ (n : Nat) (data : Option (List Byte)) (errs : List (Nat × Bool)), s.isRoot = true →
          exec (.hostRemoteAccess false off n data errs ans) s = exec (.hostRemoteAccess true off n data errs ans) s)) ∧
      (s.isRoot = false → ∀ (off : BitVec 31) (len : Nat) (ans : Option (List Byte)),
        Completes (.hostRemoteAccess false off len none [] ans) s (fun t =>
          t.out = s.out ++ [.readData 0 (0x10000000000 + off.toNat) (allOnes len)] ∧
          ((s.hdr .pci).errCode = 0 → (t.hdr .pci).errCode = 0x0101) ∧ Frame [] [.out] [.pci] s t)) ∧
      (s.isRoot = true → ∀ (off : BitVec 31) (len : Nat) (data : Option (List Byte)), 0x2000000 ≤ off.toNat → 0 < accessLen len data → accessLen len data ≤ 256 →
        s.regionOk 0 (0x10000000000 + off.toNat / 0x2000000 * 0x2000000 + off.toNat % 0x2000000) (accessLen len data) data.isSome = true →
        Completes (.hostRemoteAccess false off len data [] none) s (fun t =>
          t.out = s.out ++ [.remoteReq s.host.nextTag (off.toNat / 0x2000000) (off.toNat % 0x2000000) data.isSome (data.getD [])] ∧
          t.host.remote = s.host.remote ++ [⟨s.host.nextTag, off.toNat / 0x2000000, off.toNat % 0x2000000, data.isSome, accessLen len data⟩] ∧
          t.host.nextTag = s.host.nextTag + 1 ∧ Frame [] [.out, .host] [] s t))) ∧
    (∀ r : RemoteReq, s.host.remote = [r] → Completes (.remoteAccessTimeout r.tag) s (fun t =>
      t.host.remote = [] ∧ r.tag ∈ t.host.late ∧ ((s.hdr .pci).errCode = 0 → (t.hdr .pci).errCode = 0x0004) ∧
      t.out = (if r.write then s.out else s.out ++ [.readData 0 (0x10000000000 + r.member * 0x2000000 + r.addr) (allOnes r.len)]) ∧
      Frame [] [.out, .host] [.pci] s t)) ∧
    (∀ tag : Nat, (∀ r ∈ s.host.remote, r.tag ≠ tag) → exec (.remoteAccessTimeout tag) s = .next s.fin) ∧
    (∀ tag : Nat, Completes (.lateAnswerDiscard tag) s (fun t => tag ∉ t.host.late ∧ t.host.remote = s.host.remote ∧ Frame [] [.host] [] s t)) ∧
    (∀ (src : Fin 64) (off : BitVec 25), (s.get R.galStat_num ≠ 1 → ∀ (n : Nat) (data : Option (List Byte)) (errs : List (Nat × Bool)),
        exec (.remoteAccessFrame src off n data errs) s = .next s.fin) ∧
      (s.get R.galStat_num = 1 →
        (off.toNat < 0x800000 → off.toNat % 4 = 0 → s.regionOk 6 off.toNat 4 false = true → Completes (.remoteAccessFrame src off 4 none []) s (fun t =>
          t.out = s.out ++ [.remoteAnswer src.val off.toNat (leBytes 4 (s.busRead 6 off.toNat).toNat)] ∧ Frame [] [.out, .latches] [] s t)) ∧
        (∀ (n : Nat) (bs : List Byte), off.toNat < 0x800000 → s.regionOk 6 off.toNat bs.length true = true →
          ∃ u : State, exec (.registerWrite 6 off.toNat bs.length (BitVec.ofNat 64 (leNat bs))) s = .next u ∧
            exec (.remoteAccessFrame src off n (some bs) []) s = .next { u with out := u.out ++ [.remoteAnswer src.val off.toNat []] }) ∧
        (∀ n : Nat, 0x800000 ≤ off.toNat → s.memCheck 6 off.toNat n false = none → s.atomWin off.toNat = 0 → s.poisoned off.toNat n = false →
          s.lgeOpen off.toNat n = false → Completes (.remoteAccessFrame src off n none []) s (fun t =>
            t.out = s.out ++ [.remoteAnswer src.val off.toNat (memBytes s.mem off.toNat n)] ∧ Frame [] [.out] [] s t)) ∧
        (∀ (n : Nat) (bs : List Byte), 0x800000 ≤ off.toNat → s.memCheck 6 off.toNat bs.length true = none → s.atomWin off.toNat = 0 →
          Completes (.remoteAccessFrame src off n (some bs) []) s (fun t => memBytes t.mem off.toNat bs.length = bs ∧
            SameMemoryBut off.toNat bs.length s t ∧ t.out = s.out ++ [.remoteAnswer src.val off.toNat []] ∧ Frame [] [.mem, .sram, .out] [] s t))))

/-- For an enabled AIN channel n (MOD_EN and EN): MODULATOR_SETTLED ends the INVALID of start-up; OVERRANGE_DETECT trips the
comparator, sets the sticky bit and raises the OVR edge where the bit was clear; MODULATOR_LOOP_RESET gives 8 clocks of mid-
scale, sets the sticky bit and raises MODRST. OVERRANGE_RELEASE ends the tag but keeps the sticky bit. OPEN_WIRE_MEASUREMENT
takes the mean of the last cycle in continuous mode, and in probe mode the mean of eight sinc samples at the end of the pulse
less that before it: one with OVR is discarded; another completes AFE_OWn_MEAS with the level (rounded in either direction)
and the run of detections; above OW_THR the run grows and OPENW is set at OW_CNT, below half of it the counter run grows and
OPENW clears at OW_CNT, between them neither moves OPENW. PROBE_PULSE, when it is due in a tracked mode with N other than 192,
runs between the last row and the next, or is deferred while the tracker is FROZEN or after a cycle with OVR. Otherwise these
events do nothing. (R60, R62, R63, R65, R67, R68, 03_analog_inputs.md) -/
def Obligations.AnalogInputCommandsActAsListed : Prop :=
  ∀ (n : Fin 32) (s : State),
    (s.ainOn n.val = true →
      Completes (.modulatorSettled n) s (fun t => t.afeInvalid n.val = false ∧ Frame [R.afeStat] [.afe] [] s t) ∧
      Completes (.overrangeDetect n) s (fun t => (t.ain n.val).tripped = true ∧ t.regBit R.afeOvrSticky n.val = true ∧
        (s.regBit R.afeOvrSticky n.val = false → Pends t .afe 1) ∧ Frame [R.afeOvrSticky] [.afe] [.afe] s t) ∧
      Completes (.modulatorLoopReset n) s (fun t => (t.ain n.val).midscale = 8 ∧ t.regBit R.afeOvrSticky n.val = true ∧ Pends t .afe 3 ∧
        Frame [R.afeOvrSticky] [.afe] [.afe] s t)) ∧
    (s.ainOn n.val = false → exec (.modulatorSettled n) s = .next s.fin ∧ exec (.overrangeDetect n) s = .next s.fin ∧
      exec (.modulatorLoopReset n) s = .next s.fin) ∧
    Completes (.overrangeRelease n) s (fun t => (t.ain n.val).tripped = false ∧ t.regBit R.afeOvrSticky n.val = s.regBit R.afeOvrSticky n.val ∧
      Frame [] [.afe] [] s t) ∧
    (∀ (x : Int) (k : Nat) (o : Bool), s.owMode n.val = 1 → (s.ain n.val).mean = some (x, k, o) →
      s.owReady n.val = some (x * 1024, k * 0x60000000, o)) ∧
    (∀ a b : List Tagged, s.owMode n.val = 2 → (s.ain n.val).pulse = true → (s.ain n.val).eight ((s.ain n.val).pulseClk + 491) = some a →
      (s.ain n.val).eight (s.ain n.val).pulseClk = some b →
      s.owReady n.val = some (((a.map (·.val)).sum - (b.map (·.val)).sum) * 1024, 8 * 0x60000000, a.any (·.ovr) || b.any (·.ovr))) ∧
    (s.owReady n.val = none → exec (.openWireMeasurement n) s = .next s.fin) ∧
    (∀ (num : Int) (den : Nat), s.owReady n.val = some (num, den, true) → Completes (.openWireMeasurement n) s (fun t =>
      (t.ain n.val).owRun = (s.ain n.val).owRun ∧ (t.ain n.val).owClear = (s.ain n.val).owClear ∧ (t.ain n.val).pulse = false ∧ Frame [] [.afe] [] s t)) ∧
    (∀ (num : Int) (den : Nat), s.owReady n.val = some (num, den, false) → s.ainOn n.val = true → s.get (R.afeAinCfg_ow_mode n.val) ≠ 0 →
      Completes (.openWireMeasurement n) s (fun t =>
        (t.ain n.val).owRun = (if (s.get (R.afeAinCfg_ow_thr n.val) * den : Nat) < num then Nat.min 255 ((s.ain n.val).owRun + 1) else 0) ∧
        (t.ain n.val).owClear = (if 2 * num < (s.get (R.afeAinCfg_ow_thr n.val) * den : Nat) then Nat.min 255 ((s.ain n.val).owClear + 1) else 0) ∧
        t.regBit R.afeOwStat n.val =
          (if Nat.max 1 (s.get (R.afeAinCfg_ow_cnt n.val)) ≤ (t.ain n.val).owRun then true
           else if Nat.max 1 (s.get (R.afeAinCfg_ow_cnt n.val)) ≤ (t.ain n.val).owClear then false else s.regBit R.afeOwStat n.val) ∧
        t.groupValid (R.afeOwMeas n.val) = true ∧ (t.ain n.val).pulse = false ∧
        (∃ l : Int, (l = num / (den : Int) ∨ l = num / (den : Int) + 1) ∧ (num % (den : Int) = 0 → l = num / (den : Int)) ∧
          t.groupWord (R.afeOwMeas n.val) 1 = BitVec.ofNat 32 (patOf 16 l + (t.ain n.val).owRun * 65536)) ∧
        Frame [R.afeOwStat, (R.afeOwMeas n.val).addr, (R.afeOwMeas n.val).addr + 4] [.afe] [.afe] s t)) ∧
    (s.ainOn n.val = true → s.owMode n.val = 2 → s.tracked = true → s.gridN ≠ 192 →
      (s.probeDue n.val = false → exec (.probePulse n) s = .next s.fin) ∧
      (s.probeDue n.val = true → (s.get R.gridStat_trk = 4 ∨ s.ovrLastCycle n.val = true) → Completes (.probePulse n) s (fun t =>
        (t.ain n.val).deferred = true ∧ (t.ain n.val).pulse = (s.ain n.val).pulse ∧ Frame [] [.afe] [] s t)) ∧
      (s.probeDue n.val = true → s.get R.gridStat_trk ≠ 4 → s.ovrLastCycle n.val = false → Completes (.probePulse n) s (fun t =>
        (t.ain n.val).pulse = true ∧ (t.ain n.val).deferred = false ∧ (t.ain n.val).pulseRow = some (rowBack s.grid.row 1) ∧
        (t.ain n.val).pulseClk = s.probeClk ∧ Frame [] [.afe] [] s t)))

/-- While MCLK_OUT toggles and an enabled channel of the group is captured with it, a lost returned clock sets CKLOST of its group
and AFE_BSI_STAT of the group's enabled channels, and its end clears CKLOST. On an enabled Manchester channel a lost
transition, or 5 violations in 64 bits, sets AFE_BSI_STAT; fewer replace the newest captured bit by the one before, tag it OVR
and set the sticky bit. A run of 32 or more identical bits tags them OVR and sets the sticky bit, and one of 4096 also sets
AFE_BSI_STAT. The stream's recovery clears it where the returned clock is good. A channel whose AFE_BSI_STAT bit or whose
group's CKLOST is set is INVALID. BSI_FAIL is pending after any loss. Only the named registers, the channel and its bits in
the chain change; on channels that do not run these events do nothing. (R69, R70, R72, R61, 03_analog_inputs.md) -/
def Obligations.BitstreamFaultsAreSettled : Prop :=
  ∀ (s : State),
    (∀ g : Fin 4, (s.usesClock g.val = true → Completes (.returnedClockLost g) s (fun t => t.regBit R.afeStat (2 + g.val) = true ∧
        (∀ c : Nat, 32 ≤ c → c < 64 → (c - 32) / 8 = g.val → t.afeInvalid c = true) ∧
        (∀ i : Fin 8, s.bit (R.afeBsiCfg_en (8 * g.val + i.val)) = true → t.regBit R.afeBsiStat (8 * g.val + i.val) = true) ∧
        Pends t .afe 2 ∧ Frame [R.afeStat, R.afeBsiStat] [] [] s t)) ∧
      (s.usesClock g.val = false → exec (.returnedClockLost g) s = .next s.fin) ∧
      Completes (.returnedClockRecovered g) s (fun t => t.regBit R.afeStat (2 + g.val) = false ∧
        (∀ i : Fin 8, s.bit (R.afeBsiCfg_en (8 * g.val + i.val)) = true →
          t.regBit R.afeBsiStat (8 * g.val + i.val) = ((s.bsi (8 * g.val + i.val)).lost || (s.bsi (8 * g.val + i.val)).run == 4096)) ∧
        Frame [R.afeStat, R.afeBsiStat] [] [] s t)) ∧
    (∀ n : Fin 32,
      (s.bsiMan n.val = true →
        Completes (.manchesterTransitionLost n) s (fun t => t.regBit R.afeBsiStat n.val = true ∧ t.afeInvalid (32 + n.val) = true ∧ Pends t .afe 2 ∧
          Frame [R.afeBsiStat] [.afe] [] s t) ∧
        (∀ k : Nat, 5 ≤ k → Completes (.manchesterViolation n k) s (fun t => t.regBit R.afeBsiStat n.val = true ∧ t.afeInvalid (32 + n.val) = true ∧
          Pends t .afe 2 ∧ Frame [R.afeBsiStat] [.afe] [] s t)) ∧
        (∀ k : Nat, k < 5 → Completes (.manchesterViolation n k) s (fun t => t.regBit R.afeBsiOvrSticky n.val = true ∧
          (s.regBit R.afeBsiOvrSticky n.val = false → Pends t .afe 1) ∧
          (∀ i : Nat, i < s.bsiDiv → i < (tget {} s.dfc.chan (32 + n.val)).bits.length → (tget {} t.dfc.chan (32 + n.val)).bits[i]? =
            some { ((tget {} s.dfc.chan (32 + n.val)).bits.getD i {}) with bit := ((tget {} s.dfc.chan (32 + n.val)).bits.getD s.bsiDiv {}).bit, ovr := true }) ∧
          t.regBit R.afeBsiStat n.val = s.regBit R.afeBsiStat n.val ∧ Frame [R.afeBsiOvrSticky] [.afe, .dfc] [.afe] s t))) ∧
      (s.bsiMan n.val = false → exec (.manchesterTransitionLost n) s = .next s.fin ∧ ∀ k : Nat, exec (.manchesterViolation n k) s = .next s.fin) ∧
      (s.bsiOn n.val = true → ∀ k : Nat, 32 ≤ k → Completes (.identicalBitRun n k) s (fun t => t.regBit R.afeBsiOvrSticky n.val = true ∧
        (s.regBit R.afeBsiOvrSticky n.val = false → Pends t .afe 1) ∧
        (∀ i : Nat, i < k * s.bsiDiv → i < (tget {} s.dfc.chan (32 + n.val)).bits.length →
          (tget {} t.dfc.chan (32 + n.val)).bits[i]? = some { ((tget {} s.dfc.chan (32 + n.val)).bits.getD i {}) with ovr := true }) ∧
        t.regBit R.afeBsiStat n.val = ((s.bsi n.val).lost || decide (4096 ≤ k) || s.regBit R.afeStat (2 + n.val / 8)) ∧
        Frame [R.afeBsiOvrSticky, R.afeBsiStat] [.afe, .dfc] [.afe] s t)) ∧
      ((s.bsiOn n.val = false → ∀ k : Nat, exec (.identicalBitRun n k) s = .next s.fin) ∧ ∀ k : Nat, k < 32 → exec (.identicalBitRun n k) s = .next s.fin) ∧
      Completes (.bsiStreamRecovered n) s (fun t => (t.bsi n.val).lost = false ∧ t.regBit R.afeBsiStat n.val =
        (if s.bit (R.afeBsiCfg_en n.val) then s.regBit R.afeStat (2 + n.val / 8) else s.regBit R.afeBsiStat n.val) ∧ Frame [R.afeBsiStat] [.afe] [] s t))

/-- A write to an UNLOCKED AFE page: AFE_AINn_CFG with RANGE changed while EN stays 1 is dropped with RANGE_LIVE (also where it
breaks the next rule: the model's choice, log entry 91); else with OW_MODE 0b11, or turned to probing in a preset mode or with
N = 192, it is dropped with OW_REFUSED; every other stores its RW bits; with EN 0, or EN newly 1, the channel is INVALID, and
with EN 0 or OW_MODE off the OPENW bit and the result group's VALID clear. AFE CTRL with MCLK_DIV 0b11, or changed while a BSI
channel is enabled, is dropped with MCLK_LIVE; every other stores, MCLK_RUN follows MCLK_DIV, and with MOD_EN 0 every AIN
channel is INVALID. AFE_BSIn_CFG with MODE 0b11 or changed while EN is 1 is dropped with MODE_LIVE; every other stores, and
AFE_BSI_STAT of an enabled channel shows whether its stream is lost. A dropped write changes only ERR. (R60, R65, R68, R69,
R70, R72, R47, R48, 03_analog_inputs.md) -/
def Obligations.FrontEndWritesObeyTheirLiveRules : Prop :=
  ∀ (m : Master) (n : Fin 32) (v : Word) (s : State), Reaches s m .afe →
    (s.bit (R.afeAinCfg_en n.val) = true → (R.afeAinCfg_en n.val).of v = 1 → (R.afeAinCfg_range n.val).of v ≠ s.get (R.afeAinCfg_range n.val) →
      exec (.afeAinCfgWrite m n v) s = .next (s.raise .afe 0x0101 m.val).fin) ∧
    (¬ (s.bit (R.afeAinCfg_en n.val) = true ∧ (R.afeAinCfg_en n.val).of v = 1 ∧ (R.afeAinCfg_range n.val).of v ≠ s.get (R.afeAinCfg_range n.val)) →
      (((R.afeAinCfg_ow_mode n.val).of v = 3 ∨
          ((R.afeAinCfg_ow_mode n.val).of v = 2 ∧ s.get (R.afeAinCfg_ow_mode n.val) ≠ 2 ∧ (s.tracked = false ∨ s.gridN = 192))) →
        exec (.afeAinCfgWrite m n v) s = .next (s.raise .afe 0x0103 m.val).fin) ∧
      ((R.afeAinCfg_ow_mode n.val).of v ≠ 3 →
        ((R.afeAinCfg_ow_mode n.val).of v = 2 → s.get (R.afeAinCfg_ow_mode n.val) = 2 ∨ (s.tracked = true ∧ s.gridN ≠ 192)) →
        Completes (.afeAinCfgWrite m n v) s (fun t =>
          t.reg (R.afeAinCfg n.val) = (s.reg (R.afeAinCfg n.val) &&& 0xFF000000#32) ||| (v &&& 0x00FFFFFF#32) ∧
          ((R.afeAinCfg_en n.val).of v = 0 ∨ (R.afeAinCfg_ow_mode n.val).of v = 0 →
            t.regBit R.afeOwStat n.val = false ∧ t.groupValid (R.afeOwMeas n.val) = false) ∧
          ((R.afeAinCfg_en n.val).of v = 0 ∨ s.bit (R.afeAinCfg_en n.val) = false → t.afeInvalid n.val = true) ∧
          Frame [R.afeAinCfg n.val, R.afeOwStat, (R.afeOwMeas n.val).addr, R.afeStat] [.afe] [] s t))) ∧
    ((R.afeCtrl_mclk_div.of v = 3 ∨ (R.afeCtrl_mclk_div.of v ≠ s.get R.afeCtrl_mclk_div ∧ ∃ k : Fin 32, s.bit (R.afeBsiCfg_en k.val) = true)) →
      exec (.afeCtrlWrite m v) s = .next (s.raise .afe 0x0102 m.val).fin) ∧
    (R.afeCtrl_mclk_div.of v ≠ 3 → (R.afeCtrl_mclk_div.of v = s.get R.afeCtrl_mclk_div ∨ ∀ k : Fin 32, s.bit (R.afeBsiCfg_en k.val) = false) →
      Completes (.afeCtrlWrite m v) s (fun t =>
        t.reg R.afeCtrl = (s.reg R.afeCtrl &&& 0xFFFFFFF8#32) ||| (v &&& 0x7#32) ∧ t.bit R.afeStat_mclk_run = (R.afeCtrl_mclk_div.of v != 0) ∧
        (R.afeCtrl_mod_en.of v = 0 → ∀ k : Fin 32, t.afeInvalid k.val = true) ∧ Frame [R.afeCtrl, R.afeStat, R.afeOwStat] [.afe] [] s t)) ∧
    (((R.afeBsiCfg_mode n.val).of v = 3 ∨ (s.bit (R.afeBsiCfg_en n.val) = true ∧ (R.afeBsiCfg_mode n.val).of v ≠ s.get (R.afeBsiCfg_mode n.val))) →
      exec (.afeBsiCfgWrite m n v) s = .next (s.raise .afe 0x0104 m.val).fin) ∧
    ((R.afeBsiCfg_mode n.val).of v ≠ 3 → (s.bit (R.afeBsiCfg_en n.val) = false ∨ (R.afeBsiCfg_mode n.val).of v = s.get (R.afeBsiCfg_mode n.val)) →
      Completes (.afeBsiCfgWrite m n v) s (fun t =>
        t.reg (R.afeBsiCfg n.val) = (s.reg (R.afeBsiCfg n.val) &&& 0xFF000080#32) ||| (v &&& 0x00FFFF7F#32) ∧
        t.regBit R.afeBsiStat n.val = (if (R.afeBsiCfg_en n.val).of v = 1 then s.bsiLost n.val else s.regBit R.afeBsiStat n.val) ∧
        Frame [R.afeBsiCfg n.val, R.afeBsiStat] [] [] s t))

/-- For an UNLOCKED DFC page. Setting EN under GRIDTIME sets an origin that is a multiple of 4096 modulator clocks of grid time,
later than now by at most 4096, and the start waits for it; under EDGE the chain starts at the command's edge, 3 clocks on (a
reading: log entry 95). Setting EN while it is 1, or clearing it while it is 0, only stores CTRL. Clearing EN stops the chain
and clears every history (a pending SYNC is dropped: the model's choice, log entry 91). SYNC_CMD with GO 0 does nothing; while
EN = 0 it is dropped with SYNC_IDLE; while EN = 1 it raises SYNC_PEND and drops VALID, and a second one changes nothing. A
ball edge is ignored while SYNC_BALL is 0, counted while EN is 0 (that the first wins is the model's choice, log entry 39),
counted with SYNC_IGN when it comes less than 166.667 us after the last, and else acts as the command. SYNC_ALIGNMENT, where
an origin is set, sets every stage phase from it (an idle TAIL's from division by 2: the model's choice, log entry 91), tags
the next output of the stages whose phase moved INVALID, begins a pending start with no history, and completes a pending
request with TIME and IGNORED, SYNC_DONE pending and SYNC_PEND 0. (R85, R86, R87, R88, R51, R7, 04_filter_chain.md) -/
def Obligations.ChainStartsStopsAndAligns : Prop :=
  ∀ (m : Master) (v : Word) (s : State),
    (Reaches s m .dfc →
      (s.bit R.dfcCtrl_en = false →
        ((R.dfcCtrl_align).of v = 0 → Completes (.chainEnable m v) s (fun t => t.reg R.dfcCtrl = (s.reg R.dfcCtrl &&& 0xFFFFFFF8#32) ||| (v &&& 0x7#32) ||| 1#32 ∧
          t.dfc.startPend = true ∧ (∃ o : Nat, t.dfc.syncAt = some o ∧ o % 4096 = 0 ∧ s.gridClk < o ∧ o ≤ s.gridClk + 4096) ∧
          t.dfc.chan = s.dfc.chan ∧ t.bit R.dfcStat_run = s.bit R.dfcStat_run ∧ Frame [R.dfcCtrl] [.dfc] [] s t)) ∧
        ((R.dfcCtrl_align).of v = 1 → Completes (.chainEnable m v) s (fun t => t.reg R.dfcCtrl = (s.reg R.dfcCtrl &&& 0xFFFFFFF8#32) ||| (v &&& 0x7#32) ||| 1#32 ∧
          t.bit R.dfcStat_run = true ∧ t.bit R.dfcStat_synced = true ∧ t.dfc.origin = s.gridClk + 3 ∧ t.dfc.chan = [] ∧
          t.dfc.phase = phasesOf (s.get R.dfcStat_path) (s.gridClk + 3) ∧ (s.bit R.dfcStat_sync_pend = false → Frame [R.dfcCtrl, R.dfcStat] [.dfc] [] s t))) ∧
        Completes (.chainDisable m v) s (fun t => t.bit R.dfcCtrl_en = false ∧ t.reg R.dfcCtrl = (s.reg R.dfcCtrl &&& 0xFFFFFFF8#32) ||| (v &&& 0x6#32) ∧
          Frame [R.dfcCtrl] [] [] s t) ∧
        (R.dfcSyncCmd_go.of v = 1 → exec (.syncCmd m v) s = .next (s.raise .dfc 0x0103 m.val).fin)) ∧
      (s.bit R.dfcCtrl_en = true →
        Completes (.chainEnable m v) s (fun t => t.reg R.dfcCtrl = (s.reg R.dfcCtrl &&& 0xFFFFFFF8#32) ||| (v &&& 0x7#32) ||| 1#32 ∧ Frame [R.dfcCtrl] [] [] s t) ∧
        Completes (.chainDisable m v) s (fun t => t.bit R.dfcCtrl_en = false ∧ t.bit R.dfcStat_run = false ∧ t.bit R.dfcStat_synced = false ∧
          t.bit R.dfcStat_sync_pend = false ∧ t.dfc.chan = [] ∧ t.dfc.syncAt = none ∧ Frame [R.dfcCtrl, R.dfcStat] [.dfc] [] s t) ∧
        (R.dfcSyncCmd_go.of v = 1 → s.bit R.dfcStat_sync_pend = true → exec (.syncCmd m v) s = .next s.fin) ∧
        (R.dfcSyncCmd_go.of v = 1 → s.bit R.dfcStat_sync_pend = false → Completes (.syncCmd m v) s (fun t => t.bit R.dfcStat_sync_pend = true ∧
          t.groupValid R.dfcSyncRes = false ∧ t.dfc.syncAt = some (s.dfc.syncAt.getD (s.syncOrigin 3)) ∧ Frame [R.dfcStat, R.dfcSyncRes.addr] [.dfc] [] s t))) ∧
      (R.dfcSyncCmd_go.of v = 0 → exec (.syncCmd m v) s = .next s.fin)) ∧
    (s.bit R.dfcCtrl_sync_ball = false → exec .syncBallEdge s = .next s.fin) ∧
    (s.bit R.dfcCtrl_sync_ball = true → s.bit R.dfcCtrl_en = false → Completes .syncBallEdge s (fun t =>
      t.dfc.ignored = Nat.min 0xFFFF (s.dfc.ignored + 1) ∧ t.dfc.lastEdge = s.dfc.lastEdge ∧ Frame [] [.dfc] [] s t)) ∧
    (s.bit R.dfcCtrl_sync_ball = true → s.bit R.dfcCtrl_en = true →
      (∀ e : Nat, s.dfc.lastEdge = some e → s.gridNs < e + 166667 → Completes .syncBallEdge s (fun t =>
        t.dfc.ignored = Nat.min 0xFFFF (s.dfc.ignored + 1) ∧ t.dfc.lastEdge = some e ∧ Pends t .dfc 3 ∧ Frame [] [.dfc] [.dfc] s t)) ∧
      ((∀ e : Nat, s.dfc.lastEdge = some e → e + 166667 ≤ s.gridNs) → Completes .syncBallEdge s (fun t =>
        t.dfc.lastEdge = some s.gridNs ∧ t.bit R.dfcStat_sync_pend = true ∧
        (s.bit R.dfcStat_sync_pend = false → t.groupValid R.dfcSyncRes = false ∧ t.dfc.syncAt = some (s.dfc.syncAt.getD (s.syncOrigin 4))) ∧
        (s.bit R.dfcStat_sync_pend = true → t.dfc.syncAt = s.dfc.syncAt) ∧ Frame [R.dfcStat, R.dfcSyncRes.addr] [.dfc] [] s t))) ∧
    (s.dfc.syncAt = none → exec .syncAlignment s = .next s.fin) ∧
    (∀ o : Nat, s.dfc.syncAt = some o → Completes .syncAlignment s (fun t =>
      t.dfc.phase = phasesOf (s.get R.dfcStat_path) o ∧ t.dfc.origin = o ∧ t.dfc.syncAt = none ∧ t.dfc.startPend = false ∧
      t.bit R.dfcStat_sync_pend = false ∧ t.bit R.dfcStat_run = s.bit R.dfcCtrl_en ∧ t.bit R.dfcStat_synced = s.bit R.dfcCtrl_en ∧
      (s.dfc.startPend = true → t.dfc.chan = []) ∧
      (s.dfc.startPend = false → s.dfc.phase.length = 7 → ∀ c : Fin 64, (tget {} s.dfc.chan c.val).moved.length = 7 → ∀ k : Fin 7,
        (tget {} t.dfc.chan c.val).moved.getD k.val false =
          ((tget {} s.dfc.chan c.val).moved.getD k.val false || (phasesOf (s.get R.dfcStat_path) o).getD k.val 0 != s.dfc.phase.getD k.val 0)) ∧
      (s.bit R.dfcStat_sync_pend = false → t.dfc.ignored = s.dfc.ignored ∧ Frame [R.dfcStat] [.dfc] [] s t) ∧
      (s.bit R.dfcStat_sync_pend = true → t.dfc.ignored = 0 ∧ t.groupValid R.dfcSyncRes = true ∧
        t.groupWord R.dfcSyncRes 1 = tstampClk o ∧ (t.groupWord R.dfcSyncRes 2).toNat / 65536 = s.dfc.ignored % 65536 ∧ Pends t .dfc 0 ∧
        Frame [R.dfcStat, R.dfcSyncRes.addr, R.dfcSyncRes.addr + 4, R.dfcSyncRes.addr + 8] [.dfc] [.dfc] s t)))

/-- HB_SWAP_REQUEST on an UNLOCKED page sets the requested bits and SWAP_PEND follows them; HB_SWAP_DONE of a requested stage
clears its bit, toggles its bank and raises SWAP_DONE, and of another stage does nothing. COEF_WRITE to the active bank, or
while the stage's swap is pending, is dropped with COEF_ACTIVE; to the inactive bank with no swap pending it stores the 24-bit
coefficient and no other register changes. DFC_INT_WRITE while EN = 1 is dropped with INT_LIVE and else stores its fields.
INTEGRATOR_SETTLED of a running chain ends the INVALID of a channel whose last input was good; while the chain is stopped it
does nothing. (R83, R84, R8, 04_filter_chain.md) -/
def Obligations.CoefficientBanksSwap : Prop :=
  ∀ (m : Master) (v : Word) (s : State),
    (Reaches s m .dfc →
      Completes (.hbSwapRequest m v) s (fun t => (∀ k : Fin 5, t.regBit R.dfcHbSwap k.val = (s.regBit R.dfcHbSwap k.val || v.getLsbD k.val)) ∧
        t.bit R.dfcStat_swap_pend = (t.get R.dfcHbSwap_swap != 0) ∧ Frame [R.dfcHbSwap, R.dfcStat] [] [] s t) ∧
      (∀ (b : Fin 2) (k : Fin 41),
        ((s.regBit R.dfcHbBank (coefPlace k.val).1 = (b == 1) ∨ s.regBit R.dfcHbSwap (coefPlace k.val).1 = true) →
          exec (.coefWrite m b k v) s = .next (s.raise .dfc 0x0101 m.val).fin) ∧
        (s.regBit R.dfcHbBank (coefPlace k.val).1 ≠ (b == 1) → s.regBit R.dfcHbSwap (coefPlace k.val).1 = false →
          Completes (.coefWrite m b k v) s (fun t => t.reg (coefAddr b.val k.val) =
            (s.reg (coefAddr b.val k.val) &&& 0xFF000000#32) ||| (v &&& 0x00FFFFFF#32) ∧ Frame [coefAddr b.val k.val] [] [] s t))) ∧
      (∀ n : Fin 64,
        (s.bit R.dfcCtrl_en = true → exec (.dfcIntWrite m n v) s = .next (s.raise .dfc 0x0102 m.val).fin) ∧
        (s.bit R.dfcCtrl_en = false → Completes (.dfcIntWrite m n v) s (fun t =>
          t.bit (R.dfcChInt_en n.val) = ((R.dfcChInt_en n.val).of v == 1) ∧ t.get (R.dfcChInt_fc n.val) = (R.dfcChInt_fc n.val).of v ∧
          t.get (R.dfcChInt_ref n.val) = (R.dfcChInt_ref n.val).of v ∧ Frame [R.dfcChInt n.val] [] [] s t)))) ∧
    (∀ k : Fin 5,
      (s.regBit R.dfcHbSwap k.val = true → Completes (.hbSwapDone k) s (fun t => t.regBit R.dfcHbSwap k.val = false ∧
        t.regBit R.dfcHbBank k.val = (!s.regBit R.dfcHbBank k.val) ∧ (∀ j : Nat, j ≠ k.val → t.regBit R.dfcHbBank j = s.regBit R.dfcHbBank j) ∧
        Pends t .dfc 1 ∧ Frame [R.dfcHbSwap, R.dfcHbBank, R.dfcStat] [] [.dfc] s t)) ∧
      (s.regBit R.dfcHbSwap k.val = false → exec (.hbSwapDone k) s = .next s.fin)) ∧
    (∀ n : Fin 64,
      (s.bit R.dfcStat_run = true → Completes (.integratorSettled n) s (fun t =>
        ((tget {} s.dfc.chan n.val).x1.invalid = false → (tget {} t.dfc.chan n.val).settling = false) ∧
        ((tget {} s.dfc.chan n.val).x1.invalid = true → (tget {} t.dfc.chan n.val).settling = (tget {} s.dfc.chan n.val).settling) ∧
        (∀ k : Nat, k ≠ n.val → tget {} t.dfc.chan k = tget {} s.dfc.chan k) ∧ Frame [] [.dfc] [] s t)) ∧
      (s.bit R.dfcStat_run = false → exec (.integratorSettled n) s = .next s.fin))

/-- ROW_WRITE lets its modulator clocks pass (the chain runs, the strike comparators judge). Where a row is due it then takes the
next ROW, modulo 3 × 2^30, moves the position by the increment in force (tracked: the one due at this row, if any) or the
preset's row period, and the row is in flight behind those before it; where GRID may write the plane, it clears SEALED and
writes INVALID with value 0 for every unused quantity and, while the chain is off, every local one; memory changes in the
row's slot alone. ROW_SEAL takes the oldest row in flight, of the run or of one before a restart (counted apart); GRID_NOW
completes with its ROW and TSTAMP. Where it starts no tick and the recorder is off, it writes the row's slot alone:
substitution by SUB = VALUE reads SUBST and TEST, no substitution adds TEST and, under DESYNC, QUEST; the header, where GRID
may write it, holds ROW, TSTAMP and SEALED. The last row before a stop ends RUN and GRID_NOW's VALID. With no row in flight
ROW_SEAL changes nothing. At the seal of a cycle's first row in ACQUIRE, LOCKED or RELEASE with FORCE_FRZ set the tracker
becomes FROZEN and raises its edge. (R18, R90, R91, R94, R95, R96, R102, R103, R104, R105, R107, R51) -/
def Obligations.RowsAreWrittenAndSealed : Prop :=
  ∀ (s : State),
    (∀ (clocks : Nat) (ain : List (Nat × List ModBit)) (lines : List (Nat × List Bool)),
      (s.rowDue = false → exec (.rowWrite clocks ain lines) s = .next (chainStep clocks ain lines s).fin) ∧
      (s.rowDue = true → Completes (.rowWrite clocks ain lines) s (fun t => t.grid.row = (s.grid.row + 1) % rowMod ∧
        t.grid.inc = (match s.grid.next with
          | some (r, inc, _) => if s.tracked = true ∧ s.grid.row % s.gridN = 0 ∧ r = s.grid.row then inc else s.grid.inc
          | none => s.grid.inc) ∧
        t.grid.pos = s.grid.pos + (if s.tracked then t.grid.inc else 96000 / s.presetRate * 2 ^ 32) ∧
        t.grid.inflight.map (fun r => r.row) = s.grid.inflight.map (fun r => r.row) ++ [s.grid.row] ∧ t.grid.sealed = s.grid.sealed ∧
        (∀ u : State, u = chainStep clocks ain lines s → (∀ x ∈ rowAcc s.grid.row true, u.memCheck 3 x.1 x.2.1 x.2.2 = none) →
          (t.headWord s.grid.row 3).getLsbD 31 = false ∧
          (∀ q : Nat, q < 576 → (s.numQ ≤ q ∨ (q < 64 ∧ s.bit R.dfcStat_run = false)) → t.planeVal s.grid.row q = 0 ∧ qHas (t.planeQual s.grid.row q) qINVALID = true) ∧
          (∀ a : Nat, (a < headAddr s.grid.row ∨ headAddr s.grid.row + 32 ≤ a) → (a < valueAddr s.grid.row 0 ∨ valueAddr s.grid.row 576 ≤ a) →
            (a < qualAddr s.grid.row 0 ∨ qualAddr s.grid.row 576 ≤ a) → memByte t.mem a = memByte s.mem a) ∧
          Frame [R.gridSatStickyLo, R.gridSatStickyHi] [.grid, .afe, .mem, .sram] [.grid] u t)))) ∧
    (s.grid.inflight = [] → exec .rowSeal s = .next s.fin) ∧
    (∀ (r : RowRec) (rest : List RowRec), s.grid.inflight = r :: rest → Completes .rowSeal s (fun t => t.grid.inflight = rest ∧
      t.grid.old = s.grid.old - 1 ∧ t.grid.sealed = s.grid.sealed + (if s.grid.old = 0 then 1 else 0) ∧
      t.groupWord R.gridNow 1 = BitVec.ofNat 32 r.row ∧ t.groupWord R.gridNow 2 = r.tstamp ∧
      ((s.grid.stopAt = none ∨ rest ≠ [] ∨ s.rowDue = true) → t.groupValid R.gridNow = true ∧ t.bit R.gridStat_run = s.bit R.gridStat_run) ∧
      (s.grid.stopAt ≠ none → rest = [] → s.rowDue = false → t.groupValid R.gridNow = false ∧ t.bit R.gridStat_run = false ∧ t.grid.stopAt = none) ∧
      (s.grid.old = 0 → s.tracked = true → r.row % s.gridN = 0 → s.get R.gridStat_trk ∈ [2, 3, 5] → s.bit R.gridCtrl_force_frz = true →
        t.get R.gridStat_trk = 4 ∧ Pends t .grid 0) ∧
      (s.isTickRow r.row = false → s.bit R.drcCtrl_en = false →
        (∀ q : Nat, 64 ≤ q → q < 576 →
          (s.get (R.gridQCfg_sub q) = 1 → t.word (valueAddr r.row q) = s.word (substAddr q) ∧
            t.planeQual r.row q = qSUBST ||| (if s.bit (R.gridQCfg_test q) then qTEST else 0)) ∧
          (s.get (R.gridQCfg_sub q) ≠ 1 → s.get (R.gridQCfg_sub q) ≠ 2 → t.word (valueAddr r.row q) = s.word (valueAddr r.row q) ∧
            t.planeQual r.row q = s.planeQual r.row q ||| (if s.bit (R.gridQCfg_test q) then qTEST else 0) |||
              (if t.bit R.gridStat_desync then qQUEST else 0))) ∧
        (s.memCheck 3 (headAddr r.row) 32 true = none →
          t.headWord r.row 0 = BitVec.ofNat 32 r.row ∧ t.headWord r.row 1 = r.tstamp ∧ (t.headWord r.row 3).getLsbD 31 = true) ∧
        ∀ a : Nat, (a < headAddr r.row ∨ headAddr r.row + 32 ≤ a) → (a < valueAddr r.row 0 ∨ valueAddr r.row 576 ≤ a) →
          (a < qualAddr r.row 0 ∨ qualAddr r.row 576 ≤ a) → memByte t.mem a = memByte s.mem a)))

/-- For an UNLOCKED GRID page: GRID_ENABLE from EN = 0 starts the grid at ROW 0 (tracked: position 0) on the next instant of the
chain's 166.667 us lattice, RUN = 1, the tracker in FIXED, FOLLOW (asking its source for an ALIGN) or NOMINAL by its mode;
rows in flight stay. GRID_DISABLE with no row in flight and none due ends RUN, GRID_NOW's and PHE_TICK's VALID and, with no
tick running, PHE RUN; else rows before the stop are still sealed. Written without a change of EN both only store CTRL.
GRID_TRK_WRITE that changes source, member or mode while EN = 1 is dropped with TRK_LIVE, else it stores. GRID_ALIGN_CMD with
GO asks for an ALIGN, or is dropped with ALIGN_REFUSED where the mode is not FOLLOW or EN is 0. GRID_Q_CFG_WRITE stores.
TRACKER_RELEASE moves FROZEN to RELEASE after HOLD clear cycles; TRACKER_STALE sets STALE once. A following grid takes a
TRACKER_UPDATE for its row, and a GRID_ALIGN puts the ALIGN point at its instant with its increment; the source sends an ALIGN
for a cycle start at least 2 cycles ahead (log entry 98). In other states these events do nothing. (R94, R95, R97, R98, R105,
R107, R383, R137, 05_sample_grid.md) -/
def Obligations.GridAndTrackerCommandsActAsListed : Prop :=
  ∀ (m : Master) (v : Word) (s : State),
    (Reaches s m .grid →
      (s.bit R.gridCtrl_en = false →
        Completes (.gridEnable m v) s (fun t => t.reg R.gridCtrl = (s.reg R.gridCtrl &&& 0xFFFFFFFC#32) ||| (v &&& 0x3#32) ||| 1#32 ∧ t.bit R.gridStat_run = true ∧
          t.grid.row = 0 ∧ (s.tracked = true → t.grid.pos = 0) ∧ t.grid.origin = nextLattice (if s.bit R.dfcStat_run then s.dfc.origin % 4096 else 0) s.gridClk ∧
          t.grid.inc = incOf s.gridN s.fnom ∧ t.grid.inflight = s.grid.inflight ∧ t.grid.sealed = 0 ∧ t.pea.lastTick = none ∧
          t.get R.gridStat_trk = (if s.trkMode = 2 then 0 else if s.trkMode = 1 then 6 else 1) ∧
          t.bit R.gridStat_desync = (s.trkMode == 1) ∧ t.out = (if s.trkMode = 1 then s.out ++ [.alignReq (s.get R.gridTrk_trk_mbr)] else s.out) ∧
          Frame [R.gridCtrl, R.gridStat, R.pheStat, R.pheTick.addr, R.svsStat, R.svsLostLo, R.svsLostHi] [.grid, .phe, .pea, .out] [] s t) ∧
        Completes (.gridDisable m v) s (fun t => t.reg R.gridCtrl = (s.reg R.gridCtrl &&& 0xFFFFFFFC#32) ||| (v &&& 0x2#32) ∧ Frame [R.gridCtrl] [] [] s t)) ∧
      (s.bit R.gridCtrl_en = true →
        Completes (.gridEnable m v) s (fun t => t.reg R.gridCtrl = (s.reg R.gridCtrl &&& 0xFFFFFFFC#32) ||| (v &&& 0x3#32) ||| 1#32 ∧ Frame [R.gridCtrl] [] [] s t) ∧
        ((s.grid.inflight = [] ∧ (s.bit R.gridStat_run = true → s.gridNs ≤ nsOfInstant (s.grid.origin * 2 ^ 24 + s.grid.pos))) →
          Completes (.gridDisable m v) s (fun t => t.reg R.gridCtrl = (s.reg R.gridCtrl &&& 0xFFFFFFFC#32) ||| (v &&& 0x2#32) ∧
            t.bit R.gridStat_run = false ∧ t.groupValid R.gridNow = false ∧ t.bit R.svsStat_run = false ∧
            (s.phe.busy = none → t.bit R.pheStat_run = false ∧ t.groupValid R.pheTick = false) ∧
            Frame [R.gridCtrl, R.gridStat, R.gridNow.addr, R.pheStat, R.pheTick.addr, R.svsStat, R.svsLostLo, R.svsLostHi, R.drcStat] [.grid, .phe, .drc] [] s t)) ∧
        (¬ (s.grid.inflight = [] ∧ (s.bit R.gridStat_run = true → s.gridNs ≤ nsOfInstant (s.grid.origin * 2 ^ 24 + s.grid.pos))) →
          Completes (.gridDisable m v) s (fun t => t.bit R.gridCtrl_en = false ∧ t.grid = { s.grid with stopAt := some s.gridNs } ∧
            Frame [R.gridCtrl] [.grid] [] s t))) ∧
      (s.bit R.gridCtrl_en = true → (R.gridTrk_mode.of v ≠ s.get R.gridTrk_mode ∨ R.gridTrk_src_kind.of v ≠ s.get R.gridTrk_src_kind ∨
          R.gridTrk_src.of v ≠ s.get R.gridTrk_src ∨ R.gridTrk_trk_mbr.of v ≠ s.get R.gridTrk_trk_mbr) →
        exec (.gridTrkWrite m v) s = .next (s.raise .grid 0x0101 m.val).fin) ∧
      ((s.bit R.gridCtrl_en = false ∨ (R.gridTrk_mode.of v = s.get R.gridTrk_mode ∧ R.gridTrk_src_kind.of v = s.get R.gridTrk_src_kind ∧
          R.gridTrk_src.of v = s.get R.gridTrk_src ∧ R.gridTrk_trk_mbr.of v = s.get R.gridTrk_trk_mbr)) →
        Completes (.gridTrkWrite m v) s (fun t => t.get R.gridTrk_mode = R.gridTrk_mode.of v ∧ t.get R.gridTrk_src_kind = R.gridTrk_src_kind.of v ∧
          t.get R.gridTrk_src = R.gridTrk_src.of v ∧ t.get R.gridTrk_trk_mbr = R.gridTrk_trk_mbr.of v ∧ t.get R.gridTrk_gain = R.gridTrk_gain.of v ∧
          t.get R.gridTrk_slew = R.gridTrk_slew.of v ∧ Frame [R.gridTrk] [] [] s t)) ∧
      (R.gridAlignCmd_go.of v = 0 → exec (.gridAlignCmd m v) s = .next s.fin) ∧
      (R.gridAlignCmd_go.of v = 1 → s.get R.gridTrk_mode = 1 → s.bit R.gridCtrl_en = true → Completes (.gridAlignCmd m v) s (fun t =>
        t.out = s.out ++ [.alignReq (s.get R.gridTrk_trk_mbr)] ∧ Frame [] [.out] [] s t)) ∧
      (R.gridAlignCmd_go.of v = 1 → (s.get R.gridTrk_mode ≠ 1 ∨ s.bit R.gridCtrl_en = false) → exec (.gridAlignCmd m v) s = .next (s.raise .grid 0x0102 m.val).fin) ∧
      (∀ q : Fin 576, Completes (.gridQCfgWrite m q v) s (fun t => t.bit (R.gridQCfg_test q.val) = ((R.gridQCfg_test q.val).of v == 1) ∧
        t.get (R.gridQCfg_sub q.val) = (R.gridQCfg_sub q.val).of v ∧ t.get (R.gridQCfg_hold_max q.val) = (R.gridQCfg_hold_max q.val).of v ∧
        Frame [R.gridQCfg q.val] [] [] s t))) ∧
    (s.get R.gridStat_trk = 4 → Nat.max 1 (s.get R.gridFrz2_hold) ≤ s.grid.clearCycles → Completes .trackerRelease s (fun t =>
      t.get R.gridStat_trk = 5 ∧ t.bit R.gridStat_stale = false ∧ (s.grid.relMeas = none → t.out = s.out ∧ t.grid.next = s.grid.next) ∧
      (s.grid.relMeas ≠ none → t.out ≠ s.out ∧ t.grid.next ≠ none) ∧ Frame [R.gridStat] [.grid, .out] [] s t)) ∧
    ((s.get R.gridStat_trk ≠ 4 ∨ s.grid.clearCycles < Nat.max 1 (s.get R.gridFrz2_hold)) → exec .trackerRelease s = .next s.fin) ∧
    (s.get R.gridStat_trk = 4 → s.bit R.gridStat_stale = false → Completes .trackerStale s (fun t =>
      t.bit R.gridStat_stale = true ∧ t.get R.gridStat_trk = 4 ∧ Pends t .grid 3 ∧ Frame [R.gridStat] [] [.grid] s t)) ∧
    ((s.get R.gridStat_trk ≠ 4 ∨ s.bit R.gridStat_stale = true) → exec .trackerStale s = .next s.fin) ∧
    (∀ row inc pos : Nat,
      (s.get R.gridStat_trk = 6 → s.bit R.gridStat_run = true →
        Completes (.trackerUpdate row inc) s (fun t => t.grid.next = some (row, inc, freqOf s.gridN inc) ∧ t.grid.inc = s.grid.inc ∧ Frame [] [.grid] [] s t) ∧
        Completes (.gridAlign row inc pos) s (fun t => t.grid.inc = inc ∧ t.grid.next = none ∧ t.grid.missing = 0 ∧ t.grid.align.map (fun x => x.1) = some row ∧
          (∃ k : Nat, t.grid.row = rowBack row k ∧ t.grid.pos + k * inc = pos - s.grid.origin * 2 ^ 24) ∧
          t.bit R.gridStat_desync = s.bit R.gridStat_desync ∧ Frame [] [.grid] [] s t)) ∧
      ((s.get R.gridStat_trk ≠ 6 ∨ s.bit R.gridStat_run = false) → exec (.trackerUpdate row inc) s = .next s.fin) ∧
      (s.bit R.gridStat_run = true → s.get R.gridStat_trk ≠ 6 → s.trkMode = 0 → Completes (.gridAlign row inc pos) s (fun t => Frame [] [.out] [] s t ∧
        ∃ k i x : Nat, 2 * s.gridN ≤ k ∧ k < 3 * s.gridN ∧ (s.grid.row + k) % s.gridN = 0 ∧ t.out = s.out ++ [.align ((s.grid.row + k) % rowMod) i x] ∧
          (s.grid.next = none → i = s.grid.inc ∧ x = s.grid.origin * 2 ^ 24 + s.grid.pos + k * s.grid.inc))) ∧
      ((s.bit R.gridStat_run = false ∨ (s.get R.gridStat_trk ≠ 6 ∧ s.trkMode ≠ 0)) → exec (.gridAlign row inc pos) s = .next s.fin))

/-- A frame that no enabled slot's DMAC and APPID address, or any while CTRL.EN is 0, changes nothing. An addressed HSR frame
counts HSRDROP. With PRP_EN, a copy seen from the same source within 400 ms counts DUP_DISC and places nothing; a trailer of
the wrong LAN also counts WRONGLAN and sets its EDGE source. Every other addressed frame has each ASDU judged in order. Of one
ASDU: with no slot of its svID NOSLOT counts; with a slot, SIM without leave, a wrong CONFREV, a failed decode or entry count,
and a smpCnt out of range each set their one flag and drop it; any other counts in ACCEPT, sets UNSYNC where it is not
synchronised, and is placed, numbered by R112, with its quality of R118 in the jitter buffer, or counted late, early (each
with EDGE source 1) or a repeat. No other slot, register or byte of memory changes. (That one dropped here counts as accepted
is the model's choice, log entry 91.) (R108, R109, R110, R111, R112, R113, R114, R118, 06_sv_subscriber.md) -/
def Obligations.SampledValueFramesAreJudged : Prop :=
  ∀ (f : SvFrame) (s : State),
    ((s.bit R.svsCtrl_en = false ∨ ∀ k : Nat, k < 64 → s.svAddressed f k = false) → exec (.svFrameReceive f) s = .next s.fin) ∧
    (∀ j : Fin 64, s.bit R.svsCtrl_en = true → s.svAddressed f j.val = true →
      (f.hsr = true → Completes (.svFrameReceive f) s (fun t =>
        t.svs = { s.svs with hsrDrop := (s.svs.hsrDrop + 1) % 2 ^ 16 } ∧ Frame [] [.svs] [] s t)) ∧
      (f.hsr = false → (s.bit R.svsCtrl_prp_en = false ∨ f.prp = none) →
        exec (.svFrameReceive f) s = .next (f.asdus.foldl (fun x a => receiveAsdu f a x) s).fin) ∧
      (f.hsr = false → s.bit R.svsCtrl_prp_en = true → ∀ (seq : Nat) (lanB : Bool), f.prp = some (seq, lanB) →
        ((prpCheck s.svs.prp f.src seq s.gridNs).1 = true → Completes (.svFrameReceive f) s (fun t =>
          t.svs = { s.svs with
            prp := (prpCheck s.svs.prp f.src seq s.gridNs).2.1, dupDisc := (s.svs.dupDisc + 1) % 2 ^ 32
            wrongLan := if lanB = (f.port == 1) then s.svs.wrongLan else (s.svs.wrongLan + 1) % 2 ^ 32
            tblFull := (s.svs.tblFull + b2n (prpCheck s.svs.prp f.src seq s.gridNs).2.2) % 2 ^ 16 } ∧
          (lanB ≠ (f.port == 1) → Pends t .svs 3) ∧ Frame [] [.svs] [.svs] s t)) ∧
        ((prpCheck s.svs.prp f.src seq s.gridNs).1 = false → ∃ u : State,
          exec (.svFrameReceive f) s = .next (f.asdus.foldl (fun x a => receiveAsdu f a x) u).fin ∧
          u.svs = { s.svs with
            prp := (prpCheck s.svs.prp f.src seq s.gridNs).2.1
            wrongLan := if lanB = (f.port == 1) then s.svs.wrongLan else (s.svs.wrongLan + 1) % 2 ^ 32
            tblFull := (s.svs.tblFull + b2n (prpCheck s.svs.prp f.src seq s.gridNs).2.2) % 2 ^ 16 } ∧
          (lanB ≠ (f.port == 1) → Pends u .svs 3) ∧ u.regs = s.regs ∧ SameBut [.svs] s u ∧ ∀ q : Page, q ≠ .svs → u.hdr q = s.hdr q))) ∧
    (∀ a : SvAsdu,
      (s.svHit f a = none → receiveAsdu f a s = { s with svs := { s.svs with noslot := (s.svs.noslot + 1) % 2 ^ 32 } }) ∧
      (∀ k : Nat, s.svHit f a = some k →
        (f.sim = true → s.bit (R.svsSlCfg_sim k) = false → receiveAsdu f a s = s.slotFlag k 6) ∧
        ((f.sim = false ∨ s.bit (R.svsSlCfg_sim k) = true) →
          (a.confRev ≠ (s.reg (slotReg k 3)).toNat → receiveAsdu f a s = s.slotFlag k 3) ∧
          (a.confRev = (s.reg (slotReg k 3)).toNat →
            ((∀ d, a.data = some d → d.length ≠ s.slotNent k) → receiveAsdu f a s = s.slotFlag k 4) ∧
            (∀ d, a.data = some d → d.length = s.slotNent k →
              (s.slotRate k ≤ a.smpCnt → receiveAsdu f a s = s.slotFlag k 7) ∧
              (a.smpCnt < s.slotRate k → ∀ (u : State) (num : Nat) (age : Int) (mark : Nat), u = receiveAsdu f a s →
                num = sampleNumber (s.slotRate k) a.smpCnt s.gridNs → age = sampleAge (s.slotRate k) num s.gridNs →
                mark = (if f.sim then qTEST else 0) ||| (if svSynced a.smpSynch (s.bit (R.svsSlCfg_local_ok k)) then 0
                  else if s.bit (R.svsSlCfg_unsync k) then qQUEST else qINVALID) →
                u.svs.accept = (s.svs.accept + 1) % 2 ^ 32 ∧
                (u.slot k).flags = (s.slot k).flags ||| (if svSynced a.smpSynch (s.bit (R.svsSlCfg_local_ok k)) then 0 else 2 ^ 5) ∧
                (u.slot k).st = (s.slot k).st ∧ (u.slot k).released = (s.slot k).released ∧ (∀ i : Nat, i ≠ k → u.slot i = s.slot i) ∧
                ((jbClamp (s.get (R.svsSlCfg_jb k)) * 10000 : Nat) < age → (u.slot k).held = (s.slot k).held ∧
                  (u.slot k).late = Nat.min 0xFF ((s.slot k).late + 1) ∧ Pends u .svs 1) ∧
                (age ≤ (jbClamp (s.get (R.svsSlCfg_jb k)) * 10000 : Nat) → age < -1000000 → (u.slot k).held = (s.slot k).held ∧
                  (u.slot k).early = Nat.min 0xFF ((s.slot k).early + 1) ∧ Pends u .svs 1) ∧
                (age ≤ (jbClamp (s.get (R.svsSlCfg_jb k)) * 10000 : Nat) → -1000000 ≤ age →
                  ((∃ h ∈ (s.slot k).held ++ (s.slot k).released, h.num = num) → (u.slot k).held = (s.slot k).held ∧
                    (u.slot k).dup = Nat.min 0xFF ((s.slot k).dup + 1)) ∧
                  ((∀ h ∈ (s.slot k).held ++ (s.slot k).released, h.num ≠ num) → (u.slot k).rx = Nat.min 0xFFFF ((s.slot k).rx + 1) ∧
                    ∃ smp : SvSample, (u.slot k).held = smp :: (s.slot k).held ∧ smp.num = num ∧
                      smp.quals = d.map (fun e => svQuality e.2 ||| mark) ∧ smp.vals.length = d.length ∧
                      (∀ i : Nat, i < d.length → smp.vals.getD i 0 = if qHas (smp.quals.getD i 0) qINVALID then 0 else (d.getD i (0, 0)).1) ∧
                      smp.invalid = qHas mark qINVALID)) ∧
                u.regs = s.regs ∧ SameBut [.svs] s u ∧ ∀ q : Page, q ≠ .svs → u.hdr q = s.hdr q))))))

/-- A write to a slot register of an UNLOCKED page: changing a slot other than CONFREV and EN while EN stays or is 1 is dropped
with SLOT_LIVE; else registers other than CFG store their RW bits. CFG: setting EN is dropped beyond the fast-slot limit,
beyond COOL's slots, and where the row seal is shorter than the slot needs (R115), and else puts the slot in WAIT with an
empty buffer and, where the region lets it, the svID of its table; clearing EN puts it in OFF with an empty buffer and its
status group invalid. SV_SAMPLE_RELEASE of a slot in OFF does nothing; else the next sample (the first after a start or grid
set: the lowest held, or the one due) is released where it is held, and declared missing where not: three missing in a row put
it in LOST, and in RUN a prediction puts it in GAP. SVS_COUNT_INTERVAL completes each enabled slot's status group and clears
its interval counts, and with CTRL.EN SVS_RX_CNT with the counters. (R108, R109, R114, R115, R116, R118, R51,
06_sv_subscriber.md) -/
def Obligations.SlotsReleaseAndReport : Prop :=
  ∀ (k : Fin 64) (s : State),
    (∀ (m : Master) (w : Fin 4) (v nv : Word) (r : RegRow), Reaches s m .svs → regRow (slotReg k.val w.val) = some r →
      nv = mergeWrite r (s.reg (slotReg k.val w.val)) v →
      (s.bit (R.svsSlCfg_en k.val) = true → ((w = 0 ∧ (nv ^^^ s.reg (R.svsSlCfg k.val)) >>> 1 ≠ 0) ∨ ((w = 1 ∨ w = 2) ∧ nv ≠ s.reg (slotReg k.val w.val))) →
        exec (.svsSlotCfgWrite m k w v) s = .next (s.raise .svs 0x0101 m.val).fin) ∧
      (w ≠ 0 → (s.bit (R.svsSlCfg_en k.val) = false ∨ w = 3 ∨ nv = s.reg (slotReg k.val w.val)) →
        Completes (.svsSlotCfgWrite m k w v) s (fun t => t.reg (slotReg k.val w.val) = nv ∧ Frame [slotReg k.val w.val] [] [] s t)) ∧
      (w = 0 → s.bit (R.svsSlCfg_en k.val) = true → (nv ^^^ s.reg (R.svsSlCfg k.val)) >>> 1 = 0 →
        ((R.svsSlCfg_en k.val).of nv = 0 → Completes (.svsSlotCfgWrite m k w v) s (fun t => t.bit (R.svsSlCfg_en k.val) = false ∧
          (t.slot k.val).st = .off ∧ (t.slot k.val).held = [] ∧ (t.slot k.val).released = [] ∧ t.groupValid (R.svsSlSt k.val) = false ∧
          Frame [R.svsSlCfg k.val, (R.svsSlSt k.val).addr, R.svsStat, R.svsLostLo, R.svsLostHi] [.svs] [] s t)) ∧
        ((R.svsSlCfg_en k.val).of nv = 1 → Completes (.svsSlotCfgWrite m k w v) s (fun t => t.reg (R.svsSlCfg k.val) = nv ∧
          Frame [R.svsSlCfg k.val, R.svsStat, R.svsLostLo, R.svsLostHi] [] [] s t))) ∧
      (w = 0 → s.bit (R.svsSlCfg_en k.val) = false →
        ((R.svsSlCfg_en k.val).of nv = 0 → Completes (.svsSlotCfgWrite m k w v) s (fun t => t.reg (R.svsSlCfg k.val) = nv ∧
          Frame [R.svsSlCfg k.val, R.svsStat, R.svsLostLo, R.svsLostHi] [] [] s t)) ∧
        (∀ rate fast : Nat, (R.svsSlCfg_en k.val).of nv = 1 → rate = (match (R.svsSlCfg_rate k.val).of nv with | 1 => 14400 | 2 => 96000 | _ => 4800) →
          fast = ((List.range 64).filter (fun j => s.bit (R.svsSlCfg_en j) && s.slotRate j == 96000)).length →
          (rate = 96000 → (if s.get R.sysProfile_active = 2 then 4 else 8) ≤ fast →
            exec (.svsSlotCfgWrite m k w v) s = .next (s.raise .svs 0x0102 m.val).fin) ∧
          ((rate ≠ 96000 ∨ fast < (if s.get R.sysProfile_active = 2 then 4 else 8)) →
            (s.get R.sysProfile_active = 2 → 28 ≤ k.val → exec (.svsSlotCfgWrite m k w v) s = .next (s.raise .svs 0x0103 m.val).fin) ∧
            ((s.get R.sysProfile_active ≠ 2 ∨ k.val < 28) →
              (s.get R.gridSeal_delay < slotNeed ((R.svsSlCfg_jb k.val).of nv) rate →
                exec (.svsSlotCfgWrite m k w v) s = .next (s.raise .svs 0x0104 m.val).fin) ∧
              (slotNeed ((R.svsSlCfg_jb k.val).of nv) rate ≤ s.get R.gridSeal_delay → Completes (.svsSlotCfgWrite m k w v) s (fun t =>
                t.reg (R.svsSlCfg k.val) = nv ∧ (t.slot k.val).st = .wait ∧ (t.slot k.val).held = [] ∧ (t.slot k.val).released = [] ∧
                (t.slot k.val).next = none ∧ (s.memCheck 3 (svidAddr k.val) 64 false = none → (t.slot k.val).svid = s.svidEntry k.val ∧
                  Frame [R.svsSlCfg k.val, R.svsStat, R.svsLostLo, R.svsLostHi] [.svs] [] s t)))))))) ∧
    ((s.slot k.val).st = .off → exec (.svSampleRelease k) s = .next s.fin) ∧
    ((s.slot k.val).st ≠ .off → ∀ num : Nat,
      num = (s.slot k.val).next.getD ((((s.slot k.val).held.map SvSample.num).min?).getD (s.dueSample k.val)) →
      (∀ smp : SvSample, (s.slot k.val).held.find? (fun h => h.num == num) = some smp → Completes (.svSampleRelease k) s (fun t =>
        (t.slot k.val).released = (smp :: (s.slot k.val).released).take (keepSamples (s.slotRate k.val)) ∧ (t.slot k.val).next = some (num + 1) ∧
        (t.slot k.val).missing = 0 ∧ (t.slot k.val).missed = (s.slot k.val).missed ∧
        ((s.slot k.val).st = .run → (t.slot k.val).st = .run) ∧ ((s.slot k.val).st = .lost → (t.slot k.val).st = .wait) ∧
        ((s.slot k.val).st = .gap → (t.slot k.val).st = if smp.invalid then .gap else .run) ∧
        ((s.slot k.val).st = .wait → (t.slot k.val).st = if smp.invalid = false ∧ 15 ≤ (s.slot k.val).good then .run else .wait) ∧
        Frame [R.svsStat, R.svsLostLo, R.svsLostHi] [.svs] [] s t)) ∧
      ((s.slot k.val).held.find? (fun h => h.num == num) = none → Completes (.svSampleRelease k) s (fun t =>
        (∃ y : SvSample, (t.slot k.val).released = (y :: (s.slot k.val).released).take (keepSamples (s.slotRate k.val)) ∧ y.num = num ∧
          (2 ≤ (s.slot k.val).missing → y.invalid = true) ∧
          (∀ (x1 x2 : SvSample) (rest : List SvSample), (s.slot k.val).released = x1 :: x2 :: rest → (s.slot k.val).missing < 2 →
            x1.invalid = false → x2.invalid = false → x1.num + 1 = num → x2.num + 2 = num →
            y = predictSample s.grid.freq (s.slotRate k.val) num x1 x2 ∧
            ((s.slot k.val).st = .run ∨ (s.slot k.val).st = .gap → (t.slot k.val).st = .gap))) ∧
        (t.slot k.val).next = some (num + 1) ∧ (t.slot k.val).missing = (s.slot k.val).missing + 1 ∧
        (t.slot k.val).missed = Nat.min 0xFFFF ((s.slot k.val).missed + 1) ∧ (2 ≤ (s.slot k.val).missing → (t.slot k.val).st = .lost) ∧
        Frame [R.svsStat, R.svsLostLo, R.svsLostHi] [.svs] [] s t))) ∧
    Completes .svsCountInterval s (fun t =>
      (s.bit R.svsCtrl_en = true → t.groupValid R.svsRxCnt = true ∧ t.groupWord R.svsRxCnt 1 = BitVec.ofNat 32 s.svs.accept ∧
        t.groupWord R.svsRxCnt 2 = BitVec.ofNat 32 s.svs.noslot ∧ t.groupWord R.svsRxCnt 3 = BitVec.ofNat 32 s.svs.dupDisc ∧
        t.groupWord R.svsRxCnt 4 = BitVec.ofNat 32 s.svs.wrongLan) ∧
      (s.bit (R.svsSlCfg_en k.val) = true → t.groupValid (R.svsSlSt k.val) = true ∧ (t.slot k.val).rx = 0 ∧ (t.slot k.val).missed = 0 ∧
        (t.slot k.val).late = 0 ∧ (t.slot k.val).early = 0 ∧ (t.slot k.val).flags = 0 ∧
        (t.slot k.val).held = (s.slot k.val).held ∧ (t.slot k.val).st = (s.slot k.val).st) ∧
      (s.bit (R.svsSlCfg_en k.val) = false → t.slot k.val = s.slot k.val) ∧ OtherPages .svs s t ∧ SameBut [.svs] s t)

/-- For an UNLOCKED GOS page: a write to GOS_SVPp_CFG that keeps EN while it is 1 is dropped with 0x0101; one that clears EN ends
the stream; one that sets it starts the stream, with the svID of its table where the region lets it be read; one with EN 0
before and after stores. SV_PUBLISH_FRAME of a running stream with SVP_EN, whose next sample is known and ready, takes NASDU
sample numbers and queues on its port one frame of NASDU ASDUs of eight entries with their smpCnt, the stream's svID, CONFREV,
addresses and smpSynch; on both ports with opposite PRP LAN marks and one sequence number. Before its history is full or its
samples are ready, and of a stream not running, it does nothing. (R119, R120, R121, R122, 06_sv_subscriber.md,
18_network_ports.md) -/
def Obligations.StreamsArePublished : Prop :=
  ∀ (p : Fin 8) (s : State),
    (∀ (m : Master) (v : Word), Reaches s m .gos →
      (s.bit (R.gosSvpCfg_en p.val) = true → (R.gosSvpCfg_en p.val).of v = 1 → exec (.svStreamEnable m p v) s = .next (s.raise .gos 0x0101 m.val).fin) ∧
      (s.bit (R.gosSvpCfg_en p.val) = true → (R.gosSvpCfg_en p.val).of v = 0 → Completes (.svStreamEnable m p v) s (fun t =>
        (t.svp p.val).on = false ∧ t.reg (R.gosSvpCfg p.val) = (s.reg (R.gosSvpCfg p.val) &&& 0xFF000000#32) ||| (v &&& 0x00FFFFFF#32) ∧
        Frame [R.gosSvpCfg p.val] [.gos] [] s t)) ∧
      (s.bit (R.gosSvpCfg_en p.val) = false → (R.gosSvpCfg_en p.val).of v = 0 → Completes (.svStreamEnable m p v) s (fun t =>
        t.reg (R.gosSvpCfg p.val) = (s.reg (R.gosSvpCfg p.val) &&& 0xFF000000#32) ||| (v &&& 0x00FFFFFF#32) ∧ Frame [R.gosSvpCfg p.val] [] [] s t)) ∧
      (s.bit (R.gosSvpCfg_en p.val) = false → (R.gosSvpCfg_en p.val).of v = 1 → Completes (.svStreamEnable m p v) s (fun t =>
        (t.svp p.val).on = true ∧ (t.svp p.val).next = none ∧ (t.svp p.val).enAt = s.gridNs ∧
        t.reg (R.gosSvpCfg p.val) = (s.reg (R.gosSvpCfg p.val) &&& 0xFF000000#32) ||| (v &&& 0x00FFFFFF#32) ∧
        (s.memCheck 5 (0x1433000 + 64 * p.val) 64 false = none →
          (t.svp p.val).svid = memBytes s.mem (0x1433000 + 64 * p.val + 1) (Nat.min 63 (memByte s.mem (0x1433000 + 64 * p.val)).toNat) ∧
          Frame [R.gosSvpCfg p.val] [.gos] [] s t)))) ∧
    ((s.bit R.gosCtrl_svp_en = false ∨ (s.svp p.val).on = false ∨ s.svpNext p.val = none) → exec (.svPublishFrame p) s = .next s.fin) ∧
    (∀ n : Nat, s.bit R.gosCtrl_svp_en = true → (s.svp p.val).on = true → s.svpNext p.val = some n →
      (s.svpReady p.val n = false → exec (.svPublishFrame p) s = .next s.fin) ∧
      (s.svpReady p.val n = true → ∀ ports : List Nat, ports = (match s.get (R.gosSvpCfg_ports p.val) with | 2 => [1] | 3 => [0, 1] | _ => [0]) →
        Completes (.svPublishFrame p) s (fun t => (t.svp p.val).next = some (n + s.svpNasdu p.val) ∧
          (∃ f : SvTx, f.stream = p.val ∧ f.svid = (s.svp p.val).svid ∧ f.confRev = (s.reg (R.gosSvpConfrev p.val)).toNat ∧ f.smpRate = s.svpRate p.val ∧
            f.smpSynch = s.smpSynch ∧ f.dmac = (s.reg (R.gosSvpDmac p.val)).toNat + s.get (R.gosSvpAddr_dmac_hi p.val) * 2 ^ 32 ∧
            f.appid = s.get (R.gosSvpAddr_appid p.val) ∧ f.asdus.map (fun a => a.1) = (List.range (s.svpNasdu p.val)).map (fun i => (n + i) % s.svpRate p.val) ∧
            (∀ a ∈ f.asdus, a.2.length = 8) ∧
            ∀ q ∈ ports, (t.macPort q).svQ.getLast? = some (.sv { f with prp := if ports = [0, 1] then some (s.gos.prpSeq, q == 1) else none })) ∧
          (∀ q : Nat, q ∉ ports → t.macPort q = s.macPort q) ∧ t.regs = s.regs ∧ Frame [] [.gos, .mac, .free] [.gos] s t)))

/-- For an UNLOCKED PHE page: PHE_Qq_CFG that enables a quantity outside the profile is dropped with PROFILE_LIMIT; any other with
WIN and DC or an even bin with WIN_BIN; every other stores, with bin 1 always set. PHE_GRPg_CFG with EN is dropped with
GRP_BAD unless its three quantities differ, lie in the profile, are enabled and share one window, and the group lies in the
profile; every other stores; PHE_COST follows both. PHE_FCFG stores. PHE_DONE with a tick in the buffer ends it: PHE_TICK
completes with its ROW, valid while the PHE runs, and DONE is pending; the pairs of a tick that have not started are past
phase 1, also where the PHE does not run (R137); else it does nothing. PHE_LATE with a tick in the buffer sets LATE, raises
its source and is a member fault with cause PHE_LATE, the first of its tick captured; every pair of the tick is behind it, the
committed outputs stay, and the FO gate closes; else it does nothing. (R29, R128, R131, R132, R135, R137, R145, R150,
07_phasor_engine.md) -/
def Obligations.PhasorCommandsActAsListed : Prop :=
  ∀ (s : State),
    (∀ (m : Master) (v : Word), Reaches s m .phe →
      (∀ q : Fin 576,
        (s.numQ ≤ q.val → v.getLsbD 0 = true → exec (.pheQCfgWrite m q v) s = .next (s.raise .phe 0x0103 m.val).fin) ∧
        ((q.val < s.numQ ∨ v.getLsbD 0 = false) →
          (v.getLsbD 1 = true → (∃ h : Fin 8, v.getLsbD (4 + 2 * h.val) = true) →
            exec (.pheQCfgWrite m q v) s = .next (s.raise .phe 0x0101 m.val).fin) ∧
          ((v.getLsbD 1 = false ∨ ∀ h : Fin 8, v.getLsbD (4 + 2 * h.val) = false) → Completes (.pheQCfgWrite m q v) s (fun t =>
            t.reg (R.pheQCfg q.val) = (s.reg (R.pheQCfg q.val) &&& 0xFFF00008#32) ||| ((v ||| 0x20#32) &&& 0x000FFFF7#32) ∧
            t.get R.pheCost_rowcyc = t.pheCost % 2 ^ 13 ∧ Frame [R.pheQCfg q.val, R.pheCost] [] [] s t)))) ∧
      (∀ (g : Fin 192) (qs : List Nat), qs = [(R.pheGrpCfg_qa g.val).of v, (R.pheGrpCfg_qb g.val).of v, (R.pheGrpCfg_qc g.val).of v] →
        ((v.getLsbD 31 = true ∧ ((∃ q ∈ qs, s.numQ ≤ q ∨ (s.reg (R.pheQCfg q)).getLsbD 0 = false) ∨ ¬ qs.Nodup ∨
            (∃ q ∈ qs, (s.reg (R.pheQCfg q)).getLsbD 1 ≠ (s.reg (R.pheQCfg ((R.pheGrpCfg_qa g.val).of v))).getLsbD 1) ∨
            (s.get R.sysProfile_active = 2 ∧ 96 ≤ g.val))) →
          exec (.pheGrpCfgWrite m g v) s = .next (s.raise .phe 0x0102 m.val).fin) ∧
        ((v.getLsbD 31 = false ∨ ((∀ q ∈ qs, q < s.numQ ∧ (s.reg (R.pheQCfg q)).getLsbD 0 = true) ∧ qs.Nodup ∧
            (∀ q ∈ qs, (s.reg (R.pheQCfg q)).getLsbD 1 = (s.reg (R.pheQCfg ((R.pheGrpCfg_qa g.val).of v))).getLsbD 1) ∧
            (s.get R.sysProfile_active ≠ 2 ∨ g.val < 96))) →
          Completes (.pheGrpCfgWrite m g v) s (fun t => t.bit (R.pheGrpCfg_en g.val) = v.getLsbD 31 ∧
            t.get (R.pheGrpCfg_qa g.val) = (R.pheGrpCfg_qa g.val).of v ∧ t.get (R.pheGrpCfg_qb g.val) = (R.pheGrpCfg_qb g.val).of v ∧
            t.get (R.pheGrpCfg_qc g.val) = (R.pheGrpCfg_qc g.val).of v ∧ t.bit (R.pheGrpCfg_rot g.val) = ((R.pheGrpCfg_rot g.val).of v == 1) ∧
            t.get R.pheCost_rowcyc = t.pheCost % 2 ^ 13 ∧ Frame [R.pheGrpCfg g.val, R.pheCost] [.phe] [] s t))) ∧
      Completes (.pheFcfgWrite m v) s (fun t => t.reg R.pheFcfg = (s.reg R.pheFcfg &&& 0xFFFFF000#32) ||| (v &&& 0x00000FFF#32) ∧ Frame [R.pheFcfg] [] [] s t)) ∧
    (∀ vs : List BVerdict,
      (s.phe.busy = none → (s.pea.tick = none ∨ (s.pairRun 0).ph1 = true ∨ (s.pairRun 0).finished = true) → exec (.pheDone vs) s = .next s.fin) ∧
      (∀ r : Nat, s.phe.busy = some r → Completes (.pheDone vs) s (fun t => t.phe.busy = none ∧ Pends t .phe 0 ∧
        t.get R.pheStat_buf = (r / s.rowsPerTick) % 2 ∧ t.bit R.pheStat_run = s.pheLive ∧ t.groupValid R.pheTick = s.pheLive ∧
        t.groupWord R.pheTick 1 = BitVec.ofNat 32 r ∧ t.pea.tick = s.pea.tick ∧ t.pea.committed = s.pea.committed)) ∧
      (s.pea.tick ≠ none → (s.pairRun 0).ph1 = false → (s.pairRun 0).finished = false → Completes (.pheDone vs) s (fun t =>
        (∀ p : Fin 8, (t.pairRun p.val).ph1 = true ∧ (t.pairRun p.val).ph2 = (s.get (R.peaPairPh2_first p.val) == s.get (R.peaPairList_count p.val)) ∧
          (t.pairRun p.val).finished = (s.get (R.peaPairList_count p.val) == 0)) ∧ t.pea.tick = s.pea.tick ∧ t.pea.committed = s.pea.committed))) ∧
    (s.phe.busy = none → exec .pheLate s = .next s.fin) ∧
    (∀ r : Nat, s.phe.busy = some r → Completes .pheLate s (fun t => t.phe.busy = none ∧ t.bit R.pheStat_late = true ∧ t.bit R.peaStat_fault = true ∧
      (s.pea.faultCount = s.pea.faults.length → s.pea.faults = [] → t.get R.peaStat_fcause = 6 ∧ t.groupValid R.peaFaultInfo = true ∧
        t.groupWord R.peaFaultInfo 2 = BitVec.ofNat 32 r) ∧ Pends t .pea 1 ∧ Pends t .phe 1 ∧ t.pea.tick = s.pea.tick ∧
      t.pea.faultCount = s.pea.faultCount + 1 ∧ (∀ p : Fin 8, (t.pairRun p.val).finished = true) ∧
      t.pea.committed = s.pea.committed ∧ t.bit R.trmStat_fo_gate = false))

/-- With EN = 1, at the ROW_SEAL of a tick row while a tick k runs: where every pair has finished, the bytes of the tick become
the committed bytes and PEA_TICK completes with k; where a pair has not, the committed bytes stay as they are, FAULT is set
and its source pending, and PEA_TICK completes too. While EN = 0, the committed bytes are all 0 from then on, and PEA_TICK is
not valid. DONE is pending. With EN, outside GALE, the next tick runs from the row just sealed, no pair of it started, with
its time since the tick before (0 on the first); with no tick running before, the committed bytes stay. (R19, R20, R100, R145,
R150, R151, R155) -/
def Obligations.TicksCommitOrOverrun : Prop :=
  ∀ (s : State) (r : RowRec) (rest : List RowRec), s.grid.inflight = r :: rest → s.isTickRow r.row = true →
    Completes .rowSeal s (fun t =>
      (∀ k : Nat, s.pea.tick = some k → Pends t .pea 0 ∧
        (s.bit R.peaCtrl_en = true → t.groupValid R.peaTick = true ∧ t.groupWord R.peaTick 1 = BitVec.ofNat 32 k ∧
          ((∀ p : Fin 8, (s.pairRun p.val).finished = true) → t.pea.committed = s.pea.work) ∧
          ((∃ p : Fin 8, (s.pairRun p.val).finished = false) → t.pea.committed = s.pea.committed ∧ t.bit R.peaStat_fault = true ∧ Pends t .pea 1))) ∧
      (s.pea.tick = none → s.bit R.peaCtrl_en = true → t.pea.committed = s.pea.committed) ∧
      (s.bit R.peaCtrl_en = false → t.pea.committed = [] ∧ t.bit R.peaStat_run = false ∧ t.groupValid R.peaTick = false ∧ t.pea.tick = none) ∧
      (s.bit R.peaCtrl_en = true → s.get R.gridCfg_mode ≠ 1 → t.pea.tick = some r.row ∧ t.bit R.peaStat_run = true ∧
        (s.pea.lastTick = none → t.pea.dt = 0) ∧
        ∀ p : Fin 8, (t.pairRun p.val).ph1 = false ∧ (t.pairRun p.val).ph2 = false ∧ (t.pairRun p.val).finished = false))

/-- ELEMENT_PHASE2 of a pair past phase 1, not past phase 2, whose totals are back runs its phase 2; otherwise it does nothing.
CRUCIBLE_COMMIT after phase 2 finishes the pair and counts its cycles; otherwise it does nothing. PEA_LIVE_GO on an UNLOCKED
page with GO 0 does nothing; with GO it is dropped with LIVE_BUSY while a change is pending, with LIVE_SLOT while EN = 0,
beyond the profile's slots or for an empty slot, with LIVE_RANGE for a setting its type does not allow; an accepted one is
pending, with LIVE_PEND 1 and PEA_LIVE_RES not valid. PEA_PAIR_STAT_INTERVAL with EN completes every pair's result group with
its load, its most cycles and its two counts, and clears the interval's counts; while EN = 0 it does nothing. (R29, R145,
R147, R148, R152, R51, 08_element_array.md) -/
def Obligations.PairsRunAndLiveChangesAreTaken : Prop :=
  ∀ (s : State),
    (∀ (p : Fin 8) (vs : List BVerdict),
      ((s.pea.tick = none ∨ (s.pairRun p.val).ph1 = false ∨ (s.pairRun p.val).ph2 = true ∨ s.totalsBack = false) → exec (.elementPhase2 p vs) s = .next s.fin) ∧
      (s.pea.tick ≠ none → (s.pairRun p.val).ph1 = true → (s.pairRun p.val).ph2 = false → s.totalsBack = true →
        Completes (.elementPhase2 p vs) s (fun t => (t.pairRun p.val).ph2 = true ∧ (t.pairRun p.val).finished = (s.pairRun p.val).finished ∧
          t.pea.tick = s.pea.tick ∧ t.pea.committed = s.pea.committed ∧
          ∀ q : Fin 8, q ≠ p → t.pairRun q.val = s.pairRun q.val))) ∧
    (∀ (p : Fin 8) (c : Nat),
      (s.pea.tick ≠ none → (s.pairRun p.val).ph2 = true → Completes (.crucibleCommit p c) s (fun t =>
        (t.pairRun p.val).finished = true ∧ (t.pairRun p.val).cycles = c ∧ (t.pairRun p.val).cycMax = Nat.max (s.pairRun p.val).cycMax c ∧
        (∀ q : Fin 8, q ≠ p → t.pairRun q.val = s.pairRun q.val) ∧ t.pea.committed = s.pea.committed ∧ Frame [] [.pea] [] s t)) ∧
      ((s.pea.tick = none ∨ (s.pairRun p.val).ph2 = false) → exec (.crucibleCommit p c) s = .next s.fin)) ∧
    (∀ (m : Master) (v : Word), Reaches s m .pea → (R.peaLiveCmd_go.of v = 0 → exec (.peaLiveGo m v) s = .next s.fin) ∧
      (R.peaLiveCmd_go.of v = 1 →
      (s.pea.live ≠ none → exec (.peaLiveGo m v) s = .next (s.raise .pea 0x0101 m.val).fin) ∧
      (s.pea.live = none → (s.bit R.peaCtrl_en = false ∨ s.numSlots ≤ s.get R.peaLiveSlot_slot ∨ s.slotType (s.get R.peaLiveSlot_slot) = 0) →
        exec (.peaLiveGo m v) s = .next (s.raise .pea 0x0102 m.val).fin) ∧
      (s.pea.live = none → s.bit R.peaCtrl_en = true → s.get R.peaLiveSlot_slot < s.numSlots → s.slotType (s.get R.peaLiveSlot_slot) ≠ 0 →
        (setOk (s.slotType (s.get R.peaLiveSlot_slot)) (s.slotRefs (s.get R.peaLiveSlot_slot)) ((List.range 8).map (fun i => s.reg (R.peaLiveData i))) = false →
          exec (.peaLiveGo m v) s = .next (s.raise .pea 0x0103 m.val).fin) ∧
        (setOk (s.slotType (s.get R.peaLiveSlot_slot)) (s.slotRefs (s.get R.peaLiveSlot_slot)) ((List.range 8).map (fun i => s.reg (R.peaLiveData i))) = true →
          Completes (.peaLiveGo m v) s (fun t => t.bit R.peaStat_live_pend = true ∧ t.groupValid R.peaLiveRes = false ∧
            (∃ l : LiveChange, t.pea.live = some l ∧ l.slot = s.get R.peaLiveSlot_slot ∧ l.set = (List.range 8).map (fun i => s.reg (R.peaLiveData i)) ∧
              l.flags = s.get R.peaLiveSlot_flags ∧ l.qmask = s.get R.peaLiveSlot_qmask ∧
              l.keep = (R.peaLiveCmd_keep.of v == 1) ∧ l.time = s.gridNs) ∧ Frame [R.peaStat, R.peaLiveRes.addr] [.pea] [] s t))))) ∧
    (s.bit R.peaCtrl_en = false → exec .peaPairStatInterval s = .next s.fin) ∧
    (s.bit R.peaCtrl_en = true → Completes .peaPairStatInterval s (fun t => ∀ p : Fin 8, t.groupValid (R.peaPairStat p.val) = true ∧
      t.groupWord (R.peaPairStat p.val) 1 = BitVec.ofNat 32 (Nat.min 0x3FFFF (s.pairLoad p.val)) ∧
      t.groupWord (R.peaPairStat p.val) 2 = BitVec.ofNat 32 (Nat.min 0x3FFFF (s.pairRun p.val).cycMax) ∧
      t.groupWord (R.peaPairStat p.val) 3 = BitVec.ofNat 32 (Nat.min 0xFFFF (s.pairRun p.val).softDec + Nat.min 0xFFFF (s.pairRun p.val).softAna * 2 ^ 16) ∧
      (t.pairRun p.val).cycMax = 0 ∧ (t.pairRun p.val).softDec = 0 ∧ (t.pairRun p.val).softAna = 0 ∧ OtherPages .pea s t ∧ SameBut [.pea] s t))

/-- For a slot e that is not blocked in the running tick, with byte w: ELEMENT_TIMER_EXPIRY with PICKUP, no OPERATE, and G at 1
sets OPERATE; RESET_TIMER_EXPIRY of an overcurrent or directional overcurrent slot under DEFT without PICKUP whose time has
reached TR returns G and HT to 0; OPERATE_HOLD_EXPIRY of a slot of a holding type with OPERATE, no PICKUP, whose time has run
clears OPERATE and its timer. POLARISING_MEMORY_EXPIRY of a distance head whose age has reached MEMT clears its usability bit.
QUALITY_HOLD_EXPIRY of a HOLD slot past its 16th quality-blocked tick clears its three decision bits. Where its condition does
not hold an expiry does nothing. The byte of every other slot is as before, and so is all that the frame names. (R143, R155,
R161, R162, R166, R169, R178, R184, 09_elements_current_voltage.md, 10_elements_impedance_differential.md) -/
def Obligations.SlotTimersExpireAsTheirTypesSay : Prop :=
  ∀ (e : Fin 4096) (w ty : Nat) (c : Ctx) (s : State), tget 0 s.pea.work e.val = w → s.slotType e.val = ty → c = Ctx.mk s e.val 0 none →
    (s.pea.tick ≠ none → w.testBit 3 = false →
      (w.testBit 0 = true → w.testBit 1 = false → gOne ≤ c.acc → Completes (.elementTimerExpiry e) s (fun t =>
        tget 0 t.pea.work e.val = w + 2 ∧ (∀ k : Nat, k ≠ e.val → tget 0 t.pea.work k = tget 0 s.pea.work k) ∧ t.pea.committed = s.pea.committed ∧
        Frame [] [.pea] [] s t)) ∧
      (ty ∈ [0x0101, 0x0111, 0x0121, 0x0201, 0x0211] → c.bits 4 5 4 = 1 → w.testBit 0 = false → fge (c.st 1) (c.set 2) = true →
        Completes (.resetTimerExpiry e) s (fun t =>
          t.word (slotAddr e.val + 0x30) = 0 ∧ t.word (extAddr e.val) = 0 ∧ t.word (extAddr e.val + 4) = 0 ∧
          (∀ a : Nat, (a < slotAddr e.val + 0x30 ∨ slotAddr e.val + 0x34 ≤ a) → (a < extAddr e.val ∨ extAddr e.val + 8 ≤ a) →
            memByte t.mem a = memByte s.mem a) ∧ Frame [] [.mem] [] s t)) ∧
      (∀ i : Nat, holdSetting ty = some i → w.testBit 0 = false → w.testBit 1 = true → fge (c.st 1) (c.set i) = true →
        Completes (.operateHoldExpiry e) s (fun t =>
          tget 0 t.pea.work e.val = w - 2 ∧ t.word (slotAddr e.val + 0x34) = 0 ∧ (∀ k : Nat, k ≠ e.val → tget 0 t.pea.work k = tget 0 s.pea.work k) ∧
          SameMemoryBut (slotAddr e.val + 0x34) 4 s t ∧ Frame [] [.pea, .mem] [] s t))) ∧
    ((s.pea.tick = none ∨ w.testBit 3 = true ∨ w.testBit 0 = false ∨ w.testBit 1 = true ∨ c.acc < gOne) → exec (.elementTimerExpiry e) s = .next s.fin) ∧
    ((s.pea.tick = none ∨ w.testBit 3 = true ∨ ty ∉ [0x0101, 0x0111, 0x0121, 0x0201, 0x0211] ∨ c.bits 4 5 4 ≠ 1 ∨ w.testBit 0 = true ∨
      fge (c.st 1) (c.set 2) = false) → exec (.resetTimerExpiry e) s = .next s.fin) ∧
    ((s.pea.tick = none ∨ w.testBit 3 = true ∨ w.testBit 0 = true ∨ w.testBit 1 = false ∨ ∀ i : Nat, holdSetting ty = some i → fge (c.st 1) (c.set i) = false) →
      exec (.operateHoldExpiry e) s = .next s.fin) ∧
    ((ty = 0x0801 ∨ ty = 0x0811) → fge (c.st 3) (fq (2 * c.bits 7 29 22) 1000) = true →
      Completes (.polarisingMemoryExpiry e) s (fun t => (t.word (extAddr e.val + 8)).getLsbD 13 = false ∧
        (∀ b : Nat, b ≠ 13 → (t.word (extAddr e.val + 8)).getLsbD b = (s.word (extAddr e.val + 8)).getLsbD b) ∧
        SameMemoryBut (extAddr e.val + 8) 4 s t ∧ Frame [] [.mem] [] s t)) ∧
    (((ty ≠ 0x0801 ∧ ty ≠ 0x0811) ∨ fge (c.st 3) (fq (2 * c.bits 7 29 22) 1000) = false) → exec (.polarisingMemoryExpiry e) s = .next s.fin) ∧
    (s.pea.tick ≠ none → w.testBit 3 = true → s.slotFlags e.val / 4 % 4 = 2 → 16 < tget 0 s.pea.qHold e.val → Completes (.qualityHoldExpiry e) s (fun t =>
      tget 0 t.pea.work e.val = w - w % 8 ∧ (∀ k : Nat, k ≠ e.val → tget 0 t.pea.work k = tget 0 s.pea.work k) ∧ Frame [] [.pea] [] s t)) ∧
    ((s.pea.tick = none ∨ w.testBit 3 = false ∨ s.slotFlags e.val / 4 % 4 ≠ 2 ∨ tget 0 s.pea.qHold e.val ≤ 16) → exec (.qualityHoldExpiry e) s = .next s.fin)

/-- TRIP_MATRIX_PASS with EN = 1 and a pass due: a line within the rules of R192 is the OR of its products that hold a literal in
use, each the AND of its literals; a changed line that a literal names makes a further pass due; FO_CMD bit k is 0 for an
output not enabled and else 1 exactly while a selected line (TEST lines only with TEST_OK), the latch, the least on-time or
the taken-over bit holds it; with no hash due FO_DRV is FO_CMD where the FO gate is open and 0 where it is closed; TRM_TL_SNAP
completes with the lines. With EN = 0, or no pass due, it does nothing. A pass stores nothing in memory. (R190, R191, R194,
R195, R196, R385, 11_trip_matrix.md) -/
def Obligations.PassesEvaluateLinesAndOutputs : Prop :=
  ∀ (s : State),
    ((s.bit R.trmCtrl_en = false ∨ s.trm.request = false) → exec .tripMatrixPass s = .next s.fin) ∧
    (s.bit R.trmCtrl_en = true → s.trm.request = true → Completes .tripMatrixPass s (fun t =>
      (∀ l : Fin 256, s.lineLegal l.val = true →
        t.trm.lines.testBit l.val = (s.lineLits l.val).any (fun p => !p.all (fun w => litKind w == 0) && p.all (s.litVal s.trm.lines))) ∧
      (∀ l : Fin 256, t.trm.lines.testBit l.val ≠ s.trm.lines.testBit l.val →
        (∃ k : Fin 256, ∃ p ∈ s.lineLits k.val, ∃ w ∈ p, litKind w = 6 ∧ litIndex w = l.val) → t.trm.request = true) ∧
      (∀ k : Fin 16,
        (s.bit (R.trmFoCfg_en k.val) = false → t.regBit R.trmFoCmd k.val = false ∧ t.trm.latch.testBit k.val = false) ∧
        (s.bit (R.trmFoCfg_en k.val) = true → t.regBit R.trmFoCmd k.val =
          (t.foLine k.val || t.trm.latch.testBit k.val || (tget none s.trm.minon k.val).isSome || s.trm.shadowOr.testBit k.val)) ∧
        (s.bit (R.trmFoCfg_en k.val) = true → s.bit (R.trmFoCfg_latch k.val) = true → t.foLine k.val = true → t.trm.latch.testBit k.val = true)) ∧
      (s.trm.hashRow = none → t.get R.trmFoDrv_drv = (if s.bit R.trmStat_fo_gate then t.get R.trmFoCmd_cmd else 0)) ∧
      t.groupValid R.trmTlSnap = true ∧ t.groupWord R.trmTlSnap 1 = BitVec.ofNat 32 t.trm.lines ∧ SameMemory s t))

/-- STRIKE_ASSERT and STRIKE_CLEAR let the chain run for their modulator clocks and every comparator judge its channel's SINC
outputs, oldest first. For comparator n enabled and not blocked, over the outputs judged: while not LIVE, valid ones at or
beyond the threshold (or over-range, where OVR counts) that complete a run of max(1, CNT) assert LIVE, set STICKY and make a
pass due, fewer do not; while LIVE, ones inside the drop-off level that complete a run of max(1, DCNT) clear it, fewer do not.
A comparator that is blocked or off judges nothing and does not assert. STRIKE_BLOCK_CHANGE whose literal reads 1 blocks the
comparator and clears LIVE and its counts; whose literal reads 0 unblocks it, counts from 0. TRM_STKn_BLK naming a strike or a
reserved KIND is dropped with 0x0101 and else stores. TRM_LATCH_RST notes its bits and makes a pass due; MINON_EXPIRY of a
running least on-time ends it and makes a pass due, and else does nothing. (R25, R74, R195, R197, R198, R199,
11_trip_matrix.md) -/
def Obligations.StrikesCountSamples : Prop :=
  ∀ (n : Fin 64) (s : State),
    (∀ (clocks : Nat) (ain : List (Nat × List ModBit)) (lines : List (Nat × List Bool)) (u : State) (xs : List Tagged),
      u = runChain clocks ain lines s → xs = (u.sincOf n.val).reverse →
      exec (.strikeClear n clocks ain lines) s = exec (.strikeAssert n clocks ain lines) s ∧
      Completes (.strikeAssert n clocks ain lines) s (fun t => t.sincOf n.val = [] ∧ t.dfc.clk = s.dfc.clk + clocks ∧ SameMemory s t ∧
        (∀ a : Nat, pageOf a ≠ some .trm → pageOf a ≠ some .afe → pageOf a ≠ some .dfc → t.reg a = s.reg a) ∧ t.trm.lines = s.trm.lines) ∧
      (s.bit (R.trmStkCfg_en n.val) = true → (s.strike n.val).blk = false → s.strikeLive n.val = false →
        (∀ x ∈ xs, x.invalid = false ∧ ((x.ovr = true ∧ s.bit (R.trmStkCfg_ovr_exc n.val) = true) ∨
          strikeBeyond (s.get (R.trmStkCfg_pol n.val)) x.val (16 * Nat.max 1 (s.get (R.trmStkThr_thr n.val)) : Nat) = true)) →
        (xs ≠ [] → (s.strike n.val).cnt + xs.length = Nat.max 1 (s.get (R.trmStkCfg_cnt n.val)) → Completes (.strikeAssert n clocks ain lines) s (fun t =>
          t.strikeLive n.val = true ∧ t.arrBit R.trmStkStickyLo n.val = true ∧ t.trm.request = true)) ∧
        ((s.strike n.val).cnt + xs.length < Nat.max 1 (s.get (R.trmStkCfg_cnt n.val)) → Completes (.strikeAssert n clocks ain lines) s (fun t =>
          t.strikeLive n.val = false ∧ (t.strike n.val).cnt = (s.strike n.val).cnt + xs.length ∧
          t.arrBit R.trmStkStickyLo n.val = s.arrBit R.trmStkStickyLo n.val))) ∧
      (s.bit (R.trmStkCfg_en n.val) = true → (s.strike n.val).blk = false → s.strikeLive n.val = true →
        (∀ x ∈ xs, x.invalid = true ∨ (¬ (x.ovr = true ∧ s.bit (R.trmStkCfg_ovr_exc n.val) = true) ∧
          strikeBeyond (s.get (R.trmStkCfg_pol n.val)) x.val (Nat.max 1 (s.get (R.trmStkThr_thr n.val)) * Nat.max 8 (s.get (R.trmStkCfg_dr n.val)) : Nat) = false)) →
        (xs ≠ [] → (s.strike n.val).dcnt + xs.length = Nat.max 1 (s.get (R.trmStkCfg_dcnt n.val)) → Completes (.strikeClear n clocks ain lines) s (fun t =>
          t.strikeLive n.val = false ∧ t.arrBit R.trmStkStickyLo n.val = s.arrBit R.trmStkStickyLo n.val ∧ t.trm.request = true)) ∧
        ((s.strike n.val).dcnt + xs.length < Nat.max 1 (s.get (R.trmStkCfg_dcnt n.val)) → Completes (.strikeClear n clocks ain lines) s (fun t =>
          t.strikeLive n.val = true ∧ (t.strike n.val).dcnt = (s.strike n.val).dcnt + xs.length))) ∧
      ((s.bit (R.trmStkCfg_en n.val) = false ∨ (s.strike n.val).blk = true) → s.strikeLive n.val = false →
        Completes (.strikeAssert n clocks ain lines) s (fun t => t.strikeLive n.val = false ∧ t.arrBit R.trmStkStickyLo n.val = s.arrBit R.trmStkStickyLo n.val))) ∧
    (s.stkBlock n.val = true → Completes (.strikeBlockChange n) s (fun t => t.strikeLive n.val = false ∧ (t.strike n.val).blk = true ∧
      (t.strike n.val).cnt = 0 ∧ (t.strike n.val).dcnt = 0 ∧ SameMemory s t ∧ OtherPages .trm s t)) ∧
    (s.stkBlock n.val = false → Completes (.strikeBlockChange n) s (fun t => t.strikeLive n.val = s.strikeLive n.val ∧ (t.strike n.val).blk = false ∧
      (t.strike n.val).cnt = (if (s.strike n.val).blk then 0 else (s.strike n.val).cnt) ∧ Frame [] [.trm] [] s t)) ∧
    (∀ (m : Master) (v : Word), Reaches s m .trm →
      ((litKind v.toNat = 2 ∨ 8 ≤ litKind v.toNat) → exec (.trmStkBlkWrite m n v) s = .next (s.raise .trm 0x0101 m.val).fin) ∧
      (litKind v.toNat ≠ 2 → litKind v.toNat < 8 → Completes (.trmStkBlkWrite m n v) s (fun t =>
        t.reg (R.trmStkBlk n.val) = v ∧ Frame [R.trmStkBlk n.val] [] [] s t)) ∧
      Completes (.trmLatchRst m v) s (fun t => t.trm.latchRst = s.trm.latchRst ||| R.trmLatchRst_rst.of v ∧ t.trm.request = true ∧ t.trm.latch = s.trm.latch ∧
        Frame [] [.trm] [] s t)) ∧
    (∀ k : Fin 16,
      (tget none s.trm.minon k.val ≠ none → Completes (.minonExpiry k) s (fun t => tget none t.trm.minon k.val = none ∧ t.trm.request = true ∧
        (∀ j : Nat, j ≠ k.val → tget none t.trm.minon j = tget none s.trm.minon j) ∧ t.trm.lines = s.trm.lines ∧ Frame [] [.trm] [] s t)) ∧
      (tget none s.trm.minon k.val = none → exec (.minonExpiry k) s = .next s.fin))

/-- While EN = 1 a valid OUTPUT_FRAME links its die; each of its channels FOk, outside UVLO of its group, turns on where FO_DRV is
1 and it is OFF, in DEMAG, LINKLOSS or UVLO (into OVL while hot), and turns off where FO_DRV is 0 and it is not off already
(into DEMAG while it carries load current, else OFF); under UVLO it is in UVLO; any other stays. An invalid frame moves no
channel; while EN = 0 none is sent. LINKLOSS_TIMEOUT of a die that is linked, or has a channel not in LINKLOSS, puts its
channels in LINKLOSS, and FOH off for die A; else it does nothing. FO_CURRENT_LIMIT, CURRENT_LIMIT_END, OVL_ENTRY (with its
sticky bit and the OVL edge), OVL_RETRY, THERMAL_SHUTDOWN, THERMAL_COOLED and DEMAG_END move the states their rules name, from
the states they name, and else do nothing; FO_MISMATCH_TIMER sets or clears the mismatch bit by R208. No channel of the other
die moves. (R202, R206, R207, R208, R213, R214, 12_field_io.md) -/
def Obligations.OutputChannelsFollowTheirStates : Prop :=
  ∀ (k : Fin 16) (s : State),
    (∀ d : Fin 2,
      (s.bit R.fioCtrl_en = false → ∀ ok : Bool, exec (.outputFrame d ok) s = .next s.fin) ∧
      (s.bit R.fioCtrl_en = true →
        Completes (.outputFrame d true) s (fun t => t.bit (linkFld d.val) = true ∧
          (d.val = k.val / 8 → t.foState k.val =
            (if s.bit (uvloFld d.val) = true then foUVLO
             else if s.drvBit k.val then
               (if s.foState k.val ∈ [foOFF, foDEMAG, foLINKLOSS, foUVLO] then (if (s.foChan k.val).hot then foOVL else foON) else s.foState k.val)
             else if s.foState k.val ∈ [foON, foLIMIT, foOVL, foLINKLOSS, foUVLO] then (if (s.foChan k.val).load then foDEMAG else foOFF) else s.foState k.val)) ∧
          (d.val ≠ k.val / 8 → t.foState k.val = s.foState k.val) ∧ OtherPages .fio s t ∧ SameBut [.fio, .jrnl, .evr, .life] s t) ∧
        Completes (.outputFrame d false) s (fun t => t.regs = s.regs ∧ SameBut [.fio, .jrnl, .life] s t)) ∧
      ((s.bit (linkFld d.val) = true ∨ ∃ i : Fin 8, s.foState (8 * d.val + i.val) ≠ foLINKLOSS) → Completes (.linklossTimeout d) s (fun t =>
        t.bit (linkFld d.val) = false ∧ (d = 0 → t.bit R.fioStat_foh = false) ∧
        t.foState k.val = (if d.val = k.val / 8 then foLINKLOSS else s.foState k.val) ∧ SameMemory s t)) ∧
      (s.bit (linkFld d.val) = false → (∀ i : Fin 8, s.foState (8 * d.val + i.val) = foLINKLOSS) → exec (.linklossTimeout d) s = .next s.fin)) ∧
    (s.foState k.val = foON → Completes (.foCurrentLimit k) s (fun t => t.foState k.val = foLIMIT ∧ Frame [R.fioFoStat k.val] [] [] s t)) ∧
    (s.foState k.val ≠ foON → exec (.foCurrentLimit k) s = .next s.fin) ∧
    (s.foState k.val = foLIMIT →
      Completes (.currentLimitEnd k) s (fun t => t.foState k.val = foON ∧ Frame [R.fioFoStat k.val] [] [] s t) ∧
      Completes (.ovlEntry k) s (fun t => t.foState k.val = foOVL ∧ t.regBit R.fioOvlSticky k.val = true ∧ Pends t .fio 4 ∧
        OnlyRegs [R.fioFoStat k.val, R.fioOvlSticky] s t ∧ SameBut [.jrnl, .evr] s t)) ∧
    (s.foState k.val ≠ foLIMIT → exec (.currentLimitEnd k) s = .next s.fin ∧ exec (.ovlEntry k) s = .next s.fin) ∧
    (s.foState k.val = foOVL → s.get (R.fioFoCfg_retry k.val) ≠ 0 → s.drvBit k.val = true → (s.foChan k.val).hot = false →
      Completes (.ovlRetry k) s (fun t => t.foState k.val = foON ∧ Frame [R.fioFoStat k.val] [] [] s t)) ∧
    ((s.foState k.val ≠ foOVL ∨ s.get (R.fioFoCfg_retry k.val) = 0 ∨ s.drvBit k.val = false ∨ (s.foChan k.val).hot = true) → exec (.ovlRetry k) s = .next s.fin) ∧
    Completes (.thermalShutdown k) s (fun t => (t.foChan k.val).hot = true ∧
      t.foState k.val = (if isOn (s.foState k.val) then foOVL else s.foState k.val) ∧
      (isOn (s.foState k.val) = true → t.regBit R.fioOvlSticky k.val = true ∧ Pends t .fio 4) ∧
      OnlyRegs [R.fioFoStat k.val, R.fioOvlSticky] s t ∧ SameBut [.fio, .jrnl, .evr] s t) ∧
    Completes (.thermalCooled k) s (fun t => (t.foChan k.val).hot = false ∧ Frame [] [.fio] [] s t) ∧
    Completes (.demagEnd k) s (fun t => (t.foChan k.val).load = false ∧
      t.foState k.val = (if s.foState k.val = foDEMAG then foOFF else s.foState k.val) ∧ OnlyRegs [R.fioFoStat k.val] s t ∧ SameBut [.fio, .jrnl] s t) ∧
    Completes (.foMismatchTimer k) s (fun t => t.regBit R.fioFoMismatch k.val =
      (if s.drvBit k.val then !s.regBit R.fioFoPin k.val && s.foState k.val != foLIMIT && s.foState k.val != foOVL && s.foState k.val != foUVLO
       else s.regBit R.fioFoPin k.val && !s.bit (R.fioFoCfg_par k.val)) ∧ Frame [R.fioFoMismatch] [] [] s t)

/-- VF_LOW sets its bit, where it is not set. UVLO stops the 10 ms, turns FOH off for group A and, where its bit is 0, sets both
bits of its group and puts every channel of the group but those in LINKLOSS in UVLO. VF_RECOVER clears VF_LOW and, in UVLO,
starts the 10 ms; VF_FALL_DURING_RECOVERY ends them; after them VF_RECOVERY_TIMER ends UVLO under AUTO and only notes the
recovery under MANUAL; with none running it does nothing. A channel in UVLO whose UVLO ends turns on where FO_DRV is 1 (OVL
while hot), else it is in DEMAG while it carries load current or OFF. FIO_REARM on an UNLOCKED page acts on each group it
names: recovered, UVLO ends; not recovered, REARM_LOW is recorded; not in UVLO, no effect. FIO_CTRL_WRITE stores; setting EN
restarts every input filter at 0; clearing it unlinks both dies with every channel in LINKLOSS, and ends the clamp results'
VALID; AUTO ends UVLO of a recovered group. FOH_KEEPALIVE_LOSS turns FOH off unless a keep-alive is sent to linked die A.
(R202, R203, R206, R207, R211, R212, R213, R214, R51, 12_field_io.md) -/
def Obligations.SupplySagAndRearm : Prop :=
  ∀ (s : State),
    (∀ g : Fin 2,
      (s.bit (vfLowFld g.val) = false → Completes (.vfLow g) s (fun t => t.bit (vfLowFld g.val) = true ∧ tget false t.fio.timing g.val = false ∧
        tget false t.fio.recovered g.val = false ∧ Frame [R.fioStat] [.fio, .life] [] s t)) ∧
      (s.bit (vfLowFld g.val) = true → exec (.vfLow g) s = .next s.fin) ∧
      Completes (.uvlo g) s (fun t => t.bit (uvloFld g.val) = true ∧ (g = 0 → t.bit R.fioStat_foh = false) ∧
        tget false t.fio.timing g.val = false ∧ tget false t.fio.recovered g.val = false ∧
        (s.bit (uvloFld g.val) = true → Frame [R.fioStat] [.fio] [] s t) ∧
        (s.bit (uvloFld g.val) = false → t.bit (vfLowFld g.val) = true ∧
          (∀ k : Fin 16, t.foState k.val = (if k.val / 8 = g.val ∧ s.foState k.val ≠ foLINKLOSS then foUVLO else s.foState k.val)) ∧
          OtherPages .fio s t ∧ SameBut [.fio, .jrnl, .evr, .life] s t)) ∧
      Completes (.vfRecover g) s (fun t => t.bit (vfLowFld g.val) = false ∧ (s.bit (uvloFld g.val) = true → tget false t.fio.timing g.val = true) ∧
        t.bit (uvloFld g.val) = s.bit (uvloFld g.val) ∧ Frame [R.fioStat] [.fio] [] s t) ∧
      Completes (.vfFallDuringRecovery g) s (fun t => tget false t.fio.timing g.val = false ∧ tget false t.fio.recovered g.val = false ∧ Frame [] [.fio] [] s t) ∧
      (tget false s.fio.timing g.val = true → Completes (.vfRecoveryTimer g) s (fun t =>
        (rearmAuto s g.val = true → t.bit (uvloFld g.val) = false ∧ tget false t.fio.recovered g.val = false ∧
          ∀ k : Fin 16, t.foState k.val = (if k.val / 8 = g.val ∧ s.foState k.val = foUVLO then (if s.drvBit k.val then (if (s.foChan k.val).hot then foOVL else foON) else if (s.foChan k.val).load then foDEMAG else foOFF) else s.foState k.val)) ∧
        (rearmAuto s g.val = false → tget false t.fio.recovered g.val = true ∧ Frame [] [.fio] [] s t) ∧
        OtherPages .fio s t ∧ SameBut [.fio, .jrnl, .evr, .life] s t)) ∧
      (tget false s.fio.timing g.val = false → exec (.vfRecoveryTimer g) s = .next s.fin)) ∧
    (∀ (m : Master) (v : Word), Reaches s m .fio →
      Completes (.fioRearm m v) s (fun t => OtherPages .fio s t ∧ SameBut [.fio, .jrnl, .evr, .life] s t ∧
        ∀ (g : Fin 2) (named : Bool), named = ((if g = 0 then R.fioRearm_a.of v else R.fioRearm_b.of v) == 1) →
          ((named = false ∨ s.bit (uvloFld g.val) = false) → t.bit (uvloFld g.val) = s.bit (uvloFld g.val) ∧
            ∀ k : Fin 16, k.val / 8 = g.val → t.foState k.val = s.foState k.val) ∧
          (named = true → s.bit (uvloFld g.val) = true → tget false s.fio.recovered g.val = false → t.bit (uvloFld g.val) = true ∧
            ((s.hdr .fio).errCode = 0 → (t.hdr .fio).errCode = 0x0102) ∧ ∀ k : Fin 16, k.val / 8 = g.val → t.foState k.val = s.foState k.val) ∧
          (named = true → s.bit (uvloFld g.val) = true → tget false s.fio.recovered g.val = true → t.bit (uvloFld g.val) = false ∧
            tget false t.fio.recovered g.val = false ∧
            ∀ k : Fin 16, k.val / 8 = g.val → t.foState k.val = (if s.foState k.val = foUVLO then (if s.drvBit k.val then (if (s.foChan k.val).hot then foOVL else foON) else if (s.foChan k.val).load then foDEMAG else foOFF) else s.foState k.val))) ∧
      Completes (.fioCtrlWrite m v) s (fun t => t.reg R.fioCtrl = (s.reg R.fioCtrl &&& 0xFFFFFFF0#32) ||| (v &&& 0xF#32) ∧ SameMemory s t ∧
        (s.bit R.fioCtrl_en = false → R.fioCtrl_en.of v = 1 → t.fio.stepping = true ∧
          ∀ n : Fin 32, (t.fiFilter n.val).c = 0 ∧ t.regBit R.fioFiState n.val = false) ∧
        (s.bit R.fioCtrl_en = true → R.fioCtrl_en.of v = 0 → t.bit R.fioStat_link_a = false ∧ t.bit R.fioStat_link_b = false ∧ t.bit R.fioStat_foh = false ∧
          (∀ g : Fin 2, t.groupValid (R.fioGrpClampavg g.val) = false) ∧
          ∀ k : Fin 16, t.foState k.val = foLINKLOSS ∧ t.groupValid (R.fioFoDemag k.val) = false) ∧
        (s.bit R.fioCtrl_en = (R.fioCtrl_en.of v == 1) → (∀ g : Fin 2, s.bit (uvloFld g.val) = false ∨ rearmAuto t g.val = false ∨ tget false s.fio.recovered g.val = false) →
          Frame [R.fioCtrl] [] [] s t) ∧
        ∀ g : Fin 2, s.bit (uvloFld g.val) = true → rearmAuto t g.val = true → tget false s.fio.recovered g.val = true → t.bit (uvloFld g.val) = false)) ∧
    (¬ (s.keepAlive = true ∧ s.bit R.fioCtrl_en = true ∧ s.bit R.fioStat_link_a = true) → Completes .fohKeepaliveLoss s (fun t =>
      t.bit R.fioStat_foh = false ∧ Frame [R.fioStat] [] [] s t)) ∧
    (s.keepAlive = true → s.bit R.fioCtrl_en = true → s.bit R.fioStat_link_a = true → exec .fohKeepaliveLoss s = .next s.fin)

/-- STATUS_FRAME of a linked die while EN = 1 shows its raw inputs and pins; else it does nothing. INPUT_FILTER_STEP, from the
first EN on, counts up to ON while the (inverted) raw input is 1 and down while it is 0; FI_STATE becomes 1 at ON and 0 at or
below OFF, with the sticky bit set at a change. FI_FLT_WRITE on an UNLOCKED page with OFF at or above ON is dropped with
0x0101, else it stores, and where INV changes the count becomes ON less the count and the state inverts. TCS_TIMER of a
supervised channel that is OFF with its supply up sets or clears its failure, but sets none that its paired pin masks; else it
does nothing. CLAMP_EVENT_END completes the channel's result group with the energy and the count of events, and one above 250
mJ sets its sticky bit; CLAMP_AVERAGE while EN = 1 completes both groups' sums of the last 10 s, and one above 10 J sets its
sticky bit. (R203, R204, R209, R210, 12_field_io.md) -/
def Obligations.InputsClampsAndSupervision : Prop :=
  ∀ (s : State),
    (∀ (d : Fin 2) (raw : BitVec 16) (pins load : BitVec 8) (foh : Bool),
      (s.bit R.fioCtrl_en = true → s.bit (linkFld d.val) = true →
        Completes (.statusFrame d raw pins foh load) s (fun t => (∀ i : Fin 16, t.regBit R.fioFiRaw (16 * d.val + i.val) = raw.getLsbD i.val) ∧
          (∀ i : Fin 8, t.regBit R.fioFoPin (8 * d.val + i.val) = pins.getLsbD i.val ∧ t.bit (R.fioFoStat_pin (8 * d.val + i.val)) = pins.getLsbD i.val ∧
            (t.foChan (8 * d.val + i.val)).load = load.getLsbD i.val) ∧ (d = 0 → t.bit R.fioFoPin_foh = foh) ∧
          (∀ k : Nat, k < 16 → t.foState k = s.foState k) ∧ t.reg R.fioFiState = s.reg R.fioFiState ∧ OtherPages .fio s t ∧ SameBut [.fio, .jrnl] s t)) ∧
      ((s.bit R.fioCtrl_en = false ∨ s.bit (linkFld d.val) = false) → exec (.statusFrame d raw pins foh load) s = .next s.fin)) ∧
    (∀ n : Fin 32,
      (s.fio.stepping = false → exec (.inputFilterStep n) s = .next s.fin) ∧
      (s.fio.stepping = true → ∀ c on : Nat, on = s.fltOn n.val →
        c = (if s.regBit R.fioFiRaw n.val ≠ s.bit (R.fioFiFlt_inv n.val) then Nat.min (Nat.min (s.fiFilter n.val).c on + 1) on else Nat.min (s.fiFilter n.val).c on - 1) →
        Completes (.inputFilterStep n) s (fun t => (t.fiFilter n.val).c = c ∧
          t.regBit R.fioFiState n.val = (if c = on then true else if c ≤ s.get (R.fioFiFlt_off n.val) then false else s.regBit R.fioFiState n.val) ∧
          (t.regBit R.fioFiState n.val ≠ s.regBit R.fioFiState n.val → t.regBit R.fioFiChg n.val = true ∧ (s.regBit R.fioFiChg n.val = false → Pends t .fio 0)) ∧
          Frame [R.fioFiState, R.fioFiChg] [.fio, .evr] [.fio] s t)) ∧
      (∀ (m : Master) (v : Word), Reaches s m .fio →
        (Nat.max 1 ((R.fioFiFlt_on n.val).of v) ≤ (R.fioFiFlt_off n.val).of v → exec (.fiFltWrite m n v) s = .next (s.raise .fio 0x0101 m.val).fin) ∧
        ((R.fioFiFlt_off n.val).of v < Nat.max 1 ((R.fioFiFlt_on n.val).of v) → ∀ flip : Bool,
          flip = ((((R.fioFiFlt_inv n.val).of v == 1) != s.bit (R.fioFiFlt_inv n.val)) && s.fio.stepping) →
          Completes (.fiFltWrite m n v) s (fun t => t.reg (R.fioFiFlt n.val) = (s.reg (R.fioFiFlt n.val) &&& 0xF0000000#32) ||| (v &&& 0x0FFFFFFF#32) ∧
            (flip = true → (t.fiFilter n.val).c = (s.fiFilter n.val).on - (s.fiFilter n.val).c ∧ t.regBit R.fioFiState n.val = !s.regBit R.fioFiState n.val ∧
              t.regBit R.fioFiChg n.val = true ∧ Frame [R.fioFiFlt n.val, R.fioFiState, R.fioFiChg] [.fio, .evr] [.fio] s t) ∧
            (flip = false → Frame [R.fioFiFlt n.val] [] [] s t))))) ∧
    (∀ k : Fin 16,
      (∀ (low runs : Bool), runs = (s.bit (R.fioFoCfg_tcs_en k.val) && s.foState k.val == foOFF && !s.bit (vfLowFld (k.val / 8)) && !s.bit (uvloFld (k.val / 8))) →
        (runs = true → ¬ (low = true ∧ s.bit (R.fioFoCfg_par k.val) = true ∧ s.regBit R.fioFoPin k.val = true) →
          Completes (.tcsTimer k low) s (fun t => t.regBit R.fioTcsFail k.val = low ∧ Frame [R.fioTcsFail, R.fioFoStat k.val] [.evr] [] s t)) ∧
        ((runs = false ∨ (low = true ∧ s.bit (R.fioFoCfg_par k.val) = true ∧ s.regBit R.fioFoPin k.val = true)) → exec (.tcsTimer k low) s = .next s.fin)) ∧
      (∀ e : BitVec 24, Completes (.clampEventEnd k e) s (fun t => t.groupValid (R.fioFoDemag k.val) = true ∧
        t.groupWord (R.fioFoDemag k.val) 1 = BitVec.ofNat 32 e.toNat ∧ (t.foChan k.val).events = (s.foChan k.val).events + 1 ∧
        t.groupWord (R.fioFoDemag k.val) 3 = BitVec.ofNat 32 ((s.foChan k.val).events + 1) ∧
        (25000 < e.toNat → t.regBit R.fioClampSticky k.val = true) ∧
        (e.toNat ≤ 25000 → t.reg R.fioClampSticky = s.reg R.fioClampSticky) ∧ OtherPages .fio s t ∧ SameBut [.fio, .life, .evr] s t))) ∧
    (s.bit R.fioCtrl_en = true → Completes .clampAverage s (fun t => (∀ g : Fin 2, t.groupValid (R.fioGrpClampavg g.val) = true ∧
      tget [] t.fio.clamps g.val = (tget [] s.fio.clamps g.val).filter (fun x => decide (s.time.ticks ≤ x.1 + 2500000000)) ∧
      t.groupWord (R.fioGrpClampavg g.val) 1 = BitVec.ofNat 32 (Nat.min 0xFFFF (((tget [] t.fio.clamps g.val).map (fun x => x.2)).sum / 1000)) ∧
      (1000000 < ((tget [] t.fio.clamps g.val).map (fun x => x.2)).sum → t.regBit R.fioClampSticky (16 + g.val) = true)) ∧
      OtherPages .fio s t ∧ SameBut [.fio, .evr] s t)) ∧
    (s.bit R.fioCtrl_en = false → exec .clampAverage s = .next s.fin)

/-- HKA_GO on an UNLOCKED page that raises GO with no entries, more than 40, or one above 39 is dropped with SEQ_BAD; with EN = 0
or the DMA channel not RUNNING with DMA_OFF; a good one starts the pass at its first entry, after an urgent conversion that
runs. Written while GO is 1 it stores, and with EN 0 ends the pass. A conversion that ends pushes its word into the FIFO and
completes its input's result group (and the urgent one), and is discarded with FIFO_OVF when 64 are held; with OVR it raises
its edge; after it a waiting urgent input, the pass's next entry, or nothing, converts; the last entry raises DONE. HKA_URG
naming an input is dropped with URG_BUSY while one waits or converts, begins at once on an idle converter, and waits else.
HKA_WARMUP_DONE ends a warm-up. HKA_FIFO_POP takes the head. HKA_PASS_PERIOD starts the next pass under CONT.
HKA_TEMPERATURE_SAMPLE does for its sensor what a conversion does. Elsewhere these events do nothing. (R215, R216, R217, R341,
R51, 12_field_io.md) -/
def Obligations.HousekeepingConverts : Prop :=
  ∀ (s : State),
    (∀ (m : Master) (v : Word) (bad : Prop), Reaches s m .hka → bad = (s.hkaLen = 0 ∨ 40 < s.hkaLen ∨ ∃ i : Nat, i < s.hkaLen ∧ 39 < s.hkaEntry i) →
      (s.bit R.hkaCtrl_go = false →
        (bad → exec (.hkaGo m v) s = .next (s.raise .hka 0x0102 m.val).fin) ∧
        (¬ bad → (R.hkaCtrl_en.of v = 0 ∨ s.get (R.dmaChStat_state (R.hkaCtrl_dma_ch.of v)) ≠ 1) →
          exec (.hkaGo m v) s = .next (s.raise .hka 0x0103 m.val).fin) ∧
        (¬ bad → R.hkaCtrl_en.of v = 1 → s.get (R.dmaChStat_state (R.hkaCtrl_dma_ch.of v)) = 1 →
          Completes (.hkaGo m v) s (fun t => t.bit R.hkaCtrl_go = true ∧ t.bit R.hkaStat_busy = true ∧
            t.bit R.hkaStat_fifo_ovf = false ∧ t.hka.fifo = s.hka.fifo ∧ t.hka.next = some 0 ∧
            (s.hka.run = .idle → s.hka.urg = none → t.hka.run = .seq 0) ∧ (s.hka.run ≠ .idle → t.hka.run = s.hka.run) ∧
            Frame [R.hkaCtrl, R.hkaStat] [.hka] [] s t))) ∧
      (s.bit R.hkaCtrl_go = true →
        (R.hkaCtrl_en.of v = 0 → Completes (.hkaGo m v) s (fun t => t.bit R.hkaCtrl_go = false ∧ t.hka.next = none ∧ t.hka.run = s.hka.run ∧
          (s.hka.run = .idle → t.bit R.hkaStat_busy = false) ∧ Frame [R.hkaCtrl, R.hkaStat] [.hka] [] s t)) ∧
        (R.hkaCtrl_en.of v = 1 → s.hka.next ≠ none → Completes (.hkaGo m v) s (fun t =>
          t.reg R.hkaCtrl = (s.reg R.hkaCtrl &&& 0xFF000002#32) ||| (v &&& 0x00FFFFFD#32) ||| 2#32 ∧ t.hka = s.hka ∧ Frame [R.hkaCtrl, R.hkaStat] [] [] s t)))) ∧
    (∀ (m : Master) (v : Word), Reaches s m .hka →
      ((R.hkaUrg_go.of v = 0 ∨ 39 < R.hkaUrg_in.of v) → exec (.hkaUrgentRequest m v) s = .next s.fin) ∧
      (R.hkaUrg_go.of v = 1 → R.hkaUrg_in.of v ≤ 39 →
        ((s.hka.urg ≠ none ∨ ∃ u : Nat, s.hka.run = .urgent u) → exec (.hkaUrgentRequest m v) s = .next (s.raise .hka 0x0101 m.val).fin) ∧
        (s.hka.urg = none → (∀ u : Nat, s.hka.run ≠ .urgent u) → Completes (.hkaUrgentRequest m v) s (fun t =>
          (s.hka.run = .idle → t.hka.run = .urgent (R.hkaUrg_in.of v) ∧ t.hka.urg = none) ∧
          (s.hka.run ≠ .idle → t.hka.run = s.hka.run ∧ t.hka.urg = some (R.hkaUrg_in.of v)) ∧
          t.groupValid R.hkaUrgRes = false ∧ t.bit R.hkaStat_busy = true ∧ Frame [R.hkaStat, R.hkaUrgRes.addr] [.hka] [] s t)))) ∧
    (∀ (code : BitVec 12) (ovr : Bool),
      ((s.hka.warming = true ∨ s.hka.run = .idle) → exec (.hkaConversionDone code ovr) s = .next s.fin) ∧
      (∀ (inp : Nat) (w : Word), s.hka.warming = false → w = s.hkaWord inp (hkaCode code ovr) ovr → inp ≤ 39 →
        (s.hka.run = .urgent inp ∨ ∃ i : Nat, s.hka.run = .seq i ∧ s.hkaEntry i = inp) →
        Completes (.hkaConversionDone code ovr) s (fun t => t.groupValid (R.hkaIn inp) = true ∧ t.groupWord (R.hkaIn inp) 1 = w ∧ (ovr = true → Pends t .hka 3) ∧
          (s.hka.run = .urgent inp → t.groupValid R.hkaUrgRes = true ∧ t.groupWord R.hkaUrgRes 1 = w ∧ Pends t .hka 1) ∧
          (s.hka.fifo.length < 64 → t.hka.fifo = s.hka.fifo ++ [w] ∧ t.get R.hkaStat_level = s.hka.fifo.length + 1) ∧
          (64 ≤ s.hka.fifo.length → t.hka.fifo = s.hka.fifo ∧ t.bit R.hkaStat_fifo_ovf = true ∧ Pends t .hka 2) ∧
          (∀ u : Nat, s.hka.urg = some u → t.hka.run = .urgent u ∧ t.hka.urg = none) ∧
          (∀ i : Nat, s.hka.run = .seq i → i + 1 < s.hkaLen → s.hka.next ≠ none → t.hka.next = some (i + 1) ∧
            (s.hka.urg = none → t.hka.run = .seq (i + 1))) ∧
          (∀ i : Nat, s.hka.run = .seq i → (s.hkaLen ≤ i + 1 ∨ s.hka.next = none) → Pends t .hka 0 ∧
            ((s.bit R.hkaCtrl_go = false ∨ s.bit R.hkaCtrl_cont = false) → t.bit R.hkaCtrl_go = false ∧ t.hka.next = none ∧
              (s.hka.urg = none → t.hka.run = .idle ∧ t.bit R.hkaStat_busy = false)) ∧
            (s.bit R.hkaCtrl_go = true → s.bit R.hkaCtrl_cont = true → t.bit R.hkaCtrl_go = true ∧
              t.hka.next = if s.get R.hkaCtrl_period = 0 then some 0 else none)) ∧
          SameBut [.hka] s t ∧ OtherPages .hka s t))) ∧
    (s.hka.warming = true → Completes .hkaWarmupDone s (fun t => t.hka = { s.hka with warming := false } ∧ t.bit R.hkaStat_warm = true ∧ Frame [R.hkaStat] [.hka] [] s t)) ∧
    (s.hka.warming = false → exec .hkaWarmupDone s = .next s.fin) ∧
    Completes .hkaFifoPop s (fun t => t.hka.fifo = s.hka.fifo.drop 1 ∧ t.out = s.out ++ [.readData 1 R.hkaFifoData (leBytes 4 (s.reg R.hkaFifoData).toNat)] ∧
      (s.hka.fifo ≠ [] → s.hka.fifo.length ≤ 64 → t.get R.hkaStat_level = s.hka.fifo.length - 1 ∧ t.reg R.hkaFifoData = (s.hka.fifo.drop 1).headD 0) ∧
      Frame [R.hkaStat, R.hkaFifoData] [.hka, .out] [] s t) ∧
    (∀ due : Bool, due = (s.bit R.hkaCtrl_en && s.bit R.hkaCtrl_go && s.bit R.hkaCtrl_cont && s.hka.next.isNone) →
      (due = true → Completes .hkaPassPeriod s (fun t => t.hka.next = some 0 ∧ t.bit R.hkaStat_busy = true ∧
        (s.hka.run = .idle → s.hka.urg = none → t.hka.run = .seq 0) ∧ (s.hka.run ≠ .idle → t.hka.run = s.hka.run) ∧ Frame [R.hkaStat] [.hka] [] s t)) ∧
      (due = false → exec .hkaPassPeriod s = .next s.fin)) ∧
    (∀ (k : Fin 8) (code : BitVec 12) (ovr : Bool) (w : Word), w = s.hkaWord (19 + k.val) (hkaCode code ovr) ovr →
      Completes (.hkaTemperatureSample k code ovr) s (fun t => t.groupValid (R.hkaIn (19 + k.val)) = true ∧ t.groupWord (R.hkaIn (19 + k.val)) 1 = w ∧
        tget 0 t.hka.temps k.val = hkaCode code ovr ∧ (ovr = true → Pends t .hka 3) ∧
        (s.hka.fifo.length < 64 → t.hka.fifo = s.hka.fifo ++ [w]) ∧
        (64 ≤ s.hka.fifo.length → t.hka.fifo = s.hka.fifo ∧ t.bit R.hkaStat_fifo_ovf = true ∧ Pends t .hka 2) ∧ t.hka.run = s.hka.run ∧
        Frame [(R.hkaIn (19 + k.val)).addr, (R.hkaIn (19 + k.val)).addr + 4, R.hkaStat, R.hkaFifoData] [.hka, .life] [.hka] s t))

/-- On a master: LOGIC_CYCLE_LEAD of an idle engine in STARTING or RUN lets the waiting force commands take effect and schedules a
snapshot; LOGIC_SNAPSHOT latches the own image (filtered inputs, trip lines, valid GOOSE inputs, FO_CMD with the pins) into
its place in the array and at 0x0109_E000, and completes LGE_NOW with logic time; INPUT_IMAGE_RECEIVED of another member of
the domain stores the image and its VALID bit; LOGIC_EXEC shows VALID, also in words 126 and 127, pulses MISS where an image
is missing, evaluates every instance with constant inputs by its block, and fills each member's slice, from the safe slice
where no instance and no force writes it; LOGIC_OUT sends every other member its slice and copies the RETAIN lines to the
shadow; without OUTSYNC it applies the own slice, ends OUT and enters RUN, with OUTSYNC it holds the slice. A remote member
sends its image at a snapshot. Memory effects are stated where the engine's stores are granted (its banks are ON). Outside its
phase, its role or with EN = 0 (snapshot) an event does nothing. (R218, R219, R220, R226, R227, R229, R230, R233,
13_logic_engine.md) -/
def Obligations.LogicCyclesRunInPhases : Prop :=
  ∀ (s : State),
    (s.lgeMaster = true → s.lgeRuns = true → s.lge.phase = .idle → Completes .logicCycleLead s (fun t => t.lge.phase = .lead ∧
      t.lge.lead = s.time.ticks ∧ t.lge.fcmd = [] ∧ t.lge.fres = none ∧ t.lge.forces = (forceWaiting s).lge.forces ∧
      t.out = s.out ++ [.logicSnap (s.get R.lgeRcStat_gen)] ∧ t.le = s.le ∧ SameButHeaders s t ∧
      (∀ y : Word, s.lge.fres = some y → t.groupValid R.lgeForceRes = true ∧ t.groupWord R.lgeForceRes 1 = y) ∧
      (s.lge.fcmd = [] → Frame [R.lgeForceRes.addr, R.lgeForceRes.addr + 4, R.lgeForceRes.addr + 8] [.lge, .out] [.lge] s t))) ∧
    ((s.lgeMaster = false ∨ s.lgeRuns = false ∨ s.lge.phase ≠ .idle) → exec .logicCycleLead s = .next s.fin) ∧
    (∀ gen : BitVec 16,
      ((s.bit R.lgeCtrl_en = false ∨ (s.lgeMaster = false ∧ s.lgeRemote = false) ∨ (s.lgeMaster = true ∧ s.lge.phase ≠ .lead)) →
        exec (.logicSnapshot gen) s = .next s.fin) ∧
      (s.bit R.lgeCtrl_en = true → s.lgeMaster = true → s.lge.phase = .lead → Completes (.logicSnapshot gen) s (fun t => t.lge.phase = .gather ∧
        t.lge.valid = 2 ^ s.selfId ∧ t.lge.now = s.logicUs ∧
        (s.lgeRuns = true → t.groupValid R.lgeNow = true ∧ t.groupWord R.lgeNow 1 = BitVec.ofNat 32 s.logicUs ∧
          t.groupWord R.lgeNow 2 = BitVec.ofNat 32 (s.logicUs / 2 ^ 32)) ∧
        (∀ p : LProg, LogicMemory p s → OnlyRegs [R.lgeNow.addr, R.lgeNow.addr + 4, R.lgeNow.addr + 8] s t ∧
          t.word (imgAddr s.selfId) = s.reg R.fioFiState ∧ t.word ownImage = s.reg R.fioFiState ∧
          (∀ i : Fin 8, t.word (imgAddr s.selfId + 4 + 4 * i.val) = BitVec.ofNat 32 (s.trm.lines / 2 ^ (32 * i.val))) ∧
          (∀ i : Fin 1024, (s.gin i.val).valid = true →
            (t.word (imgAddr s.selfId + 36 + 4 * (i.val / 32))).getLsbD (i.val % 32) = (s.gin i.val).val) ∧
          t.word (imgAddr s.selfId + 164) = BitVec.ofNat 32 (s.get R.trmFoCmd_cmd + s.get R.fioFoPin_pin * 2 ^ 16)) ∧
        (∀ a : Nat, (a < imgAddr s.selfId ∨ imgAddr s.selfId + 512 ≤ a) → (a < ownImage ∨ ownImage + 512 ≤ a) → memByte t.mem a = memByte s.mem a))) ∧
      (s.bit R.lgeCtrl_en = true → s.lgeMaster = false → s.lgeRemote = true → Completes (.logicSnapshot gen) s (fun t =>
        (s.memCheck 4 ownImage 512 true = none → t.word ownImage = s.reg R.fioFiState) ∧
        (∃ bs : List Byte, bs.length = 512 ∧ t.out = s.out ++ [.logicImage (s.get R.lgeCfg_master_mbr) bs]) ∧ SameMemoryBut ownImage 512 s t ∧
        (s.le = leREMOTE → t.groupValid R.lgeNow = true)))) ∧
    (∀ (m : Fin 64) (image : List Byte),
      (s.lgeMaster = true → s.lge.phase = .gather → m.val ≠ s.selfId → s.lgeDom.testBit m.val = true →
        Completes (.inputImageReceived m image) s (fun t => t.lge.valid = s.lge.valid ||| 2 ^ m.val ∧ SameMemoryBut (imgAddr m.val) 512 s t ∧
          (s.memCheck 4 (imgAddr m.val) 512 true = none →
            (∀ j : Nat, j < 512 → memByte t.mem (imgAddr m.val + j) = image.getD j 0) ∧ Frame [] [.lge, .mem] [] s t))) ∧
      ((s.lgeMaster = false ∨ s.lge.phase ≠ .gather ∨ m.val = s.selfId ∨ s.lgeDom.testBit m.val = false) →
        exec (.inputImageReceived m image) s = .next s.fin)) ∧
    (∀ e : Option (Fin 8192), (s.lge.prog = none ∨ s.lgeMaster = false ∨ s.lge.phase ≠ .gather) → exec (.logicExec e) s = .next s.fin) ∧
    ((s.lge.prog = none ∨ s.lgeMaster = false ∨ s.lge.phase ≠ .exec) → exec .logicOut s = .next s.fin) ∧
    (∀ p : LProg, s.lge.prog = some p → s.lgeMaster = true → LogicMemory p s →
      (s.lge.phase = .gather → s.lge.forces = [] → s.lgePoison p = none → Completes (.logicExec none) s (fun t => t.lge.phase = .exec ∧
        t.reg R.lgeValidLo = BitVec.ofNat 32 s.lge.valid ∧ t.reg R.lgeValidHi = BitVec.ofNat 32 (s.lge.valid / 2 ^ 32) ∧
        (∀ x ∈ [imgAddr s.selfId, ownImage], (∀ i ∈ p.insts, x + 512 ≤ instBase + i.addr ∨ instBase + i.addr + 8 ≤ x) →
          t.word (x + 504) = BitVec.ofNat 32 s.lge.valid ∧ t.word (x + 508) = BitVec.ofNat 32 (s.lge.valid / 2 ^ 32)) ∧
        (s.lgeDom &&& s.lge.valid ≠ s.lgeDom → Pends t .lge 2) ∧
        (∀ (k : Nat) (x : LInst) (vals : List (BitVec 64)), p.insts[k]? = some x → x.ins = vals.map LSrc.const → s.lge.cells.length = p.insts.length →
          ∃ f : Nat, t.lge.cells[k]? = some (lEval s.lge.now x vals (s.lge.cells.getD k {}) f).cell) ∧
        (p.outs = [] → ∀ m ∈ s.domList, memBytes t.mem (sliceAddr m) 192 =
          padSlice (((p.safe.find? (fun x => x.1 == m)).map (fun x => x.2)).getD [])) ∧
        OnlyRegs [R.lgeValidLo, R.lgeValidHi, R.lgeStat] s t)) ∧
      (s.lge.phase = .exec → s.lge.swap = none →
        (s.bit R.lgeCfg_outsync = false → Completes .logicOut s (fun t => t.lge.phase = .idle ∧ t.le = leRUN ∧ t.groupValid R.lgeCyc = true ∧
          Pends t .lge 1 ∧ t.slice = memBytes s.mem (sliceAddr s.selfId) 192 ∧
          (∀ a : Nat, (a < ownSlice ∨ ownSlice + 192 ≤ a) → (a < shadowBase ∨ shadowBase + 0x40000 ≤ a) → memByte t.mem a = memByte s.mem a) ∧
          t.out = s.out ++ (s.domList.filter (fun m => m != s.selfId)).map (fun m => Emit.logicSlice m (memBytes s.mem (sliceAddr m) 192) (!s.lge.forces.isEmpty)))) ∧
        (s.bit R.lgeCfg_outsync = true → Completes .logicOut s (fun t => t.lge.phase = .out ∧
          t.lge.held = some (memBytes s.mem (sliceAddr s.selfId) 192) ∧ t.le = s.le ∧ SameMemoryBut shadowBase 0x40000 s t ∧
          Frame [] [.lge, .out, .mem] [] s t))))

/-- AND, OR, NOT, NAND and NOR of their boolean inputs; R_TRIG and F_TRIG give one edge, and none while primed; SR is set dominant
and RS reset dominant; TON sets Q while IN holds and NOW − START reaches PT, restarts at a rising IN and shows ET = min(NOW −
START, PT), 0 while IN is 0; CTU counts a rising edge, holds at the INT32 limit and is cleared by its reset; INT32 ADD, SUB
and MUL saturate; DIV and MOD by 0 give 0 and set ARITH; a REAL32 operation on a NaN gives +0.0 and sets ARITH; SEL selects.
AND and OR draw no free value. (R222, R223, R224, R225, R231, 13_logic_engine.md) -/
def Obligations.BlocksComputeAsTheLibrarySays : Prop :=
  ∀ (now f : Nat) (x : LInst) (xs : List (BitVec 64)) (c : LCell),
    (x.type = 0x01 → (lEval now x xs c f).cell.out = lBit (xs.all lBool) ∧ (lEval now x xs c f).free = f) ∧
    (x.type = 0x02 → (lEval now x xs c f).cell.out = lBit (xs.any lBool) ∧ (lEval now x xs c f).free = f) ∧
    (x.type = 0x04 → (lEval now x xs c f).cell.out = lBit (!lBool (xs.getD 0 0))) ∧
    (x.type = 0x05 → (lEval now x xs c f).cell.out = lBit (xs.any (fun v => !lBool v))) ∧
    (x.type = 0x06 → (lEval now x xs c f).cell.out = lBit (xs.all (fun v => !lBool v))) ∧
    ((x.type = 0x08 ∨ x.type = 0x09) → c.primed = true → (lEval now x xs c f).cell.out = 0 ∧ (lEval now x xs c f).cell.primed = false) ∧
    (x.type = 0x08 → c.primed = false → (lEval now x xs c f).cell.out = lBit (lBool (xs.getD 0 0) && !c.prev.testBit 0) ∧
      (lEval now x xs c f).cell.prev.testBit 0 = lBool (xs.getD 0 0)) ∧
    (x.type = 0x09 → c.primed = false → (lEval now x xs c f).cell.out = lBit (!lBool (xs.getD 0 0) && c.prev.testBit 0) ∧
      (lEval now x xs c f).cell.prev.testBit 0 = lBool (xs.getD 0 0)) ∧
    (x.type = 0x0A → (lBool (xs.getD 0 0) = true → (lEval now x xs c f).cell.out = 1) ∧
      (lBool (xs.getD 0 0) = false → lBool (xs.getD 1 0) = true → (lEval now x xs c f).cell.out = 0)) ∧
    (x.type = 0x0B → (lBool (xs.getD 1 0) = true → (lEval now x xs c f).cell.out = 0) ∧
      (lBool (xs.getD 1 0) = false → lBool (xs.getD 0 0) = true → (lEval now x xs c f).cell.out = 1)) ∧
    (x.type = 0x10 → c.restart = false →
      (lBool (xs.getD 0 0) = false → (lEval now x xs c f).cell.out = 0 ∧ (lEval now x xs c f).cell.et = 0) ∧
      (lBool (xs.getD 0 0) = true → c.prev.testBit 0 = true → c.start ≤ now → 0 ≤ (xs.getD 1 0).toInt →
        (lEval now x xs c f).cell.start = c.start ∧
        (lEval now x xs c f).cell.out = lBit (decide ((xs.getD 1 0).toInt ≤ ((now - c.start : Nat) : Int))) ∧
        ((lEval now x xs c f).cell.et : Int) = min ((now - c.start : Nat) : Int) (xs.getD 1 0).toInt) ∧
      (lBool (xs.getD 0 0) = true → c.prev.testBit 0 = false → (lEval now x xs c f).cell.start = now)) ∧
    (x.type = 0x18 → (lBool (xs.getD 1 0) = true → (lEval now x xs c f).cell.cv = 0) ∧
      (lBool (xs.getD 1 0) = false → (lEval now x xs c f).cell.cv =
        (if lBool (xs.getD 0 0) && !c.prev.testBit 0 && !c.primed then (if c.cv < 0x7FFFFFFF then c.cv + 1 else c.cv) else c.cv)) ∧
      ((lEval now x xs c f).cell.out = lBit (decide (lInt (xs.getD 2 0) ≤ (lEval now x xs c f).cell.cv)))) ∧
    (x.real = false → (x.type = 0x28 ∨ x.type = 0x29 ∨ x.type = 0x2A) →
      ((lEval now x xs c f).cell.out).toInt = max (-0x80000000) (min 0x7FFFFFFF
        (if x.type = 0x28 then lInt (xs.getD 0 0) + lInt (xs.getD 1 0) else if x.type = 0x29 then lInt (xs.getD 0 0) - lInt (xs.getD 1 0)
         else lInt (xs.getD 0 0) * lInt (xs.getD 1 0))) ∧ (lEval now x xs c f).arith = false) ∧
    (x.real = false → (x.type = 0x2B ∨ x.type = 0x2C) → lInt (xs.getD 1 0) = 0 → (lEval now x xs c f).cell.out = 0 ∧ (lEval now x xs c f).arith = true) ∧
    (x.real = true → 0x28 ≤ x.type → x.type ≤ 0x31 → (∃ v ∈ xs, F32.isNaN (lReal v) = true) →
      (lEval now x xs c f).cell.out = 0 ∧ (lEval now x xs c f).arith = true) ∧
    (x.type = 0x38 → (lEval now x xs c f).cell.out = (if lBool (xs.getD 0 0) then xs.getD 2 0 else xs.getD 1 0).setWidth 32)

/-- On a master in STARTING or RUN, LOGIC_WATCHDOG within LEAD, GATHER or EXEC, LGE_STOP, a memory error at LOGIC_EXEC (carried by
the event, or a word known to be in error that the program reads), and LGE_CTRL_WRITE that clears EN stop the engine: STATE =
STOPPED with the cause, LGE_STOP_INFO complete, STOP pending, LGE_NOW and LGE_CYC not VALID, the safe slice read by the
literals, a pass due and a STOP broadcast. On a remote member MASTER_LOST with EN = 1, STOP_RECEIVED in REMOTE, and EN cleared
in REMOTE give STATE = REMOTE_SAFE with the cause. A slice that arrives on a remote member while EN = 1 is applied with STATE
= REMOTE, or with OUTSYNC held until SLICE_APPLY_OUTSYNC, which on a master ends OUT. Out of these conditions each event does
nothing, and LGE_CTRL_WRITE stores alone. Memory outside the applied slice is as before. That EN cleared on a remote member
gives REMOTE_SAFE is the model's reading (log entry 67). (R219, R226, R227, R228, R229, R232, 13_logic_engine.md) -/
def Obligations.StopsApplyTheSafeSlice : Prop :=
  ∀ (s : State),
    (s.lgeMaster = true → s.lgeRuns = true →
      (∀ inst : Fin 8192, (s.lge.phase = .lead ∨ s.lge.phase = .gather ∨ s.lge.phase = .exec) → Completes (.logicWatchdog inst) s (fun t =>
        t.le = leSTOPPED ∧ t.get R.lgeStat_cause = 2 ∧ t.groupValid R.lgeStopInfo = true ∧
        t.groupWord R.lgeStopInfo 1 = BitVec.ofNat 32 (2 + inst.val * 16) ∧ t.groupWord R.lgeStopInfo 2 = s.tstamp ∧ Pends t .lge 0 ∧
        t.groupValid R.lgeNow = false ∧ t.groupValid R.lgeCyc = false ∧ t.lge.phase = .idle ∧ t.trm.request = true ∧
        t.slice = padSlice s.lge.safe ∧ t.out = s.out ++ [.logicStop 2] ∧ SameMemoryBut ownSlice 192 s t)) ∧
      (∀ p : LProg, s.lge.prog = some p → s.lge.phase = .gather →
        (∀ inst : Fin 8192, s.lgePoison p = none → Completes (.logicExec (some inst)) s (fun t =>
          t.le = leSTOPPED ∧ t.get R.lgeStat_cause = 3 ∧ t.groupWord R.lgeStopInfo 1 = BitVec.ofNat 32 (3 + inst.val * 16) ∧
          Pends t .lge 0 ∧ t.slice = padSlice s.lge.safe ∧ t.out = s.out ++ [.logicStop 3])) ∧
        (∀ (w k : Nat) (e : Option (Fin 8192)), s.lgePoison p = some (w, k) → Completes (.logicExec e) s (fun t =>
          t.le = leSTOPPED ∧ t.get R.lgeStat_cause = 3 ∧ t.groupWord R.lgeStopInfo 1 = BitVec.ofNat 32 (3 + k % 8192 * 16) ∧
          Pends t .lge 0 ∧ Pends t .mem 2 ∧ t.slice = padSlice s.lge.safe))) ∧
      (∀ (m : Master) (v : Word), Reaches s m .lge →
        Completes (.lgeStop m v) s (fun t => t.le = leSTOPPED ∧ t.get R.lgeStat_cause = 1 ∧ t.groupValid R.lgeStopInfo = true ∧ Pends t .lge 0 ∧
          t.groupValid R.lgeCyc = false ∧ t.slice = padSlice s.lge.safe ∧ t.out = s.out ++ [.logicStop 1] ∧ SameMemoryBut ownSlice 192 s t) ∧
        (s.bit R.lgeCtrl_en = true → R.lgeCtrl_en.of v = 0 → Completes (.lgeCtrlWrite m v) s (fun t => t.bit R.lgeCtrl_en = false ∧
          t.le = leSTOPPED ∧ t.get R.lgeStat_cause = 1 ∧ t.slice = padSlice s.lge.safe ∧ SameMemoryBut ownSlice 192 s t)))) ∧
    (∀ inst : Fin 8192, (s.lgeMaster = false ∨ s.lgeRuns = false ∨ s.lge.phase = .idle ∨ s.lge.phase = .out) → exec (.logicWatchdog inst) s = .next s.fin) ∧
    (∀ (m : Master) (v : Word), Reaches s m .lge →
      ((s.lgeMaster = false ∨ s.lgeRuns = false) → exec (.lgeStop m v) s = .next s.fin) ∧
      (s.bit R.lgeCtrl_en = true → R.lgeCtrl_en.of v = 0 → s.lgeRemote = true → s.le = leREMOTE → Completes (.lgeCtrlWrite m v) s (fun t =>
        t.bit R.lgeCtrl_en = false ∧ t.le = leREMOTESAFE ∧ t.get R.lgeStat_cause = 1 ∧ t.slice = padSlice s.lge.safe ∧ SameMemoryBut ownSlice 192 s t)) ∧
      ((s.bit R.lgeCtrl_en = false ∨ R.lgeCtrl_en.of v = 1 ∨ ((s.lgeMaster = false ∨ s.lgeRuns = false) ∧ (s.lgeRemote = false ∨ s.le ≠ leREMOTE))) →
        Completes (.lgeCtrlWrite m v) s (fun t => t.reg R.lgeCtrl = (s.reg R.lgeCtrl &&& 0xFFFFFFFC#32) ||| (v &&& 3#32) ∧
          Frame [R.lgeCtrl] [] [] s t))) ∧
    (s.lgeRemote = true → s.bit R.lgeCtrl_en = true → s.le ≠ leREMOTESAFE →
      Completes .masterLost s (fun t => t.le = leREMOTESAFE ∧ t.get R.lgeStat_cause = 5 ∧ t.groupValid R.lgeStopInfo = true ∧ Pends t .lge 0 ∧
        t.slice = padSlice s.lge.safe ∧ t.out = s.out ∧ SameMemoryBut ownSlice 192 s t)) ∧
    ((s.lgeRemote = false ∨ s.bit R.lgeCtrl_en = false ∨ s.le = leREMOTESAFE) → exec .masterLost s = .next s.fin) ∧
    (∀ c : Fin 7,
      (s.lgeRemote = true → s.le = leREMOTE → Completes (.stopReceived c) s (fun t => t.le = leREMOTESAFE ∧ t.get R.lgeStat_cause = c.val ∧
        t.slice = padSlice s.lge.safe ∧ SameMemoryBut ownSlice 192 s t)) ∧
      ((s.lgeRemote = false ∨ s.le ≠ leREMOTE) → exec (.stopReceived c) s = .next s.fin)) ∧
    (∀ bs : List Byte,
      (s.lgeRemote = true → s.bit R.lgeCtrl_en = true →
        (s.bit R.lgeCfg_outsync = false → Completes (.sliceReceived bs) s (fun t => t.le = leREMOTE ∧ t.lge.sliceAt = s.time.ticks ∧
          (s.memCheck 4 ownSlice 192 true = none → t.slice = padSlice bs ∧ (s.slice.take 128 ≠ (padSlice bs).take 128 → t.trm.request = true)) ∧
          SameMemoryBut ownSlice 192 s t)) ∧
        (s.bit R.lgeCfg_outsync = true → Completes (.sliceReceived bs) s (fun t => t.lge.held = some bs ∧ t.lge.sliceAt = s.time.ticks ∧ Frame [] [.lge] [] s t)) ∧
        (s.lge.held = some bs → Completes .sliceApplyOutsync s (fun t => t.le = leREMOTE ∧ t.lge.held = none ∧
          (s.memCheck 4 ownSlice 192 true = none → t.slice = padSlice bs) ∧ SameMemoryBut ownSlice 192 s t))) ∧
      ((s.lgeRemote = false ∨ s.bit R.lgeCtrl_en = false) → exec (.sliceReceived bs) s = .next s.fin) ∧
      (s.lge.held = some bs → s.lgeMaster = true → s.lge.phase = .out → s.lge.swap = none → Completes .sliceApplyOutsync s (fun t =>
        t.le = leRUN ∧ t.lge.phase = .idle ∧ (s.memCheck 4 ownSlice 192 true = none → t.slice = padSlice bs) ∧ Pends t .lge 1 ∧ SameMemoryBut ownSlice 192 s t)) ∧
      (s.lge.held = some bs → ((s.lgeMaster = true ∧ s.lge.phase ≠ .out) ∨ (s.lgeMaster = false ∧ (s.lgeRemote = false ∨ s.bit R.lgeCtrl_en = false))) →
        Completes .sliceApplyOutsync s (fun t => t.lge.held = none ∧ Frame [] [.lge] [] s t))) ∧
    (s.lge.held = none → exec .sliceApplyOutsync s = .next s.fin)

/-- LGE_START with STOP = 1 is LGE_STOP. Else, of a stopped master with a program and EN = 1, it enters STARTING: COLD takes every
instance from INIT and clears the forces; a WARM start with no matching copy does the same and sets RETAIN_LOST; with one the
RETAIN instances it holds come from it and the forces stay. Of a running engine it has no effect, with EN = 0 none (log entry
67); with no program, or not a stopped master, it is dropped with NO_PROG. LGE_WDT below 1.11 times the image's WCET is
dropped with 0x0105, else it stores. RETAIN_SAVE on an idle engine in RUN freezes the shadow into a copy; RETAIN_SAVE_DONE
seals it in the place of the older. FORCE_SET is dropped with FORCE_OFF, FORCE_SYM or FORCE_FULL as R233 says, and else forces
the symbol to the value, replacing an old one; FORCE_CLEAR ends the force, FORCE_CLEAR_ALL ends all; a command written in EXEC
or OUT waits for the next cycle. FORCED follows the table. Only instance headers change in memory. Out of these conditions the
commands do nothing. (R222, R229, R230, R231, R232, R233, 13_logic_engine.md) -/
def Obligations.StartsRetainAndForces : Prop :=
  ∀ (m : Master) (v : Word) (s : State),
    (Reaches s m .lge →
      (R.lgeCmd_stop.of v = 1 → exec (.lgeStart m v) s = exec (.lgeStop m v) s) ∧
      (R.lgeCmd_stop.of v = 0 →
        (s.lgeRuns = true → exec (.lgeStart m v) s = .next s.fin) ∧
        (s.lgeRuns = false → (s.lge.prog = none ∨ s.lgeMaster = false ∨ s.le ≠ leSTOPPED) → exec (.lgeStart m v) s = .next (s.raise .lge 0x0101 m.val).fin) ∧
        (∀ p : LProg, s.lge.prog = some p → s.lgeMaster = true → s.le = leSTOPPED →
          (s.bit R.lgeCtrl_en = false → exec (.lgeStart m v) s = .next s.fin) ∧
          (s.bit R.lgeCtrl_en = true → s.memCheck 4 instBase (Nat.max 8 p.memBytes) true = none →
            (R.lgeCmd_mode.of v = 1 → Completes (.lgeStart m v) s (fun t => t.le = leSTARTING ∧ t.lge.phase = .idle ∧ t.lge.forces = [] ∧
              t.bit R.lgeStat_forced = false ∧ t.lge.cells = p.insts.map LInst.cold ∧ t.bit R.lgeStat_retain_lost = false ∧
              t.bit R.lgeStat_arith = false ∧ SameButHeaders s t ∧ Frame [R.lgeStat] [.lge, .evr, .mem] [] s t)) ∧
            (R.lgeCmd_mode.of v = 0 → s.retainCopy p.retainId = none → Completes (.lgeStart m v) s (fun t => t.le = leSTARTING ∧ t.lge.forces = [] ∧
              t.lge.cells = p.insts.map LInst.cold ∧ t.bit R.lgeStat_retain_lost = true ∧ Pends t .lge 4 ∧ SameButHeaders s t ∧
              Frame [R.lgeStat] [.lge, .evr, .mem] [.lge] s t)) ∧
            (∀ c : RetainCopy, R.lgeCmd_mode.of v = 0 → s.retainCopy p.retainId = some c → Completes (.lgeStart m v) s (fun t => t.le = leSTARTING ∧
              t.lge.forces = s.lge.forces ∧ t.bit R.lgeStat_retain_lost = false ∧
              (∀ (k : Nat) (i : LInst), p.insts[k]? = some i →
                (i.retain = false → t.lge.cells[k]? = some i.cold) ∧
                (i.retain = true → ∀ x : Word × Nat × LCell, c.cells.find? (fun x => x.1 == i.sym && x.2.1 == i.type) = some x →
                  t.lge.cells[k]? = some { x.2.2 with restart := true })) ∧
              SameButHeaders s t ∧ Frame [R.lgeStat] [.lge, .mem] [] s t))))) ∧
      (R.lgeWdt_wdt.of v * 100000 < 111 * s.get R.lgeWcet_wcet → exec (.lgeWdtWrite m v) s = .next (s.raise .lge 0x0105 m.val).fin) ∧
      (111 * s.get R.lgeWcet_wcet ≤ R.lgeWdt_wdt.of v * 100000 → Completes (.lgeWdtWrite m v) s (fun t =>
        t.get R.lgeWdt_wdt = R.lgeWdt_wdt.of v ∧ Frame [R.lgeWdt] [] [] s t)) ∧
      (s.bit R.lgeCtrl_force_en = false → exec (.forceSet m v) s = .next (s.raise .lge 0x0102 m.val).fin ∧
        exec (.forceClear m v) s = .next (s.raise .lge 0x0102 m.val).fin ∧ exec (.forceClearAll m v) s = .next (s.raise .lge 0x0102 m.val).fin) ∧
      (s.bit R.lgeCtrl_force_en = true →
        (s.lge.prog = none → exec (.forceSet m v) s = .next (s.raise .lge 0x0103 m.val).fin) ∧
        (∀ p : LProg, s.lge.prog = some p →
          ((p.sym (s.reg R.lgeForceSym) = none ∨ ∃ y : LSym, p.sym (s.reg R.lgeForceSym) = some y ∧ (y.forceable = false ∨ y.ty = .time)) →
            exec (.forceSet m v) s = .next (s.raise .lge 0x0103 m.val).fin) ∧
          (∀ y : LSym, p.sym (s.reg R.lgeForceSym) = some y → y.forceable = true → y.ty ≠ .time → s.lge.fcmd = [] →
            (256 ≤ s.lge.forces.length → (∀ f ∈ s.lge.forces, f.1 ≠ s.reg R.lgeForceSym) →
              exec (.forceSet m v) s = .next (s.raise .lge 0x0104 m.val).fin) ∧
            ((s.lge.forces.length < 256 ∨ ∃ f ∈ s.lge.forces, f.1 = s.reg R.lgeForceSym) →
              (s.lge.phase ≠ .exec → s.lge.phase ≠ .out → Completes (.forceSet m v) s (fun t =>
                (s.reg R.lgeForceSym, s.reg R.lgeForceVal) ∈ t.lge.forces ∧ (∀ f ∈ t.lge.forces, f.1 = s.reg R.lgeForceSym → f.2 = s.reg R.lgeForceVal) ∧
                (∀ f : Word × Word, f.1 ≠ s.reg R.lgeForceSym → (f ∈ t.lge.forces ↔ f ∈ s.lge.forces)) ∧ t.bit R.lgeStat_forced = true ∧
                t.groupValid R.lgeForceRes = (s.lge.phase != .idle) ∧ SameButHeaders s t)) ∧
              ((s.lge.phase = .exec ∨ s.lge.phase = .out) → Completes (.forceSet m v) s (fun t => t.lge.forces = s.lge.forces ∧
                t.lge.fcmd = [⟨1, s.reg R.lgeForceSym, s.reg R.lgeForceVal⟩] ∧ t.groupValid R.lgeForceRes = false ∧
                Frame [R.lgeForceRes.addr] [.lge] [] s t))))) ∧
        (s.lge.fcmd = [] →
          ((∀ f ∈ s.lge.forces, f.1 ≠ s.reg R.lgeForceSym) → exec (.forceClear m v) s = .next s.fin) ∧
          (s.lge.phase ≠ .exec → s.lge.phase ≠ .out →
            ((∃ f ∈ s.lge.forces, f.1 = s.reg R.lgeForceSym) → Completes (.forceClear m v) s (fun t =>
              t.lge.forces = s.lge.forces.filter (fun f => f.1 != s.reg R.lgeForceSym) ∧ t.bit R.lgeStat_forced = !t.lge.forces.isEmpty ∧ SameButHeaders s t)) ∧
            Completes (.forceClearAll m v) s (fun t => t.lge.forces = [] ∧ t.bit R.lgeStat_forced = false ∧ SameButHeaders s t)) ∧
          ((s.lge.phase = .exec ∨ s.lge.phase = .out) →
            ((∃ f ∈ s.lge.forces, f.1 = s.reg R.lgeForceSym) → Completes (.forceClear m v) s (fun t => t.lge.forces = s.lge.forces ∧
              t.lge.fcmd = [⟨2, s.reg R.lgeForceSym, 0⟩] ∧ Frame [R.lgeForceRes.addr] [.lge] [] s t)) ∧
            Completes (.forceClearAll m v) s (fun t => t.lge.forces = s.lge.forces ∧ t.lge.fcmd = [⟨3, 0, 0⟩] ∧ Frame [R.lgeForceRes.addr] [.lge] [] s t))))) ∧
    (∀ p : LProg, s.lge.prog = some p → s.lgeMaster = true → s.le = leRUN → s.lge.phase = .idle → s.lge.saving = none → s.lge.frozen = false →
      Completes .retainSave s (fun t => t.lge.saving = some ⟨p.retainId, s.lge.saveSeq + 1, Nat.min (256 * 1024) p.retainBytes, s.lge.shadow⟩ ∧
        t.bit R.lgeStat_save_busy = true ∧ Frame [R.lgeStat] [.lge] [] s t)) ∧
    ((s.lge.prog = none ∨ s.lgeMaster = false ∨ s.le ≠ leRUN ∨ s.lge.phase ≠ .idle ∨ s.lge.saving ≠ none ∨ s.lge.frozen = true) →
      exec .retainSave s = .next s.fin) ∧
    (∀ c : RetainCopy, s.lge.saving = some c → Completes .retainSaveDone s (fun t => t.lge.saving = none ∧ t.bit R.lgeStat_save_busy = false ∧
      (t.lge.copyA = some c ∨ t.lge.copyB = some c) ∧
      (∀ a b : RetainCopy, s.lge.copyA = some a → s.lge.copyB = some b →
        (a.seq < b.seq → t.lge.copyA = some c ∧ t.lge.copyB = some b) ∧ (b.seq ≤ a.seq → t.lge.copyA = some a ∧ t.lge.copyB = some c)) ∧
      t.groupValid R.lgeRetain = true ∧ t.groupWord R.lgeRetain 1 = BitVec.ofNat 32 c.seq ∧ t.groupWord R.lgeRetain 2 = BitVec.ofNat 32 c.size ∧
      Frame [R.lgeStat, R.lgeRetain.addr, R.lgeRetain.addr + 4, R.lgeRetain.addr + 8, R.lgeRetain.addr + 12] [.lge] [.lge] s t)) ∧
    (s.lge.saving = none → exec .retainSaveDone s = .next s.fin)

/-- RECAST_PREPARE on a master in STOPPED or RUN with PHASE IDLE or READY enters PREPARING with the first failed step as its
status, waits for every remote member, and drops what was staged; else it is dropped with RC_STATE. IOMAP_ACK ends a member's
wait, or on a remote member takes its own new map and acknowledges. NOACK and a failed RECAST_PREPARE_DONE complete
LGE_RC_PREP with the status, record RC_PREP and return to IDLE; a good one stages the program and its code with PHASE READY
(SWAP_PEND for a rollback), or reports SWAPMAX. RECAST_SWAP gives SWAP_PEND in RUN and switches the sets in STOPPED, the
contents of both changing places. SWAP_START switches roles: GEN adds 1, RB_AVAIL = 1, instances of the same identity and TYPE
keep their state, others are cold, forces that do not survive are dropped and listed, RECAST OPEN is journalled, and the new
RETAIN segment is the shadow. The first LOGIC_OUT completes LGE_RC_RES with OK and starts a save; SWAP_OVERRUN and a watchdog
stop complete it with FAIL_WDT; STOP in SWAP_PEND gives READY. ABORT and ROLLBACK act by PHASE; a command no phase allows is
dropped with RC_STATE, an event out of its phase does nothing. Memory is stated where the engine's stores are granted and a
program's instances lie in instance memory. (R228, R234, R235, R236, R237, R239, R240, R242, R243, R244, 14_recast.md) -/
def Obligations.RecastsRunThroughTheirPhases : Prop :=
  ∀ (s : State),
    (∀ (m : Master) (v : Word), Reaches s m .lge →
      (∀ img : LImage,
        ((s.lgeMaster = false ∨ (s.le ≠ leSTOPPED ∧ s.le ≠ leRUN) ∨ (s.rcPhase ≠ rcIDLE ∧ s.rcPhase ≠ rcREADY)) →
          exec (.recastPrepare m v img) s = .next (s.raise .lge 0x0106 m.val).fin) ∧
        (s.lgeMaster = true → (s.le = leSTOPPED ∨ s.le = leRUN) → (s.rcPhase = rcIDLE ∨ s.rcPhase = rcREADY) →
          Completes (.recastPrepare m v img) s (fun t => t.rcPhase = rcPREPARING ∧ t.lge.stage = none ∧ t.bit R.lgeRcStat_rb_avail = false ∧
            t.groupValid R.lgeRcPrep = false ∧ t.lge.prog = s.lge.prog ∧ t.lge.cells = s.lge.cells ∧ t.lge.prepProg = some img.prog ∧
            (∃ q : LPrep, t.lge.prep = some q ∧
              ((∃ b : Nat, 18 ≤ b ∧ b ≤ 22 ∧ s.bankOn b = false) → q.status = 4) ∧
              ((∀ b : Nat, 18 ≤ b → b ≤ 22 → s.bankOn b = true) →
                (img.signed = false → q.status = 1) ∧
                (img.signed = true → (4 * 2 ^ 20 < s.get R.lgeRcLen_len ∨ s.progOk img.prog = false) → q.status = 2) ∧
                (img.signed = true → s.get R.lgeRcLen_len ≤ 4 * 2 ^ 20 → s.progOk img.prog = true →
                  ((img.role ≠ s.get R.lgeCfg_role ∨ img.master ≠ s.get R.lgeCfg_master_mbr ∨ img.dom ≠ s.lgeDom) → q.status = 3) ∧
                  (img.role = s.get R.lgeCfg_role → img.master = s.get R.lgeCfg_master_mbr → img.dom = s.lgeDom →
                    q.status = 0 ∧ q.waits = s.domList.filter (fun x => x != s.selfId))))) ∧
            Frame [R.lgeRcStat, R.lgeRcPrep.addr] [.lge, .out] [] s t))) ∧
      ((s.rcPhase ≠ rcREADY ∨ (s.le ≠ leSTOPPED ∧ s.le ≠ leRUN)) → exec (.recastSwap m v) s = .next (s.raise .lge 0x0106 m.val).fin) ∧
      (s.rcPhase = rcREADY →
        (s.le = leRUN → Completes (.recastSwap m v) s (fun t => t.rcPhase = rcSWAPPEND ∧ t.groupValid R.lgeRcRes = false ∧
          Frame [R.lgeRcStat, R.lgeRcRes.addr] [] [] s t)) ∧
        (s.le = leSTOPPED → Completes (.recastSwap m v) s (fun t => t.rcPhase = rcIDLE ∧ t.lge.prog = s.lge.stage ∧ t.lge.cells = s.lge.stageCells ∧
          t.lge.stage = s.lge.prog ∧ t.get R.lgeRcStat_gen = (s.get R.lgeRcStat_gen + 1) % 65536 ∧ t.bit R.lgeRcStat_rb_avail = true ∧
          t.groupValid R.lgeRcRes = true ∧ t.groupWord R.lgeRcRes 1 = 0 ∧ Pends t .lge 6 ∧
          ((∀ p : LProg, s.lge.stage = some p → ∀ i ∈ p.insts, i.addr + 8 ≤ 0x200000) → ∀ a : Nat,
            (codeBase ≤ a → a < 0x1080000 → memByte t.mem a = memByte s.mem (a + 0x300000)) ∧
            (0x1100000 ≤ a → a < 0x1380000 → memByte t.mem a = memByte s.mem (a - 0x300000)))))) ∧
      ((s.rcPhase ≠ rcPREPARING ∧ s.rcPhase ≠ rcREADY ∧ s.rcPhase ≠ rcSWAPPEND ∧ s.rcPhase ≠ rcSWAPPING) →
        exec (.recastAbort m v) s = .next (s.raise .lge 0x0106 m.val).fin) ∧
      (s.rcPhase = rcSWAPPING → exec (.recastAbort m v) s = .next s.fin) ∧
      ((s.rcPhase = rcPREPARING ∨ s.rcPhase = rcREADY) → Completes (.recastAbort m v) s (fun t => t.rcPhase = rcIDLE ∧ t.lge.stage = none ∧
        t.lge.prep = none ∧ t.bit R.lgeRcStat_rb_avail = false ∧ t.lge.prog = s.lge.prog ∧
        (s.lge.prep ≠ none → t.groupValid R.lgeRcPrep = true ∧ t.groupWord R.lgeRcPrep 1 = 7) ∧ SameMemory s t)) ∧
      (s.rcPhase = rcSWAPPEND → Completes (.recastAbort m v) s (fun t => t.rcPhase = rcREADY ∧ t.lge.prog = s.lge.prog ∧ t.lge.stage = s.lge.stage ∧
        t.groupWord R.lgeRcRes 1 = BitVec.ofNat 32 (4 + 8 * b2n s.lge.rollback) ∧ SameMemory s t)) ∧
      ((s.rcPhase ≠ rcIDLE ∨ s.bit R.lgeRcStat_rb_avail = false ∨ s.lgeMaster = false ∨ (s.le ≠ leSTOPPED ∧ s.le ≠ leRUN)) →
        exec (.recastRollback m v) s = .next (s.raise .lge 0x0106 m.val).fin) ∧
      (s.rcPhase = rcIDLE → s.bit R.lgeRcStat_rb_avail = true → s.lgeMaster = true →
        (s.le = leSTOPPED → Completes (.recastRollback m v) s (fun t => t.rcPhase = rcIDLE ∧ t.lge.prog = s.lge.stage ∧ t.lge.stage = s.lge.prog ∧
          t.get R.lgeRcStat_gen = (s.get R.lgeRcStat_gen + 1) % 65536 ∧ t.groupWord R.lgeRcRes 1 = 8)) ∧
        (s.le = leRUN → Completes (.recastRollback m v) s (fun t => t.rcPhase = rcPREPARING ∧ t.lge.rollback = true ∧ t.lge.prog = s.lge.prog ∧
          t.lge.stage = s.lge.stage ∧ t.groupValid R.lgeRcPrep = false ∧ t.groupValid R.lgeRcRes = false ∧ SameMemory s t))) ∧
      (s.lgeMaster = true → s.lgeRuns = true → s.lge.swap = none → s.rcPhase = rcSWAPPEND → Completes (.lgeStop m v) s (fun t =>
        t.rcPhase = rcREADY ∧ t.groupWord R.lgeRcRes 1 = BitVec.ofNat 32 (4 + 8 * b2n s.lge.rollback) ∧ t.lge.prog = s.lge.prog ∧ t.lge.stage = s.lge.stage))) ∧
    (∀ (m : Fin 64) (gen : BitVec 16) (map : LIomap) (sf : List Byte),
      (s.lgeRemote = true → m.val = s.selfId → Completes (.iomapAck m gen map sf) s (fun t => t.lge.newMap = some (gen.toNat, map, padSlice sf) ∧
        t.out = s.out ++ [.logicMapAck gen.toNat] ∧ Frame [] [.lge, .out] [] s t)) ∧
      ((s.lgeRemote = false ∨ m.val ≠ s.selfId) →
        (s.lge.prep = none → exec (.iomapAck m gen map sf) s = .next s.fin) ∧
        (∀ p : LPrep, s.lge.prep = some p → Completes (.iomapAck m gen map sf) s (fun t =>
          t.lge.prep = some { p with waits := p.waits.filter (fun x => x != m.val) } ∧ Frame [] [.lge] [] s t)))) ∧
    (s.lge.prep = none → exec .recastPrepareDone s = .next s.fin ∧ exec .noack s = .next s.fin) ∧
    (∀ p : LPrep, s.lge.prep = some p →
      ((p.status ≠ 0 ∨ p.waits = []) → exec .noack s = .next s.fin) ∧
      (p.status = 0 → p.waits ≠ [] → exec .recastPrepareDone s = .next s.fin ∧
        Completes .noack s (fun t => t.rcPhase = rcIDLE ∧ t.lge.prep = none ∧ t.groupWord R.lgeRcPrep 1 = 5 ∧ (t.hdr .lge).errCode ≠ 0 ∧ Pends t .lge 6 ∧
          t.lge.prog = s.lge.prog ∧ SameMemory s t)) ∧
      (p.status ≠ 0 → Completes .recastPrepareDone s (fun t => t.rcPhase = rcIDLE ∧ t.lge.prep = none ∧ t.groupWord R.lgeRcPrep 1 = BitVec.ofNat 32 p.status ∧
        (t.hdr .lge).errCode ≠ 0 ∧ t.lge.prog = s.lge.prog ∧ SameMemory s t)) ∧
      (p.status = 0 → p.waits = [] →
        (s.swapMax < p.tSwap → Completes .recastPrepareDone s (fun t => t.rcPhase = rcIDLE ∧ t.groupWord R.lgeRcPrep 1 = 6 ∧
          (t.hdr .lge).errCode ≠ 0 ∧ (s.lge.rollback = true → t.groupWord R.lgeRcRes 1 = 12) ∧ SameMemory s t)) ∧
        (p.tSwap ≤ s.swapMax →
          (s.lge.rollback = true → Completes .recastPrepareDone s (fun t => t.rcPhase = rcSWAPPEND ∧ t.lge.stage = s.lge.stage ∧
            t.groupWord R.lgeRcPrep 1 = 0 ∧ SameMemory s t)) ∧
          (s.lge.rollback = false → Completes .recastPrepareDone s (fun t => t.rcPhase = rcREADY ∧ t.lge.stage = s.lge.prepProg ∧
            t.groupValid R.lgeRcPrep = true ∧ t.groupWord R.lgeRcPrep 1 = 0 ∧ t.groupWord R.lgeRcPrep 2 = BitVec.ofNat 32 (p.tSwap % 2 ^ 20) ∧
            (t.hdr .lge).errCode = (s.hdr .lge).errCode ∧ Pends t .lge 6 ∧
            (∀ new : LProg, s.lge.prepProg = some new → new.initBytes.length ≤ 0x200000 → new.code.length ≤ 0x80000 →
              (∀ i ∈ new.insts, i.addr + 8 ≤ 0x200000) →
              (s.memCheck 4 0x1100000 0x280000 true = none → memBytes t.mem 0x1300000 new.code.length = new.code) ∧
              SameMemoryBut 0x1100000 0x280000 s t)))))) ∧
    (∀ (cycles : BitVec 20),
      (s.swapDue = false → exec (.swapStart cycles) s = .next s.fin) ∧
      (∀ old new : LProg, s.swapDue = true → s.lge.prog = some old → s.lge.stage = some new → Completes (.swapStart cycles) s (fun t =>
        t.rcPhase = rcSWAPPING ∧ t.lge.prog = some new ∧ t.lge.stage = some old ∧ t.get R.lgeRcStat_gen = (s.get R.lgeRcStat_gen + 1) % 65536 ∧
        t.bit R.lgeRcStat_rb_avail = true ∧
        (∃ w : LSwap, t.lge.swap = some w ∧ w.time = s.tstamp ∧ w.cycles = cycles.toNat ∧ w.rollback = s.lge.rollback ∧
          w.fdrop = (forceDrops old new s.lge.forces).length) ∧
        t.lge.forces = s.lge.forces.filter (fun f => forceKept old new f.1) ∧
        ((s.sys.ladle = none ∨ s.jRoom = true) → ∃ op ∈ t.jrnl.ops, op.cls = 5 ∧ op.opid = s.jrnl.nextOp ∧ op.data.getD 0 0 = new.progId.setWidth 32) ∧
        t.lge.shadow = retainCells new t.lge.cells ∧
        (new.syms = [] → ∀ (k : Nat) (x : LInst), new.insts[k]? = some x →
          ((∀ y ∈ old.insts, y.sym = x.sym → y.type ≠ x.type) → t.lge.cells[k]? = some x.cold) ∧
          (∀ (j : Nat) (y : LInst), old.insts[j]? = some y → y.sym = x.sym → y.type = x.type →
            (∀ (i : Nat) (z : LInst), old.insts[i]? = some z → z.sym = x.sym → i = j) →
            t.lge.cells[k]? = some (s.lge.cells.getD j x.cold))) ∧
        ((∀ p ∈ [old, new], ∀ i ∈ p.insts, i.addr + 8 ≤ 0x200000) → t.slice = s.slice ∧
          (s.memCheck 4 0x109F800 0x400 true = none → (forceDrops old new s.lge.forces).length ≤ 256 →
            ∀ (i : Nat) (y : Word), (forceDrops old new s.lge.forces)[i]? = some y → t.word (0x109F800 + 4 * i) = y))))) ∧
    (∀ (w : LSwap) (p : LProg), s.lge.swap = some w → s.lge.prog = some p → s.lgeMaster = true → s.lge.phase = .exec →
      s.bit R.lgeCfg_outsync = false → Completes .logicOut s (fun t => t.rcPhase = rcIDLE ∧ t.lge.swap = none ∧ t.le = leRUN ∧
        t.groupValid R.lgeRcRes = true ∧ t.groupWord R.lgeRcRes 1 = BitVec.ofNat 32 (8 * b2n w.rollback + w.fdrop * 16) ∧
        t.groupWord R.lgeRcRes 2 = w.time ∧ t.groupWord R.lgeRcRes 4 = p.progId.setWidth 32 ∧ Pends t .lge 6 ∧
        (s.lge.saving = none → s.lge.frozen = false → t.bit R.lgeStat_save_busy = true))) ∧
    (∀ w : LSwap, s.lge.swap = some w → s.lgeMaster = true → s.lgeRuns = true →
      (s.rcPhase = rcSWAPPING → s.lge.phase = .idle → Completes .swapOverrun s (fun t => t.le = leSTOPPED ∧ t.get R.lgeStat_cause = 2 ∧ t.rcPhase = rcIDLE ∧
        t.lge.swap = none ∧ t.groupWord R.lgeRcRes 1 = BitVec.ofNat 32 (2 + 8 * b2n w.rollback + w.fdrop * 16) ∧ t.slice = padSlice s.lge.safe)) ∧
      (∀ inst : Fin 8192, (s.lge.phase = .lead ∨ s.lge.phase = .gather ∨ s.lge.phase = .exec) → Completes (.logicWatchdog inst) s (fun t =>
        t.le = leSTOPPED ∧ t.rcPhase = rcIDLE ∧ t.lge.swap = none ∧ t.bit R.lgeRcStat_rb_avail = s.bit R.lgeRcStat_rb_avail ∧
        t.groupWord R.lgeRcRes 1 = BitVec.ofNat 32 (2 + 8 * b2n w.rollback + w.fdrop * 16)))) ∧
    ((s.rcPhase ≠ rcSWAPPING ∨ s.lge.swap = none ∨ s.lge.phase ≠ .idle ∨ s.lgeMaster = false ∨ s.lgeRuns = false) → exec .swapOverrun s = .next s.fin)

/-- TIM_DOMAIN_CFG_WRITE that raises EN puts the domain in LISTENING; one that clears only EN puts it in DISABLED with TIM_Dd_ST
invalid; one that changes another field while EN = 1 is dropped with DOM_LIVE; any other only stores. On a port and number of
an enabled domain: a master's second Announce in its window takes a LISTENING or HOLDOVER domain to UNCALIBRATED with that
parent, a first or a late one does not, and none moves an UNCALIBRATED or SLAVE domain; a Sync of the parent whose offset
exceeds 1 us steps the domain clock and leaves the domain in UNCALIBRATED, a smaller one never steps it, and the fourth in a
row within 250 ns takes it to SLAVE, TIM_Dd_ST completing with the offset; a Sync of another clock or in another state moves
nothing; a Pdelay_Req queues its answer on that MAC; a Pdelay_Resp sets the port's mean link delay. A message that no domain
takes does nothing. Timeouts take SLAVE to HOLDOVER and (Announce) UNCALIBRATED to LISTENING, and else do nothing. None of
them stores in memory. That two Announces qualify a master is the model's choice (log entry 55, IEEE 1588). (R247, R248, R249,
15_time.md) -/
def Obligations.DomainsMoveAsListed : Prop :=
  ∀ (s : State),
    (∀ (m : Master) (d : Fin 2) (v : Word), Reaches s m .tim →
      (s.bit (R.timDCfg_en d.val) = true → (s.reg (R.timDCfg d.val) ^^^ v) &&& 0x003FFFFE#32 ≠ 0 →
        exec (.timDomainCfgWrite m d v) s = .next (s.raise .tim 0x0101 m.val).fin) ∧
      (s.bit (R.timDCfg_en d.val) = false → (R.timDCfg_en d.val).of v = 1 → Completes (.timDomainCfgWrite m d v) s (fun t =>
        t.domSt d.val = dsLISTENING ∧ t.pdom d.val = {} ∧ t.reg (R.timDCfg d.val) = (s.reg (R.timDCfg d.val) &&& 0xFFC00000#32) ||| (v &&& 0x003FFFFF#32) ∧
        Frame [R.timDCfg d.val, R.timStat] [.time] [] s t)) ∧
      (s.bit (R.timDCfg_en d.val) = true → (s.reg (R.timDCfg d.val) ^^^ v) &&& 0x003FFFFF#32 = 1 → Completes (.timDomainCfgWrite m d v) s (fun t =>
        t.domSt d.val = dsDISABLED ∧ t.bit (R.timDCfg_en d.val) = false ∧ t.groupValid (R.timDSt d.val) = false ∧ SameMemory s t)) ∧
      (((s.bit (R.timDCfg_en d.val) = false ∧ (R.timDCfg_en d.val).of v = 0) ∨
          (s.bit (R.timDCfg_en d.val) = true ∧ (s.reg (R.timDCfg d.val) ^^^ v) &&& 0x003FFFFF#32 = 0)) →
        Completes (.timDomainCfgWrite m d v) s (fun t =>
          t.reg (R.timDCfg d.val) = (s.reg (R.timDCfg d.val) &&& 0xFFC00000#32) ||| (v &&& 0x003FFFFF#32) ∧ Frame [R.timDCfg d.val] [] [] s t))) ∧
    (∀ (p : Fin 4) (a : PtpAnnounce),
      (s.domainsOn p.val a.dom = [] → exec (.ptpAnnounceReceived p a) s = .next s.fin) ∧
      (∀ d : Fin 2, d.val ∈ s.domainsOn p.val a.dom →
        ((s.domSt d.val ≠ dsLISTENING ∧ s.domSt d.val ≠ dsHOLDOVER) → Completes (.ptpAnnounceReceived p a) s (fun t => t.domSt d.val = s.domSt d.val ∧
          (t.pdom d.val).clock = (s.pdom d.val).clock ∧ SameMemory s t)) ∧
        ((s.domSt d.val = dsLISTENING ∨ s.domSt d.val = dsHOLDOVER) →
          ((s.pdom d.val).foreign = [] → Completes (.ptpAnnounceReceived p a) s (fun t => t.domSt d.val = s.domSt d.val ∧
            (t.pdom d.val).foreign = [⟨a, p.val, 1, s.time.ticks⟩] ∧ SameMemory s t)) ∧
          (∀ x : PtpForeign, (s.pdom d.val).foreign = [x] → x.a.sender = a.sender → x.port = p.val →
            (1 ≤ x.count → s.time.ticks ≤ x.at_ + announceWindow a.logIvl → a.steps < 255 → Completes (.ptpAnnounceReceived p a) s (fun t => t.domSt d.val = dsUNCAL ∧
              (∃ y : PtpForeign, (t.pdom d.val).parent = some y ∧ y.a = a ∧ y.port = p.val) ∧ (t.pdom d.val).run = 0 ∧ SameMemory s t)) ∧
            ((x.at_ + announceWindow a.logIvl < s.time.ticks ∨ 255 ≤ a.steps) → Completes (.ptpAnnounceReceived p a) s (fun t =>
              t.domSt d.val = s.domSt d.val ∧ SameMemory s t)))))) ∧
    (∀ (p : Fin 4) (num : BitVec 8) (sender t1 lag : Nat),
      (s.domainsOn p.val num.toNat = [] → exec (.ptpSyncReceived p num sender t1 lag) s = .next s.fin) ∧
      (∀ d : Fin 2, d.val ∈ s.domainsOn p.val num.toNat →
        (((∀ f : PtpForeign, (s.pdom d.val).parent = some f → f.a.sender ≠ sender ∨ f.port ≠ p.val) ∨ (s.domSt d.val ≠ dsUNCAL ∧ s.domSt d.val ≠ dsSLAVE)) →
          Completes (.ptpSyncReceived p num sender t1 lag) s (fun t => t.domSt d.val = s.domSt d.val ∧ t.pdom d.val = s.pdom d.val ∧ SameMemory s t)) ∧
        (∀ f : PtpForeign, (s.pdom d.val).parent = some f → f.a.sender = sender → f.port = p.val → (s.domSt d.val = dsUNCAL ∨ s.domSt d.val = dsSLAVE) →
          Completes (.ptpSyncReceived p num sender t1 lag) s (fun t => t.groupValid (R.timDSt d.val) = true ∧
            t.groupWord (R.timDSt d.val) 2 = BitVec.ofInt 32 (satInt32 (toNs (s.syncOffset d.val p.val t1 lag))) ∧ SameMemory s t ∧
            (1000 * nsUnit < (s.syncOffset d.val p.val t1 lag).natAbs → t.domSt d.val = dsUNCAL ∧
              (t.pdom d.val).clock = (s.pdom d.val).clock + s.syncOffset d.val p.val t1 lag ∧ (t.pdom d.val).run = 0) ∧
            ((s.syncOffset d.val p.val t1 lag).natAbs ≤ 1000 * nsUnit → (t.pdom d.val).clock = (s.pdom d.val).clock) ∧
            (250 * nsUnit < (s.syncOffset d.val p.val t1 lag).natAbs → (s.syncOffset d.val p.val t1 lag).natAbs ≤ 1000 * nsUnit →
              t.domSt d.val = s.domSt d.val ∧ (t.pdom d.val).run = 0) ∧
            ((s.syncOffset d.val p.val t1 lag).natAbs ≤ 250 * nsUnit → (t.pdom d.val).run = Nat.min 4 ((s.pdom d.val).run + 1) ∧
              (3 ≤ (s.pdom d.val).run → t.domSt d.val = dsSLAVE) ∧ ((s.pdom d.val).run < 3 → t.domSt d.val = s.domSt d.val)))))) ∧
    (∀ d : Fin 2,
      (s.domSt d.val = dsSLAVE → Completes (.announceTimeout d) s (fun t => t.domSt d.val = dsHOLDOVER ∧ (t.pdom d.val).parent = none ∧
          (t.pdom d.val).clock = (s.pdom d.val).clock ∧ (t.pdom d.val).adj = (s.pdom d.val).adj ∧ SameMemory s t) ∧
        Completes (.syncTimeout d) s (fun t => t.domSt d.val = dsHOLDOVER ∧ (t.pdom d.val).adj = (s.pdom d.val).adj ∧ SameMemory s t)) ∧
      (s.domSt d.val = dsUNCAL → Completes (.announceTimeout d) s (fun t => t.domSt d.val = dsLISTENING ∧ SameMemory s t)) ∧
      ((s.domSt d.val ≠ dsSLAVE ∧ s.domSt d.val ≠ dsUNCAL) → exec (.announceTimeout d) s = .next s.fin) ∧
      (s.domSt d.val ≠ dsSLAVE → exec (.syncTimeout d) s = .next s.fin)) ∧
    (∀ (p : Fin 4) (num : BitVec 8),
      (∀ seq : BitVec 16, (s.domainsOn p.val num.toNat = [] → exec (.pdelayReqReceived p num seq) s = .next s.fin) ∧
        (∀ (d : Nat) (l : List Nat), s.domainsOn p.val num.toNat = d :: l → Completes (.pdelayReqReceived p num seq) s (fun t =>
          (t.macPort p.val).ptpQ = (s.macPort p.val).ptpQ ++ (if s.bit (R.timDCfg_pd_2step d) then [TxItem.ptp 3 num.toNat seq.toNat false, .ptp 10 num.toNat seq.toNat false]
            else [.ptp 3 num.toNat seq.toNat true]) ∧ (∀ q : Nat, q ≠ p.val → t.macPort q = s.macPort q) ∧ Frame [] [.mac] [] s t))) ∧
      (∀ rt turn : Nat, (s.domainsOn p.val num.toNat = [] → exec (.pdelayRespReceived p num rt turn) s = .next s.fin) ∧
        (s.domainsOn p.val num.toNat ≠ [] → Completes (.pdelayRespReceived p num rt turn) s (fun t =>
          tget 0 t.time.pdelay p.val = ((rt : Int) - turn - s.get (R.timPortDly_rx p.val) - s.get (R.timPortDly_tx p.val)) / 2 ∧ Frame [] [.time] [] s t))))

/-- WALL_REVERT with REVERT_EN from the other domain to a preferred one in SLAVE changes domain without a step; BLEND_COMPLETE
ends the offset. TIM_WALL_SET under PTP or FABRIC is dropped with WALL_SRC, under PPS and FREE steps wall time to the given
second and nanosecond with WALL_STEP. Under PPS the fourth accepted edge gives LOCKED, PPS_EDGE_MISSING takes LOCKED to
HOLDOVER; every PPS_IN edge with PPSI_EN = 1 completes TIM_PPS_IN and, under another source, changes nothing else; with
PPSI_EN = 0 none. FABRIC_TIME_MESSAGE of the source member copies its wall time and state and sets FAB_OK; one of another
member does nothing; FABRIC_TIME_TIMEOUT clears FAB_OK. XO_LOST falls back to the internal oscillator. TIM_SNAP_CMD completes
TIM_SNAP with both classes. PPS_OUT rises while PPSO_EN = 1 and falls at the end of its pulse. None stores in memory. Out of
its condition an event does nothing. (R250, R251, R255, R256, R257, R246, 15_time.md) -/
def Obligations.WallClassFollowsItsSource : Prop :=
  ∀ (s : State),
    (∀ d : Nat, s.followed = some d →
      (s.bit R.timWallCfg_revert_en = true → d ≠ s.get R.timWallCfg_pref → s.domSt (s.get R.timWallCfg_pref) = dsSLAVE → Completes .wallRevert s (fun t =>
        t.get R.timStat_wall_dom = s.get R.timWallCfg_pref ∧ t.get R.timStat_wall = wLOCKED ∧ t.time.wall = s.time.wall ∧
        (s.time.locked = true → Pends t .tim 3) ∧ SameMemory s t)) ∧
      ((s.bit R.timWallCfg_revert_en = false ∨ d = s.get R.timWallCfg_pref ∨ s.domSt (s.get R.timWallCfg_pref) ≠ dsSLAVE) →
        exec .wallRevert s = .next s.fin) ∧
      Completes .blendComplete s (fun t => t.time.wall = (s.pdom d).clock.toNat ∧ t.bit R.timStat_blend = false ∧ SameMemory s t)) ∧
    (s.followed = none → exec .wallRevert s = .next s.fin ∧ exec .blendComplete s = .next s.fin) ∧
    (∀ (m : Master) (v : Word), Reaches s m .tim →
      ((s.timSrc = srcPTP ∨ s.timSrc = srcFABRIC) → exec (.timWallSet m v) s = .next (s.raise .tim 0x0103 m.val).fin) ∧
      ((s.timSrc = srcPPS ∨ s.timSrc = srcFREE) → Completes (.timWallSet m v) s (fun t =>
        t.time.wall = (((s.reg R.timWallSetLo).toNat + s.get R.timWallSetHi_sec_hi * 2 ^ 32) * 1000000000 +
          Nat.min 999999999 (s.get R.timWallSetNs_ns)) * 2 ^ 32 ∧ Pends t .tim 2 ∧ SameMemory s t)) ∧
      Completes (.timSnapCmd m v) s (fun t => t.groupValid R.timSnap = true ∧ t.groupWord R.timSnap 1 = BitVec.ofNat 32 (s.gridNs / 1000000000) ∧
        t.groupWord R.timSnap 3 = BitVec.ofNat 32 (s.gridNs % 1000000000) ∧ t.groupWord R.timSnap 4 = BitVec.ofNat 32 (s.wallNs / 1000000000) ∧
        t.groupWord R.timSnap 6 = BitVec.ofNat 32 (s.wallNs % 1000000000) ∧ t.groupWord R.timSnap 7 = s.tstamp ∧
        Frame ((List.range 8).map (fun i => R.timSnap.addr + 4 * i)) [] [.tim] s t)) ∧
    (∀ dev : Int,
      (s.bit R.timCtrl_ppsi_en = false → exec (.ppsInEdge dev) s = .next s.fin) ∧
      (s.bit R.timCtrl_ppsi_en = true → Completes (.ppsInEdge dev) s (fun t => t.groupValid R.timPpsIn = true ∧ t.groupWord R.timPpsIn 1 = s.tstamp ∧
        t.groupWord R.timPpsIn 2 = BitVec.ofNat 32 (s.wallNs % 1000000000) ∧ Pends t .tim 5 ∧ t.time.wall = s.time.wall ∧ SameMemory s t ∧
        (s.timSrc = srcPPS → 3 ≤ s.time.ppsRun → dev.natAbs ≤ 1000000 → t.get R.timStat_wall = wLOCKED) ∧
        (s.timSrc = srcPPS → s.time.ppsRun < 3 → t.get R.timStat_wall = s.get R.timStat_wall) ∧
        (s.timSrc = srcPPS → 0 < s.time.ppsRun → 1000000 < dev.natAbs → t.time.ppsRun = s.time.ppsRun) ∧
        (s.timSrc ≠ srcPPS → Frame ((List.range 4).map (fun i => R.timPpsIn.addr + 4 * i)) [] [.tim] s t)))) ∧
    (s.timSrc = srcPPS → Completes .ppsEdgeMissing s (fun t => t.time.ppsRun = 0 ∧ SameMemory s t ∧
      t.get R.timStat_wall = (if s.get R.timStat_wall = wLOCKED then wHOLDOVER else s.get R.timStat_wall))) ∧
    (s.timSrc ≠ srcPPS → exec .ppsEdgeMissing s = .next s.fin) ∧
    (∀ (m : Fin 64) (wall grid : Nat) (wa ga : Int) (ws gs : Fin 3),
      ((s.timSrc ≠ srcFABRIC ∨ s.get R.timCtrl_src_mbr ≠ m.val) → exec (.fabricTimeMessage m wall grid wa ga ws gs) s = .next s.fin) ∧
      (s.timSrc = srcFABRIC → s.get R.timCtrl_src_mbr = m.val → Completes (.fabricTimeMessage m wall grid wa ga ws gs) s (fun t =>
        t.time.wall = wall ∧ t.time.wallAdj = wa ∧ t.get R.timStat_wall = ws.val ∧ t.bit R.timStat_fab_ok = true ∧
        t.time.fab = ⟨grid, ga, gs.val⟩ ∧ (100 * nsUnit < ((wall : Int) - s.time.wall).natAbs → Pends t .tim 2) ∧ SameMemory s t))) ∧
    (s.timSrc = srcFABRIC → Completes .fabricTimeTimeout s (fun t => t.bit R.timStat_fab_ok = false ∧
      t.get R.timStat_wall = (if s.get R.timStat_wall = wLOCKED then wHOLDOVER else s.get R.timStat_wall) ∧ SameMemory s t)) ∧
    (s.timSrc ≠ srcFABRIC → exec .fabricTimeTimeout s = .next s.fin) ∧
    (s.bit R.timStat_xo_active = true → Completes .xoLost s (fun t => t.bit R.timStat_xo_active = false ∧ t.bit R.timStat_xo_lost = true ∧
      Frame [R.timStat] [] [] s t)) ∧
    (s.bit R.timStat_xo_active = false → exec .xoLost s = .next s.fin) ∧
    (s.bit R.timCtrl_ppso_en = true → Completes .ppsOutEdge s (fun t => t.time.ppsOut = true ∧ Frame [] [.time] [] s t)) ∧
    (s.bit R.timCtrl_ppso_en = false → exec .ppsOutEdge s = .next s.fin) ∧
    Completes .ppsOutPulseEnd s (fun t => t.time.ppsOut = false ∧ Frame [] [.time] [] s t)

/-- Under a source present other than PTP, GRID_TIME_UPDATE of an UNSET grid with the grid and the filter chain stopped steps grid
time to the source with GRID_SET, and with either running leaves it UNSET; in TRACK an error within STEP_LIM leaves it in
TRACK at a rate within 10 ppm of the source, a larger one is a refused correction: OVERCAST, TIM_REFUSED one more with the
error, the lifetime count one more, REFUSED pending; a source that returns is tracked at once within STEP_LIM and refused
beyond; in OVERCAST an error of at most 100 ns ends the slew, a larger one slews at 10 ppm, a MANUAL hold keeps the source
rate, and a step beyond STEP_LIM counts one more refusal. TIM_GRID_ERR completes with the error. A lost source gives OVERCAST
at the last TRACK rate. Only a grid set moves grid time. GRID_SET while either runs is dropped with GRID_LIVE, without a
source has no effect, else it steps to the source, and logic time does not step. ACCEPT starts a MANUAL slew, and outside
OVERCAST or under AUTO has no effect. None stores in memory. (R252, R253, R254, R255, R225, 15_time.md) -/
def Obligations.GridClassTracksOrHolds : Prop :=
  ∀ (s : State),
    (s.timSrc ≠ srcPTP → s.srcPresent = true →
      (s.time.gridSt = gUNSET → s.gridIdle = true → Completes .gridTimeUpdate s (fun t => t.time.grid = s.srcTime.1.toNat ∧ t.time.gridSt = gTRACK ∧
        Pends t .tim 7 ∧ (0 ≤ s.srcTime.1 → t.logicUs = s.logicUs) ∧ t.groupValid R.timGridErr = true ∧ SameMemory s t)) ∧
      (s.time.gridSt = gUNSET → s.gridIdle = false → Completes .gridTimeUpdate s (fun t => t.time.grid = s.time.grid ∧ t.get R.timStat_grid = gUNSET ∧
        SameMemory s t)) ∧
      ((s.time.gridSt = gTRACK ∨ (s.time.gridSt = gOVERCAST ∧ s.time.srcLost = true)) → Completes .gridTimeUpdate s (fun t =>
        t.time.grid = s.time.grid ∧ t.time.wall = s.time.wall ∧
        t.groupValid R.timGridErr = true ∧ t.groupWord R.timGridErr 1 = BitVec.ofInt 32 (satInt32 (toNs s.gridErr)) ∧ SameMemory s t ∧
        ((s.gridErr.natAbs : Int) ≤ s.stepLim → t.time.gridSt = gTRACK ∧
          (s.timSrc ≠ srcFABRIC → t.get R.timStat_grid = gTRACK ∧ t.bit R.gridStat_overcast = false) ∧
          t.time.gridAdj ≤ s.srcTime.2 + ppmAdj 10 ∧ s.srcTime.2 - ppmAdj 10 ≤ t.time.gridAdj ∧
          t.groupWord R.timRefused 1 = s.groupWord R.timRefused 1) ∧
        (s.stepLim < (s.gridErr.natAbs : Int) → t.time.gridSt = gOVERCAST ∧ Pends t .tim 0 ∧
          (s.timSrc ≠ srcFABRIC → t.get R.timStat_grid = gOVERCAST ∧ t.bit R.gridStat_overcast = true) ∧
          t.groupWord R.timRefused 1 = s.groupWord R.timRefused 1 + 1 ∧ t.groupWord R.timRefused 2 = BitVec.ofInt 32 (satInt32 (toNs s.gridErr)) ∧
          tget 0 t.life.counts 5 = Nat.min (2 ^ 48 - 1) (tget 0 s.life.counts 5 + 1) ∧
          (s.time.srcLost = false → s.bit R.timGridCfg_ovc_mode = true → t.time.gridAdj = s.srcTime.2) ∧
          (s.bit R.timGridCfg_ovc_mode = false → t.time.gridAdj = (if 0 ≤ s.gridErr then s.srcTime.2 + ppmAdj 10 else s.srcTime.2 - ppmAdj 10))))) ∧
      (s.time.gridSt = gOVERCAST → s.time.srcLost = false → Completes .gridTimeUpdate s (fun t => t.time.grid = s.time.grid ∧ SameMemory s t ∧
        (s.slewing = true → (s.gridErr.natAbs : Int) ≤ 100 * nsUnit → t.time.gridSt = gTRACK) ∧
        (s.slewing = true → 100 * nsUnit < (s.gridErr.natAbs : Int) → t.time.gridSt = gOVERCAST ∧ t.time.gridAdj = (if 0 ≤ s.gridErr then s.srcTime.2 + ppmAdj 10 else s.srcTime.2 - ppmAdj 10)) ∧
        (s.slewing = false → t.time.gridSt = gOVERCAST ∧ t.time.gridAdj = s.srcTime.2) ∧
        t.groupWord R.timRefused 1 = s.groupWord R.timRefused 1 + (if s.time.stepped = true ∧ s.stepLim < (s.gridErr.natAbs : Int) then 1 else 0)))) ∧
    ((s.timSrc ≠ srcPTP ∨ (s.domSt 0 ≠ dsSLAVE ∧ s.domSt 1 ≠ dsSLAVE)) → (s.timSrc ≠ srcPTP → s.srcPresent = false) → s.time.gridSt ≠ gUNSET →
      Completes .gridTimeUpdate s (fun t => t.time.gridSt = gOVERCAST ∧ t.get R.timStat_grid = gOVERCAST ∧
        t.time.gridAdj = s.time.trackAdj ∧ t.time.grid = s.time.grid ∧ t.groupValid R.timGridErr = false ∧
        t.groupWord R.timRefused 1 = s.groupWord R.timRefused 1 ∧ SameMemory s t)) ∧
    (∀ (m : Master) (v : Word), Reaches s m .tim →
      (R.timGridCmd_accept.of v = 0 →
        (s.gridIdle = false → exec (.gridSet m v) s = .next (s.raise .tim 0x0102 m.val).fin) ∧
        (s.gridIdle = true → s.srcPresent = false → exec (.gridSet m v) s = .next s.fin)) ∧
      (s.gridIdle = false → Completes (.gridSet m v) s (fun t => (t.hdr .tim).errCode ≠ 0 ∧ t.time.grid = s.time.grid ∧ SameMemory s t)) ∧
      (s.gridIdle = true → s.srcPresent = true → Completes (.gridSet m v) s (fun t => t.time.grid = s.srcTime.1.toNat ∧ t.time.gridSt = gTRACK ∧
        t.lge.ofs = s.lge.ofs + s.gridErr ∧ Pends t .tim 7 ∧ t.time.wall = s.time.wall ∧ SameMemory s t)) ∧
      (R.timGridCmd_set.of v = 0 →
        ((s.time.gridSt ≠ gOVERCAST ∨ s.bit R.timGridCfg_ovc_mode = false) → exec (.accept m v) s = .next s.fin) ∧
        (s.time.gridSt = gOVERCAST → s.bit R.timGridCfg_ovc_mode = true → Completes (.accept m v) s (fun t =>
          t.time.grid = s.time.grid ∧ SameMemory s t ∧
          (s.srcPresent = false → t.time.accepted = true ∧ t.time.gridSt = gOVERCAST ∧ t.time.gridAdj = s.time.trackAdj) ∧
          (s.srcPresent = true → s.time.srcLost = false →
            (100 * nsUnit < (s.gridErr.natAbs : Int) → t.time.accepted = true ∧ t.time.gridSt = gOVERCAST ∧ t.time.gridAdj = (if 0 ≤ s.gridErr then s.srcTime.2 + ppmAdj 10 else s.srcTime.2 - ppmAdj 10)) ∧
            ((s.gridErr.natAbs : Int) ≤ 100 * nsUnit → t.time.gridSt = gTRACK))))))

/-- A signal on an enabled port in DOWN gives TRAIN. A HELLO in TRAIN or UP notes the neighbour; one of the member's own serial
number gives FAULT with LOOP. TRAIN that has a HELLO completes to UP, shown in GAL STAT. A loss of blocks in TRAIN or UP gives
DOWN, and a port that leaves UP drops the frames it queues. FAULT trains again unless it is a self-loop or the port is off. In
TRAIN or UP a CRC error is answered with a negative acknowledgement and counted, also in the lifetime count, and the 33rd
within 1 ms gives FAULT; a delay measurement is taken in UP alone. GAL_PORT_STAT_INTERVAL completes all six result groups with
the port states and starts their counts anew. Every change of state pulses LINK, no other port changes, and an event in
another state does nothing. A 4 ns tick of a port never cuts a frame short; a free port in UP sends the oldest frame of the
lowest class, but a class 3 frame for which three times its bytes have gone by (the bytes of a frame are the model's, log
entry 103); what this member forms is queued in parts of its class's payload. (R258, R259, R260, R264, R266,
16_galer_fabric.md) -/
def Obligations.FabricPortsMoveAsListed : Prop :=
  ∀ (p : Fin 6) (s : State),
    (s.portOn p.val = true → (s.galPort p.val).st = .down → Completes (.portSignalDetect p) s (fun t => (t.galPort p.val).st = .train ∧
      (t.galPort p.val).hello = false ∧ t.regBit R.galStat (9 + p.val) = false ∧ Pends t .gal 0 ∧
      (∀ q : Nat, q ≠ p.val → t.galPort q = s.galPort q) ∧ Frame [R.galStat] [.gal] [.gal] s t)) ∧
    ((s.portOn p.val = false ∨ (s.galPort p.val).st ≠ .down) → exec (.portSignalDetect p) s = .next s.fin) ∧
    (∀ (serial : BitVec 64) (id : Option (Fin 64)) (port : Fin 6),
      (((s.galPort p.val).st = .train ∨ (s.galPort p.val).st = .up) →
        (serial.toNat ≠ (s.reg R.galSerialLo).toNat + (s.reg R.galSerialHi).toNat * 2 ^ 32 → Completes (.helloReceived p serial id port) s (fun t =>
          (t.galPort p.val).st = (s.galPort p.val).st ∧ (t.galPort p.val).hello = true ∧ (t.galPort p.val).nSerial = serial ∧
          (t.galPort p.val).nId = (id.map (fun x => x.val)).getD 64 ∧ (t.galPort p.val).nPort = port.val ∧
          (∀ q : Nat, q ≠ p.val → t.galPort q = s.galPort q) ∧ Frame [] (if (s.galPort p.val).st = .train then [.gal] else [.gal, .out]) [] s t)) ∧
        (serial.toNat = (s.reg R.galSerialLo).toNat + (s.reg R.galSerialHi).toNat * 2 ^ 32 → Completes (.helloReceived p serial id port) s (fun t =>
          (t.galPort p.val).st = .fault ∧ (t.galPort p.val).selfLoop = true ∧ Pends t .gal 0 ∧ Frame [R.galStat] [.gal, .out] [.gal] s t))) ∧
      ((s.galPort p.val).st ≠ .train → (s.galPort p.val).st ≠ .up → exec (.helloReceived p serial id port) s = .next s.fin)) ∧
    ((s.galPort p.val).st = .train → (s.galPort p.val).hello = true → Completes (.portTrainComplete p) s (fun t => (t.galPort p.val).st = .up ∧
      t.regBit R.galStat (9 + p.val) = true ∧ Pends t .gal 0 ∧ (s.get R.galStat_num = 1 → t.gal.changed = true) ∧
      (∀ q : Nat, q ≠ p.val → t.galPort q = s.galPort q) ∧ Frame [R.galStat] [.gal, .out] [.gal] s t)) ∧
    (((s.galPort p.val).st ≠ .train ∨ (s.galPort p.val).hello = false) → exec (.portTrainComplete p) s = .next s.fin) ∧
    (((s.galPort p.val).st = .up ∨ (s.galPort p.val).st = .train) → Completes (.portBlockLoss p) s (fun t => (t.galPort p.val).st = .down ∧
      (t.galPort p.val).queue = [] ∧ (t.galPort p.val).wire = none ∧
      t.regBit R.galStat (9 + p.val) = false ∧ Pends t .gal 0 ∧ (∀ q : Nat, q ≠ p.val → t.galPort q = s.galPort q) ∧
      Frame [R.galStat] [.gal, .out] [.gal] s t)) ∧
    ((s.galPort p.val).st ≠ .up → (s.galPort p.val).st ≠ .train → exec (.portBlockLoss p) s = .next s.fin) ∧
    ((s.galPort p.val).st = .fault → (s.galPort p.val).selfLoop = false → s.portOn p.val = true → Completes (.portFaultRetry p) s (fun t =>
      (t.galPort p.val).st = .train ∧ (t.galPort p.val).hello = false ∧ Pends t .gal 0 ∧ Frame [R.galStat] [.gal] [.gal] s t)) ∧
    (((s.galPort p.val).st ≠ .fault ∨ (s.galPort p.val).selfLoop = true ∨ s.portOn p.val = false) → exec (.portFaultRetry p) s = .next s.fin) ∧
    (((s.galPort p.val).st = .up ∨ (s.galPort p.val).st = .train) →
      Completes (.frameCrcError p) s (fun t => Emit.nak p.val ∈ t.out ∧ (t.galPort p.val).crc = (s.galPort p.val).crc + 1 ∧
        (t.galPort p.val).replay = (s.galPort p.val).replay + 1 ∧
        tget 0 t.life.counts (272 + p.val) = Nat.min (2 ^ 48 - 1) (tget 0 s.life.counts (272 + p.val) + 1) ∧
        (((s.galPort p.val).crcMs.filter (fun x => decide (s.time.ticks < x + 250000))).length < 32 → (t.galPort p.val).st = (s.galPort p.val).st) ∧
        (32 ≤ ((s.galPort p.val).crcMs.filter (fun x => decide (s.time.ticks < x + 250000))).length → (t.galPort p.val).st = .fault ∧ Pends t .gal 0) ∧
        Frame [R.galStat] [.gal, .out, .life] [.gal] s t)) ∧
    ((s.galPort p.val).st ≠ .up → (s.galPort p.val).st ≠ .train → exec (.frameCrcError p) s = .next s.fin) ∧
    (∀ delay : BitVec 20,
      ((s.galPort p.val).st = .up → Completes (.linkDelayMeasurement p delay) s (fun t => (t.galPort p.val).delay = delay.toNat ∧ (t.galPort p.val).st = .up ∧
        Frame [] [.gal] [] s t)) ∧
      ((s.galPort p.val).st ≠ .up → exec (.linkDelayMeasurement p delay) s = .next s.fin)) ∧
    (s.bit R.galCtrl_en = true → Completes .galPortStatInterval s (fun t => t.groupValid (R.galPortSt p.val) = true ∧
      (t.groupWord (R.galPortSt p.val) 1).toNat % 8 = s.portCode p.val ∧
      t.groupWord (R.galPortSt p.val) 2 = BitVec.ofNat 32 (s.galPort p.val).delay ∧
      t.groupWord (R.galPortSt p.val) 3 = BitVec.ofNat 32 (Nat.min 0xFFFF (s.galPort p.val).crc + Nat.min 0xFFFF (s.galPort p.val).replay * 2 ^ 16) ∧
      (t.galPort p.val).crc = 0 ∧ (t.galPort p.val).replay = 0 ∧
      Frame ((List.range 24).map (fun i => (R.galPortSt 0).addr + 4 * i)) [.gal] [.gal] s t)) ∧
    (s.bit R.galCtrl_en = false → exec .galPortStatInterval s = .next s.fin) ∧
    (∀ g : GalPort,
      (∀ (f : PortFrame) (n : Nat), g.wire = some (f, n + 2) → portSend g = { g with wire := some (f, n + 1) }) ∧
      (g.st = .up → g.wire = none →
        (g.queue = [] → (portSend g).wire = none) ∧
        (∀ (f : PortFrame) (pre post : List PortFrame), g.queue = pre ++ f :: post → (∀ x ∈ pre, f.cls < x.cls) → (∀ x ∈ post, f.cls ≤ x.cls) → f.cls ≤ 3 →
          (∀ x ∈ g.queue, x.cls = 3 → g.owed < 3 * (x.bytes + 19)) → (portSend g).wire = some (f, wireTicks f.bytes) ∧ (portSend g).queue = pre ++ post) ∧
        (∀ (f : PortFrame) (pre post : List PortFrame), g.queue = pre ++ f :: post → f.cls = 3 → (∀ x ∈ pre, x.cls ≠ 3) →
          3 * (f.bytes + 19) ≤ g.owed → (portSend g).wire = some (f, wireTicks f.bytes) ∧ (portSend g).queue = pre ++ post))) ∧
    (∀ e : Emit, ∀ f ∈ framesOf e, f.cls ≤ 3 ∧ f.bytes ≤ classMax f.cls)

/-- A newer link state of another member is kept and flooded on by a member that is not isolated; an old one, or one's own, is
not. ROUTE_UPDATE after a change, of a member without a number, shows none, and of a numbered one shows every reachable member
with its port and hops and 7 for the others, sets GAL_MBR, and makes fabric inputs sourced by a member that went away invalid.
Numbering gives different IDs to numbered members whose serial numbers and held IDs differ; DISCOVERY takes what it gives, and
does nothing where it gives nothing or EN = 0. A FABRIC_BITS_FRAME of a reachable member sets the inputs mapped to it, or
queues the change during the 1 us hold; inputs of other members stay. FBI_TIMEOUT makes them invalid, FBI_HOLD_END takes up
the next change. FABRIC_BITS_REFRESH of a numbered member sends the gated bits. GAL_FBIi of an UNLOCKED page stores and the
input follows; a disabled entry is invalid. (R261, R262, R263, R264, R265, R268, 16_galer_fabric.md) -/
def Obligations.RoutesNumbersAndFabricBits : Prop :=
  ∀ (s : State),
    (∀ (o : Fin 64) (q : Nat) (links : List (Nat × Nat)),
      (o.val ≠ s.selfId → s.get R.galStat_num < 2 → (∀ x ∈ s.gal.links, x.origin = o.val → x.seq < q) → Completes (.linkStateFlood o q links) s (fun t =>
        (⟨o.val, q, links⟩ : LinkState) ∈ t.gal.links ∧ (∀ x ∈ t.gal.links, x.origin = o.val → x = ⟨o.val, q, links⟩) ∧
        (∀ x : LinkState, x.origin ≠ o.val → (x ∈ t.gal.links ↔ x ∈ s.gal.links)) ∧ t.gal.changed = true ∧
        t.out = s.out ++ [.linkState o.val q links] ∧ Frame [] [.gal, .out] [] s t)) ∧
      ((o.val = s.selfId ∨ 2 ≤ s.get R.galStat_num ∨ (∃ x : LinkState, s.gal.links.find? (fun x => x.origin == o.val) = some x ∧ q ≤ x.seq)) →
        exec (.linkStateFlood o q links) s = .next s.fin)) ∧
    (s.gal.changed = false → exec .routeUpdate s = .next s.fin) ∧
    (s.gal.changed = true → s.get R.galStat_num = 1 → Completes .routeUpdate s (fun t => t.gal.changed = false ∧ Pends t .gal 1 ∧
      (∀ m : Fin 64, t.arrBit R.galMbrLo m.val = ((hopsFrom s.gal.links s.selfId).getD m.val none).isSome ∧
        t.get ⟨R.galRt (m.val / 2), 16 * (m.val % 2) + 8, 16 * (m.val % 2)⟩ = (match (hopsFrom s.gal.links s.selfId).getD m.val none with
          | some h => (s.routePort m.val + h * 8) % 512 | none => 7) ∧
        (m.val ≠ s.selfId → s.arrBit R.galMbrLo m.val = true → (hopsFrom s.gal.links s.selfId).getD m.val none = none →
          ∀ i : Fin 256, s.bit (R.galFbi_en i.val) = true → s.get (R.galFbi_src_mbr i.val) = m.val → (t.fbi i.val).valid = false ∧
            t.arrBit (R.galFbiInv 0) i.val = true)) ∧ SameMemory s t)) ∧
    (s.gal.changed = true → s.get R.galStat_num ≠ 1 → Completes .routeUpdate s (fun t => t.gal.changed = false ∧ Pends t .gal 1 ∧
      t.reg R.galMbrLo = 0 ∧ t.reg R.galMbrHi = 0 ∧ (∀ m : Fin 64, t.get ⟨R.galRt (m.val / 2), 16 * (m.val % 2) + 8, 16 * (m.val % 2)⟩ = 7) ∧ SameMemory s t)) ∧
    (∀ (prev : Option (BitVec 64)) (l : List Found), (l.map (fun x => x.serial)).Nodup → (l.filterMap (fun x => x.held)).Nodup →
      (((numbering prev l).filter (fun x => x.2.2 == 1)).map (fun x => x.2.1)).Nodup) ∧
    (∀ l : List Found,
      ((s.bit R.galCtrl_en = false ∨ (numbering s.gal.rootSerial (s.foundHere l)).find? (fun x => x.1 == s.ownSerial) = none) →
        exec (.discovery l) s = .next s.fin) ∧
      (∀ (id num : Nat), s.bit R.galCtrl_en = true → (numbering s.gal.rootSerial (s.foundHere l)).find? (fun x => x.1 == s.ownSerial) = some (s.ownSerial, id, num) →
        Completes (.discovery l) s (fun t => t.get R.galStat_id = id % 64 ∧ t.get R.galStat_num = num % 4 ∧
          t.bit R.galStat_root = (rootOf s.gal.rootSerial (s.foundHere l)).any (fun x => x.serial == s.ownSerial) ∧
          t.bit R.pciLink_root = (rootOf s.gal.rootSerial (s.foundHere l)).any (fun x => x.serial == s.ownSerial) ∧
          Frame [R.galStat, R.pciLink] [.gal, .out] [] s t))) ∧
    (∀ (m : Fin 64) (bits : BitVec 64), s.bit R.galCtrl_en = true → s.arrBit R.galMbrLo m.val = true → m.val ≠ s.selfId →
      Completes (.fabricBitsFrame m bits) s (fun t => tget none t.gal.src m.val = some bits.toNat ∧
        (∀ i : Fin 256, s.bit (R.galFbi_en i.val) = true → s.get (R.galFbi_src_mbr i.val) = m.val →
          ((s.fbi i.val).hold = false → (t.fbi i.val).valid = true ∧ (t.fbi i.val).val = bits.getLsbD (s.get (R.galFbi_src_bit i.val)) ∧
            t.arrBit (R.galFbiState 0) i.val = bits.getLsbD (s.get (R.galFbi_src_bit i.val)) ∧ t.arrBit (R.galFbiInv 0) i.val = false ∧
            ((s.fbi i.val).val ≠ (t.fbi i.val).val → t.trm.request = true)) ∧
          ((s.fbi i.val).hold = true → (t.fbi i.val).valid = (s.fbi i.val).valid ∧ (t.fbi i.val).val = (s.fbi i.val).val)) ∧
        (∀ i : Fin 256, s.get (R.galFbi_src_mbr i.val) ≠ m.val → t.fbi i.val = s.fbi i.val) ∧ SameMemory s t)) ∧
    (∀ (m : Fin 64) (bits : BitVec 64), (s.bit R.galCtrl_en = false ∨ s.arrBit R.galMbrLo m.val = false ∨ m.val = s.selfId) →
      exec (.fabricBitsFrame m bits) s = .next s.fin) ∧
    (s.bit R.galCtrl_en = true → s.get R.galStat_num = 1 → Completes .fabricBitsRefresh s (fun t =>
      t.out = s.out ++ [.fabricBits (if s.bit R.trmStat_net_gate then s.trm.fb else 0)] ∧ Frame [] [.out] [] s t)) ∧
    ((s.bit R.galCtrl_en = false ∨ s.get R.galStat_num ≠ 1) → exec .fabricBitsRefresh s = .next s.fin) ∧
    (∀ m : Fin 64, m.val ≠ s.selfId → Completes (.fbiTimeout m) s (fun t => tget none t.gal.src m.val = none ∧
      (∀ i : Fin 256, s.bit (R.galFbi_en i.val) = true → s.get (R.galFbi_src_mbr i.val) = m.val → (t.fbi i.val).valid = false ∧
        t.arrBit (R.galFbiInv 0) i.val = true ∧ t.arrBit (R.galFbiState 0) i.val = false) ∧
      (∀ i : Fin 256, s.get (R.galFbi_src_mbr i.val) ≠ m.val → t.fbi i.val = s.fbi i.val) ∧ SameMemory s t)) ∧
    (∀ i : Fin 256,
      ((s.fbi i.val).pend = [] → Completes (.fbiHoldEnd i) s (fun t => t.fbi i.val = { s.fbi i.val with hold := false } ∧ SameMemory s t)) ∧
      (∀ (v x : Bool) (rest : List (Bool × Bool)), (s.fbi i.val).pend = (v, x) :: rest → Completes (.fbiHoldEnd i) s (fun t =>
        (t.fbi i.val).val = v ∧ (t.fbi i.val).hold = true ∧ (t.fbi i.val).pend = rest ∧ t.trm.request = true ∧
        t.arrBit (R.galFbiState 0) i.val = v ∧ SameMemory s t)) ∧
      (∀ (m : Master) (v : Word), Reaches s m .gal → Completes (.galFbiWrite m i v) s (fun t =>
        t.reg (R.galFbi i.val) = (s.reg (R.galFbi i.val) &&& 0xFFFFE000#32) ||| (v &&& 0x1FFF#32) ∧ t.trm.request = true ∧
        ((R.galFbi_en i.val).of v = 0 → (t.fbi i.val).valid = false) ∧
        (∀ w : Nat, (R.galFbi_en i.val).of v = 1 → s.fbiSource ((R.galFbi_src_mbr i.val).of v) = some w → (s.fbi i.val).hold = false →
          (t.fbi i.val).valid = true ∧ (t.fbi i.val).val = w.testBit ((R.galFbi_src_bit i.val).of v)) ∧
        Frame [R.galFbi i.val, R.galFbiState 0 + 4 * (i.val / 32), R.galFbiInv 0 + 4 * (i.val / 32)] [.gal, .trm] [] s t)))

/-- A GO while one runs is dropped with GOP_BUSY, with an empty set with GOP_SET, and a snapshot or reset whose lead does not
exceed T with GOP_LEAD; else the operation is sent to its set, the member's own share delivered, and GAL_GOP_RES invalid. A
snapshot or reset delivered before its instant waits and is acknowledged, one delivered late is answered LATE. GOP_INSTANT
latches GAL_SNAP for a snapshot and applies the targets of a reset. A broadcast completes GAL_BCAST_RX. An arrival is held
where no barrier waits for it, else it is sent to the origin; the release ends the barrier and completes GAL_GOP_RES with OK
or PARTIAL at the origin, BARRIER_TIMEOUT with TIMEOUT and those missing, and GOP_COMPLETE with those of the set that did not
answer. An event that no operation of this member, or no delivered one, waits for does nothing. None stores in memory. (R269,
R270, R271, R272, 16_galer_fabric.md) -/
def Obligations.GlobalOperationsRun : Prop :=
  ∀ (s : State),
    (∀ (m : Master) (v : Word), Reaches s m .gal →
      (s.gal.gop ≠ none → (∀ c ∈ [Instr.barrier m v, .broadcast m v, .snapshot m v, .gopReset m v], exec c s = .next (s.raise .gal 0x0101 m.val).fin)) ∧
      (s.gal.gop = none → (s.reg R.galGopSetLo).toNat + (s.reg R.galGopSetHi).toNat * 2 ^ 32 = 0 →
        (∀ c ∈ [Instr.barrier m v, .broadcast m v, .snapshot m v, .gopReset m v], exec c s = .next (s.raise .gal 0x0103 m.val).fin)) ∧
      (∀ set : Nat, s.gal.gop = none → (s.reg R.galGopSetLo).toNat + (s.reg R.galGopSetHi).toNat * 2 ^ 32 = set → set ≠ 0 →
        ((∀ x : Int, s.leadTo (R.galGopCmd_atmode.of v) (s.reg R.galGopAt).toNat = some x → x ≤ ((10 * gopTime (s.setDepth set) : Nat) : Int)) →
          (∀ c ∈ [Instr.snapshot m v, .gopReset m v], exec c s = .next (s.raise .gal 0x0102 m.val).fin)) ∧
        (∀ x : Int, s.leadTo (R.galGopCmd_atmode.of v) (s.reg R.galGopAt).toNat = some x → ((10 * gopTime (s.setDepth set) : Nat) : Int) < x →
          Completes (.snapshot m v) s (fun t => t.gal.gopSeq = s.gal.gopSeq + 1 ∧ (∃ g : Gop, t.gal.gop = some g ∧ g.op = 3 ∧ g.set = set ∧ g.seq = s.gal.gopSeq + 1) ∧
            t.groupValid R.galGopRes = false ∧ t.gal.due = s.gal.due ++ (if s.inSet set then
              [⟨3, s.selfId, s.gal.gopSeq + 1, 0, R.galGopCmd_atmode.of v, (s.reg R.galGopAt).toNat⟩] else []) ∧
            t.out = s.out ++ [.gop s.selfId (s.gal.gopSeq + 1) set 3 0 (R.galGopCmd_atmode.of v) (s.reg R.galGopAt).toNat []] ∧
            Frame [R.galGopRes.addr] [.gal, .out, .dup] [] s t) ∧
          Completes (.gopReset m v) s (fun t => (∃ g : Gop, t.gal.gop = some g ∧ g.op = 4 ∧ g.set = set ∧ g.tgt = R.galGopCmd_tgt.of v) ∧
            t.groupValid R.galGopRes = false ∧ t.gal.due = s.gal.due ++ (if s.inSet set then
              [⟨4, s.selfId, s.gal.gopSeq + 1, R.galGopCmd_tgt.of v, R.galGopCmd_atmode.of v, (s.reg R.galGopAt).toNat⟩] else []) ∧
            t.out = s.out ++ [.gop s.selfId (s.gal.gopSeq + 1) set 4 (R.galGopCmd_tgt.of v) (R.galGopCmd_atmode.of v) (s.reg R.galGopAt).toNat []] ∧
            Frame [R.galGopRes.addr] [.gal, .out, .dup] [] s t)) ∧
        Completes (.barrier m v) s (fun t => (∃ g : Gop, t.gal.gop = some g ∧ g.op = 1 ∧ g.set = set ∧ g.seq = s.gal.gopSeq + 1) ∧
          t.groupValid R.galGopRes = false ∧ t.gal.barriers = s.gal.barriers ++ (if s.inSet set then [(s.selfId, s.gal.gopSeq + 1, s.gal.arrived)] else []) ∧
          (s.inSet set = true → t.gal.arrived = false) ∧ Frame [R.galGopRes.addr] [.gal, .out, .dup] [] s t) ∧
        Completes (.broadcast m v) s (fun t => (∃ g : Gop, t.gal.gop = some g ∧ g.op = 2 ∧ g.set = set ∧ g.data.length = Nat.min 14 (Nat.max 1 (R.galGopCmd_len.of v))) ∧
          t.groupValid R.galGopRes = false ∧ (s.inSet set = true → t.groupValid R.galBcastRx = true ∧ Pends t .gal 4 ∧
            t.groupWord R.galBcastRx 1 = BitVec.ofNat 32 (s.selfId + Nat.min 14 (Nat.max 1 (R.galGopCmd_len.of v)) * 64) ∧
            t.groupWord R.galBcastRx 2 = s.reg (R.galGopData 0)) ∧ SameMemory s t)) ∧
      ((∀ b ∈ s.gal.barriers, b.2.2 = true) → Completes (.barrierArrive m v) s (fun t => t.gal.arrived = true ∧ t.gal.barriers = s.gal.barriers ∧
        Frame [] [.gal] [] s t)) ∧
      (∀ (o q : Nat) (pre post : List (Nat × Nat × Bool)), s.gal.barriers = pre ++ (o, q, false) :: post → (∀ x ∈ pre, x.2.2 = true) →
        (∀ x ∈ post, x ≠ (o, q, false)) → Completes (.barrierArrive m v) s (fun t => t.gal.barriers = pre ++ (o, q, true) :: post ∧
          t.gal.arrived = s.gal.arrived ∧ t.out = s.out ++ (if o = s.selfId then [] else [.barrier o q false]) ∧ Frame [] [.gal, .out, .dup] [] s t))) ∧
    (∀ (o : Fin 64) (q : Nat) (op : Fin 6) (tgt : Fin 8) (am : Fin 4) (at_ : BitVec 32) (data : List Word), o.val ≠ s.selfId → s.get R.galStat_num = 1 →
      ((op.val = 3 ∨ op.val = 4) →
        (∀ x : Int, s.leadTo am.val at_.toNat = some x → 0 < x → Completes (.gopDelivery o q op tgt am at_ data) s (fun t =>
          t.gal.due = s.gal.due ++ [⟨op.val, o.val, q, tgt.val, am.val, at_.toNat⟩] ∧ t.out = s.out ++ [.gopAck o.val q false] ∧ Frame [] [.gal, .out] [] s t)) ∧
        ((∀ x : Int, s.leadTo am.val at_.toNat = some x → x ≤ 0) → Completes (.gopDelivery o q op tgt am at_ data) s (fun t =>
          t.out = s.out ++ [.gopAck o.val q true] ∧ Frame [] [.out] [] s t))) ∧
      (op.val = 1 → s.gal.arrived = true → Completes (.gopDelivery o q op tgt am at_ data) s (fun t => t.gal.arrived = false ∧
        t.gal.barriers = s.gal.barriers ++ [(o.val, q, true)] ∧ t.out = s.out ++ [.barrier o.val q false] ∧ Frame [] [.gal, .out] [] s t)) ∧
      (op.val = 1 → s.gal.arrived = false → Completes (.gopDelivery o q op tgt am at_ data) s (fun t => t.gal.arrived = false ∧
        t.gal.barriers = s.gal.barriers ++ [(o.val, q, false)] ∧ Frame [] [.gal] [] s t)) ∧
      (op.val = 2 → exec (.gopDelivery o q op tgt am at_ data) s = exec (.broadcastReceived o q data) s) ∧
      (op.val = 0 → exec (.gopDelivery o q op tgt am at_ data) s = .next s.fin) ∧
      (data.length ≤ 14 → Completes (.broadcastReceived o q data) s (fun t => t.groupValid R.galBcastRx = true ∧ Pends t .gal 4 ∧
        t.groupWord R.galBcastRx 1 = BitVec.ofNat 32 (o.val + data.length * 64) ∧ (∀ i : Fin 14, t.groupWord R.galBcastRx (2 + i.val) = data.getD i.val 0) ∧
        t.out = s.out ++ [.gopAck o.val q false] ∧ Frame ((List.range 16).map (fun i => R.galBcastRx.addr + 4 * i)) [.out] [.gal] s t))) ∧
    (∀ (o : Fin 64) (q : Nat) (op : Fin 6) (tgt : Fin 8) (am : Fin 4) (at_ : BitVec 32) (data : List Word), (s.get R.galStat_num ≠ 1 ∨ o.val = s.selfId) →
      exec (.gopDelivery o q op tgt am at_ data) s = .next s.fin ∧ exec (.broadcastReceived o q data) s = .next s.fin) ∧
    (∀ (row : Bool) (at_ : BitVec 32) (o q tgt : Nat),
      ((∀ d ∈ s.gal.due, d.atMode ≠ (if row then 2 else 1) ∨ d.at_ ≠ at_.toNat) → exec (.gopInstant row at_) s = .next s.fin) ∧
      (s.gal.due = [⟨3, o, q, 0, if row then 2 else 1, at_.toNat⟩] → Completes (.gopInstant row at_) s (fun t => t.gal.due = [] ∧ t.groupValid R.galSnap = true ∧
        t.groupWord R.galSnap 1 = (if s.bit R.gridStat_run then s.groupWord R.gridNow 1 else 0) ∧
        t.groupWord R.galSnap 2 = (if row then tstamp32 (s.rowInstant at_.toNat).toNat else at_) ∧ t.groupWord R.galSnap 3 = s.reg R.fioFiState ∧
        (∀ i : Fin 8, t.groupWord R.galSnap (5 + i.val) = BitVec.ofNat 32 (s.trm.lines / 2 ^ (32 * i.val))) ∧
        Frame ((List.range 13).map (fun i => R.galSnap.addr + 4 * i)) [.gal] [.gal] s t)) ∧
      (s.gal.due = [⟨4, o, q, tgt, if row then 2 else 1, at_.toNat⟩] → Completes (.gopInstant row at_) s (fun t => t.gal.due = [] ∧
        (tgt.testBit 0 = true → s.bit R.dfcCtrl_en = true → t.bit R.dfcStat_sync_pend = true) ∧
        (tgt.testBit 1 = true → t.trm.latchRst = s.trm.latchRst ||| 0xFFFF ∧ t.trm.request = true) ∧
        (tgt.testBit 2 = true → ∀ a ∈ stickyRegs, ∀ r : RegRow, regRow a = some r → t.reg a &&& BitVec.ofNat 32 r.w1c = 0) ∧ SameMemory s t))) ∧
    (∀ (o : Fin 64) (q : Nat),
      (o.val ≠ s.selfId → (o.val, q, true) ∈ s.gal.barriers → Completes (.barrierRelease o q) s (fun t => Pends t .gal 3 ∧
        (∀ b ∈ t.gal.barriers, ¬(b.1 = o.val ∧ b.2.1 = q)) ∧ t.gal.gop = s.gal.gop ∧ Frame [] [.gal] [.gal] s t)) ∧
      (∀ g : Gop, o.val = s.selfId → s.gal.gop = some g → g.op = 1 → g.seq = q → (∀ b ∈ s.gal.barriers, b.1 = o.val → b.2.1 = q → b.2.2 = true) →
        Completes (.barrierRelease o q) s (fun t => t.gal.gop = none ∧ t.groupValid R.galGopRes = true ∧ Pends t .gal 3 ∧
          t.groupWord R.galGopRes 1 = (if g.set - (g.set &&& g.reach) = 0 then 4 else 5) ∧
          t.out = s.out ++ [.barrier o.val q true] ∧ SameMemory s t)) ∧
      ((∀ b ∈ s.gal.barriers, b.1 = o.val → b.2.1 ≠ q) → (o.val ≠ s.selfId ∨ (∀ g : Gop, s.gal.gop = some g → g.op ≠ 1 ∨ g.seq ≠ q)) →
        exec (.barrierRelease o q) s = .next s.fin) ∧
      ((o.val, q, false) ∈ s.gal.barriers → (o.val, q, true) ∉ s.gal.barriers → exec (.barrierRelease o q) s = .next s.fin)) ∧
    (∀ (g : Gop) (a b : BitVec 64), s.gal.gop = some g →
      (g.op = 1 → Completes (.barrierTimeout a) s (fun t => t.gal.gop = none ∧ t.groupWord R.galGopRes 1 = 6 ∧ Pends t .gal 3 ∧
        (∀ j : Fin 64, j.val ≠ s.selfId → t.arrBit (R.galGopRes.addr + 8) j.val = (g.set.testBit j.val && !(a.getLsbD j.val || g.acked.testBit j.val))) ∧
        SameMemory s t)) ∧
      (g.op ≠ 1 → s.dup.cmd = none → Completes (.gopComplete g.seq a b) s (fun t => t.gal.gop = none ∧ t.groupValid R.galGopRes = true ∧ Pends t .gal 3 ∧
        (∀ j : Fin 64, j.val ≠ s.selfId → t.arrBit (R.galGopRes.addr + 8) j.val =
          (g.set.testBit j.val && !((a.getLsbD j.val || g.acked.testBit j.val) && !(b.getLsbD j.val || g.late.testBit j.val)))) ∧ SameMemory s t) ∧
        ∀ q : Nat, q ≠ g.seq → exec (.gopComplete q a b) s = .next s.fin) ∧
      (g.op ≠ 1 → exec (.barrierTimeout a) s = .next s.fin)) ∧
    (∀ a b : BitVec 64, s.gal.gop = none → exec (.barrierTimeout a) s = .next s.fin ∧
      (s.dup.cmd = none → ∀ q : Nat, exec (.gopComplete q a b) s = .next s.fin))

/-- For an enabled set: a frame of another row is discarded and counted, one after the cutoff dropped; one of the running row adds
its values in binary64 and ORs its quality and masks into each channel, and after the PHE seal what is complete is forwarded.
At the cutoff a member other than the origin sends its sums once, in frames of at most 10 channels; the origin sends one total
a channel, rounded once, all INVALID with MISSING or DOUBLE where an expected member is absent or both of a pair are there,
and writes them unless it has totals. Totals of the running row are passed on and, the first time, written by place: INVALID
ones with value 0; of another row they are discarded and counted. At the return bound channels not returned read 0 with LATE.
A CUMULUS_JOIN sends DHASH and is joined where the echo matches. CUM_SET_STAT_INTERVAL completes and restarts the counts.
Stores need B23 granted; memory outside the buffer stays; a set not enabled does nothing. EXCLUDE and INCLUDE with GO = 1 are
dropped with EXCL_LEAD where the lead is not above T, with EXCL_BAD as listed; else CUM_CMD_RES falls, the command leaves for
ORIGIN and ALT, and a writer that is one of them takes it. GO = 0 issues nothing. GOP_DELIVERY of such a command at ORIGIN or
ALT before its row keeps the change and acknowledges, later it answers LATE; elsewhere it does nothing. GOP_COMPLETE gives
CUM_CMD_RES OK, LATE or PARTIAL and the row, and pulses CMD_DONE. (R269, R270, R273, R276, R277, R279, R280, R281,
17_cumulus_and_duplex.md) -/
def Obligations.CumulusSumsRun : Prop :=
  (∀ (k : Fin 8) (s : State),
    (s.cumOn k.val = true →
      (∀ (row : BitVec 32) (first : Nat) (cs : List (BitVec 64 × BitVec 64 × BitVec 8 × BitVec 64)),
        (row.toNat ≠ (s.cumSet k.val).row → Completes (.cumulusFrameReceived k row first cs) s (fun t =>
          (t.cumSet k.val).discard = (s.cumSet k.val).discard + 1 ∧ (t.cumSet k.val).chans = (s.cumSet k.val).chans ∧ Frame [] [.dup] [] s t)) ∧
        (row.toNat = (s.cumSet k.val).row → (s.cumSet k.val).sent = true → exec (.cumulusFrameReceived k row first cs) s = .next s.fin) ∧
        (row.toNat = (s.cumSet k.val).row → (s.cumSet k.val).sent = false →
          Completes (.cumulusFrameReceived k row first cs) s (fun t =>
            (∀ (j : Nat) (c : BitVec 64 × BitVec 64 × BitVec 8 × BitVec 64), cs[j]? = some c → c.2.2.2 ≠ 0 →
              (s.cumRoot k.val ≠ s.selfId ∨ c.2.2.2.toNat &&& (s.cumSet k.val).excluded = 0) →
              (tget ({} : CumChan) (t.cumSet k.val).chans (first + j)).mask = (tget ({} : CumChan) (s.cumSet k.val).chans (first + j)).mask ||| c.2.2.2.toNat ∧
              (tget ({} : CumChan) (t.cumSet k.val).chans (first + j)).qual = (tget ({} : CumChan) (s.cumSet k.val).chans (first + j)).qual ||| c.2.2.1.toNat ∧
              (tget ({} : CumChan) (t.cumSet k.val).chans (first + j)).re =
                (if (tget ({} : CumChan) (s.cumSet k.val).chans (first + j)).mask = 0 then c.1
                 else fadd64 (tget ({} : CumChan) (s.cumSet k.val).chans (first + j)).re c.1) ∧
              (tget ({} : CumChan) (t.cumSet k.val).chans (first + j)).im =
                (if (tget ({} : CumChan) (s.cumSet k.val).chans (first + j)).mask = 0 then c.2.1
                 else fadd64 (tget ({} : CumChan) (s.cumSet k.val).chans (first + j)).im c.2.1)) ∧
            (∀ j : Nat, (j < first ∨ first + cs.length ≤ j) →
              tget ({} : CumChan) (t.cumSet k.val).chans j = tget ({} : CumChan) (s.cumSet k.val).chans j) ∧
            (s.phe.busy ≠ none → (t.cumSet k.val).sent = false ∧ Frame [] [.dup] [] s t) ∧
            (s.phe.busy = none → (t.cumSet k.val).sent = t.cumComplete k.val ∧ SameMemoryBut (s.cumBuf row.toNat) 0x1000 s t ∧
              Frame ((List.range 3).map (fun i => R.memFault.addr + 4 * i)) [.dup, .out, .free, .mem] [.mem] s t)))) ∧
      ((s.cumSet k.val).sent = true → exec (.cumulusCutoff k) s = .next s.fin) ∧
      ((s.cumSet k.val).sent = false → s.cumRoot k.val ≠ s.selfId → Completes (.cumulusCutoff k) s (fun t => (t.cumSet k.val).sent = true ∧
        (t.cumSet k.val).returned = (s.cumSet k.val).returned ∧ (t.cumSet k.val).chans = (s.cumSet k.val).chans ∧
        (∃ l : List Emit, t.out = s.out ++ l ∧ ∀ e ∈ l, ∃ (first : Nat) (cs : List (BitVec 64 × BitVec 64 × Nat × Nat)),
          e = .cumFrame k.val (s.cumSet k.val).row first cs ∧ cs.length ≤ 10 ∧ (∃ c ∈ cs, c.2.2.2 ≠ 0) ∧
          ∀ (j : Nat) (c : BitVec 64 × BitVec 64 × Nat × Nat), cs[j]? = some c →
            c = ((tget ({} : CumChan) (s.cumSet k.val).chans (first + j)).re, (tget ({} : CumChan) (s.cumSet k.val).chans (first + j)).im,
                 (tget ({} : CumChan) (s.cumSet k.val).chans (first + j)).qual, (tget ({} : CumChan) (s.cumSet k.val).chans (first + j)).mask)) ∧
        Frame [] [.dup, .out] [] s t)) ∧
      ((s.cumSet k.val).sent = false → s.cumRoot k.val = s.selfId → Completes (.cumulusCutoff k) s (fun t => (t.cumSet k.val).sent = true ∧ (t.cumSet k.val).returned = true ∧
        ∃ l : List (Word × Word × Word), l.length = s.cumPlaces k.val ∧ t.out = s.out ++ [.cumTotals k.val (s.cumSet k.val).row l] ∧
          ((∃ j : Nat, j < s.cumPlaces k.val ∧ cumCovered (s.cumPairs k.val) (s.cumExpected k.val) (tget ({} : CumChan) (s.cumSet k.val).chans j).mask = false) →
            ∀ x ∈ l, x.2.2.getLsbD 8 = true ∧ x.2.2.getLsbD 0 = true) ∧
          ((∃ j : Nat, j < s.cumPlaces k.val ∧ ∃ p ∈ s.cumPairs k.val, (tget ({} : CumChan) (s.cumSet k.val).chans j).mask.testBit p.1 = true ∧
              (tget ({} : CumChan) (s.cumSet k.val).chans j).mask.testBit p.2 = true) → ∀ x ∈ l, x.2.2.getLsbD 10 = true ∧ x.2.2.getLsbD 0 = true) ∧
          ((∀ j : Nat, j < s.cumPlaces k.val → cumCovered (s.cumPairs k.val) (s.cumExpected k.val) (tget ({} : CumChan) (s.cumSet k.val).chans j).mask = true ∧
              ∀ p ∈ s.cumPairs k.val, ((tget ({} : CumChan) (s.cumSet k.val).chans j).mask.testBit p.1 && (tget ({} : CumChan) (s.cumSet k.val).chans j).mask.testBit p.2) = false) →
            ∀ j : Nat, j < s.cumPlaces k.val → (tget ({} : CumChan) (s.cumSet k.val).chans j).open_ = false →
              l[j]? = some (f64to32 (tget ({} : CumChan) (s.cumSet k.val).chans j).re, f64to32 (tget ({} : CumChan) (s.cumSet k.val).chans j).im,
                            BitVec.ofNat 32 (tget ({} : CumChan) (s.cumSet k.val).chans j).qual)) ∧
          ((s.cumSet k.val).returned = true → Frame [] [.dup, .out, .free] [] s t) ∧
          ((s.cumSet k.val).returned = false → SameMemoryBut (s.cumBuf (s.cumSet k.val).row) 0x1000 s t ∧ Frame ((List.range 3).map (fun i => R.memFault.addr + 4 * i)) [.dup, .out, .free, .mem] [.mem] s t ∧
            (CumulusMemory (s.cumBuf (s.cumSet k.val).row) s → s.cumPbase k.val + s.cumPcount k.val ≤ 64 → s.cumIbase k.val + s.cumIcount k.val ≤ 64 → OnlyRegs [] s t ∧
          (∀ i : Nat, i < s.cumPcount k.val → ∀ x : Word × Word × Word, l[i]? = some x →
            t.word (s.cumBuf (s.cumSet k.val).row + 0x100 + 16 * (s.cumPbase k.val + i)) = (if x.2.2.toNat % 2 = 1 then 0 else x.1) ∧
            t.word (s.cumBuf (s.cumSet k.val).row + 0x104 + 16 * (s.cumPbase k.val + i)) = (if x.2.2.toNat % 2 = 1 then 0 else x.2.1) ∧
            t.word (s.cumBuf (s.cumSet k.val).row + 0x108 + 16 * (s.cumPbase k.val + i)) = x.2.2) ∧
          (∀ i : Nat, i < s.cumIcount k.val → ∀ x : Word × Word × Word, l[s.cumPcount k.val + i]? = some x →
            t.word (s.cumBuf (s.cumSet k.val).row + 0x500 + 8 * (s.cumIbase k.val + i)) = (if x.2.2.toNat % 2 = 1 then 0 else x.1) ∧
            t.word (s.cumBuf (s.cumSet k.val).row + 0x504 + 8 * (s.cumIbase k.val + i)) = x.2.2))))) ∧
      (∀ (o : Fin 64) (row : BitVec 32) (ts : List (Word × Word × Word)),
        (row.toNat ≠ (s.cumSet k.val).row → Completes (.cumulusTotalsReceived k o row ts) s (fun t =>
          (t.cumSet k.val).discard = (s.cumSet k.val).discard + 1 ∧ Frame [] [.dup] [] s t)) ∧
        (row.toNat = (s.cumSet k.val).row → (s.cumSet k.val).returned = false →
          Completes (.cumulusTotalsReceived k o row ts) s (fun t => (t.cumSet k.val).returned = true ∧ t.out = s.out ++ [.cumTotals k.val row.toNat ts] ∧
            SameMemoryBut (s.cumBuf row.toNat) 0x1000 s t ∧ Frame ((List.range 3).map (fun i => R.memFault.addr + 4 * i)) [.dup, .out, .mem] [.mem] s t ∧
            (CumulusMemory (s.cumBuf row.toNat) s → s.cumPbase k.val + s.cumPcount k.val ≤ 64 → s.cumIbase k.val + s.cumIcount k.val ≤ 64 → OnlyRegs [] s t ∧
              ((∀ x ∈ ts, x.2.2.toNat / 256 % 16 = 0) → (t.word (s.cumBuf row.toNat + 12)).getLsbD k.val = true) ∧
          (∀ i : Nat, i < s.cumPcount k.val → ∀ x : Word × Word × Word, ts[i]? = some x →
            t.word (s.cumBuf row.toNat + 0x100 + 16 * (s.cumPbase k.val + i)) = (if x.2.2.toNat % 2 = 1 then 0 else x.1) ∧
            t.word (s.cumBuf row.toNat + 0x104 + 16 * (s.cumPbase k.val + i)) = (if x.2.2.toNat % 2 = 1 then 0 else x.2.1) ∧
            t.word (s.cumBuf row.toNat + 0x108 + 16 * (s.cumPbase k.val + i)) = x.2.2) ∧
          (∀ i : Nat, i < s.cumIcount k.val → ∀ x : Word × Word × Word, ts[s.cumPcount k.val + i]? = some x →
            t.word (s.cumBuf row.toNat + 0x500 + 8 * (s.cumIbase k.val + i)) = (if x.2.2.toNat % 2 = 1 then 0 else x.1) ∧
            t.word (s.cumBuf row.toNat + 0x504 + 8 * (s.cumIbase k.val + i)) = x.2.2)))) ∧
        (row.toNat = (s.cumSet k.val).row → (s.cumSet k.val).returned = true → Completes (.cumulusTotalsReceived k o row ts) s (fun t =>
          t.out = s.out ++ [.cumTotals k.val row.toNat ts] ∧ Frame [] [.dup, .out] [] s t))) ∧
      ((s.cumSet k.val).returned = true → exec (.cumulusReturnBound k) s = .next s.fin) ∧
      ((s.cumSet k.val).returned = false → Completes (.cumulusReturnBound k) s (fun t => (t.cumSet k.val).returned = true ∧
        (0 < s.cumPlaces k.val → (t.cumSet k.val).late = (s.cumSet k.val).late + 1) ∧
        SameMemoryBut (s.cumBuf (s.cumSet k.val).row) 0x1000 s t ∧ Frame ((List.range 3).map (fun i => R.memFault.addr + 4 * i)) [.dup, .mem] [.mem] s t ∧
        (CumulusMemory (s.cumBuf (s.cumSet k.val).row) s → s.cumPbase k.val + s.cumPcount k.val ≤ 64 → s.cumIbase k.val + s.cumIcount k.val ≤ 64 → OnlyRegs [] s t ∧
          (∀ i : Nat, i < s.cumPcount k.val → t.word (s.cumBuf (s.cumSet k.val).row + 0x100 + 16 * (s.cumPbase k.val + i)) = 0 ∧
            t.word (s.cumBuf (s.cumSet k.val).row + 0x104 + 16 * (s.cumPbase k.val + i)) = 0 ∧
            t.word (s.cumBuf (s.cumSet k.val).row + 0x108 + 16 * (s.cumPbase k.val + i)) = 0x201#32) ∧
          (∀ i : Nat, i < s.cumIcount k.val → t.word (s.cumBuf (s.cumSet k.val).row + 0x500 + 8 * (s.cumIbase k.val + i)) = 0 ∧
            t.word (s.cumBuf (s.cumSet k.val).row + 0x504 + 8 * (s.cumIbase k.val + i)) = 0x201#32)))) ∧
      (∀ echo : Word, Completes (.cumulusJoin k echo) s (fun t => t.cumJoined k.val = (echo == BitVec.ofNat 32 (s.cumDesc k.val 0x18)) ∧
        t.out = s.out ++ [.cumJoin k.val (BitVec.ofNat 32 (s.cumDesc k.val 0x18))] ∧ Frame [R.dupStat] [.out] [] s t)) ∧
      Completes .cumSetStatInterval s (fun t => t.groupValid (R.cumSetSt k.val) = true ∧ (t.cumSet k.val).missing = 0 ∧ (t.cumSet k.val).late = 0 ∧
        (t.cumSet k.val).discard = 0 ∧
        t.groupWord (R.cumSetSt k.val) 2 = BitVec.ofNat 32 (Nat.min 0xFFFF (s.cumSet k.val).missing + Nat.min 0xFFFF (s.cumSet k.val).late * 2 ^ 16) ∧
        t.groupWord (R.cumSetSt k.val) 3 = BitVec.ofNat 32 (Nat.min 0xFFFF (s.cumSet k.val).retMax + Nat.min 0xFFFF (s.cumSet k.val).discard * 2 ^ 16) ∧
        Frame ((List.range 32).map (fun i => (R.cumSetSt 0).addr + 4 * i)) [.dup] [.dup] s t)) ∧
    (s.cumOn k.val = false → exec (.cumulusCutoff k) s = .next s.fin ∧ exec (.cumulusReturnBound k) s = .next s.fin ∧
      (∀ echo : Word, exec (.cumulusJoin k echo) s = .next s.fin) ∧
      (∀ (row : BitVec 32) (first : Nat) (cs : List (BitVec 64 × BitVec 64 × BitVec 8 × BitVec 64)), exec (.cumulusFrameReceived k row first cs) s = .next s.fin) ∧
      (∀ (o : Fin 64) (row : BitVec 32) (ts : List (Word × Word × Word)), exec (.cumulusTotalsReceived k o row ts) s = .next s.fin) ∧
      Completes .cumSetStatInterval s (fun t => t.cumSet k.val = s.cumSet k.val ∧ ∀ i : Nat, i < 4 → t.groupWord (R.cumSetSt k.val) i = s.groupWord (R.cumSetSt k.val) i))) ∧
  (∀ (s : State),
    (∀ (m : Master) (v : Word), Reaches s m .dup →
      (R.cumCmd_go.of v = 0 → exec (.exclude m v) s = .next s.fin ∧ exec (.include m v) s = .next s.fin) ∧
      (∀ k : Nat, R.cumCmd_go.of v = 1 → R.cumCmd_set.of v = k →
      ((∀ x : Int, s.leadTo 2 (s.reg R.cumAt).toNat = some x → x ≤ ((10 * gopTime (s.cumDmax k) : Nat) : Int)) →
        exec (.exclude m v) s = .next (s.raise .dup 0x0101 m.val).fin ∧ exec (.include m v) s = .next (s.raise .dup 0x0101 m.val).fin) ∧
      (∀ x : Int, s.leadTo 2 (s.reg R.cumAt).toNat = some x → ((10 * gopTime (s.cumDmax k) : Nat) : Int) < x →
        ((s.cumMask k).testBit (R.cumCmd_mbr.of v) = false →
          exec (.exclude m v) s = .next (s.raise .dup 0x0102 m.val).fin ∧ exec (.include m v) s = .next (s.raise .dup 0x0102 m.val).fin) ∧
        (((s.cumExpected k).testBit (R.cumCmd_mbr.of v) = false ∨ s.cumExpected k = 2 ^ R.cumCmd_mbr.of v ∨
            (R.cumCmd_mbr.of v = s.cumAlt k ∧ (s.cumExpected k).testBit (s.cumOrigin k) = false)) →
          exec (.exclude m v) s = .next (s.raise .dup 0x0102 m.val).fin) ∧
        ((s.cumMask k).testBit (R.cumCmd_mbr.of v) = true →
          Completes (.include m v) s (fun t =>
            t.dup.cmd = some ⟨s.gal.gopSeq + 1, k, (s.reg R.cumAt).toNat, if s.inSet (2 ^ s.cumOrigin k ||| 2 ^ s.cumAlt k) then 2 ^ s.selfId else 0, 0⟩ ∧
            t.dup.changes = s.dup.changes ++ (if s.inSet (2 ^ s.cumOrigin k ||| 2 ^ s.cumAlt k) then
              [(⟨k, true, R.cumCmd_mbr.of v, (s.reg R.cumAt).toNat⟩ : CumChange)] else []) ∧
            t.out = s.out ++ [.gop s.selfId (s.gal.gopSeq + 1) (2 ^ s.cumOrigin k ||| 2 ^ s.cumAlt k) opCUM 0 2 (s.reg R.cumAt).toNat [R.cumCmd_op.put v 1]] ∧
            t.groupValid R.cumCmdRes = false ∧ Frame [R.cumCmdRes.addr] [.gal, .dup, .out] [] s t) ∧
          ((s.cumExpected k).testBit (R.cumCmd_mbr.of v) = true → s.cumExpected k ≠ 2 ^ R.cumCmd_mbr.of v →
            (R.cumCmd_mbr.of v ≠ s.cumAlt k ∨ (s.cumExpected k).testBit (s.cumOrigin k) = true) →
            Completes (.exclude m v) s (fun t =>
            t.dup.cmd = some ⟨s.gal.gopSeq + 1, k, (s.reg R.cumAt).toNat, if s.inSet (2 ^ s.cumOrigin k ||| 2 ^ s.cumAlt k) then 2 ^ s.selfId else 0, 0⟩ ∧
            t.dup.changes = s.dup.changes ++ (if s.inSet (2 ^ s.cumOrigin k ||| 2 ^ s.cumAlt k) then
              [(⟨k, false, R.cumCmd_mbr.of v, (s.reg R.cumAt).toNat⟩ : CumChange)] else []) ∧
            t.out = s.out ++ [.gop s.selfId (s.gal.gopSeq + 1) (2 ^ s.cumOrigin k ||| 2 ^ s.cumAlt k) opCUM 0 2 (s.reg R.cumAt).toNat [R.cumCmd_op.put v 0]] ∧
            t.groupValid R.cumCmdRes = false ∧ Frame [R.cumCmdRes.addr] [.gal, .dup, .out] [] s t)))))) ∧
    (∀ (o : Fin 64) (q : Nat) (op : Fin 6) (tgt : Fin 8) (am : Fin 4) (row : BitVec 32) (v : Word),
      op.val = opCUM → o.val ≠ s.selfId → s.get R.galStat_num = 1 → ∀ k : Nat, R.cumCmd_set.of v = k →
      (s.selfId ≠ s.cumOrigin k → s.selfId ≠ s.cumAlt k → exec (.gopDelivery o q op tgt am row [v]) s = .next s.fin) ∧
      ((s.selfId = s.cumOrigin k ∨ s.selfId = s.cumAlt k) →
        (∀ x : Int, s.leadTo 2 row.toNat = some x → 0 < x → Completes (.gopDelivery o q op tgt am row [v]) s (fun t =>
          t.dup.changes = s.dup.changes ++ [⟨k, R.cumCmd_op.of v == 1, R.cumCmd_mbr.of v, row.toNat⟩] ∧ t.out = s.out ++ [.gopAck o.val q false] ∧
          Frame [] [.dup, .out] [] s t)) ∧
        ((∀ x : Int, s.leadTo 2 row.toNat = some x → x ≤ 0) → Completes (.gopDelivery o q op tgt am row [v]) s (fun t =>
          t.out = s.out ++ [.gopAck o.val q true] ∧ Frame [] [.out] [] s t)))) ∧
    (∀ (c : CumCmd) (a l : BitVec 64), s.dup.cmd = some c → Completes (.gopComplete c.seq a l) s (fun t => t.dup.cmd = none ∧
      t.groupValid R.cumCmdRes = true ∧ t.groupWord R.cumCmdRes 2 = BitVec.ofNat 32 c.row ∧ Pends t .dup 3 ∧
      t.groupWord R.cumCmdRes 1 = (if (l.toNat ||| c.late).testBit (s.cumOrigin c.set) then 2#32
        else if (answered s.selfId c.acked c.late a.toNat l.toNat).testBit (s.cumOrigin c.set) &&
          (answered s.selfId c.acked c.late a.toNat l.toNat).testBit (s.cumAlt c.set) then 0#32 else 1#32) ∧
      Frame [R.cumCmdRes.addr, R.cumCmdRes.addr + 4, R.cumCmdRes.addr + 8] [.dup] [.dup] s t)))

/-- On a paired member: AUTH_IN rising takes GUARD and BACKOFF to STANDBY, CLAIM to BACKOFF and at the 8th collision to CONTEND,
ACTIVE to CONTEND with AUTH_OUT kept, and closes both gates in every state, FO_DRV reading 0 where the FO gate was open.
Falling, it returns a CONTEND entered from ACTIVE to ACTIVE; a level it has already changes nothing. A pulse of the partner is
noted; a member in ACTIVE, or in CONTEND entered from ACTIVE, sends pulses and holds AUTH_OUT, others send none; the
monostable's end drops AUTH_OUT and closes the gates. A member not healthy enters DOWN with AUTH_OUT = 0, and HEALTH_LOSS of
another changes no state; a healthy one leaves DOWN for UNFIT or CONTEND by its latches, else for GUARD or STANDBY by AUTH_IN.
The claim windows give CLAIM with AUTH_OUT = 1 from GUARD or STANDBY, the confirmation ACTIVE, which opens the FO gate unless
PEA STAT.FAULT or a load holds it, FO_DRV taking FO_CMD, and completes DUP_TAKE with its cause; a current shadow joins latches
and FO_CMD, a stale one clears SHADOW_OK alone; a backoff claims again. In any other state or with AUTH_IN = 1 these three do
nothing. An unpaired member notes AUTH_IN alone. No memory and no register outside the list of the frame changes. (R283, R284,
R285, R286, R287, R196, R200, 17_cumulus_and_duplex.md) -/
def Obligations.AuthorityInterlockMovesAsListed : Prop :=
  ∀ (s : State),
    (s.paired = true →
      (s.dup.authIn = false → Completes (.authInChange true) s (fun t => t.dup.authIn = true ∧ t.bit R.trmStat_fo_gate = false ∧
        (s.bit R.trmStat_fo_gate = true → t.get R.trmFoDrv_drv = 0) ∧
        ((s.auth = auGUARD ∨ s.auth = auBACKOFF) → t.auth = auSTANDBY ∧ t.dup.authOut = false) ∧
        (s.auth = auCLAIM → s.dup.collisions + 1 < 8 → t.auth = auBACKOFF ∧ t.dup.authOut = false ∧ t.dup.collisions = s.dup.collisions + 1) ∧
        (s.auth = auCLAIM → 8 ≤ s.dup.collisions + 1 → t.auth = auCONTEND ∧ t.dup.authOut = false ∧ t.dup.contend = true) ∧
        (s.auth = auACTIVE → t.auth = auCONTEND ∧ t.dup.authOut = true ∧ t.dup.contend = s.dup.contend ∧ t.dup.contendActive = true) ∧
        ((s.auth = auDOWN ∨ s.auth = auSTANDBY ∨ s.auth = auUNFIT ∨ s.auth = auCONTEND) → t.auth = s.auth) ∧ GateFrame s t)) ∧
      (s.dup.authIn = true → Completes (.authInChange false) s (fun t => t.dup.authIn = false ∧
        (s.auth = auCONTEND → s.dup.contendActive = true → t.auth = auACTIVE ∧ t.dup.authOut = true) ∧
        ((s.auth ≠ auCONTEND ∨ s.dup.contendActive = false) → t.auth = s.auth ∧ t.dup.authOut = s.dup.authOut) ∧ GateFrame s t)) ∧
      Completes (.authInChange s.dup.authIn) s (fun t => t.auth = s.auth ∧ t.dup.authOut = s.dup.authOut ∧ Frame [] [.dup] [] s t) ∧
      Completes .hbPulseReceived s (fun t => t.dup.pulseAt = some s.time.ticks ∧ t.auth = s.auth ∧ Frame [] [.dup] [] s t) ∧
      ((s.auth = auACTIVE ∨ (s.auth = auCONTEND ∧ s.dup.contendActive = true)) → Completes .hbPulseSend s (fun t =>
        Emit.hbPulse ∈ t.out ∧ t.dup.authOut = true ∧ t.auth = s.auth ∧ GateFrame s t)) ∧
      (s.auth ≠ auACTIVE → (s.auth ≠ auCONTEND ∨ s.dup.contendActive = false) → exec .hbPulseSend s = .next s.fin) ∧
      Completes .authMonostableExpiry s (fun t => t.dup.authOut = false ∧ t.bit R.trmStat_fo_gate = false ∧
        (s.bit R.trmStat_fo_gate = true → t.get R.trmFoDrv_drv = 0) ∧ t.auth = s.auth ∧ GateFrame s t) ∧
      (s.healthy = false → s.auth ≠ auDOWN → Completes .healthLoss s (fun t => t.auth = auDOWN ∧ t.dup.authOut = false ∧ t.bit R.trmStat_fo_gate = false ∧
        (s.bit R.trmStat_fo_gate = true → t.get R.trmFoDrv_drv = 0) ∧ Pends t .dup 0 ∧ t.dup.unfit = s.dup.unfit ∧ t.dup.contend = s.dup.contend ∧ GateFrame s t)) ∧
      (s.healthy = true → s.auth = auDOWN → Completes .healthRecovery s (fun t => t.auth = (if s.dup.unfit then auUNFIT else if s.dup.contend then auCONTEND
        else if s.dup.authIn then auSTANDBY else auGUARD) ∧ t.dup.authOut = false ∧ t.bit R.trmStat_fo_gate = false ∧ GateFrame s t)) ∧
      ((s.healthy = false ∨ s.auth ≠ auDOWN) → exec .healthRecovery s = .next s.fin) ∧
      ((s.auth = auGUARD ∨ s.auth = auSTANDBY) → s.dup.authIn = false → Completes .claimWindowExpiry s (fun t => t.auth = auCLAIM ∧ t.dup.authOut = true ∧
        t.dup.afterBackoff = false ∧ t.bit R.trmStat_fo_gate = false ∧ Pends t .dup 0 ∧ GateFrame s t)) ∧
      ((s.dup.authIn = true ∨ (s.auth ≠ auGUARD ∧ s.auth ≠ auSTANDBY)) → exec .claimWindowExpiry s = .next s.fin) ∧
      ((s.dup.authIn = true ∨ s.auth ≠ auCLAIM) → exec .claimConfirm s = .next s.fin) ∧
      ((s.dup.authIn = true ∨ s.auth ≠ auBACKOFF) → exec .backoffRetry s = .next s.fin) ∧
      (s.auth = auCLAIM → s.dup.authIn = false → Completes .claimConfirm s (fun t => t.auth = auACTIVE ∧ t.dup.authOut = true ∧ Pends t .dup 0 ∧
        t.groupValid R.dupTake = true ∧ t.bit R.trmStat_fo_gate = (!s.bit R.peaStat_fault && !s.trm.loading) ∧
        (s.bit R.trmStat_fo_gate = false → s.bit R.peaStat_fault = false → s.trm.loading = false → t.get R.trmFoDrv_drv = t.get R.trmFoCmd_cmd) ∧
        (t.groupWord R.dupTake 1).toNat % 4 = (if s.dup.afterBackoff then 3 else if s.dup.pulseAt = none then 0
          else if s.dup.fellAfter.any (fun d => decide (d ≤ 750)) then 2 else 1) ∧
        (t.groupWord R.dupTake 1).getLsbD 2 = s.shadowNow.isSome ∧ t.groupWord R.dupTake 2 = s.tstamp ∧
        (s.shadowNow = none → t.bit R.dupStat_shadow_ok = false ∧ t.trm.latch = s.trm.latch ∧ t.trm.minon = s.trm.minon ∧
          t.get R.trmFoCmd_cmd = s.get R.trmFoCmd_cmd) ∧
        (∀ (x : Shadow) (i : Fin 16), s.shadowNow = some x → s.bit (R.trmFoCfg_en i.val) = true →
          t.trm.latch.testBit i.val = (s.trm.latch.testBit i.val || x.latch.testBit i.val) ∧
          ((s.get R.trmFoCmd_cmd).testBit i.val = true ∨ x.drv.testBit i.val = true → (t.get R.trmFoCmd_cmd).testBit i.val = true) ∧
          (x.minon.getD i.val 0 ≠ 0 → tget none t.trm.minon i.val =
            some (Nat.max (s.time.ticks + 250000 * x.minon.getD i.val 0) ((tget none s.trm.minon i.val).getD 0)))) ∧ GateFrame s t)) ∧
      (s.auth = auBACKOFF → s.dup.authIn = false → Completes .backoffRetry s (fun t => t.auth = auCLAIM ∧ t.dup.authOut = true ∧ t.dup.afterBackoff = true ∧
        t.bit R.trmStat_fo_gate = false ∧ GateFrame s t))) ∧
    ((s.paired = false ∨ s.healthy = true ∨ s.auth = auDOWN) → Completes .healthLoss s (fun t => t.dup = s.dup ∧ t.auth = s.auth ∧
      t.bit R.trmStat_fo_gate = s.gateCond ∧ GateFrame s t)) ∧
    (s.paired = false → (∀ b : Bool, Completes (.authInChange b) s (fun t => t.dup.authIn = b ∧ t.auth = s.auth ∧ Frame [] [.dup] [] s t)) ∧
      exec .hbPulseReceived s = .next s.fin ∧ exec .hbPulseSend s = .next s.fin ∧ exec .claimWindowExpiry s = .next s.fin ∧
      exec .claimConfirm s = .next s.fin ∧ exec .backoffRetry s = .next s.fin ∧ exec .authMonostableExpiry s = .next s.fin ∧
      exec .healthRecovery s = .next s.fin)

/-- A pairing frame with an equal digest and profile gives FORMED, another ends it and clears MISMATCH; so does PAIRING_TIMEOUT,
which makes the partner absent. A booted paired member sends its digest, profile and state, another sends none. A shadow frame
while FORMED is kept and completes DUP_SHADOW, else it is discarded. A partner hash whose row this member has hashed completes
DUP_HASH; an equal pair counts towards the 64 that clear MISMATCH, the second unequal one in a row sets it and applies POLICY:
UNFIT takes a STANDBY member to UNFIT, HANDOVER takes an ACTIVE one there with AUTH_OUT = 0, ALARM and other states change
nothing; with no own hash of the row it waits, the newest 16 being kept. HANDOVER of an ACTIVE member whose partner can take
over relinquishes to GUARD with AUTH_OUT = 0 and the gate closed, else it is dropped with DUP_STATE. CLEAR_UNFIT ends UNFIT,
and a CONTEND entered from BACKOFF, into GUARD or STANDBY, and in other states clears the latch alone. A word with both bits
is a HANDOVER, then a CLEAR_UNFIT. (R282, R284, R287, R288, 17_cumulus_and_duplex.md) -/
def Obligations.PairsCompareAndShadow : Prop :=
  ∀ (s : State),
    (∀ (digest : List Word) (profile : Fin 4) (auth : Fin 16),
      (s.paired = true → Completes (.pairingFrame digest profile auth) s (fun t => t.dup.partner = some ⟨digest, profile.val, auth.val⟩ ∧
        t.bit R.dupStat_formed = (digest == s.digest && profile.val == s.get R.sysProfile_active) ∧
        ((digest ≠ s.digest ∨ profile.val ≠ s.get R.sysProfile_active) → t.bit R.dupStat_mismatch = false ∧ t.dup.misRun = 0) ∧
        t.auth = s.auth ∧ Frame [R.dupStat] [.dup] [] s t)) ∧
      (s.paired = false → exec (.pairingFrame digest profile auth) s = .next s.fin)) ∧
    (s.paired = true → s.bit R.sysStat_booted = true → Completes .pairingFrameSend s (fun t =>
      t.out = s.out ++ [.pairing s.digest (s.get R.sysProfile_active) s.auth] ∧ Frame [] [.out] [] s t)) ∧
    ((s.paired = false ∨ s.bit R.sysStat_booted = false) → exec .pairingFrameSend s = .next s.fin) ∧
    Completes .pairingTimeout s (fun t => t.dup.partner = none ∧ t.bit R.dupStat_formed = false ∧ t.bit R.dupStat_mismatch = false ∧
      t.bit R.dupStat_silent = false ∧ t.auth = s.auth ∧ Frame [R.dupStat] [.dup] [] s t) ∧
    (∀ (drv latch : BitVec 16) (minon : List Byte),
      (s.bit R.dupStat_formed = true → Completes (.shadowFrame drv latch minon) s (fun t => t.bit R.dupStat_shadow_ok = true ∧
        t.dup.shadow = some ⟨drv.toNat, latch.toNat, minon.map (fun b => b.toNat), s.time.ticks⟩ ∧ t.groupValid R.dupShadow = true ∧
        t.groupWord R.dupShadow 1 = BitVec.ofNat 32 (drv.toNat + latch.toNat * 2 ^ 16) ∧ t.groupWord R.dupShadow 2 = s.tstamp ∧
        Frame [R.dupStat, R.dupShadow.addr, R.dupShadow.addr + 4, R.dupShadow.addr + 8] [.dup] [.dup] s t)) ∧
      (s.bit R.dupStat_formed = false → exec (.shadowFrame drv latch minon) s = .next s.fin)) ∧
    (∀ (row : BitVec 32) (h : Word),
      (s.bit R.dupStat_formed = false → exec (.tripVectorHash row h) s = .next s.fin) ∧
      (∀ own : Word, s.bit R.dupStat_formed = true → s.dup.own.find? (fun x => x.1 == row.toNat) = some (row.toNat, own) →
        Completes (.tripVectorHash row h) s (fun t =>
        t.groupValid R.dupHash = true ∧ t.groupWord R.dupHash 1 = row ∧ t.groupWord R.dupHash 2 = own ∧ t.groupWord R.dupHash 3 = h ∧
        t.bit R.dupStat_silent = false ∧ (∀ x ∈ t.dup.own, x.1 ≠ row.toNat) ∧
        (own = h → t.dup.misRun = 0 ∧ t.dup.okRun = s.dup.okRun + 1 ∧ t.auth = s.auth ∧
          (64 ≤ s.dup.okRun + 1 → t.bit R.dupStat_mismatch = false) ∧ (s.dup.okRun + 1 < 64 → t.bit R.dupStat_mismatch = s.bit R.dupStat_mismatch) ∧
          Frame [R.dupStat, R.dupHash.addr, R.dupHash.addr + 4, R.dupHash.addr + 8, R.dupHash.addr + 12] [.dup] [.dup] s t) ∧
        (own ≠ h → t.dup.misRun = s.dup.misRun + 1 ∧ t.dup.okRun = 0 ∧
          (s.dup.misRun ≠ 1 → t.bit R.dupStat_mismatch = s.bit R.dupStat_mismatch ∧ t.auth = s.auth ∧ Frame [R.dupStat, R.dupHash.addr, R.dupHash.addr + 4, R.dupHash.addr + 8, R.dupHash.addr + 12] [.dup] [.dup] s t) ∧
          (s.dup.misRun = 1 → t.bit R.dupStat_mismatch = true ∧
            (s.get R.dupCfg_policy = 1 → s.auth = auSTANDBY → t.auth = auUNFIT ∧ t.dup.unfit = true ∧ t.dup.authOut = false) ∧
            (s.get R.dupCfg_policy = 2 → s.auth = auACTIVE → t.auth = auUNFIT ∧ t.dup.unfit = true ∧ t.dup.authOut = false ∧ t.bit R.trmStat_fo_gate = false) ∧
            ((s.get R.dupCfg_policy = 1 → s.auth ≠ auSTANDBY) → (s.get R.dupCfg_policy = 2 → s.auth ≠ auACTIVE) →
              t.auth = s.auth ∧ Frame [R.dupStat, R.dupHash.addr, R.dupHash.addr + 4, R.dupHash.addr + 8, R.dupHash.addr + 12] [.dup, .evr] [.dup] s t))) ∧
        Frame ([R.dupStat, R.dupHash.addr, R.dupHash.addr + 4, R.dupHash.addr + 8, R.dupHash.addr + 12] ++ gateRegs) [.dup, .evr, .gal, .gos, .jrnl, .mac, .out, .trm] [.dup, .gos, .jrnl, .mem] s t)) ∧
      (s.bit R.dupStat_formed = true → s.dup.own.find? (fun x => x.1 == row.toNat) = none → Completes (.tripVectorHash row h) s (fun t =>
        t.dup.theirs = ((row.toNat, h) :: s.dup.theirs).take 16 ∧ t.dup.own = s.dup.own ∧ t.bit R.dupStat_silent = false ∧ Frame [R.dupStat] [.dup] [] s t))) ∧
    (∀ (m : Master) (v : Word), Reaches s m .dup →
      (∀ p : Partner, s.paired = true → s.auth = auACTIVE → s.dup.partner = some p → p.auth ≠ auDOWN → p.auth ≠ auUNFIT →
          Completes (.handover m v) s (fun t => t.auth = auGUARD ∧ t.dup.authOut = false ∧ t.dup.relinquished = true ∧ t.bit R.trmStat_fo_gate = false ∧
            (s.bit R.trmStat_fo_gate = true → t.get R.trmFoDrv_drv = 0) ∧ t.dup.unfit = (s.dup.unfit && R.dupCmd_clear_unfit.of v == 0) ∧ GateFrame s t)) ∧
      ((s.paired = false ∨ s.auth ≠ auACTIVE ∨ s.dup.partner = none ∨ ∃ p : Partner, s.dup.partner = some p ∧ (p.auth = auDOWN ∨ p.auth = auUNFIT)) →
          (R.dupCmd_clear_unfit.of v = 0 → exec (.handover m v) s = .next (s.raise .dup 0x0103 m.val).fin) ∧
          (R.dupCmd_clear_unfit.of v = 1 → exec (.handover m v) s = .next (clearUnfitEffect (s.raise .dup 0x0103 m.val)).fin)) ∧
      (R.dupCmd_handover.of v = 1 → R.dupCmd_clear_unfit.of v = 1 → exec (.clearUnfit m v) s = exec (.handover m v) s) ∧
      (R.dupCmd_handover.of v = 1 → R.dupCmd_clear_unfit.of v = 0 → exec (.clearUnfit m v) s = exec (.handover m (v ||| 2#32)) s) ∧
      (R.dupCmd_handover.of v = 0 →
        (s.paired = true → (s.auth = auUNFIT ∨ (s.auth = auCONTEND ∧ s.dup.contendActive = false)) →
          Completes (.clearUnfit m v) s (fun t => t.auth = (if s.dup.authIn then auSTANDBY else auGUARD) ∧
          t.dup.unfit = false ∧ t.dup.authOut = false ∧ (s.dup.contendActive = false → t.dup.contend = false) ∧ GateFrame s t)) ∧
        ((s.paired = false ∨ (s.auth ≠ auUNFIT ∧ (s.auth ≠ auCONTEND ∨ s.dup.contendActive = true))) →
          Completes (.clearUnfit m v) s (fun t => t.auth = s.auth ∧ t.dup.unfit = false ∧
            (s.dup.contendActive = false → t.dup.contend = false) ∧ Frame [] [.dup] [] s t))))

/-- Of a port whose EN = 0 a frame changes nothing. Else, in order: 63 bytes or fewer with FCS count RX_RUNT; more than MAC_MAXLEN
RX_OVERSIZE; a bad FCS RX_FCS and the LIFE counter; a PAUSE frame does what PAUSE_RECEIVED does with its quanta, a PFC frame
counts RX_FILTERED; a frame a hardware function claims RX_HW; an unclaimed SV or GOOSE frame is dropped under DROP_SV or
DROP_GOOSE, else it goes to its ring of MAC_STEER; another frame that the address filter refuses counts RX_FILTERED, else it
goes to PTP_RING or to the ring of its PCP. There a full FIFO counts RX_FIFO_DROP; a ring without EN or without an owned
descriptor RX_NOBUF_DROP with the EDGE source 9; a failing first descriptor clears EN and records RING_ADDR; with granted
descriptors and buffers the frame fills buffers of 2048 bytes, each with words 2 and 3 (LEN, DONE, SOF, EOF, TAGGED, PCP,
TSTAMP32), HEAD moves past them, the EDGE source 1 + ring is pending and RX_OK counts it; where the owned buffers do not
suffice, those come back with FRAG_DISCARD and LEN 0, and RX_NOBUF_DROP counts it. No other byte of memory changes. For an
UNLOCKED page: a write to TAIL is stored; BASE or CFG while EN = 1 is dropped with RING_LIVE unless it only clears EN (log
entry 69); EN rising clears HEAD and TAIL; MAC_MAXLEN outside 64 to 9600 is dropped with MAXLEN_BAD. (R289, R290, R291, R292,
R293, R294, 18_network_ports.md) -/
def Obligations.ReceivedFramesAreSteered : Prop :=
  ∀ (p : Fin 4) (s : State),
    (∀ (bs : List Byte) (fcs : Bool) (ref : List Byte) (full : Bool),
      (s.bit (R.macCtrl_en p.val) = false → exec (.macRxFrame p bs fcs ref full) s = .next s.fin) ∧
      (s.bit (R.macCtrl_en p.val) = true →
        (bs.length + 4 ≤ 63 → Completes (.macRxFrame p bs fcs ref full) s (fun t => (t.macPort p.val).cnt = (s.macPort p.val).cnt.set 1 (((s.macPort p.val).cnt.getD 1 0 + 1) % 2 ^ 32) ∧ Frame [] [.mac] [] s t)) ∧
        (63 < bs.length + 4 → s.macMax p.val < bs.length + 4 → Completes (.macRxFrame p bs fcs ref full) s (fun t => (t.macPort p.val).cnt = (s.macPort p.val).cnt.set 2 (((s.macPort p.val).cnt.getD 2 0 + 1) % 2 ^ 32) ∧ Frame [] [.mac] [] s t)) ∧
        (63 < bs.length + 4 → bs.length + 4 ≤ s.macMax p.val →
          (fcs = false → Completes (.macRxFrame p bs fcs ref full) s (fun t => (t.macPort p.val).cnt = (s.macPort p.val).cnt.set 3 (((s.macPort p.val).cnt.getD 3 0 + 1) % 2 ^ 32) ∧
            tget 0 t.life.counts (278 + p.val) = Nat.min (2 ^ 48 - 1) (tget 0 s.life.counts (278 + p.val) + 1) ∧ Frame [] [.mac, .life] [] s t)) ∧
          (fcs = true →
            (frEther bs = 0x8808 → be16 bs (frType bs + 2) = 1 → ∀ quanta : BitVec 16, quanta.toNat = be16 bs (frType bs + 4) →
              exec (.macRxFrame p bs fcs ref full) s = exec (.pauseReceived p quanta) s) ∧
            (frEther bs = 0x8808 → be16 bs (frType bs + 2) = 0x0101 → Completes (.macRxFrame p bs fcs ref full) s (fun t => (t.macPort p.val).cnt = (s.macPort p.val).cnt.set 4 (((s.macPort p.val).cnt.getD 4 0 + 1) % 2 ^ 32) ∧ Frame [] [.mac] [] s t)) ∧
            (frEther bs ≠ 0x8808 → s.hwClaims p.val bs ref = true → Completes (.macRxFrame p bs fcs ref full) s (fun t => (t.macPort p.val).cnt = (s.macPort p.val).cnt.set 11 (((s.macPort p.val).cnt.getD 11 0 + 1) % 2 ^ 32) ∧ Frame [] [.mac] [] s t)) ∧
            (frEther bs = 0x88BA → s.hwClaims p.val bs ref = false → s.bit (R.macSteer_drop_sv p.val) = true → exec (.macRxFrame p bs fcs ref full) s = .next s.fin) ∧
            (frEther bs = 0x88B8 → s.hwClaims p.val bs ref = false → s.bit (R.macSteer_drop_goose p.val) = true → exec (.macRxFrame p bs fcs ref full) s = .next s.fin) ∧
            (frEther bs ≠ 0x88BA → frEther bs ≠ 0x88B8 → (frEther bs = 0x8808 → be16 bs (frType bs + 2) ≠ 1 ∧ be16 bs (frType bs + 2) ≠ 0x0101) →
              s.hwClaims p.val bs ref = false → s.macAccepts p.val bs = false → Completes (.macRxFrame p bs fcs ref full) s (fun t => (t.macPort p.val).cnt = (s.macPort p.val).cnt.set 4 (((s.macPort p.val).cnt.getD 4 0 + 1) % 2 ^ 32) ∧ Frame [] [.mac] [] s t)) ∧
            (∀ q : Nat, s.hwClaims p.val bs ref = false →
              ((frEther bs = 0x88BA ∧ s.bit (R.macSteer_drop_sv p.val) = false ∧ q = s.get (R.macSteer_sv_ring p.val)) ∨
               (frEther bs = 0x88B8 ∧ s.bit (R.macSteer_drop_goose p.val) = false ∧ q = s.get (R.macSteer_goose_ring p.val)) ∨
               (frEther bs ≠ 0x88BA ∧ frEther bs ≠ 0x88B8 ∧ (frEther bs = 0x8808 → be16 bs (frType bs + 2) ≠ 1 ∧ be16 bs (frType bs + 2) ≠ 0x0101) ∧
                 s.macAccepts p.val bs = true ∧ q = (if frEther bs = 0x88F7 then s.get (R.macSteer_ptp_ring p.val)
                   else s.get (R.macSteer_pcpmap p.val) / 4 ^ frPcp bs (s.get (R.macSteer_def_pcp p.val)) % 4))) →
              (full = true → Completes (.macRxFrame p bs fcs ref full) s (fun t => (t.macPort p.val).cnt = (s.macPort p.val).cnt.set 5 (((s.macPort p.val).cnt.getD 5 0 + 1) % 2 ^ 32) ∧ Frame [] [.mac] [] s t)) ∧
              (full = false → (s.bit (R.macRingCfg_en p.val q) = false ∨ s.ringOwned p.val q = 0) →
                Completes (.macRxFrame p bs fcs ref full) s (fun t => (t.macPort p.val).cnt = (s.macPort p.val).cnt.set 6 (((s.macPort p.val).cnt.getD 6 0 + 1) % 2 ^ 32) ∧ Pends t (macPage p.val) 9 ∧ Frame [] [.mac] [macPage p.val] s t)) ∧
              (full = false → s.bit (R.macRingCfg_en p.val q) = true → 0 < s.ringOwned p.val q →
                s.memCheck 5 (s.ringBase p.val q + 16 * (s.ringHead p.val q % s.ringSize p.val q)) 8 false ≠ none →
                Completes (.macRxFrame p bs fcs ref full) s (fun t => t.bit (R.macRingCfg_en p.val q) = false ∧ t.ringHead p.val q = s.ringHead p.val q ∧
                  ((s.hdr (macPage p.val)).errCode = 0 → (t.hdr (macPage p.val)).errCode = 0x0103) ∧
                  Frame (R.macRingCfg p.val q :: ((List.range 3).map (fun i => R.memFault.addr + 4 * i))) [] [macPage p.val, .mem] s t)) ∧
              (∀ (n total : Nat) (d buf : Nat → Nat), full = false → s.bit (R.macRingCfg_en p.val q) = true → 0 < s.ringOwned p.val q →
                total = (bs.length + 2047) / 2048 → n = Nat.min (s.ringOwned p.val q) total →
                (∀ k : Nat, k < n → d k = s.ringBase p.val q + 16 * ((s.ringHead p.val q + k) % s.ringSize p.val q) ∧
                  buf k = (s.word (d k)).toNat + (s.word (d k + 4)).toNat % 65536 * 2 ^ 32 ∧ PlainAccess s 5 (d k) 8 false ∧
                  PlainAccess s 5 (buf k) (Nat.min 2048 (bs.length - 2048 * k)) true ∧ PlainAccess s 5 (d k + 8) 8 true) →
                (∀ j k : Nat, j < n → k < n → (buf j + 2048 ≤ d k ∨ d k + 16 ≤ buf j) ∧ (j ≠ k → buf j + 2048 ≤ buf k ∨ buf k + 2048 ≤ buf j)) →
                Completes (.macRxFrame p bs fcs ref full) s (fun t =>
                  (total ≤ s.ringOwned p.val q → (t.macPort p.val).cnt = (s.macPort p.val).cnt.set 0 (((s.macPort p.val).cnt.getD 0 0 + 1) % 2 ^ 32)) ∧
                  (s.ringOwned p.val q < total → (t.macPort p.val).cnt = (s.macPort p.val).cnt.set 6 (((s.macPort p.val).cnt.getD 6 0 + 1) % 2 ^ 32) ∧ Pends t (macPage p.val) 9) ∧
                  t.ringHead p.val q = (s.ringHead p.val q + n) % s.ringSize p.val q ∧ Pends t (macPage p.val) (1 + q) ∧
                  (∀ k : Nat, k < n → memBytes t.mem (buf k) (Nat.min 2048 (bs.length - 2048 * k)) = (bs.drop (2048 * k)).take 2048 ∧
                    (t.word (d k + 8)).toNat % 65536 = (if s.ringOwned p.val q < total then 0 else Nat.min 2048 (bs.length - 2048 * k)) ∧
                    (t.word (d k + 8)).getLsbD 16 = true ∧ (t.word (d k + 8)).getLsbD 17 = (k == 0) ∧
                    (t.word (d k + 8)).getLsbD 18 = (k + 1 == total && decide (total ≤ s.ringOwned p.val q)) ∧
                    (t.word (d k + 8)).getLsbD 19 = decide (s.ringOwned p.val q < total) ∧ (t.word (d k + 8)).getLsbD 20 = frTagged bs ∧
                    (t.word (d k + 8)).toNat / 2 ^ 21 % 4 = rxCsum bs ∧
                    (t.word (d k + 8)).toNat / 2 ^ 23 % 8 = frPcp bs (s.get (R.macSteer_def_pcp p.val)) ∧ t.word (d k + 12) = s.tstamp) ∧
                  (∀ a : Nat, (∀ k : Nat, k < n → (a < buf k ∨ buf k + Nat.min 2048 (bs.length - 2048 * k) ≤ a) ∧ (a < d k + 8 ∨ d k + 16 ≤ a)) →
                    memByte t.mem a = memByte s.mem a) ∧
                  Frame [R.macRingIdx p.val q] [.mac, .mem, .sram] [macPage p.val] s t))))))) ∧
    (∀ (m : Master) (v : Word), Reaches s m (macPage p.val) →
      (∀ r : Fin 4, Completes (.rxTailWrite m p r v) s (fun t => t.get (R.macRingIdx_tail p.val r.val) = v.toNat / 2 ^ 16 ∧
        t.ringHead p.val r.val = s.ringHead p.val r.val ∧ Frame [R.macRingIdx p.val r.val] [] [] s t)) ∧
      (∀ q : Fin 8,
        (s.bit (R.macRingCfg_en p.val q.val) = true →
          (∀ w : Fin 3, w ≠ 2 → exec (.macRingCfgWrite m p q w v) s = .next (s.raise (macPage p.val) 0x0102 m.val).fin) ∧
          ((v.getLsbD 0 = true ∨ (R.macRingCfg_log2 p.val q.val).of v ≠ s.get (R.macRingCfg_log2 p.val q.val)) →
            exec (.macRingCfgWrite m p q 2 v) s = .next (s.raise (macPage p.val) 0x0102 m.val).fin) ∧
          (v.getLsbD 0 = false → (R.macRingCfg_log2 p.val q.val).of v = s.get (R.macRingCfg_log2 p.val q.val) →
            Completes (.macRingCfgWrite m p q 2 v) s (fun t => t.bit (R.macRingCfg_en p.val q.val) = false ∧
              t.get (R.macRingCfg_log2 p.val q.val) = s.get (R.macRingCfg_log2 p.val q.val) ∧ Frame [R.macRingCfg p.val q.val] [] [] s t))) ∧
        (s.bit (R.macRingCfg_en p.val q.val) = false →
          Completes (.macRingCfgWrite m p q 0 v) s (fun t => t.reg (R.macRingBaseLo p.val q.val) = v ∧ Frame [R.macRingBaseLo p.val q.val] [] [] s t) ∧
          Completes (.macRingCfgWrite m p q 1 v) s (fun t => t.get (R.macRingBaseHi_base p.val q.val) = v.toNat % 65536 ∧
            Frame [R.macRingBaseHi p.val q.val] [] [] s t) ∧
          Completes (.macRingCfgWrite m p q 2 v) s (fun t => t.bit (R.macRingCfg_en p.val q.val) = v.getLsbD 0 ∧
            t.get (R.macRingCfg_log2 p.val q.val) = (R.macRingCfg_log2 p.val q.val).of v ∧
            t.reg (R.macRingIdx p.val q.val) = (if v.getLsbD 0 then 0 else s.reg (R.macRingIdx p.val q.val)) ∧
            Frame [R.macRingCfg p.val q.val, R.macRingIdx p.val q.val] [] [] s t))) ∧
      ((v.toNat % 2 ^ 14 < 64 ∨ 9600 < v.toNat % 2 ^ 14) → exec (.macMaxlenWrite m p v) s = .next (s.raise (macPage p.val) 0x0101 m.val).fin) ∧
      (64 ≤ v.toNat % 2 ^ 14 → v.toNat % 2 ^ 14 ≤ 9600 → Completes (.macMaxlenWrite m p v) s (fun t =>
        t.macMax p.val = v.toNat % 2 ^ 14 ∧ Frame [R.macMaxlen p.val] [] [] s t)))

/-- TX_FRAME first drops SV frames overdue by 10 µs, counts them and pends the GOS EDGE source 3. Of a port that is disabled,
without link, paused or busy nothing goes out; else the oldest PTP frame; without one the oldest GOOSE frame with the port's
address; then the oldest SV frame; then of the highest host ring that has one the next segment of its large send, or the frame
of its granted descriptors to EOF: STATUS and frames as txBuild gives them, a rejected one or one whose access fails going out
in no frame. txBuild: of a frame without insertions 60 to MAC_MAXLEN − 4 bytes go as they stand, fewer are padded to 60 under
PAD_EN, else TX_SHORT, more TX_LONG; VLAN_INS adds the tag after the addresses; one-step insertion over IPv6 is TS_BAD; a
large send outside its limits is LSO_BAD, else it gives ceil(P / MSS) segments with template and payload. TX_FRAME_COMPLETE
counts TX_OK for each frame sent; after the last, or a rejection (TX_ERR, TXERR), it writes words 5 to 7 of every descriptor,
moves HEAD and pends TXr; STATUS ADDR also clears the ring's EN and records RING_ADDR. A PAUSE frame counts RX_PAUSE;
honoured, it sets PAUSED, quanta 0 or PAUSE_EXPIRY clears it and adds the µs held. MAC_LINK_CHANGE sets LINK and RATE, a
change being an EDGE. MAC_CNT completes with the counters while EN = 1. (R295, R296, R297, R298, R122, R289, R51,
18_network_ports.md) -/
def Obligations.PortsSendInStrictPriority : Prop :=
  (∀ (p : Fin 4) (s : State),
    (exec (.txFrame p) s = exec (.txFrame p) (svDrop p.val s) ∧
      (∀ f : SvTx, TxItem.sv f ∈ ((svDrop p.val s).macPort p.val).svQ ↔ TxItem.sv f ∈ (s.macPort p.val).svQ ∧ s.time.ticks ≤ f.due + 2500) ∧
      ((∃ f : SvTx, TxItem.sv f ∈ (s.macPort p.val).svQ ∧ f.due + 2500 < s.time.ticks) → Pends (svDrop p.val s) .gos 3) ∧
      SameBut [.mac, .gos] s (svDrop p.val s) ∧ OnlyRegs [] s (svDrop p.val s)) ∧
    ((∀ f : SvTx, TxItem.sv f ∈ (s.macPort p.val).svQ → s.time.ticks ≤ f.due + 2500) →
      ((s.bit (R.macCtrl_en p.val) = false ∨ s.bit (R.macStat_link p.val) = false ∨ s.bit (R.macStat_paused p.val) = true ∨ (s.macPort p.val).wire ≠ none) →
        exec (.txFrame p) s = .next s.fin) ∧
      (s.bit (R.macCtrl_en p.val) = true → s.bit (R.macStat_link p.val) = true → s.bit (R.macStat_paused p.val) = false → (s.macPort p.val).wire = none →
        (∀ (f : TxItem) (l : List TxItem), (s.macPort p.val).ptpQ = f :: l → Completes (.txFrame p) s (fun t =>
          t.out = s.out ++ [.frame p.val f] ∧ (t.macPort p.val).ptpQ = l ∧ (t.macPort p.val).gooseQ = (s.macPort p.val).gooseQ ∧ Frame [] [.mac, .out] [] s t)) ∧
        ((s.macPort p.val).ptpQ = [] →
          (∀ (f : GooseTx) (l : List TxItem), (s.macPort p.val).gooseQ = .goose f :: l → Completes (.txFrame p) s (fun t =>
            t.out = s.out ++ [.frame p.val (.goose { f with src := s.macAddr p.val })] ∧ (t.macPort p.val).gooseQ = l ∧
            t.gos.frames = (s.gos.frames + 1) % 2 ^ 32 ∧ Frame [] [.mac, .out, .gos] [] s t)) ∧
          ((s.macPort p.val).gooseQ = [] →
            (∀ (f : SvTx) (l : List TxItem), (s.macPort p.val).svQ = .sv f :: l → Completes (.txFrame p) s (fun t =>
              t.out = s.out ++ [.frame p.val (.sv { f with src := s.macAddr p.val })] ∧ (t.macPort p.val).svQ = l ∧ Frame [] [.mac, .out] [] s t)) ∧
            ((s.macPort p.val).svQ = [] →
              ((∀ r : Nat, r < 4 → s.bit (R.macRingCfg_en p.val (4 + r)) = false ∧ tget none (s.macPort p.val).part r = none) → exec (.txFrame p) s = .next s.fin) ∧
              (∀ (r : Nat) (h : HostTx), r < 4 → (∀ r' : Nat, r < r' → r' < 4 → s.bit (R.macRingCfg_en p.val (4 + r')) = false ∧ tget none (s.macPort p.val).part r' = none) → tget none (s.macPort p.val).part r = some h → h.ring = r → Completes (.txFrame p) s (fun t =>
                (t.macPort p.val).wire = some { h with next := h.next + 1 } ∧ tget none (t.macPort p.val).part r = none ∧
                t.out = s.out ++ [.frame p.val (.host { h with frames := (h.frames.drop h.next).take 1 })] ∧ Frame [] [.mac, .out] [] s t)) ∧
              (∀ (r n : Nat) (d : Nat → Nat) (w : Nat → List Nat), r < 4 → (∀ r' : Nat, r < r' → r' < 4 → s.bit (R.macRingCfg_en p.val (4 + r')) = false ∧ tget none (s.macPort p.val).part r' = none) → tget none (s.macPort p.val).part r = none →
                s.bit (R.macRingCfg_en p.val (4 + r)) = true → n < s.ringOwned p.val (4 + r) →
                (∀ k : Nat, k ≤ n → d k = s.ringBase p.val (4 + r) + 32 * ((s.ringHead p.val (4 + r) + k) % s.ringSize p.val (4 + r)) ∧
                  PlainAccess s 5 (d k) 24 false ∧ w k = (List.range 6).map (fun j => (s.word (d k + 4 * j)).toNat) ∧
                  ((w k).getD 2 0).testBit 20 = (k == n)) →
                ∀ ix : List Nat, ix = (List.range (n + 1)).map (fun k => (s.ringHead p.val (4 + r) + k) % s.ringSize p.val (4 + r)) →
                ((∀ k : Nat, k ≤ n → 0 < (w k).getD 2 0 % 2 ^ 19 → PlainAccess s 5 ((w k).getD 0 0 + (w k).getD 1 0 % 65536 * 2 ^ 32) ((w k).getD 2 0 % 2 ^ 19) false) →
                  ∀ f : Nat × List (List Byte), f = txBuild s p.val (ix.zip ((List.range (n + 1)).map w))
                      ((List.range (n + 1)).map (fun k => memBytes s.mem ((w k).getD 0 0 + (w k).getD 1 0 % 65536 * 2 ^ 32) ((w k).getD 2 0 % 2 ^ 19))) →
                  (f.1 = 0 → Completes (.txFrame p) s (fun t => (∃ h : HostTx, (t.macPort p.val).wire = some { h with next := 1 } ∧
                    t.out = s.out ++ [.frame p.val (.host { h with frames := f.2.take 1 })] ∧ h.ring = r ∧ h.idx = ix ∧ h.frames = f.2 ∧ h.status = 0 ∧ h.next = 0 ∧
                    h.ts = (if (w 0).getD 2 0 / 2 ^ 24 % 4 = 1 ∨ (w 0).getD 2 0 / 2 ^ 24 % 4 = 2 then some (s.wallSec, BitVec.ofNat 32 s.wallSub) else none)) ∧
                    Frame [] [.mac, .out] [] s t)) ∧
                  (f.1 ≠ 0 → Completes (.txFrame p) s (fun t => (∃ h : HostTx, (t.macPort p.val).wire = some h ∧
                    h.ring = r ∧ h.idx = ix ∧ h.frames = [] ∧ h.status = f.1) ∧ Frame [] [.mac] [] s t))) ∧
                (0 < (w 0).getD 2 0 % 2 ^ 19 → s.memCheck 5 ((w 0).getD 0 0 + (w 0).getD 1 0 % 65536 * 2 ^ 32) ((w 0).getD 2 0 % 2 ^ 19) false ≠ none →
                  Completes (.txFrame p) s (fun t => (∃ h : HostTx, (t.macPort p.val).wire = some h ∧ h.ring = r ∧ h.idx = ix ∧ h.frames = [] ∧ h.status = 5) ∧
                    Frame ((List.range 3).map (fun i => R.memFault.addr + 4 * i)) [.mac] [.mem] s t)))))))) ∧
    ((s.macPort p.val).wire = none → exec (.txFrameComplete p) s = .next s.fin) ∧
    (∀ h : HostTx, (s.macPort p.val).wire = some h → h.status = 0 → h.next < h.frames.length → Completes (.txFrameComplete p) s (fun t =>
      (t.macPort p.val).wire = none ∧ tget none (t.macPort p.val).part h.ring = some h ∧ (t.macPort p.val).cnt = (s.macPort p.val).cnt.set 8 (((s.macPort p.val).cnt.getD 8 0 + 1) % 2 ^ 32) ∧ Frame [] [.mac] [] s t)) ∧
    (∀ h : HostTx, (s.macPort p.val).wire = some h → (h.status ≠ 0 ∨ h.frames.length ≤ h.next) → h.ring < 4 → h.idx.Nodup →
      ∀ a : Nat → Nat, (∀ i ∈ h.idx, a i = s.ringBase p.val (4 + h.ring) + 32 * i + 20 ∧ PlainAccess s 5 (a i) 12 true) →
      Completes (.txFrameComplete p) s (fun t =>
        (t.macPort p.val).wire = none ∧
        (∀ i ∈ h.idx, t.word (a i + 4) = BitVec.ofNat 32 (1 + h.status * 2 + h.frames.length % 65536 * 2 ^ 16) ∧
          ∀ x y : Word, h.ts = some (x, y) → t.word (a i) = x ∧ t.word (a i + 8) = y) ∧
        (∀ b : Nat, (∀ i ∈ h.idx, b < a i ∨ a i + 12 ≤ b) → memByte t.mem b = memByte s.mem b) ∧
        t.ringHead p.val (4 + h.ring) = (s.ringHead p.val (4 + h.ring) + h.idx.length) % s.ringSize p.val (4 + h.ring) ∧ Pends t (macPage p.val) (5 + h.ring) ∧
        (h.status = 0 → (t.macPort p.val).cnt = (s.macPort p.val).cnt.set 8 (((s.macPort p.val).cnt.getD 8 0 + 1) % 2 ^ 32)) ∧
        (h.status ≠ 0 → (t.macPort p.val).cnt = (s.macPort p.val).cnt.set 9 (((s.macPort p.val).cnt.getD 9 0 + 1) % 2 ^ 32) ∧ Pends t (macPage p.val) 10) ∧
        (h.status ≠ 5 → Frame [R.macRingIdx p.val (4 + h.ring)] [.mac, .mem, .free, .sram] [macPage p.val] s t) ∧
        (h.status = 5 → t.bit (R.macRingCfg_en p.val (4 + h.ring)) = false ∧
          ((s.hdr (macPage p.val)).errCode = 0 → (t.hdr (macPage p.val)).errCode = 0x0103) ∧
          Frame [R.macRingIdx p.val (4 + h.ring), R.macRingCfg p.val (4 + h.ring)] [.mac, .mem, .free, .sram] [macPage p.val] s t))) ∧
    (∀ (m : Master) (r : Fin 4) (v : Word), Reaches s m (macPage p.val) → Completes (.txTailWrite m p r v) s (fun t =>
      t.get (R.macRingIdx_tail p.val (4 + r.val)) = v.toNat / 2 ^ 16 ∧ t.ringHead p.val (4 + r.val) = s.ringHead p.val (4 + r.val) ∧
      Frame [R.macRingIdx p.val (4 + r.val)] [] [] s t)) ∧
    (∀ quanta : BitVec 16,
      (s.bit (R.macCtrl_en p.val) = false → exec (.pauseReceived p quanta) s = .next s.fin) ∧
      (s.bit (R.macCtrl_en p.val) = true →
        (s.bit (R.macCtrl_ignore_pause p.val) = true → Completes (.pauseReceived p quanta) s (fun t => (t.macPort p.val).cnt = (s.macPort p.val).cnt.set 7 (((s.macPort p.val).cnt.getD 7 0 + 1) % 2 ^ 32) ∧ Frame [] [.mac] [] s t)) ∧
        (s.bit (R.macCtrl_ignore_pause p.val) = false → Completes (.pauseReceived p quanta) s (fun t => t.bit (R.macStat_paused p.val) = (quanta != 0) ∧
          (7 < (s.macPort p.val).cnt.length → (t.macPort p.val).cnt.getD 7 0 = ((s.macPort p.val).cnt.getD 7 0 + 1) % 2 ^ 32) ∧
          (t.macPort p.val).cnt.getD 10 0 = (if quanta = 0 ∧ s.bit (R.macStat_paused p.val) = true ∧ 10 < (s.macPort p.val).cnt.length then
            ((s.macPort p.val).cnt.getD 10 0 + (s.time.ticks - (s.macPort p.val).pausedAt) * 4 / 1000) % 2 ^ 32 else (s.macPort p.val).cnt.getD 10 0) ∧
          (quanta ≠ 0 → (t.macPort p.val).pausedAt = (if s.bit (R.macStat_paused p.val) then (s.macPort p.val).pausedAt else s.time.ticks)) ∧
          Frame [R.macStat p.val] [.mac, .gos] [.gos] s t)))) ∧
    (s.bit (R.macStat_paused p.val) = true → Completes (.pauseExpiry p) s (fun t => t.bit (R.macStat_paused p.val) = false ∧
      (t.macPort p.val).cnt = (s.macPort p.val).cnt.set 10 (((s.macPort p.val).cnt.getD 10 0 + (s.time.ticks - (s.macPort p.val).pausedAt) * 4 / 1000) % 2 ^ 32) ∧
      (∀ f : SvTx, TxItem.sv f ∈ (t.macPort p.val).svQ → s.time.ticks ≤ f.due + 2500) ∧ Frame [R.macStat p.val] [.mac, .gos] [.gos] s t)) ∧
    (s.bit (R.macStat_paused p.val) = false → exec (.pauseExpiry p) s = .next (svDrop p.val s).fin) ∧
    (∀ (up : Bool) (rate : Fin 4), Completes (.macLinkChange p up rate) s (fun t => t.bit (R.macStat_link p.val) = up ∧
      t.get (R.macStat_rate p.val) = (if p.val < 2 then 0 else Nat.max 1 rate.val) ∧
      ((s.bit (R.macStat_link p.val) ≠ up ∨ s.get (R.macStat_rate p.val) ≠ t.get (R.macStat_rate p.val)) → Pends t (macPage p.val) 0) ∧
      t.bit (R.macStat_paused p.val) = s.bit (R.macStat_paused p.val) ∧ Frame [R.macStat p.val] [] [macPage p.val] s t)) ∧
    (s.bit (R.macCtrl_en p.val) = false → exec (.macCntInterval p) s = .next s.fin) ∧
    (s.bit (R.macCtrl_en p.val) = true → Completes (.macCntInterval p) s (fun t => t.groupValid (R.macCnt p.val) = true ∧
      (∀ i : Nat, i < 12 → i < (s.macPort p.val).cnt.length → t.groupWord (R.macCnt p.val) (i + 1) = BitVec.ofNat 32 ((s.macPort p.val).cnt.getD i 0)) ∧
      Frame ((List.range 13).map (fun i => (R.macCnt p.val).addr + 4 * i)) [] [macPage p.val] s t))) ∧
  (∀ (s : State) (p w2 w3 w4 : Nat) (ds : List (Nat × List Nat)) (bufs : List (List Byte)),
    ds.head?.map (fun x => (x.2.getD 2 0, x.2.getD 3 0, x.2.getD 4 0)) = some (w2, w3, w4) → ∀ bs : List Byte, bs = bufs.flatten →
    (w2 / 2 ^ 21 % 8 = 0 → w2 / 2 ^ 24 % 4 ≠ 2 →
      (s.macMax p - 4 < bs.length → txBuild s p ds bufs = (2, [])) ∧
      (60 ≤ bs.length → bs.length ≤ s.macMax p - 4 → txBuild s p ds bufs = (0, [bs])) ∧
      (bs.length < 60 → bs.length ≤ s.macMax p - 4 → s.bit (R.macCtrl_pad_en p) = false → txBuild s p ds bufs = (1, [])) ∧
      (bs.length < 60 → bs.length ≤ s.macMax p - 4 → s.bit (R.macCtrl_pad_en p) = true →
        txBuild s p ds bufs = (0, [bs ++ List.replicate (60 - bs.length) 0]))) ∧
    (w2 / 2 ^ 21 % 8 = 4 → w2 / 2 ^ 24 % 4 ≠ 2 → 60 ≤ bs.length → bs.length + 4 ≤ s.macMax p - 4 →
      txBuild s p ds bufs = (0, [bs.take 12 ++ [0x81#8, 0x00#8, BitVec.ofNat 8 (w4 / 2 ^ 24), BitVec.ofNat 8 (w4 / 2 ^ 16)] ++ bs.drop 12])) ∧
    (w2 / 2 ^ 21 % 8 = 0 → w2 / 2 ^ 24 % 4 = 2 → 60 ≤ bs.length → bs.length ≤ s.macMax p - 4 → frEther bs = 0x86DD →
      18 ≤ (ds.headD (0, [])).2.getD 5 0 % 256 → (ds.headD (0, [])).2.getD 5 0 % 256 + 10 ≤ bs.length → txBuild s p ds bufs = (4, [])) ∧
    (w2.testBit 21 = true →
      ((w3 % 256 < 14 ∨ 128 < w3 % 256 ∨ (bufs.headD []).length < w3 % 256 ∨ s.macMax p - 4 < w3 % 256 + w4 % 2 ^ 14 ∨ w4 % 2 ^ 14 < 64 ∨
          bs.length - w3 % 256 = 0 ∨ 262144 < bs.length - w3 % 256) → txBuild s p ds bufs = (3, [])) ∧
      (14 ≤ w3 % 256 → w3 % 256 ≤ 128 → w3 % 256 ≤ (bufs.headD []).length → w3 % 256 + w4 % 2 ^ 14 ≤ s.macMax p - 4 → 64 ≤ w4 % 2 ^ 14 →
          0 < bs.length - w3 % 256 → bs.length - w3 % 256 ≤ 262144 →
        (txBuild s p ds bufs).1 = 0 ∧ (txBuild s p ds bufs).2.length = (bs.length - w3 % 256 + w4 % 2 ^ 14 - 1) / (w4 % 2 ^ 14) ∧
        (∀ x ∈ (txBuild s p ds bufs).2, 60 ≤ x.length) ∧
        (w2.testBit 23 = false → w3 / 2 ^ 8 % 128 + 20 ≤ w3 / 2 ^ 15 % 128 → w3 / 2 ^ 15 % 128 + 20 ≤ w3 % 256 → w3.testBit 22 = false →
          ∀ (i : Nat) (x : List Byte), (txBuild s p ds bufs).2[i]? = some x →
            (x.drop (w3 % 256)).take (Nat.min (w4 % 2 ^ 14) (bs.length - w3 % 256 - i * (w4 % 2 ^ 14))) = (bs.drop (w3 % 256 + i * (w4 % 2 ^ 14))).take (w4 % 2 ^ 14) ∧
            be16 x (w3 / 2 ^ 8 % 128 + 2) = (w3 % 256 - w3 / 2 ^ 8 % 128 + Nat.min (w4 % 2 ^ 14) (bs.length - w3 % 256 - i * (w4 % 2 ^ 14))) % 65536 ∧
            be16 x (w3 / 2 ^ 8 % 128 + 4) = (be16 bs (w3 / 2 ^ 8 % 128 + 4) + i) % 65536))))

/-- GOOSE_RETRANSMIT of an enabled dataset with a state and an open gate queues one frame on each of its ports and on no other,
with the same stNum, sqNum one higher (2^32 − 1 goes to 1), the interval doubled up to TMAX and timeAllowedtoLive TAL_MULT
times it; else it does nothing. A received frame of a dataset's address and APPID from another source raises the largest stNum
heard. For the one subscription a frame matches: a wrong confRev, ndsCom or entry count discards it with its flag and FAILED;
a simulated frame with SIM = 0 sets SIMDROP; a repeat of stNum and sqNum counts RX_DUP, takes a FAILED subscription back to
RUN and leaves another alone; any other frame is accepted into RUN, counted, with RESTART where stNum fell; the status entry
in memory follows where the access is granted, and no byte outside it changes. GOOSE_TAL_EXPIRY takes RUN to STALE and every
input of the subscription is invalid. GIN_HOLD_END takes up the oldest waiting value or ends the hold. GOS_CNT completes while
an enable is set. (R300, R301, R303, R304, R51, 18_network_ports.md) -/
def Obligations.GooseIsPublishedAndJudged : Prop :=
  ∀ (s : State),
    (∀ d : Fin 128,
      (s.bit R.gosCtrl_gp_en = true → s.dsEn d.val = true → (s.ds d.val).on = true → s.dsOpen d.val = true →
        Completes (.gooseRetransmit d) s (fun t =>
          t.ds d.val = { s.ds d.val with sqNum := gNext (s.ds d.val).sqNum, ivl := Nat.min (2 * (s.ds d.val).ivl) (s.dsTmax d.val) } ∧
          (∀ p : Nat, p ∈ s.dsPorts d.val → ∃ f : GooseTx, (t.macPort p).gooseQ = (s.macPort p).gooseQ ++ [.goose f] ∧ f.ds = d.val ∧
            f.first = false ∧ f.stNum = (s.ds d.val).stNum ∧ f.sqNum = gNext (s.ds d.val).sqNum ∧ f.vals = (s.ds d.val).vals ∧
            f.tal = s.dsMult d.val * Nat.min (2 * (s.ds d.val).ivl) (s.dsTmax d.val)) ∧
          (∀ p : Nat, p ∉ s.dsPorts d.val → t.macPort p = s.macPort p) ∧ Frame [] [.gos, .mac] [] s t)) ∧
      ((s.bit R.gosCtrl_gp_en = false ∨ s.dsEn d.val = false ∨ (s.ds d.val).on = false ∨ s.dsOpen d.val = false) →
        exec (.gooseRetransmit d) s = .next s.fin)) ∧
    (∀ f : GooseRx,
      Completes (.gooseFrameReceived f) s (fun t =>
        (∀ d : Nat, d < 128 → s.dsEn d = true → f.port ∈ s.dsPorts d → s.dsIdentity d = (f.dmac, f.appid) → f.src ≠ s.macAddr f.port →
          t.ds d = { s.ds d with heard := Nat.max (s.ds d).heard f.stNum }) ∧
        (s.bit R.gosCtrl_gs_en = false → t.gos.sub = s.gos.sub ∧ Frame [] [.gos] [] s t)) ∧
      (∀ k : Nat, k < 512 → s.bit R.gosCtrl_gs_en = true →
        (List.range 512).filter (fun j => s.subMatches j f.port f.dmac f.appid f.ref) = [k] →
        (f.confRev ≠ (s.word (subAddr k + 12)).toNat → Completes (.gooseFrameReceived f) s (fun t =>
          t.sub k = { s.sub k with st := 4, flags := 1 } ∧ (s.memCheck 5 (0x1430000 + 0x10 * k) 16 true = none → t.word (0x1430000 + 0x10 * k) = 12#32 ∧ OnlyRegs (R.gosStat :: ((List.range 16).map R.gosGsStale ++ (List.range 32).map R.gosGinState ++ (List.range 32).map R.gosGinInv)) s t) ∧ t.gos.rxAccept = s.gos.rxAccept ∧ SameMemoryBut (0x1430000 + 0x10 * k) 16 s t ∧ Frame ((R.gosStat :: ((List.range 16).map R.gosGsStale ++ (List.range 32).map R.gosGinState ++ (List.range 32).map R.gosGinInv)) ++ ((List.range 3).map (fun i => R.memFault.addr + 4 * i))) [.gos, .mem, .trm] [.mem] s t)) ∧
        (f.confRev = (s.word (subAddr k + 12)).toNat →
          (f.ndsCom = true → Completes (.gooseFrameReceived f) s (fun t => t.sub k = { s.sub k with st := 4, flags := 2 } ∧
            (s.memCheck 5 (0x1430000 + 0x10 * k) 16 true = none → t.word (0x1430000 + 0x10 * k) = 20#32 ∧ OnlyRegs (R.gosStat :: ((List.range 16).map R.gosGsStale ++ (List.range 32).map R.gosGinState ++ (List.range 32).map R.gosGinInv)) s t) ∧ SameMemoryBut (0x1430000 + 0x10 * k) 16 s t ∧ Frame ((R.gosStat :: ((List.range 16).map R.gosGsStale ++ (List.range 32).map R.gosGinState ++ (List.range 32).map R.gosGinInv)) ++ ((List.range 3).map (fun i => R.memFault.addr + 4 * i))) [.gos, .mem, .trm] [.mem] s t)) ∧
          (f.ndsCom = false → f.vals.length ≠ (s.word (subAddr k)).toNat / 2 ^ 6 % 128 → Completes (.gooseFrameReceived f) s (fun t =>
            t.sub k = { s.sub k with st := 4, flags := 4 } ∧ (s.memCheck 5 (0x1430000 + 0x10 * k) 16 true = none → t.word (0x1430000 + 0x10 * k) = 36#32 ∧ OnlyRegs (R.gosStat :: ((List.range 16).map R.gosGsStale ++ (List.range 32).map R.gosGinState ++ (List.range 32).map R.gosGinInv)) s t) ∧ SameMemoryBut (0x1430000 + 0x10 * k) 16 s t ∧ Frame ((R.gosStat :: ((List.range 16).map R.gosGsStale ++ (List.range 32).map R.gosGinState ++ (List.range 32).map R.gosGinInv)) ++ ((List.range 3).map (fun i => R.memFault.addr + 4 * i))) [.gos, .mem, .trm] [.mem] s t)) ∧
          (f.ndsCom = false → f.vals.length = (s.word (subAddr k)).toNat / 2 ^ 6 % 128 →
            (f.sim = true → (s.word (subAddr k)).getLsbD 5 = false → Completes (.gooseFrameReceived f) s (fun t =>
              t.sub k = { s.sub k with flags := (s.sub k).flags ||| 8 } ∧ t.gos.rxAccept = s.gos.rxAccept ∧ SameMemoryBut (0x1430000 + 0x10 * k) 16 s t ∧ Frame ((R.gosStat :: ((List.range 16).map R.gosGsStale ++ (List.range 32).map R.gosGinState ++ (List.range 32).map R.gosGinInv)) ++ ((List.range 3).map (fun i => R.memFault.addr + 4 * i))) [.gos, .mem, .trm] [.mem] s t)) ∧
            ((f.sim = false ∨ (s.word (subAddr k)).getLsbD 5 = true) →
              ((s.sub k).some_ = true → f.stNum = (s.sub k).stNum → f.sqNum = (s.sub k).sqNum →
                Completes (.gooseFrameReceived f) s (fun t => t.sub k = (if (s.sub k).st = 4 then { s.sub k with st := 2, flags := 0 } else s.sub k) ∧
                  t.gos.rxDup = (s.gos.rxDup + 1) % 2 ^ 32 ∧ t.gos.rxAccept = s.gos.rxAccept ∧
                  ((s.sub k).st ≠ 4 → Frame [] [.gos] [] s t) ∧ SameMemoryBut (0x1430000 + 0x10 * k) 16 s t ∧ Frame ((R.gosStat :: ((List.range 16).map R.gosGsStale ++ (List.range 32).map R.gosGinState ++ (List.range 32).map R.gosGinInv)) ++ ((List.range 3).map (fun i => R.memFault.addr + 4 * i))) [.gos, .mem, .trm] [.mem] s t)) ∧
              (((s.sub k).some_ = false ∨ f.stNum ≠ (s.sub k).stNum ∨ f.sqNum ≠ (s.sub k).sqNum) →
                Completes (.gooseFrameReceived f) s (fun t => (t.sub k).st = 2 ∧ (t.sub k).stNum = f.stNum ∧ (t.sub k).sqNum = f.sqNum ∧
                  (t.sub k).vals = f.vals ∧ (t.sub k).sim = f.sim ∧
                  (t.sub k).flags = (if (s.sub k).some_ = true ∧ f.stNum < (s.sub k).stNum then 16 else 0) ∧
                  t.gos.rxAccept = (s.gos.rxAccept + 1) % 2 ^ 32 ∧
                  (s.memCheck 5 (0x1430000 + 0x10 * k) 16 true = none → t.word (0x1430000 + 0x10 * k + 4) = BitVec.ofNat 32 f.stNum ∧ t.word (0x1430000 + 0x10 * k + 8) = BitVec.ofNat 32 f.sqNum ∧ t.word (0x1430000 + 0x10 * k + 12) = s.tstamp ∧ OnlyRegs (R.gosStat :: ((List.range 16).map R.gosGsStale ++ (List.range 32).map R.gosGinState ++ (List.range 32).map R.gosGinInv)) s t) ∧
                  SameMemoryBut (0x1430000 + 0x10 * k) 16 s t ∧ Frame ((R.gosStat :: ((List.range 16).map R.gosGsStale ++ (List.range 32).map R.gosGinState ++ (List.range 32).map R.gosGinInv)) ++ ((List.range 3).map (fun i => R.memFault.addr + 4 * i))) [.gos, .mem, .trm] [.mem] s t))))))) ∧
    (∀ k : Fin 512,
      ((s.sub k.val).st = 2 → Completes (.gooseTalExpiry k) s (fun t => t.sub k.val = { s.sub k.val with st := 3 } ∧
        (∀ i : Nat, i < 1024 → (s.word (0x1432000 + 4 * i)).toNat % 512 = k.val → (t.gin i).valid = false ∧ t.arrBit (R.gosGinInv 0) i = true) ∧
        (∀ i : Nat, i < 1024 → (s.word (0x1432000 + 4 * i)).toNat % 512 ≠ k.val → t.gin i = s.gin i) ∧
        SameMemoryBut (0x1430000 + 0x10 * k.val) 16 s t ∧ Frame ((R.gosStat :: ((List.range 16).map R.gosGsStale ++ (List.range 32).map R.gosGinState ++ (List.range 32).map R.gosGinInv)) ++ ((List.range 3).map (fun i => R.memFault.addr + 4 * i))) [.gos, .mem, .trm] [.mem] s t)) ∧
      ((s.sub k.val).st ≠ 2 → exec (.gooseTalExpiry k) s = .next s.fin)) ∧
    (∀ n : Fin 1024,
      ((s.gin n.val).pend = [] → Completes (.ginHoldEnd n) s (fun t => t.gin n.val = { s.gin n.val with hold := false } ∧
        Frame [R.gosGinState (n.val / 32), R.gosGinInv (n.val / 32)] [.gos] [] s t)) ∧
      (∀ (v x : Bool) (rest : List (Bool × Bool)), (s.gin n.val).pend = (v, x) :: rest → Completes (.ginHoldEnd n) s (fun t =>
        t.gin n.val = { s.gin n.val with valid := true, val := v, test := x, hold := true, pend := rest } ∧ t.trm.request = true ∧
        t.arrBit (R.gosGinState 0) n.val = v ∧ t.arrBit (R.gosGinInv 0) n.val = false ∧
        Frame [R.gosGinState (n.val / 32), R.gosGinInv (n.val / 32)] [.gos, .trm] [] s t))) ∧
    ((s.bit R.gosCtrl_gp_en = false → s.bit R.gosCtrl_gs_en = false → s.bit R.gosCtrl_svp_en = false → exec .gosCntInterval s = .next s.fin) ∧
      ((s.bit R.gosCtrl_gp_en = true ∨ s.bit R.gosCtrl_gs_en = true ∨ s.bit R.gosCtrl_svp_en = true) → Completes .gosCntInterval s (fun t =>
        t.groupValid R.gosCnt = true ∧ t.groupWord R.gosCnt 1 = BitVec.ofNat 32 s.gos.states ∧ t.groupWord R.gosCnt 2 = BitVec.ofNat 32 s.gos.frames ∧
        t.groupWord R.gosCnt 3 = BitVec.ofNat 32 s.gos.merged ∧ t.groupWord R.gosCnt 4 = BitVec.ofNat 32 s.gos.rxAccept ∧
        t.groupWord R.gosCnt 5 = BitVec.ofNat 32 s.gos.rxDup ∧ t.groupWord R.gosCnt 6 = BitVec.ofNat 32 s.gos.svpDrop ∧
        Frame ((List.range 7).map (fun i => R.gosCnt.addr + 4 * i)) [] [.gos] s t)))

/-- EVENT_ARRIVAL with no arrival waiting does nothing; else it takes the oldest. Once the intake is closed it counts LOST; with
EN = 0 it is not recorded; with 65,535 unflushed entries it is dropped, counts LOST and sets OVERFLOW with the EDGE source 1.
Else, outside Squall and with no drops: its eight words are written at NEXT (where R9 and R328 grant the ring to master 7, as
all memory words said here), NEXT and U grow by one modulo 2^32, a flush runs once U ≥ THR, and no other byte changes; with
SQ_EN = 1 and U reaching SQ_ON a SQUALL_ON entry follows and SQUALL = 1. After drops an OVERFLOW marker comes first and
OVERFLOW ends; with SQ_EN = 0 the event is the next entry. In Squall an event of a coalesced class whose key has an unflushed
count entry adds one to it in place; one whose key has a normal entry appends a count entry with COAL and DATA0 = 1.
EVENT_FLUSH_PERIOD starts a flush where U > 0. EVENT_FLUSH_DONE leaves U = 0, each entry in the journal as in the ring,
overwrites the oldest beyond 262,144, ends Squall with a SQUALL_OFF entry that is flushed too, completes EVR_POS, and pends
FLUSHED for a flush a trip started. (R305, R306, R308, R309, R310, R51, 19_recorders.md) -/
def Obligations.EventsAreRecorded : Prop :=
  ∀ (s : State), s.evr.next < 2 ^ 32 → s.evr.unfl < 2 ^ 32 → s.evr.oldest < 2 ^ 32 →
    (s.evr.queue = [] → exec .eventArrival s = .next s.fin) ∧
    (∀ (e : Event) (rest : List Event), s.evr.queue = e :: rest →
      (s.evr.closed = true → Completes .eventArrival s (fun t => t.evr = { s.evr with queue := rest, lost := (s.evr.lost + 1) % 2 ^ 32 } ∧ Frame [] [.evr] [] s t)) ∧
      (s.evr.closed = false → s.bit R.evrCtrl_en = false → Completes .eventArrival s (fun t =>
        t.evr = { s.evr with queue := rest } ∧ Frame [] [.evr] [] s t)) ∧
      (s.evr.closed = false → s.bit R.evrCtrl_en = true →
        (65535 ≤ s.evU → Completes .eventArrival s (fun t => t.evr = { s.evr with
            queue := rest, lost := (s.evr.lost + 1) % 2 ^ 32, drops := s.evr.drops + 1, sqLost := s.evr.sqLost + 1,
            dropFirst := if s.evr.drops = 0 then e.ts else s.evr.dropFirst, dropLast := e.ts } ∧
          t.bit R.evrStat_overflow = true ∧ Pends t .evr 1 ∧ Frame [R.evrStat] [.evr] [.evr] s t)) ∧
        (s.evU < 65535 →
          (s.evr.drops = 0 → (s.bit R.evrStat_squall = false ∨ s.bit R.evrCtrl_sq_en = false ∨ s.keyEntries e = [] ∨ e.cls < 0x10 ∨ 0x13 < e.cls) →
            (s.bit R.evrStat_squall = true ∨ s.bit R.evrCtrl_sq_en = false ∨ s.evU + 1 < s.get R.evrSq_sq_on) →
            Completes .eventArrival s (fun t => t.evr.queue = rest ∧ t.evr.next = (s.evr.next + 1) % 2 ^ 32 ∧ t.evU = s.evU + 1 ∧ t.evr.lost = s.evr.lost ∧
              (s.memCheck 7 (evAddr s.evr.next) 32 true = none →
                ∀ k : Nat, k < 8 → t.word (evAddr s.evr.next + 4 * k) = (e.words s.evr.next).getD k 0) ∧ t.bit R.evrStat_squall = s.bit R.evrStat_squall ∧
              t.bit R.evrStat_flushing = (s.bit R.evrStat_flushing || decide (Nat.max 1 (s.get R.evrFlush_thr) ≤ s.evU + 1)) ∧
              SameMemoryBut (evAddr s.evr.next) 32 s t ∧ Frame (R.evrStat :: ((List.range 3).map (fun i => R.memFault.addr + 4 * i))) [.evr, .mem] [.mem] s t)) ∧
          (s.evr.drops = 0 → s.bit R.evrStat_squall = false → s.bit R.evrCtrl_sq_en = true → s.get R.evrSq_sq_on ≤ s.evU + 1 →
            Completes .eventArrival s (fun t => t.evr.queue = rest ∧ t.evr.next = (s.evr.next + 2) % 2 ^ 32 ∧ t.bit R.evrStat_squall = true ∧
              t.evr.sqRep = 0 ∧ t.evr.sqLost = 0 ∧
              (EventMemory s → (∀ k : Nat, k < 8 → t.word (evAddr s.evr.next + 4 * k) = (e.words s.evr.next).getD k 0) ∧
                (t.word (evAddr (s.evr.next + 1) + 16)).toNat = 0x41 ∧ t.word (evAddr (s.evr.next + 1) + 20) = BitVec.ofNat 32 (s.evU + 1)) ∧
              Frame (R.evrStat :: ((List.range 3).map (fun i => R.memFault.addr + 4 * i))) [.evr, .mem] [.mem] s t)) ∧
          (s.evr.drops ≠ 0 → Completes .eventArrival s (fun t => t.evr.queue = rest ∧ t.evr.drops = 0 ∧ t.bit R.evrStat_overflow = false ∧
            (EventMemory s → t.word (evAddr s.evr.next + 4) = s.evr.dropFirst ∧ (t.word (evAddr s.evr.next + 16)).toNat = 0xC1 ∧
              t.word (evAddr s.evr.next + 20) = BitVec.ofNat 32 s.evr.drops ∧ t.word (evAddr s.evr.next + 24) = s.evr.dropLast) ∧
            (s.bit R.evrCtrl_sq_en = false → t.evr.next = (s.evr.next + 2) % 2 ^ 32 ∧
              (EventMemory s → ∀ k : Nat, k < 8 → t.word (evAddr (s.evr.next + 1) + 4 * k) = (e.words ((s.evr.next + 1) % 2 ^ 32)).getD k 0)) ∧
            Frame (R.evrStat :: ((List.range 3).map (fun i => R.memFault.addr + 4 * i))) [.evr, .mem] [.mem] s t)) ∧
          (∀ (q : Nat) (b : Bool) (l : List (Nat × Bool)), s.evr.drops = 0 → s.bit R.evrStat_squall = true → s.bit R.evrCtrl_sq_en = true →
            0x10 ≤ e.cls → e.cls ≤ 0x13 → s.keyEntries e = (q, b) :: l →
            (b = true → Completes .eventArrival s (fun t => t.evr.queue = rest ∧ t.evr.next = s.evr.next ∧ t.evr.sqRep = s.evr.sqRep + 1 ∧
              (s.memCheck 7 (evAddr q) 32 true = none → t.word (evAddr q + 20) = s.word (evAddr q + 20) + 1 ∧ t.word (evAddr q + 24) = e.ts ∧
                (t.word (evAddr q + 28)).toNat % 2 ^ 16 = e.d2 % 2 ^ 16 ∧ t.word (evAddr q + 4) = s.word (evAddr q + 4)) ∧
              SameMemoryBut (evAddr q) 32 s t ∧ Frame ((List.range 3).map (fun i => R.memFault.addr + 4 * i)) [.evr, .mem] [.mem] s t)) ∧
            (b = false → Completes .eventArrival s (fun t => t.evr.queue = rest ∧ t.evr.next = (s.evr.next + 1) % 2 ^ 32 ∧ t.evr.sqRep = s.evr.sqRep + 1 ∧
              (s.memCheck 7 (evAddr s.evr.next) 32 true = none → ∀ k : Nat, k < 8 →
                t.word (evAddr s.evr.next + 4 * k) = (({ e with coal := true, d0 := 1, d1 := e.ts } : Event).words s.evr.next).getD k 0) ∧
              SameMemoryBut (evAddr s.evr.next) 32 s t ∧ Frame (R.evrStat :: ((List.range 3).map (fun i => R.memFault.addr + 4 * i))) [.evr, .mem] [.mem] s t)))))) ∧
    ((s.bit R.evrCtrl_en = false ∨ s.evr.closed = true ∨ s.evU = 0) → exec .eventFlushPeriod s = .next s.fin) ∧
    (s.bit R.evrCtrl_en = true → s.evr.closed = false → s.evU ≠ 0 → Completes .eventFlushPeriod s (fun t =>
      t.bit R.evrStat_flushing = true ∧ Frame [R.evrStat] [] [] s t)) ∧
    (s.bit R.evrStat_flushing = false → exec .eventFlushDone s = .next s.fin) ∧
    (s.bit R.evrStat_flushing = true → s.evU ≤ 65535 →
      (s.bit R.evrStat_squall = false → Completes .eventFlushDone s (fun t => t.evU = 0 ∧ t.evr.next = s.evr.next ∧ t.evr.unfl = s.evr.next ∧
        (∀ i : Nat, i < s.evU → tget [] t.evr.journal ((s.evr.unfl + i) % 262144) =
          (List.range 8).map (fun k => s.word (evAddr (s.evr.unfl + i) + 4 * k))) ∧
        t.evr.oldest = (if 262144 < (s.evr.next + 2 ^ 32 - s.evr.oldest) % 2 ^ 32 then (s.evr.next + 2 ^ 32 - 262144) % 2 ^ 32 else s.evr.oldest) ∧
        t.bit R.evrStat_flushing = false ∧ (s.evr.tripFlush = true → Pends t .evr 2) ∧ t.evr.tripFlush = false ∧ t.groupValid R.evrPos = true ∧
        t.groupWord R.evrPos 1 = BitVec.ofNat 32 s.evr.next ∧
        Frame (R.evrStat :: (List.range 5).map (fun i => R.evrPos.addr + 4 * i)) [.evr] [.evr] s t)) ∧
      (s.bit R.evrStat_squall = true → Completes .eventFlushDone s (fun t => t.evU = 0 ∧ t.bit R.evrStat_squall = false ∧
        t.evr.next = (s.evr.next + 1) % 2 ^ 32 ∧ t.evr.unfl = t.evr.next ∧
        (∀ i : Nat, i < s.evU → tget [] t.evr.journal ((s.evr.unfl + i) % 262144) =
          (List.range 8).map (fun k => s.word (evAddr (s.evr.unfl + i) + 4 * k))) ∧
        tget [] t.evr.journal (s.evr.next % 262144) = (List.range 8).map (fun k => t.word (evAddr s.evr.next + 4 * k)) ∧
        (s.memCheck 7 (evAddr s.evr.next) 32 true = none → (t.word (evAddr s.evr.next + 16)).toNat = 0x81 ∧
          t.word (evAddr s.evr.next + 20) = BitVec.ofNat 32 s.evr.sqRep ∧ t.word (evAddr s.evr.next + 24) = BitVec.ofNat 32 s.evr.sqLost) ∧
        t.bit R.evrStat_flushing = false ∧ (s.evr.tripFlush = true → Pends t .evr 2) ∧ t.groupValid R.evrPos = true ∧
        SameMemoryBut (evAddr s.evr.next) 32 s t ∧ Frame (R.evrStat :: (((List.range 3).map (fun i => R.memFault.addr + 4 * i)) ++ (List.range 5).map (fun i => R.evrPos.addr + 4 * i))) [.evr, .mem] [.evr, .mem] s t))) ∧
    Completes .evrPosInterval s (fun t => t.groupValid R.evrPos = true ∧ t.groupWord R.evrPos 1 = BitVec.ofNat 32 s.evr.next ∧
      t.groupWord R.evrPos 2 = BitVec.ofNat 32 s.evr.unfl ∧ t.groupWord R.evrPos 3 = BitVec.ofNat 32 s.evr.oldest ∧
      t.groupWord R.evrPos 4 = BitVec.ofNat 32 s.evr.lost ∧ Frame ((List.range 5).map (fun i => R.evrPos.addr + 4 * i)) [] [.evr] s t)

/-- For an UNLOCKED EVR page: a write of EVR_CURSOR stores SEQ, drops VALID of EVR_WIN_ST and asks for a load; a write to
EVR_USER1 adds a USER event with the master's ID and both data words. WINDOW_LOAD_DONE without a load does nothing; else, SEQ
compared modulo 2^32: for OLDEST ≤ SEQ < NEXT it gives NVALID = min(8, NEXT − SEQ), each entry from the ring where it is still
there and else from the journal, with its bit of JRNL and, where its CRC fails, of BAD, and words beyond NVALID read 0; below
OLDEST NVALID = 0, GONE = 1 and FIRST = OLDEST; from NEXT on NVALID = 0; it completes EVR_WIN_ST with the EDGE source 4. ARM
or CONFIRM by a master whose regions do not grant the whole ring is dropped with CLR_PERM. ARM shows a key other than 0 for
that master. CONFIRM with the key from the master that armed, the Ladle not running, makes OLDEST the old NEXT, ends Squall
and the flush, and writes a CLEARED entry there (where master 7 is granted it), LOST unchanged; any other CONFIRM disarms and
records CLR_KEY. EVR_CLEAR_KEY_EXPIRY disarms. (R307, R312, R313, R51, 19_recorders.md) -/
def Obligations.EventsAreReadAndCleared : Prop :=
  ∀ (s : State),
    (∀ (m : Master) (v : Word), Reaches s m .evr →
      Completes (.evrCursorWrite m v) s (fun t => t.reg R.evrCursor = v ∧ t.evr.load = some v.toNat ∧ t.groupValid R.evrWinSt = false ∧
        Frame [R.evrCursor, R.evrWinSt.addr] [.evr] [] s t) ∧
      Completes (.evrUserEvent m v) s (fun t => (∃ e : Event, t.evr.queue = s.evr.queue ++ [e] ∧ e.cls = 0x3F ∧ e.code = 0 ∧ e.index = m.val ∧
        e.d0 = s.reg R.evrUser0 ∧ e.d1 = v ∧ e.ts = s.tstamp) ∧ Frame [] [.evr] [] s t) ∧
      (s.regionOk m.val 0x1480000 0x200000 true = false →
        exec (.evrClearArm m v) s = .next (s.raise .evr 0x0102 m.val).fin ∧ exec (.evrClearConfirm m v) s = .next (s.raise .evr 0x0102 m.val).fin) ∧
      (s.regionOk m.val 0x1480000 0x200000 true = true →
        Completes (.evrClearArm m v) s (fun t => t.evr.armed = some m.val ∧ t.get R.evrClrkey_key ≠ 0 ∧ t.evr.oldest = s.evr.oldest ∧
          t.evr.next = s.evr.next ∧ Frame [R.evrClrkey] [.evr, .free] [] s t) ∧
        (s.evr.armed = some m.val → R.evrClr_key.of v = s.get R.evrClrkey_key → s.bit R.sysStat_ladle = false → s.evr.next < 2 ^ 32 →
          Completes (.evrClearConfirm m v) s (fun t => t.evr.oldest = s.evr.next ∧ t.evr.unfl = s.evr.next ∧ t.evr.next = (s.evr.next + 1) % 2 ^ 32 ∧
            t.evr.lost = s.evr.lost ∧ t.evr.queue = s.evr.queue ∧ t.evr.armed = none ∧ t.get R.evrClrkey_key = 0 ∧ t.bit R.evrStat_squall = false ∧
            (1 < s.get R.evrFlush_thr → t.bit R.evrStat_flushing = false) ∧
            (s.memCheck 7 (evAddr s.evr.next) 32 true = none → (t.word (evAddr s.evr.next + 16)).toNat = 1 ∧
              t.word (evAddr s.evr.next + 20) = BitVec.ofNat 32 ((s.evr.next + 2 ^ 32 - s.evr.oldest) % 2 ^ 32) ∧
              (t.word (evAddr s.evr.next + 28)).toNat % 2 ^ 16 = m.val) ∧ Pends t .evr 3 ∧
            SameMemoryBut (evAddr s.evr.next) 32 s t ∧ Frame (R.evrStat :: R.evrClrkey :: ((List.range 3).map (fun i => R.memFault.addr + 4 * i))) [.evr, .mem] [.evr, .mem] s t)) ∧
        ((s.evr.armed ≠ some m.val ∨ R.evrClr_key.of v ≠ s.get R.evrClrkey_key ∨ s.bit R.sysStat_ladle = true) →
          Completes (.evrClearConfirm m v) s (fun t => t.evr = { s.evr with armed := none } ∧ t.get R.evrClrkey_key = 0 ∧
            ((s.hdr .evr).errCode = 0 → (t.hdr .evr).errCode = 0x0101 ∧ (t.hdr .evr).errMaster = BitVec.ofNat 4 m.val) ∧
            Frame [R.evrClrkey] [.evr] [.evr] s t)))) ∧
    Completes .evrClearKeyExpiry s (fun t => t.evr = { s.evr with armed := none } ∧ t.get R.evrClrkey_key = 0 ∧ Frame [R.evrClrkey] [.evr] [] s t) ∧
    (s.evr.load = none → exec .windowLoadDone s = .next s.fin) ∧
    (∀ q b h : Nat, s.evr.load = some q → b = (s.evr.next + 2 ^ 32 - q) % 2 ^ 32 → h = (s.evr.next + 2 ^ 32 - s.evr.oldest) % 2 ^ 32 →
      s.evr.next < 2 ^ 32 → q < 2 ^ 32 → s.evr.oldest < 2 ^ 32 →
      Completes .windowLoadDone s (fun t => t.evr = { s.evr with load := none } ∧ t.groupValid R.evrWinSt = true ∧ Pends t .evr 4 ∧
        (0 < b → b ≤ h → t.groupWord R.evrWinSt 1 = BitVec.ofNat 32 q ∧ (t.groupWord R.evrWinSt 2).toNat % 32 = Nat.min 8 b ∧
          (∀ e : Nat, e < Nat.min 8 b →
            (b - e ≤ 65536 → (∀ k : Nat, k < 8 → t.reg (R.evrWin (8 * e + k)) = s.word (evAddr (q + e) + 4 * k)) ∧
              (t.groupWord R.evrWinSt 2).getLsbD (13 + e) = false ∧ (t.groupWord R.evrWinSt 2).getLsbD (5 + e) = false) ∧
            (65536 < b - e → ∀ ws : List Word, tget [] s.evr.journal ((q + e) % 262144) = ws → ws.length = 8 →
              (∀ k : Nat, k < 8 → t.reg (R.evrWin (8 * e + k)) = ws.getD k 0) ∧ (t.groupWord R.evrWinSt 2).getLsbD (13 + e) = true ∧
              (t.groupWord R.evrWinSt 2).getLsbD (5 + e) =
                decide (crc16 (bytesOf (ws.take 7) ++ leBytes 2 ((ws.getD 7 0).toNat % 2 ^ 16)) ≠ (ws.getD 7 0).toNat / 2 ^ 16))) ∧
          (∀ e k : Nat, Nat.min 8 b ≤ e → e < 8 → k < 8 → t.reg (R.evrWin (8 * e + k)) = 0)) ∧
        (h < b → b < 2 ^ 31 → t.groupWord R.evrWinSt 1 = BitVec.ofNat 32 s.evr.oldest ∧ (t.groupWord R.evrWinSt 2).toNat = 16) ∧
        ((b = 0 ∨ (h < b ∧ 2 ^ 31 ≤ b)) → t.groupWord R.evrWinSt 1 = BitVec.ofNat 32 q ∧ (t.groupWord R.evrWinSt 2).toNat = 0) ∧
        Frame ((List.range 3).map (fun i => R.evrWinSt.addr + 4 * i) ++ (List.range 64).map R.evrWin) [.evr] [.evr] s t))

/-- For an UNLOCKED DRC page: a write that sets EN is dropped with STORE_OFF or RING_SHORT (R315), else RUN = 1 with an empty
history; while EN = 1 it sets RETRIG alone; clearing EN ends every record still in its post-fault time. DRC_CMD.TRIG with EN =
0 does nothing; with EN = 1 it pends TRIG and starts a flush: with RETRIG = 1 and a record running whose 60 s have not passed,
its end moves; else with four records open, or the store not READY, FULL or with 4096 entries (log entry 91), it counts LOST,
pends LOST and completes DRC_LAST with REC 0; else a record NEWEST + 1 with cause 0xFFF opens, RECORD_COMMIT OPEN is offered
to the journal, its directory entry is OPEN with the header of R320, and DRC_LAST names it. DRC_POST_END ends the oldest
record still running. RECORD_EXTENT_WRITTEN takes the oldest record with an extent to write, none beyond its last row nor
across a change of the scale table; its rows and their CRC go to the card, the 16th, the last and one at a change as
checkpoints; one the log cannot give ends the record with TRUNC, FULL where the log is full. RECORD_SEAL closes the oldest
record copied to its end: final checkpoint, entry SEALED, RECORD_COMMIT DONE, SEALED pending, STO_DIR complete. None stores in
memory. (R315, R316, R317, R319, R320, R321, R323, R51, 19_recorders.md) -/
def Obligations.DisturbancesAreRecorded : Prop :=
  ∀ (s : State),
    (∀ (m : Master) (v : Word), Reaches s m .drc →
      (s.bit R.drcCtrl_en = false → v.getLsbD 0 = true →
        (s.bit R.stoStat_ready = false → exec (.drcCtrlWrite m v) s = .next (s.raise .drc 0x0103 m.val).fin) ∧
        (s.bit R.stoStat_ready = true →
          (s.drcCap * 1000000000 * s.drcDec < (s.drcPre + 2000000000) * (if s.tracked then s.gridN * 70 else s.presetRate) →
            exec (.drcCtrlWrite m v) s = .next (s.raise .drc 0x0102 m.val).fin) ∧
          ((s.drcPre + 2000000000) * (if s.tracked then s.gridN * 70 else s.presetRate) ≤ s.drcCap * 1000000000 * s.drcDec →
            Completes (.drcCtrlWrite m v) s (fun t => t.bit R.drcCtrl_en = true ∧ t.bit R.drcCtrl_retrig = v.getLsbD 1 ∧ t.bit R.drcStat_run = true ∧
              t.drc.written = 0 ∧ t.drc.times = [] ∧ t.drc.recs = s.drc.recs ∧ Frame [R.drcCtrl, R.drcStat] [.drc] [] s t)))) ∧
      (s.bit R.drcCtrl_en = true → v.getLsbD 0 = true → Completes (.drcCtrlWrite m v) s (fun t => t.bit R.drcCtrl_en = true ∧
        t.bit R.drcCtrl_retrig = v.getLsbD 1 ∧ Frame [R.drcCtrl] [] [] s t)) ∧
      (v.getLsbD 0 = false → Completes (.drcCtrlWrite m v) s (fun t => t.bit R.drcCtrl_en = false ∧ t.bit R.drcCtrl_retrig = v.getLsbD 1 ∧
        t.bit R.drcStat_run = false ∧ t.bit R.drcStat_recording = false ∧
        t.drc.recs = s.drc.recs.map (fun r => if r.last.isNone then { r with last := some s.drc.written } else r) ∧
        Frame [R.drcCtrl, R.drcStat] [.drc] [] s t)) ∧
      ((v.getLsbD 0 = false ∨ s.bit R.drcCtrl_en = false) → exec (.drcCmdTrig m v) s = .next s.fin) ∧
      (v.getLsbD 0 = true → s.bit R.drcCtrl_en = true →
        (∀ r : DrcRec, s.bit R.drcCtrl_retrig = true → s.drc.recs.reverse.find? (fun r => r.last.isNone && decide (s.nsOf (s.headWord s.lastRow 1) < r.t0 + 60000000000)) = some r → Completes (.drcCmdTrig m v) s (fun t =>
          t.drc = { s.drc with recs := s.drc.recs.map (fun x => if x.id = r.id then 
            { x with end_ := Nat.max x.end_ (Nat.min (s.nsOf (s.headWord s.lastRow 1) + s.drcPost) (r.t0 + 60000000000)) } else x) } ∧
          Pends t .drc 0 ∧ t.groupValid R.drcLast = true ∧ t.groupWord R.drcLast 1 = BitVec.ofNat 32 r.id ∧ t.groupWord R.drcLast 5 = 1 ∧
          (∃ e : Event, t.evr.queue = s.evr.queue ++ [e] ∧ e.cls = 0x30 ∧ e.code = 0 ∧ e.index = 0xFFF ∧ e.d0 = BitVec.ofNat 32 r.id) ∧
          t.bit R.evrStat_flushing = true ∧ Frame (R.evrStat :: (List.range 6).map (fun i => R.drcLast.addr + 4 * i)) [.drc, .evr] [.drc] s t)) ∧
        ((s.bit R.drcCtrl_retrig = false ∨ s.drc.recs.reverse.find? (fun r => r.last.isNone && decide (s.nsOf (s.headWord s.lastRow 1) < r.t0 + 60000000000)) = none) →
          ((4 ≤ s.drc.recs.length ∨ s.stoOff = true) → Completes (.drcCmdTrig m v) s (fun t =>
            t.drc = { s.drc with lost := Nat.min 0xFFFF (s.drc.lost + 1) } ∧
            (∃ e : Event, t.evr.queue = s.evr.queue ++ [e] ∧ e.cls = 0x30 ∧ e.code = 3 ∧ e.index = 0xFFF) ∧ Pends t .drc 0 ∧ Pends t .drc 2 ∧
            t.groupValid R.drcLast = true ∧ t.groupWord R.drcLast 1 = 0 ∧ t.groupWord R.drcLast 5 = 0 ∧
            t.bit R.evrStat_flushing = true ∧ Frame (R.evrStat :: (List.range 6).map (fun i => R.drcLast.addr + 4 * i)) [.drc, .evr] [.drc] s t)) ∧
          (s.drc.recs.length < 4 → s.stoOff = false → Completes (.drcCmdTrig m v) s (fun t =>
            (∃ r : DrcRec, r.id = s.sto.newest + 1 ∧ r.cause = 0xFFF ∧ r.row = s.lastRow ∧ r.t0 = s.nsOf (s.headWord s.lastRow 1) ∧
              r.end_ = r.t0 + s.drcPost ∧ r.first = s.drcFirst (r.t0 - s.drcPre) ∧
              t.drc.recs.map (fun x => (x.id, x.cause, x.row, x.t0, x.end_, x.first)) =
                s.drc.recs.map (fun x => (x.id, x.cause, x.row, x.t0, x.end_, x.first)) ++ [(r.id, r.cause, r.row, r.t0, r.end_, r.first)]) ∧
            ((∀ x ∈ s.sto.recs, x.id ≠ s.sto.newest + 1) → ∃ x ∈ t.sto.recs, x.id = s.sto.newest + 1 ∧ x.st = .open_ ∧ x.cause = 0xFFF ∧
              x.t0 = s.nsOf (s.headWord s.lastRow 1) ∧ x.data = [] ∧ x.header.magic = [0x4A#8, 0x58#8, 0x52#8, 0x31#8] ∧ x.header.id = x.id ∧
              x.header.serialLo = s.reg R.galSerialLo ∧ x.header.serialHi = s.reg R.galSerialHi ∧ x.header.member = s.get R.galStat_id ∧
              x.header.row = s.lastRow ∧ x.header.gridTime = x.t0 ∧ x.header.offset = (s.wallNs : Int) - (s.gridNs : Int) ∧
              x.header.cause = 0xFFF ∧ x.header.lines = 0 ∧ x.header.mode = s.get R.gridCfg_mode ∧ x.header.n = s.gridN ∧ x.header.dec = s.drcDec ∧
              x.header.nq = s.drcNq ∧ x.header.rowSize = s.drcRowSize ∧ x.header.pre = s.get R.drcCfg_pre ∧ x.header.post = s.get R.drcCfg_post ∧
              x.header.scales = s.drcScaleOf (s.drcFirst (x.t0 - s.drcPre)) ∧
              x.header.pheCfg = (List.range 576).map (fun q => s.reg (R.pheQCfg q)) ∧
              x.header.gridCfg = (List.range 576).map (fun q => s.reg (R.gridQCfg q)) ∧
              x.header.esel = (List.range 32).map (fun i => s.reg (R.drcEsel i))) ∧
            t.sto.newest = s.sto.newest + 1 ∧ t.drc.lost = s.drc.lost ∧ Pends t .drc 0 ∧ t.groupValid R.drcLast = true ∧
            t.groupWord R.drcLast 1 = BitVec.ofNat 32 (s.sto.newest + 1) ∧ t.groupWord R.drcLast 5 = 0 ∧ t.groupValid R.stoDir = true ∧
            t.jrnl.nextOp = (s.jrnl.nextOp + 1) % 2 ^ 32 ∧
            (s.jRoom = true → ∃ e : JEntry, t.jrnl.queue = s.jrnl.queue ++ [e] ∧ e.opid = s.jrnl.nextOp ∧ e.cls = 3 ∧ e.kind = 0 ∧
              e.data = [BitVec.ofNat 32 (s.sto.newest + 1)]) ∧
            (∃ e ∈ t.evr.queue, e.cls = 0x30 ∧ e.code = 0 ∧ e.index = 0xFFF ∧ e.d0 = BitVec.ofNat 32 (s.sto.newest + 1)) ∧
            t.bit R.evrStat_flushing = true ∧
            Frame (R.evrStat :: R.drcStat :: R.stoStat :: ((List.range 6).map (fun i => R.drcLast.addr + 4 * i) ++ (List.range 5).map (fun i => R.stoDir.addr + 4 * i))) [.drc, .evr, .sto, .jrnl] [.drc, .sto, .jrnl] s t))))) ∧
    ((∀ r ∈ s.drc.recs, r.last ≠ none) → exec .drcPostEnd s = .next s.fin) ∧
    (∀ (pre : List DrcRec) (r : DrcRec) (l : List DrcRec), s.drc.recs = pre ++ r :: l → (∀ x ∈ pre ++ l, x.id ≠ r.id) →
      ((∀ x ∈ pre, x.last ≠ none) → r.last = none → Completes .drcPostEnd s (fun t =>
        t.drc = { s.drc with recs := pre ++ { r with last := some (s.drcAfter r.end_) } :: l } ∧ Frame [R.drcStat] [.drc] [] s t)) ∧
      (∀ c : Nat, (∀ x ∈ pre, s.drcExtEnd x = none) → s.drcExtEnd r = some c →
        c ≤ s.drc.written ∧ c ≤ r.copied + s.extRows ∧ (∀ n : Nat, r.last = some n → c ≤ n) ∧ (∀ x, s.drcChange r = some x → c ≤ x.1) ∧
        (∀ s' : State, s.stoTake r.id = some s' → Completes .recordExtentWritten s (fun t =>
          t.drc.recs = pre ++ { r with copied := c, extents := r.extents + 1, carried := if (s.drcChange r).any (fun x => decide (x.1 = c)) then c else r.carried } :: l ∧
          t.sto.pos = s'.sto.pos ∧
          t.sto.recs = s'.sto.recs.map (fun x => if x.id = r.id then { x with rows := c - r.first, data := x.data ++ [s.dataExtent r x c] } else x) ∧
          Frame ((List.range 5).map (fun i => R.stoDir.addr + 4 * i)) [.drc, .sto] [.sto] s t)) ∧
        (s.stoTake r.id = none → Completes .recordExtentWritten s (fun t =>
          t.drc = { s.drc with recs := pre ++ { r with last := some r.copied, trunc := true } :: l, trunc := Nat.min 0xFFFF (s.drc.trunc + 1) } ∧
          t.bit R.stoStat_full = (s.bit R.stoStat_full || s.stoLogFull) ∧ Pends t .drc 3 ∧
          (∃ e : Event, t.evr.queue = s.evr.queue ++ [e] ∧ e.cls = 0x30 ∧ e.code = 2 ∧ e.d0 = BitVec.ofNat 32 r.id) ∧
          Frame [R.drcStat, R.stoStat] [.drc, .evr] [.drc] s t))) ∧
      ((∀ x ∈ pre, ¬ (x.last = some x.copied ∧ s.drcExtEnd x = none)) → r.last = some r.copied → s.drcExtEnd r = none →
        Completes .recordSeal s (fun t => t.drc.recs = pre ++ l ∧
          t.sto.recs = s.sto.recs.map (fun x => if x.id = r.id then { x with st := .sealed_, trunc := r.trunc, data := x.finalCheck, seq := x.seq + 1 } else x) ∧
          Pends t .drc 1 ∧ t.groupValid R.stoDir = true ∧
          (∀ op : OpenOp, s.jFind (fun o => o.opid == r.opid) = some op → (∀ o ∈ t.jrnl.ops, o.opid ≠ op.opid) ∧
            (s.jRoom = true → ∃ e : JEntry, t.jrnl.queue = s.jrnl.queue ++ [e] ∧ e.opid = op.opid ∧ e.kind = 2 ∧ e.outcome = (if r.trunc then 1 else 0) ∧
              e.data = [BitVec.ofNat 32 r.id])) ∧
          (∃ e : Event, t.evr.queue = s.evr.queue ++ [e] ∧ e.cls = 0x30 ∧ e.code = 1 ∧ e.d0 = BitVec.ofNat 32 r.id) ∧
          Frame (R.drcStat :: (List.range 5).map (fun i => R.stoDir.addr + 4 * i)) [.drc, .sto, .jrnl, .evr] [.drc, .sto, .jrnl] s t))) ∧
    (∀ (r : DrcRec) (x : StoRec) (c : Nat),
      (s.dataExtent r x c).rows = (List.range (c - r.copied)).flatMap (fun i => memBytes s.mem (s.drcSlot (r.copied + i)) s.drcRowSize) ∧
      (s.dataExtent r x c).crc = crc32 (s.dataExtent r x c).rows ∧
      ((s.dataExtent r x c).check.isSome = true ↔ r.last = some c ∨ (r.extents + 1) % 16 = 0 ∨ ∃ y, s.drcChange r = some y ∧ y.1 = c) ∧
      (∀ k : Checkpoint, (s.dataExtent r x c).check = some k → k.rows = c - r.first ∧
        (∀ y, s.drcChange r = some y → y.1 = c → k.scales = some (y.2.1, y.2.2))) ∧
      (x.data ≠ [] → ∃ y : DataExtent, x.finalCheck.getLast? = some y ∧ y.check.isSome = true)) ∧
    ((∀ r ∈ s.drc.recs, s.drcExtEnd r = none) → exec .recordExtentWritten s = .next s.fin) ∧
    ((∀ r ∈ s.drc.recs, ¬ (r.last = some r.copied ∧ s.drcExtEnd r = none)) → exec .recordSeal s = .next s.fin) ∧
    (s.bit R.drcCtrl_en = false → exec .drcStatInterval s = .next s.fin) ∧
    (s.bit R.drcCtrl_en = true → Completes .drcStatInterval s (fun t => t.groupValid R.drcSt = true ∧ t.drc = { s.drc with lagMax := 0 } ∧
      t.groupWord R.drcSt 3 = BitVec.ofNat 32 (s.drc.lost + s.drc.trunc * 2 ^ 16) ∧
      Frame ((List.range 4).map (fun i => R.drcSt.addr + 4 * i)) [.drc] [.drc] s t))

/-- STO_INIT with EN = 1 sets READY and MODE, keeps the card's extents, marks OPEN entries without a running record UNSEALED and
completes STO_CARD and STO_DIR. For an UNLOCKED STO page: an OP while BUSY is dropped with STO_BUSY; without the card it is
accepted with STATUS CARD; of an unknown record STATUS is NOREC. READ of a sealed or salvaged record within its length, and of
an open one up to its last checkpoint, copies its bytes (rows of its data extents; the rest comes with the command, log entry
53) to STO_DST with STATUS OK; beyond, or by a LEN above 16 MB or no multiple of 512, RANGE; where a region, a claim or a bank
refuses the store nothing is copied and STATUS is one of 1 to 4 (log entry 83); a store to another member ends either way
(99). DELETE removes a sealed record; KEEP and UNKEEP change its KEEP; SALVAGE of an UNSEALED record makes it SALVAGED at its
last checkpoint; in a wrong state STATUS is STATE (which states are wrong: log entry 53). FORMAT without the key or while DRC
EN = 1 is dropped with STO_KEY, else it empties the directory. DIRENT copies 256 bytes. An accepted OP sets BUSY and drops
VALID of STO_RES; STO_COMMAND_DONE ends BUSY, completes STO_RES and pends CMD_DONE. CARD_TIMEOUT ends READY, pends CARD_ERR,
open records end, and a running command ends with CARD. (R318, R322, R323, R324, R51, 19_recorders.md) -/
def Obligations.RecordStoreCommandsRun : Prop :=
  ∀ (s : State),
    (∀ (sectors : Word) (eol lifeA lifeB : Byte) (mode : Fin 4),
      (s.bit R.stoCtrl_en = false → exec (.stoInit sectors eol lifeA lifeB mode) s = .next s.fin) ∧
      (s.bit R.stoCtrl_en = true → Completes (.stoInit sectors eol lifeA lifeB mode) s (fun t => t.bit R.stoStat_ready = true ∧
        t.get R.stoStat_mode = mode.val ∧ t.sto.extents = Nat.min 65536 (sectors.toNat / 2048) ∧
        t.sto.recs = s.sto.recs.map (fun r => if r.st = .open_ ∧ (∀ x ∈ s.drc.recs, x.id ≠ r.id) then { r with st := .unsealed } else r) ∧
        t.groupWord R.stoCard 1 = sectors ∧ t.groupValid R.stoCard = true ∧
        t.groupWord R.stoCard 2 = BitVec.ofNat 32 (eol.toNat + lifeA.toNat * 2 ^ 8 + lifeB.toNat * 2 ^ 16) ∧ t.groupValid R.stoDir = true ∧
        Frame (R.stoStat :: ((List.range 3).map (fun i => R.stoCard.addr + 4 * i) ++ (List.range 5).map (fun i => R.stoDir.addr + 4 * i))) [.sto] [.sto] s t))) ∧
    (∀ (m : Master) (v : Word) (data : List Byte), Reaches s m .sto →
      (s.bit R.stoStat_busy = true → exec (.stoRead m v data) s = .next (s.raise .sto 0x0101 m.val).fin ∧
          exec (.stoDelete m v) s = .next (s.raise .sto 0x0101 m.val).fin ∧
          exec (.stoKeep m v) s = .next (s.raise .sto 0x0101 m.val).fin ∧
          exec (.stoUnkeep m v) s = .next (s.raise .sto 0x0101 m.val).fin ∧
          exec (.stoSalvage m v) s = .next (s.raise .sto 0x0101 m.val).fin ∧
          exec (.stoDirent m v data) s = .next (s.raise .sto 0x0101 m.val).fin ∧
          exec (.stoFormat m v) s = .next (s.raise .sto 0x0101 m.val).fin) ∧
      (s.bit R.stoStat_busy = false →
        (s.bit R.stoStat_ready = false → Completes (.stoRead m v data) s (fun t => t.sto.cmd = some (1, 4, 0, (s.reg R.stoRec).toNat) ∧ t.bit R.stoStat_busy = true ∧ t.groupValid R.stoRes = false ∧ Frame [R.stoStat, R.stoRes.addr] [.sto] [] s t) ∧
          Completes (.stoDelete m v) s (fun t => t.sto.cmd = some (2, 4, 0, (s.reg R.stoRec).toNat) ∧ t.bit R.stoStat_busy = true ∧ t.groupValid R.stoRes = false ∧ Frame [R.stoStat, R.stoRes.addr] [.sto] [] s t) ∧
          Completes (.stoKeep m v) s (fun t => t.sto.cmd = some (3, 4, 0, (s.reg R.stoRec).toNat) ∧ t.bit R.stoStat_busy = true ∧ t.groupValid R.stoRes = false ∧ Frame [R.stoStat, R.stoRes.addr] [.sto] [] s t) ∧
          Completes (.stoUnkeep m v) s (fun t => t.sto.cmd = some (4, 4, 0, (s.reg R.stoRec).toNat) ∧ t.bit R.stoStat_busy = true ∧ t.groupValid R.stoRes = false ∧ Frame [R.stoStat, R.stoRes.addr] [.sto] [] s t) ∧
          Completes (.stoSalvage m v) s (fun t => t.sto.cmd = some (5, 4, 0, (s.reg R.stoRec).toNat) ∧ t.bit R.stoStat_busy = true ∧ t.groupValid R.stoRes = false ∧ Frame [R.stoStat, R.stoRes.addr] [.sto] [] s t) ∧
          Completes (.stoDirent m v data) s (fun t => t.sto.cmd = some (7, 4, 0, (s.reg R.stoRec).toNat) ∧ t.bit R.stoStat_busy = true ∧ t.groupValid R.stoRes = false ∧ Frame [R.stoStat, R.stoRes.addr] [.sto] [] s t) ∧
          (R.stoCmd_key.of v = 0x4A33 → s.bit R.drcCtrl_en = false → Completes (.stoFormat m v) s (fun t => t.sto.cmd = some (6, 4, 0, (s.reg R.stoRec).toNat) ∧ t.bit R.stoStat_busy = true ∧ t.groupValid R.stoRes = false ∧ Frame [R.stoStat, R.stoRes.addr] [.sto] [] s t))) ∧
        ((R.stoCmd_key.of v ≠ 0x4A33 ∨ s.bit R.drcCtrl_en = true) → exec (.stoFormat m v) s = .next (s.raise .sto 0x0103 m.val).fin) ∧
        (s.bit R.stoStat_ready = true →
          (R.stoCmd_key.of v = 0x4A33 → s.bit R.drcCtrl_en = false → Completes (.stoFormat m v) s (fun t => t.sto.recs = [] ∧ t.sto.pos = 2 ∧
            t.bit R.stoStat_full = false ∧ t.sto.cmd = some (6, 0, 0, (s.reg R.stoRec).toNat) ∧ t.bit R.stoStat_busy = true ∧ t.groupValid R.stoRes = false ∧
            Frame (R.stoStat :: R.stoRes.addr :: (List.range 5).map (fun i => R.stoDir.addr + 4 * i)) [.sto] [.sto] s t)) ∧
          (s.stoFindRec = none → Completes (.stoRead m v data) s (fun t => t.sto.cmd = some (1, 1, 0, (s.reg R.stoRec).toNat) ∧ t.bit R.stoStat_busy = true ∧ t.groupValid R.stoRes = false ∧ t.sto.recs = s.sto.recs ∧ Frame [R.stoStat, R.stoRes.addr] [.sto] [] s t) ∧
            Completes (.stoDelete m v) s (fun t => t.sto.cmd = some (2, 1, 0, (s.reg R.stoRec).toNat) ∧ t.bit R.stoStat_busy = true ∧ t.groupValid R.stoRes = false ∧ t.sto.recs = s.sto.recs ∧ Frame [R.stoStat, R.stoRes.addr] [.sto] [] s t) ∧
            Completes (.stoKeep m v) s (fun t => t.sto.cmd = some (3, 1, 0, (s.reg R.stoRec).toNat) ∧ t.bit R.stoStat_busy = true ∧ t.groupValid R.stoRes = false ∧ t.sto.recs = s.sto.recs ∧ Frame [R.stoStat, R.stoRes.addr] [.sto] [] s t) ∧
            Completes (.stoUnkeep m v) s (fun t => t.sto.cmd = some (4, 1, 0, (s.reg R.stoRec).toNat) ∧ t.bit R.stoStat_busy = true ∧ t.groupValid R.stoRes = false ∧ t.sto.recs = s.sto.recs ∧ Frame [R.stoStat, R.stoRes.addr] [.sto] [] s t) ∧
            Completes (.stoSalvage m v) s (fun t => t.sto.cmd = some (5, 1, 0, (s.reg R.stoRec).toNat) ∧ t.bit R.stoStat_busy = true ∧ t.groupValid R.stoRes = false ∧ t.sto.recs = s.sto.recs ∧ Frame [R.stoStat, R.stoRes.addr] [.sto] [] s t) ∧
            Completes (.stoDirent m v data) s (fun t => t.sto.cmd = some (7, 1, 0, (s.reg R.stoRec).toNat) ∧ t.bit R.stoStat_busy = true ∧ t.groupValid R.stoRes = false ∧ t.sto.recs = s.sto.recs ∧ Frame [R.stoStat, R.stoRes.addr] [.sto] [] s t)) ∧
          (∀ r : StoRec, s.stoFindRec = some r → (∀ x ∈ s.sto.recs, x.id = r.id → x = r) →
            (r.st = .open_ → Completes (.stoDelete m v) s (fun t => t.sto.cmd = some (2, 3, 0, (s.reg R.stoRec).toNat) ∧ t.bit R.stoStat_busy = true ∧ t.groupValid R.stoRes = false ∧ t.sto.recs = s.sto.recs ∧ Frame [R.stoStat, R.stoRes.addr] [.sto] [] s t) ∧
              Completes (.stoKeep m v) s (fun t => t.sto.cmd = some (3, 3, 0, (s.reg R.stoRec).toNat) ∧ t.bit R.stoStat_busy = true ∧ t.groupValid R.stoRes = false ∧ t.sto.recs = s.sto.recs ∧ Frame [R.stoStat, R.stoRes.addr] [.sto] [] s t) ∧
              Completes (.stoUnkeep m v) s (fun t => t.sto.cmd = some (4, 3, 0, (s.reg R.stoRec).toNat) ∧ t.bit R.stoStat_busy = true ∧ t.groupValid R.stoRes = false ∧ t.sto.recs = s.sto.recs ∧ Frame [R.stoStat, R.stoRes.addr] [.sto] [] s t) ∧
              Completes (.stoSalvage m v) s (fun t => t.sto.cmd = some (5, 3, 0, (s.reg R.stoRec).toNat) ∧ t.bit R.stoStat_busy = true ∧ t.groupValid R.stoRes = false ∧ t.sto.recs = s.sto.recs ∧ Frame [R.stoStat, R.stoRes.addr] [.sto] [] s t)) ∧
            (r.st = .unsealed → Completes (.stoRead m v data) s (fun t => t.sto.cmd = some (1, 3, 0, (s.reg R.stoRec).toNat) ∧ t.bit R.stoStat_busy = true ∧ t.groupValid R.stoRes = false ∧ t.sto.recs = s.sto.recs ∧ Frame [R.stoStat, R.stoRes.addr] [.sto] [] s t) ∧
              Completes (.stoKeep m v) s (fun t => t.sto.cmd = some (3, 3, 0, (s.reg R.stoRec).toNat) ∧ t.bit R.stoStat_busy = true ∧ t.groupValid R.stoRes = false ∧ t.sto.recs = s.sto.recs ∧ Frame [R.stoStat, R.stoRes.addr] [.sto] [] s t) ∧
              Completes (.stoUnkeep m v) s (fun t => t.sto.cmd = some (4, 3, 0, (s.reg R.stoRec).toNat) ∧ t.bit R.stoStat_busy = true ∧ t.groupValid R.stoRes = false ∧ t.sto.recs = s.sto.recs ∧ Frame [R.stoStat, R.stoRes.addr] [.sto] [] s t) ∧ Completes (.stoDelete m v) s (fun t => (∀ x : StoRec, x ∈ t.sto.recs ↔ x ∈ s.sto.recs ∧ x ≠ r) ∧ t.bit R.stoStat_full = false ∧ t.sto.cmd = some (2, 0, 0, (s.reg R.stoRec).toNat) ∧ t.bit R.stoStat_busy = true ∧ t.groupValid R.stoRes = false ∧
                Frame (R.stoStat :: R.stoRes.addr :: (List.range 5).map (fun i => R.stoDir.addr + 4 * i)) [.sto] [.sto] s t) ∧
              Completes (.stoSalvage m v) s (fun t => (∃ x ∈ t.sto.recs, x.id = r.id ∧ x.st = .salvaged ∧ x.rows = r.checkRows ∧
                  x.data = r.data.take r.checkExt ∧ x.seq = r.seq + 1 ∧ x.extents = Nat.min (1 + r.checkExt) (r.runs.map (fun y => y.2)).sum) ∧
                t.sto.recs.length = s.sto.recs.length ∧ (∀ x ∈ s.sto.recs, x ≠ r → x ∈ t.sto.recs) ∧ t.bit R.stoStat_full = false ∧
                t.sto.cmd = some (5, 0, 0, (s.reg R.stoRec).toNat) ∧ t.bit R.stoStat_busy = true ∧ t.groupValid R.stoRes = false ∧ Frame (R.stoStat :: R.stoRes.addr :: (List.range 5).map (fun i => R.stoDir.addr + 4 * i)) [.sto] [.sto] s t)) ∧
            ((r.st = .sealed_ ∨ r.st = .salvaged) →
              Completes (.stoSalvage m v) s (fun t => t.sto.cmd = some (5, 3, 0, (s.reg R.stoRec).toNat) ∧ t.bit R.stoStat_busy = true ∧ t.groupValid R.stoRes = false ∧ t.sto.recs = s.sto.recs ∧ Frame [R.stoStat, R.stoRes.addr] [.sto] [] s t) ∧ Completes (.stoDelete m v) s (fun t => (∀ x : StoRec, x ∈ t.sto.recs ↔ x ∈ s.sto.recs ∧ x ≠ r) ∧ t.bit R.stoStat_full = false ∧ t.sto.cmd = some (2, 0, 0, (s.reg R.stoRec).toNat) ∧ t.bit R.stoStat_busy = true ∧ t.groupValid R.stoRes = false ∧
                Frame (R.stoStat :: R.stoRes.addr :: (List.range 5).map (fun i => R.stoDir.addr + 4 * i)) [.sto] [.sto] s t) ∧
              Completes (.stoKeep m v) s (fun t => { r with keep := true, seq := r.seq + 1 } ∈ t.sto.recs ∧ t.sto.recs.length = s.sto.recs.length ∧
                (∀ x ∈ s.sto.recs, x ≠ r → x ∈ t.sto.recs) ∧ t.bit R.stoStat_full = false ∧ t.sto.cmd = some (3, 0, 0, (s.reg R.stoRec).toNat) ∧ t.bit R.stoStat_busy = true ∧ t.groupValid R.stoRes = false ∧ Frame (R.stoStat :: R.stoRes.addr :: (List.range 5).map (fun i => R.stoDir.addr + 4 * i)) [.sto] [.sto] s t) ∧
              Completes (.stoUnkeep m v) s (fun t => { r with keep := false, seq := r.seq + 1 } ∈ t.sto.recs ∧ t.sto.recs.length = s.sto.recs.length ∧
                (∀ x ∈ s.sto.recs, x ≠ r → x ∈ t.sto.recs) ∧ t.bit R.stoStat_full = false ∧ t.sto.cmd = some (4, 0, 0, (s.reg R.stoRec).toNat) ∧ t.bit R.stoStat_busy = true ∧ t.groupValid R.stoRes = false ∧ Frame (R.stoStat :: R.stoRes.addr :: (List.range 5).map (fun i => R.stoDir.addr + 4 * i)) [.sto] [.sto] s t)) ∧
            (r.st ≠ .unsealed →
              ((s.get R.stoLen_len % 512 ≠ 0 ∨ 2 ^ 24 < s.get R.stoLen_len ∨ r.readable < (s.reg R.stoOfs).toNat * 512 + s.get R.stoLen_len) →
                Completes (.stoRead m v data) s (fun t => t.sto.cmd = some (1, 2, 0, (s.reg R.stoRec).toNat) ∧ t.bit R.stoStat_busy = true ∧ t.groupValid R.stoRes = false ∧ Frame [R.stoStat, R.stoRes.addr] [.sto] [] s t)) ∧
              (s.get R.stoLen_len % 512 = 0 → s.get R.stoLen_len ≤ 2 ^ 24 → (s.reg R.stoOfs).toNat * 512 + s.get R.stoLen_len ≤ r.readable →
                (s.get R.stoLen_len = 0 → Completes (.stoRead m v data) s (fun t => t.sto.cmd = some (1, 0, 0, (s.reg R.stoRec).toNat) ∧ t.bit R.stoStat_busy = true ∧ t.groupValid R.stoRes = false ∧ Frame [R.stoStat, R.stoRes.addr] [.sto] [] s t)) ∧
                (0 < s.get R.stoLen_len → ((PlainAccess s 7 s.stoDst (s.get R.stoLen_len) true → Completes (.stoRead m v data) s (fun t => memBytes t.mem s.stoDst (s.get R.stoLen_len) = (List.range (s.get R.stoLen_len)).map (fun i => r.byteAt ((s.reg R.stoOfs).toNat * 512 + i) (data.getD i 0)) ∧
                t.sto.cmd = some (1, 0, (s.get R.stoLen_len), (s.reg R.stoRec).toNat) ∧ t.bit R.stoStat_busy = true ∧ t.groupValid R.stoRes = false ∧ SameMemoryBut s.stoDst (s.get R.stoLen_len) s t ∧ Frame [R.stoStat, R.stoRes.addr] [.sto, .mem, .sram] [] s t)) ∧
                (s.memCheck 7 s.stoDst (s.get R.stoLen_len) true ≠ none → Completes (.stoRead m v data) s (fun t => (∃ st : Nat, 1 ≤ st ∧ st ≤ 4 ∧ t.sto.cmd = some (1, st, 0, (s.reg R.stoRec).toNat) ∧ t.bit R.stoStat_busy = true ∧ t.groupValid R.stoRes = false) ∧
                  Frame (R.stoStat :: R.stoRes.addr :: ((List.range 3).map (fun i => R.memFault.addr + 4 * i))) [.sto, .free] [.mem] s t)) ∧
                Completes (.stoRead m v data) s (fun t => (∃ st n : Nat, st ≤ 4 ∧ n = (if st = 0 then (s.get R.stoLen_len) else 0) ∧ t.sto.cmd = some (1, st, n, (s.reg R.stoRec).toNat) ∧ t.bit R.stoStat_busy = true ∧ t.groupValid R.stoRes = false) ∧ t.sto.recs = s.sto.recs ∧
                  Frame (R.stoStat :: R.stoRes.addr :: (((List.range 3).map (fun i => R.memFault.addr + 4 * i)) ++ (List.range 48).map R.memEccCnt)) [.sto, .mem, .sram, .free, .host, .out, .life] [.mem] s t))))) ∧
            ((PlainAccess s 7 s.stoDst 256 true → Completes (.stoDirent m v data) s (fun t => memBytes t.mem s.stoDst 256 = (data ++ List.replicate 256 0).take 256 ∧
                t.sto.cmd = some (7, 0, 256, (s.reg R.stoRec).toNat) ∧ t.bit R.stoStat_busy = true ∧ t.groupValid R.stoRes = false ∧ SameMemoryBut s.stoDst 256 s t ∧ Frame [R.stoStat, R.stoRes.addr] [.sto, .mem, .sram] [] s t)) ∧
                (s.memCheck 7 s.stoDst 256 true ≠ none → Completes (.stoDirent m v data) s (fun t => (∃ st : Nat, 1 ≤ st ∧ st ≤ 4 ∧ t.sto.cmd = some (7, st, 0, (s.reg R.stoRec).toNat) ∧ t.bit R.stoStat_busy = true ∧ t.groupValid R.stoRes = false) ∧
                  Frame (R.stoStat :: R.stoRes.addr :: ((List.range 3).map (fun i => R.memFault.addr + 4 * i))) [.sto, .free] [.mem] s t)) ∧
                Completes (.stoDirent m v data) s (fun t => (∃ st n : Nat, st ≤ 4 ∧ n = (if st = 0 then 256 else 0) ∧ t.sto.cmd = some (7, st, n, (s.reg R.stoRec).toNat) ∧ t.bit R.stoStat_busy = true ∧ t.groupValid R.stoRes = false) ∧ t.sto.recs = s.sto.recs ∧
                  Frame (R.stoStat :: R.stoRes.addr :: (((List.range 3).map (fun i => R.memFault.addr + 4 * i)) ++ (List.range 48).map R.memEccCnt)) [.sto, .mem, .sram, .free, .host, .out, .life] [.mem] s t)))))) ∧
    (s.sto.cmd = none → exec .stoCommandDone s = .next s.fin) ∧
    (∀ op st bytes rc : Nat, s.sto.cmd = some (op, st, bytes, rc) → Completes .stoCommandDone s (fun t => t.sto = { s.sto with cmd := none } ∧
      t.bit R.stoStat_busy = false ∧ t.groupValid R.stoRes = true ∧ t.groupWord R.stoRes 1 = BitVec.ofNat 32 (op + st * 16) ∧
      t.groupWord R.stoRes 2 = BitVec.ofNat 32 bytes ∧ t.groupWord R.stoRes 3 = BitVec.ofNat 32 rc ∧ Pends t .sto 1 ∧
      Frame (R.stoStat :: (List.range 4).map (fun i => R.stoRes.addr + 4 * i)) [.sto] [.sto] s t)) ∧
    (s.bit R.stoStat_ready = false → exec .cardTimeout s = .next s.fin) ∧
    (s.bit R.stoStat_ready = true → Completes .cardTimeout s (fun t => t.bit R.stoStat_ready = false ∧ Pends t .sto 3 ∧
      (∀ op st bytes rc : Nat, s.sto.cmd = some (op, st, bytes, rc) → t.sto.cmd = some (op, 4, 0, rc)) ∧ t.sto.recs = s.sto.recs ∧
      (∀ r ∈ t.drc.recs, r.last = some r.copied) ∧ t.drc.recs.map (fun r => (r.id, r.copied)) = s.drc.recs.map (fun r => (r.id, r.copied)) ∧
      (∀ r ∈ s.drc.recs, r.last ≠ some r.copied → ∀ x ∈ t.drc.recs, x.id = r.id → x.trunc = true) ∧
      SameMemory s t ∧ Frame [R.stoStat, R.drcStat] [.sto, .drc, .evr] [.sto, .drc] s t))

/-- For an UNLOCKED MEM page: a bank write that sets FAILED, leaves FAILED, goes to OFF while claimed or under test, or changes
MODE while claimed or not ON or RETAIN is dropped with BANK_BUSY; else STATE and MODE are stored, and leaving or entering OFF
drops READY. BANK_ZERO_DONE zeroes a bank that powers up and sets READY. SCRUB_PASS counts a corrected error (CORR, LIFE,
ECC1) or an uncorrectable one (UNCORR, LIFE, ECC2, the word poisoned, MEM_FAULT). GO while a test runs is dropped with
MARCH_BUSY, naming a claimed or unready bank with BANK_BUSY; else MARCH_BUSY = 1 and VALID of MEM_MARCH_RES falls.
MARCH_COMPLETE takes each failing bank to FAILED; of those that pass a destructive test zeroes, a transparent one changes
nothing; it completes MEM_MARCH_RES, pends MARCH_DONE and counts passes and failures in LIFE. In an unclaimed ATOMIC bank a
granted ADD write adds to the data word modulo 2^width, an ADD read answers the old value and adds the operand, a SWAP read
answers the old value and stores the operand, a SWAP write is dropped with ATOM, an OPERAND write stores the operand of its
master; a poisoned word is not changed and reads all-ones; elsewhere the access is one to plain memory; a refused one is
recorded, a refused read answered with all-ones, and host accesses in D3hot are dropped. MEM_ARB completes with the interval's
counts. (R325, R326, R327, R329, R330, R332, R333, R334, R335, 20_memory_and_dma.md) -/
def Obligations.BanksAreConfiguredTestedAndAtomic : Prop :=
  ∀ (s : State),
    (∀ (m : Master) (v : Word), Reaches s m .mem →
      (∀ b : Fin 48,
        (((R.memBankCfg_state b.val).of v = 3 ∨ s.bankSt b.val = 3 ∨
            ((R.memBankCfg_state b.val).of v = 0 ∧ s.bankSt b.val ≠ 0 ∧ (s.claimed b.val = true ∨ s.bankTest b.val = true)) ∨
            ((R.memBankCfg_mode b.val).of v ≠ s.get (R.memBankCfg_mode b.val) ∧ (s.claimed b.val = true ∨ s.bankSt b.val = 0))) →
          exec (.memBankCfgWrite m b v) s = .next (s.raise .mem 0x0103 m.val).fin) ∧
        ((R.memBankCfg_state b.val).of v ≠ 3 → s.bankSt b.val ≠ 3 →
          ((R.memBankCfg_state b.val).of v = 0 → s.bankSt b.val ≠ 0 → s.claimed b.val = false ∧ s.bankTest b.val = false) →
          ((R.memBankCfg_mode b.val).of v = s.get (R.memBankCfg_mode b.val) ∨ (s.claimed b.val = false ∧ s.bankSt b.val ≠ 0)) →
          Completes (.memBankCfgWrite m b v) s (fun t => t.bankSt b.val = (R.memBankCfg_state b.val).of v ∧
            t.get (R.memBankCfg_mode b.val) = (R.memBankCfg_mode b.val).of v ∧
            (((R.memBankCfg_state b.val).of v = 0 ↔ s.bankSt b.val = 0) → t.bit (R.memBankCfg_ready b.val) = s.bit (R.memBankCfg_ready b.val)) ∧
            (¬ ((R.memBankCfg_state b.val).of v = 0 ↔ s.bankSt b.val = 0) → t.bit (R.memBankCfg_ready b.val) = false) ∧
            Frame [R.memBankCfg b.val] [] [] s t))) ∧
      (s.sram.march ≠ none → exec (.marchGo m v) s = .next (s.raise .mem 0x0106 m.val).fin) ∧
      (∀ b : Nat, s.sram.march = none → b ∈ s.marchBanks → (s.claimed b = true ∨ s.bankSt b = bkOFF ∨ s.bankSt b = bkFAILED) →
        exec (.marchGo m v) s = .next (s.raise .mem 0x0103 m.val).fin) ∧
      (s.sram.march = none → (∀ b ∈ s.marchBanks, s.claimed b = false ∧ s.bankSt b ≠ bkOFF ∧ s.bankSt b ≠ bkFAILED) → Completes (.marchGo m v) s (fun t =>
        t.sram.march = some ⟨s.marchBanks, v.getLsbD 1⟩ ∧ t.bit R.memStat_march_busy = true ∧ t.groupValid R.memMarchRes = false ∧
        Frame [R.memStat, R.memMarchRes.addr] [.sram] [] s t))) ∧
    (∀ b : Fin 48,
      ((s.bankSt b.val = 1 ∨ s.bankSt b.val = 2) → s.bit (R.memBankCfg_ready b.val) = false → Completes (.bankZeroDone b) s (fun t =>
        t.bit (R.memBankCfg_ready b.val) = true ∧ t.bankSt b.val = s.bankSt b.val ∧
        (∀ a : Nat, bankBase b.val ≤ a → a < bankBase b.val + 0x80000 → memByte t.mem a = 0) ∧
        SameMemoryBut (bankBase b.val) 0x80000 s t ∧ Frame [R.memBankCfg b.val] [.mem, .sram] [] s t)) ∧
      ((s.bankSt b.val = 0 ∨ s.bankSt b.val = 3 ∨ s.bit (R.memBankCfg_ready b.val) = true) → exec (.bankZeroDone b) s = .next s.fin)) ∧
    (∀ errs : List (Nat × Bool), (s.bit R.memCtrl_scrub_en = false → exec (.scrubPass errs) s = .next s.fin) ∧
      (s.bit R.memCtrl_scrub_en = true → Completes (.scrubPass errs) s (fun t =>
        (∀ b : Fin 48, s.bankReady b.val = true → ∀ c u : Nat,
          c = (errs.filter (fun e => decide (bankBase b.val ≤ e.1) && decide (e.1 < bankBase b.val + 0x80000) && !e.2)).length →
          u = (errs.filter (fun e => decide (bankBase b.val ≤ e.1) && decide (e.1 < bankBase b.val + 0x80000) && e.2)).length →
          t.get (R.memEccCnt_corr b.val) = Nat.min 0xFFFF (s.get (R.memEccCnt_corr b.val) + c) ∧
          t.get (R.memEccCnt_uncorr b.val) = Nat.min 0xFFFF (s.get (R.memEccCnt_uncorr b.val) + u)) ∧
        (∀ e ∈ errs, e.2 = true → 0x800000 ≤ e.1 → e.1 < 0x2000000 → s.bankReady (bankOf e.1) = true → e.1 / 8 * 8 ∈ t.sram.poison) ∧ SameMemory s t ∧
        Frame ((List.range 48).map R.memEccCnt ++ (List.range 3).map (fun i => R.memFault.addr + 4 * i)) [.life, .sram] [.mem] s t))) ∧
    (∀ a b : Nat, s.bit R.memCtrl_scrub_en = true → 0x800000 ≤ a → a < 0x2000000 → b = bankOf a → s.bankReady b = true →
      Completes (.scrubPass [(a, false)]) s (fun t => t.get (R.memEccCnt_corr b) = Nat.min 0xFFFF (s.get (R.memEccCnt_corr b) + 1) ∧
        tget 0 t.life.counts (176 + b) = Nat.min (2 ^ 48 - 1) (tget 0 s.life.counts (176 + b) + 1) ∧ Pends t .mem 1 ∧
        Frame [R.memEccCnt b] [.life] [.mem] s t) ∧
      Completes (.scrubPass [(a, true)]) s (fun t => t.get (R.memEccCnt_uncorr b) = Nat.min 0xFFFF (s.get (R.memEccCnt_uncorr b) + 1) ∧
        tget 0 t.life.counts (224 + b) = Nat.min (2 ^ 48 - 1) (tget 0 s.life.counts (224 + b) + 1) ∧ Pends t .mem 2 ∧ t.poisoned a 1 = true ∧
        t.groupValid R.memFault = true ∧ t.groupWord R.memFault 1 = BitVec.ofNat 32 (a / 8 * 8) ∧ SameMemory s t ∧
        Frame (R.memEccCnt b :: (List.range 3).map (fun i => R.memFault.addr + 4 * i)) [.life, .sram] [.mem] s t)) ∧
    (∀ fails : BitVec 48,
      (s.sram.march = none → exec (.marchComplete fails) s = .next s.fin) ∧
      (∀ r : MarchRun, s.sram.march = some r → r.banks.Nodup → (∀ b ∈ r.banks, b < 48) → Completes (.marchComplete fails) s (fun t =>
        t.sram.march = none ∧ t.bit R.memStat_march_busy = false ∧ t.groupValid R.memMarchRes = true ∧ Pends t .mem 3 ∧
        (∀ k : Nat, k = (r.banks.filter (fun b => fails.getLsbD b)).length → 0 < k →
          tget 0 t.life.counts 10 = Nat.min (2 ^ 48 - 1) (tget 0 s.life.counts 10 + k)) ∧
        (∀ k : Nat, k = (r.banks.filter (fun b => !fails.getLsbD b)).length → 0 < k →
          tget 0 t.life.counts 9 = Nat.min (2 ^ 48 - 1) (tget 0 s.life.counts 9 + k)) ∧
        (∀ b ∈ r.banks, fails.getLsbD b = true → t.bankSt b = 3 ∧ t.bit (R.memBankCfg_ready b) = false) ∧
        (∀ b ∈ r.banks, fails.getLsbD b = false → t.reg (R.memBankCfg b) = s.reg (R.memBankCfg b) ∧ ∀ a : Nat, bankBase b ≤ a → a < bankBase b + 0x80000 →
          memByte t.mem a = (if r.transparent then memByte s.mem a else 0)) ∧
        (∀ a : Nat, (∀ b ∈ r.banks, a < bankBase b ∨ bankBase b + 0x80000 ≤ a) → memByte t.mem a = memByte s.mem a) ∧
        (∀ b : Nat, r.banks = [b] → t.groupWord R.memMarchRes 1 = BitVec.ofNat 32 (if fails.getLsbD b then 2 ^ b else 0)) ∧
        Frame (R.memStat :: ((List.range 4).map (fun i => R.memMarchRes.addr + 4 * i) ++ r.banks.map R.memBankCfg)) [.sram, .mem, .life] [.mem] s t))) ∧
    (∀ (m : Master) (b : Fin 48) (off : BitVec 17) (wide : Bool),
      (s.hostRefused m.val = true → ∀ data : Option (BitVec 64), exec (.atomicAdd m b off wide data) s = .next s.fin ∧
        exec (.atomicSwap m b off wide data) s = .next s.fin ∧ ∀ v : BitVec 64, exec (.operandWrite m b off wide v) s = .next s.fin) ∧
      (∀ n d x y z : Nat, n = (if wide then 8 else 4) → d = bankBase b.val + off.toNat → x = bankBase b.val + 0x20000 + off.toNat →
        y = bankBase b.val + 0x40000 + off.toNat → z = bankBase b.val + 0x60000 + off.toNat → s.hostRefused m.val = false →
        (∀ (v : BitVec 64) (f : MemFail),
          (s.memCheck m.val x n true = some f → exec (.atomicAdd m b off wide (some v)) s = .next (s.memFault f m.val x true).fin) ∧
          (s.memCheck m.val y n true = some f → exec (.atomicSwap m b off wide (some v)) s = .next (s.memFault f m.val y true).fin) ∧
          (s.memCheck m.val z n true = some f → exec (.operandWrite m b off wide v) s = .next (s.memFault f m.val z true).fin) ∧
          (s.memCheck m.val x n false = some f → exec (.atomicAdd m b off wide none) s =
            .next ((s.memFault f m.val x false).emit (.readData m.val x (List.replicate n 0xFF))).fin) ∧
          (s.memCheck m.val y n false = some f → exec (.atomicSwap m b off wide none) s =
            .next ((s.memFault f m.val y false).emit (.readData m.val y (List.replicate n 0xFF))).fin)) ∧
        (s.get (R.memBankCfg_mode b.val) = 2 → s.claimed b.val = false →
          (∀ v : BitVec 64, s.memCheck m.val x n true = none → s.poisoned x n = false → Completes (.atomicAdd m b off wide (some v)) s (fun t =>
            memBytes t.mem d n = leBytes n ((leNat (memBytes s.mem d n) + v.toNat % 256 ^ n) % 256 ^ n) ∧
            SameMemoryBut d n s t ∧ Frame [] [.mem, .sram] [] s t)) ∧
          (s.memCheck m.val x n false = none → s.poisoned x n = false → s.lgeOpen x n = false → Completes (.atomicAdd m b off wide none) s (fun t =>
            memBytes t.mem d n = leBytes n ((leNat (memBytes s.mem d n) + (tget 0 s.sram.operand (16 * b.val + m.val)).toNat % 256 ^ n) % 256 ^ n) ∧
            t.out = s.out ++ [.readData m.val x (memBytes s.mem d n)] ∧ SameMemoryBut d n s t ∧ Frame [] [.mem, .out] [] s t)) ∧
          (s.memCheck m.val y n false = none → s.poisoned y n = false → s.lgeOpen y n = false → Completes (.atomicSwap m b off wide none) s (fun t =>
            memBytes t.mem d n = leBytes n ((tget 0 s.sram.operand (16 * b.val + m.val)).toNat % 256 ^ n) ∧
            t.out = s.out ++ [.readData m.val y (memBytes s.mem d n)] ∧ SameMemoryBut d n s t ∧ Frame [] [.mem, .out, .sram] [] s t)) ∧
          (∀ v : BitVec 64, s.memCheck m.val y n true = some .atom → Completes (.atomicSwap m b off wide (some v)) s (fun t =>
            ((s.hdr .mem).errCode = 0 → (t.hdr .mem).errCode = 0x0105) ∧ t.groupValid R.memFault = true ∧ SameMemory s t ∧ Frame ((List.range 3).map (fun i => R.memFault.addr + 4 * i)) [] [.mem] s t)) ∧
          (∀ v : BitVec 64, s.memCheck m.val z n true = none → Completes (.operandWrite m b off wide v) s (fun t =>
            tget 0 t.sram.operand (16 * b.val + m.val) = (if wide then v else (v.truncate 32).zeroExtend 64) ∧
            (∀ k : Nat, k ≠ 16 * b.val + m.val → tget 0 t.sram.operand k = tget 0 s.sram.operand k) ∧ Frame [] [.sram] [] s t)) ∧
          (∀ v : BitVec 64, s.memCheck m.val x n true = none → s.poisoned x n = true → Completes (.atomicAdd m b off wide (some v)) s (fun t =>
            t.get (R.memEccCnt_uncorr b.val) = Nat.min 0xFFFF (s.get (R.memEccCnt_uncorr b.val) + 1) ∧ SameMemory s t ∧
            Frame (R.memEccCnt b.val :: (List.range 3).map (fun i => R.memFault.addr + 4 * i)) [.life] [.mem] s t)) ∧
          (s.memCheck m.val x n false = none → s.poisoned x n = true → Completes (.atomicAdd m b off wide none) s (fun t =>
            t.out = s.out ++ [.readData m.val x (List.replicate n 0xFF)] ∧ SameMemory s t ∧ Frame (R.memEccCnt b.val :: (List.range 3).map (fun i => R.memFault.addr + 4 * i)) [.life, .out] [.mem] s t)) ∧
          (s.memCheck m.val y n false = none → s.poisoned y n = true → Completes (.atomicSwap m b off wide none) s (fun t =>
            t.out = s.out ++ [.readData m.val y (List.replicate n 0xFF)] ∧ SameMemory s t ∧ Frame (R.memEccCnt b.val :: (List.range 3).map (fun i => R.memFault.addr + 4 * i)) [.life, .out] [.mem] s t))) ∧
        (∀ (a : Nat) (c : Option (BitVec 64) → Instr), ((a = x ∧ c = fun v => .atomicAdd m b off wide v) ∨ (a = y ∧ c = fun v => .atomicSwap m b off wide v)) →
          (PlainAccess s m.val a n false → Completes (c none) s (fun t => t.out = s.out ++ [.readData m.val a (memBytes s.mem a n)] ∧ Frame [] [.out] [] s t)) ∧
          (∀ v : BitVec 64, PlainAccess s m.val a n true → Completes (c (some v)) s (fun t => memBytes t.mem a n = leBytes n v.toNat ∧
            SameMemoryBut a n s t ∧ Frame [] [.mem, .sram] [] s t))) ∧
        (∀ v : BitVec 64, PlainAccess s m.val z n true → Completes (.operandWrite m b off wide v) s (fun t => memBytes t.mem z n = leBytes n v.toNat ∧
          SameMemoryBut z n s t ∧ Frame [] [.mem, .sram] [] s t)))) ∧
    (∀ engine dma stolen other : Word, Completes (.memArbInterval engine dma stolen other) s (fun t => t.groupValid R.memArb = true ∧
      t.groupWord R.memArb 1 = engine ∧ t.groupWord R.memArb 2 = dma ∧ t.groupWord R.memArb 3 = stolen ∧ t.groupWord R.memArb 4 = other ∧
      Frame ((List.range 5).map (fun i => R.memArb.addr + 4 * i)) [] [.mem] s t))

/-- For an UNLOCKED DMA page: HEAD is stored in IDLE, else dropped with KICK_STATE. KICK starts an enabled IDLE channel at HEAD,
sets KPEND of a RUNNING one, re-reads the link of one at its end (END = 0 goes on to NEXT, END = 1 stays, a reserved bit or a
NEXT outside memory fails with ALIGN), and is dropped with KICK_STATE in ERROR. ABORT of a RUNNING channel, after the elements
moved so far, or at the end of a chain, writes back CODE ABORTED, records ERR and goes to IDLE; in ERROR and IDLE it goes to
IDLE. A fetch takes words 0 to 13 where the checks give no CODE, JRNL opening its journal entry; else the channel enters ERROR
with LAST and CODE, the ERR interrupt and ERR 0x0100 + CODE, and words 12 and 13 are written back; so too where a read or a
write is refused (BANK_OFF and ATOM counting as REGION: log entry 37). In an interval k elements, on an HKA request one, move
in loop order or, for a copy up over itself, from the last; sources that no earlier destination touches arrive as they were,
no other byte changes; an HKA FIFO source gives and takes its head; DMA_CHn_CUR completes with the interval. A descriptor done
moves the rest, writes back DONE and TS32, raises DESC where IRQ = 1, and by its link word goes to NEXT or, at END, to
IDLE_AT_END with LAST and the END interrupt, KPEND cleared. Accesses here are granted ones to memory of this member
(PlainAccess). (R329, R337, R338, R339, R340, R341, R51, R215, 20_memory_and_dma.md) -/
def Obligations.DmaChannelsRunDescriptors : Prop :=
  ∀ (n : Fin 16) (s : State),
    (∀ (m : Master) (v : Word), Reaches s m .dma →
      (s.chSt n.val = 0 → Completes (.dmaHeadWrite m n 0 v) s (fun t => t.get (R.dmaChHeadLo_head n.val) = v.toNat / 64 ∧ Frame [R.dmaChHeadLo n.val] [] [] s t) ∧
        Completes (.dmaHeadWrite m n 1 v) s (fun t => t.get (R.dmaChHeadHi_head n.val) = v.toNat % 65536 ∧ Frame [R.dmaChHeadHi n.val] [] [] s t)) ∧
      (s.chSt n.val ≠ 0 → ∀ w : Fin 2, exec (.dmaHeadWrite m n w v) s = .next (s.raise .dma 0x0101 m.val).fin) ∧
      (s.chSt n.val = 0 → s.bit R.dmaCtrl_en = true → s.bit (R.dmaChCtrl_en n.val) = true → Completes (.dmaKick m n v) s (fun t =>
        t.chSt n.val = 1 ∧ t.chan n.val = { desc := (s.reg (R.dmaChHeadLo n.val)).toNat / 64 * 64 + s.get (R.dmaChHeadHi_head n.val) * 2 ^ 32 } ∧
        t.regBit R.dmaStat n.val = true ∧ Frame [R.dmaChStat n.val, R.dmaStat] [.dma] [] s t)) ∧
      (s.chSt n.val = 0 → s.chOn n.val = false → exec (.dmaKick m n v) s = .next s.fin) ∧
      (s.chSt n.val = 1 → Completes (.dmaKick m n v) s (fun t => t.bit (R.dmaChStat_kpend n.val) = true ∧ t.chSt n.val = 1 ∧
        Frame [R.dmaChStat n.val] [] [] s t)) ∧
      (s.chSt n.val = 3 → exec (.dmaKick m n v) s = .next (s.raise .dma 0x0101 m.val).fin) ∧
      (∀ a w : Nat, s.chSt n.val = 2 → a = (s.chan n.val).desc + 56 →
        (PlainAccess s 1 a 8 false → w = leNat (memBytes s.mem a 8) →
          (w / 2 % 32 = 0 → w % 2 = 1 → exec (.dmaKick m n v) s = .next s.fin) ∧
          (w / 2 % 32 = 0 → w % 2 = 0 → s.memPlace (w / 64 % 2 ^ 42 * 64) = true → Completes (.dmaKick m n v) s (fun t => t.chSt n.val = 1 ∧
            t.chan n.val = { desc := w / 64 % 2 ^ 42 * 64 } ∧ Frame [R.dmaChStat n.val, R.dmaStat] [.dma] [] s t)) ∧
          ((w / 2 % 32 ≠ 0 ∨ (w % 2 = 0 ∧ s.memPlace (w / 64 % 2 ^ 42 * 64) = false)) → s.remoteOf ((s.chan n.val).desc + 48) = none →
            Completes (.dmaKick m n v) s (fun t => t.chSt n.val = 3 ∧ t.get (R.dmaChStat_code n.val) = 1 ∧ t.reg (R.dmaChLastLo n.val) = BitVec.ofNat 32 (s.chan n.val).desc ∧
            (t.reg (R.dmaChIrq n.val)).getLsbD 1 = true ∧ ((s.hdr .dma).errCode = 0 → (t.hdr .dma).errCode = BitVec.ofNat 16 (0x0100 + 1)) ∧
            (PlainAccess s 1 ((s.chan n.val).desc + 48) 8 true → (t.word ((s.chan n.val).desc + 48)).toNat % 4 = 3 ∧ (t.word ((s.chan n.val).desc + 48)).toNat / 8 % 16 = 1 ∧
              t.word ((s.chan n.val).desc + 52) = s.tstamp ∧ SameMemoryBut ((s.chan n.val).desc + 48) 8 s t) ∧
            Frame ((R.dmaStat :: R.dmaChCtrl n.val :: R.dmaChStat n.val :: R.dmaChIrq n.val :: R.dmaChLastLo n.val :: R.dmaChLastHi n.val :: (List.range 5).map (fun i => (R.dmaChCur n.val).addr + 4 * i)) ++ ((List.range 3).map (fun i => R.memFault.addr + 4 * i) ++ (List.range 48).map R.memEccCnt)) [.dma, .mem, .sram, .jrnl, .life] [.dma, .jrnl, .mem] s t))) ∧
        (∀ f : MemFail, s.memCheck 1 a 8 false = some f → s.remoteOf ((s.chan n.val).desc + 48) = none →
          Completes (.dmaKick m n v) s (fun t => t.chSt n.val = 3 ∧ t.get (R.dmaChStat_code n.val) = failCode f ∧ t.reg (R.dmaChLastLo n.val) = BitVec.ofNat 32 (s.chan n.val).desc ∧
            (t.reg (R.dmaChIrq n.val)).getLsbD 1 = true ∧ ((s.hdr .dma).errCode = 0 → (t.hdr .dma).errCode = BitVec.ofNat 16 (0x0100 + failCode f)) ∧
            (PlainAccess s 1 ((s.chan n.val).desc + 48) 8 true → (t.word ((s.chan n.val).desc + 48)).toNat % 4 = 3 ∧ (t.word ((s.chan n.val).desc + 48)).toNat / 8 % 16 = failCode f ∧
              t.word ((s.chan n.val).desc + 52) = s.tstamp ∧ SameMemoryBut ((s.chan n.val).desc + 48) 8 s t) ∧
            Frame ((R.dmaStat :: R.dmaChCtrl n.val :: R.dmaChStat n.val :: R.dmaChIrq n.val :: R.dmaChLastLo n.val :: R.dmaChLastHi n.val :: (List.range 5).map (fun i => (R.dmaChCur n.val).addr + 4 * i)) ++ ((List.range 3).map (fun i => R.memFault.addr + 4 * i) ++ (List.range 48).map R.memEccCnt)) [.dma, .mem, .sram, .jrnl, .life] [.dma, .jrnl, .mem] s t))) ∧
      (∀ (k : Nat) (ans : List (Option (List Byte))),
        ((s.chSt n.val = 2 ∨ (s.chSt n.val = 1 ∧ (k = 0 ∨ (s.chan n.val).words = none ∨ s.chWaits n.val = true))) → PlainAccess s 1 ((s.chan n.val).desc + 48) 8 true →
          Completes (.dmaAbort m n v k ans) s (fun t => t.chSt n.val = 0 ∧ t.bit (R.dmaChCtrl_abort n.val) = false ∧ t.bit (R.dmaChStat_kpend n.val) = false ∧
            t.bit (R.dmaChCtrl_en n.val) = v.getLsbD 0 ∧ t.get (R.dmaChStat_code n.val) = 8 ∧ (t.word ((s.chan n.val).desc + 48)).toNat / 8 % 16 = 8 ∧
            (t.word ((s.chan n.val).desc + 48)).toNat % 4 = 3 ∧ t.word ((s.chan n.val).desc + 52) = s.tstamp ∧
            ((s.hdr .dma).errCode = 0 → (t.hdr .dma).errCode = 0x0108) ∧ (t.chan n.val).words = none ∧
            SameMemoryBut ((s.chan n.val).desc + 48) 8 s t ∧ Frame (R.dmaStat :: R.dmaChCtrl n.val :: R.dmaChStat n.val :: R.dmaChIrq n.val :: R.dmaChLastLo n.val :: R.dmaChLastHi n.val :: (List.range 5).map (fun i => (R.dmaChCur n.val).addr + 4 * i)) [.dma, .mem, .sram, .jrnl] [.dma, .jrnl] s t)) ∧
        (∀ (ws : List Word) (x y : Nat → Nat), s.chSt n.val = 1 → (s.chan n.val).words = some ws → dReq ws = false → PlainAccess s 1 ((s.chan n.val).desc + 48) 8 true →
          k ≤ dTotal ws - (s.chan n.val).moved → (∀ j : Nat, j < k → x j = dAddr ws 0 (if (s.chan n.val).backward then dTotal ws - 1 - ((s.chan n.val).moved + j) else (s.chan n.val).moved + j) ∧ y j = dAddr ws 1 (if (s.chan n.val).backward then dTotal ws - 1 - ((s.chan n.val).moved + j) else (s.chan n.val).moved + j) ∧
            PlainAccess s 1 (x j) (dSize ws) false ∧ PlainAccess s 1 (y j) (dSize ws) true) →
          Completes (.dmaAbort m n v k ans) s (fun t => t.chSt n.val = 0 ∧ t.bit (R.dmaChCtrl_abort n.val) = false ∧ t.bit (R.dmaChStat_kpend n.val) = false ∧
            t.get (R.dmaChStat_code n.val) = 8 ∧ (t.word ((s.chan n.val).desc + 48)).toNat / 8 % 16 = 8 ∧ (t.word ((s.chan n.val).desc + 48)).toNat % 4 = 3 ∧
            ((∀ i j : Nat, i < j → j < k → (x j + dSize ws ≤ y i ∨ y i + dSize ws ≤ x j) ∧ (y i + dSize ws ≤ y j ∨ y j + dSize ws ≤ y i)) → (∀ j : Nat, j < k → y j + dSize ws ≤ (s.chan n.val).desc + 48 ∨ (s.chan n.val).desc + 56 ≤ y j) → ∀ j : Nat, j < k → memBytes t.mem (y j) (dSize ws) = memBytes s.mem (x j) (dSize ws)) ∧ (∀ a : Nat, (∀ j : Nat, j < k → a < y j ∨ y j + dSize ws ≤ a) → (a < (s.chan n.val).desc + 48 ∨ (s.chan n.val).desc + 56 ≤ a) → memByte t.mem a = memByte s.mem a) ∧ Frame (R.dmaStat :: R.dmaChCtrl n.val :: R.dmaChStat n.val :: R.dmaChIrq n.val :: R.dmaChLastLo n.val :: R.dmaChLastHi n.val :: (List.range 5).map (fun i => (R.dmaChCur n.val).addr + 4 * i)) [.dma, .mem, .sram, .jrnl] [.dma, .jrnl] s t)) ∧
        ((s.chSt n.val = 0 ∨ s.chSt n.val = 3) → Completes (.dmaAbort m n v k ans) s (fun t => t.chSt n.val = 0 ∧
          t.bit (R.dmaChCtrl_abort n.val) = false ∧ t.bit (R.dmaChCtrl_en n.val) = v.getLsbD 0 ∧ (t.chan n.val).words = none ∧ SameMemory s t ∧
          Frame (R.dmaStat :: R.dmaChCtrl n.val :: R.dmaChStat n.val :: R.dmaChIrq n.val :: R.dmaChLastLo n.val :: R.dmaChLastHi n.val :: (List.range 5).map (fun i => (R.dmaChCur n.val).addr + 4 * i)) [.dma] [] s t)))) ∧
    (∀ errs : List (Nat × Bool), (s.chSt n.val ≠ 1 ∨ (s.chan n.val).words ≠ none) → exec (.dmaDescriptorFetch n errs) s = .next s.fin) ∧
    (∀ (a : Nat) (ws : List Word), s.chSt n.val = 1 → (s.chan n.val).words = none → a = (s.chan n.val).desc →
      (∀ f : MemFail, s.memCheck 1 a 56 false = some f → s.remoteOf (a + 48) = none → Completes (.dmaDescriptorFetch n []) s (fun t => t.chSt n.val = 3 ∧ t.get (R.dmaChStat_code n.val) = failCode f ∧ t.reg (R.dmaChLastLo n.val) = BitVec.ofNat 32 (s.chan n.val).desc ∧
            (t.reg (R.dmaChIrq n.val)).getLsbD 1 = true ∧ ((s.hdr .dma).errCode = 0 → (t.hdr .dma).errCode = BitVec.ofNat 16 (0x0100 + failCode f)) ∧
            (PlainAccess s 1 ((s.chan n.val).desc + 48) 8 true → (t.word ((s.chan n.val).desc + 48)).toNat % 4 = 3 ∧ (t.word ((s.chan n.val).desc + 48)).toNat / 8 % 16 = failCode f ∧
              t.word ((s.chan n.val).desc + 52) = s.tstamp ∧ SameMemoryBut ((s.chan n.val).desc + 48) 8 s t) ∧
            Frame ((R.dmaStat :: R.dmaChCtrl n.val :: R.dmaChStat n.val :: R.dmaChIrq n.val :: R.dmaChLastLo n.val :: R.dmaChLastHi n.val :: (List.range 5).map (fun i => (R.dmaChCur n.val).addr + 4 * i)) ++ ((List.range 3).map (fun i => R.memFault.addr + 4 * i) ++ (List.range 48).map R.memEccCnt)) [.dma, .mem, .sram, .jrnl, .life] [.dma, .jrnl, .mem] s t)) ∧
      (s.memCheck 1 a 56 false = none → s.remoteOf a = none → s.poisoned a 56 = true → s.remoteOf (a + 48) = none →
        Completes (.dmaDescriptorFetch n []) s (fun t => t.chSt n.val = 3 ∧ t.get (R.dmaChStat_code n.val) = 6 ∧ t.reg (R.dmaChLastLo n.val) = BitVec.ofNat 32 (s.chan n.val).desc ∧
            (t.reg (R.dmaChIrq n.val)).getLsbD 1 = true ∧ ((s.hdr .dma).errCode = 0 → (t.hdr .dma).errCode = BitVec.ofNat 16 (0x0100 + 6)) ∧
            (PlainAccess s 1 ((s.chan n.val).desc + 48) 8 true → (t.word ((s.chan n.val).desc + 48)).toNat % 4 = 3 ∧ (t.word ((s.chan n.val).desc + 48)).toNat / 8 % 16 = 6 ∧
              t.word ((s.chan n.val).desc + 52) = s.tstamp ∧ SameMemoryBut ((s.chan n.val).desc + 48) 8 s t) ∧
            Frame ((R.dmaStat :: R.dmaChCtrl n.val :: R.dmaChStat n.val :: R.dmaChIrq n.val :: R.dmaChLastLo n.val :: R.dmaChLastHi n.val :: (List.range 5).map (fun i => (R.dmaChCur n.val).addr + 4 * i)) ++ ((List.range 3).map (fun i => R.memFault.addr + 4 * i) ++ (List.range 48).map R.memEccCnt)) [.dma, .mem, .sram, .jrnl, .life] [.dma, .jrnl, .mem] s t)) ∧
      (PlainAccess s 1 a 56 false → ws = (List.range 14).map (fun k => s.word (a + 4 * k)) →
        (s.descCode ws = 0 → dBit ws 21 = false → Completes (.dmaDescriptorFetch n []) s (fun t => t.chan n.val = { s.chan n.val with
            words := some ws, moved := 0, code := 0, backward := dContiguous ws && decide (dSrc ws < dDst ws) && dOverlap ws,
            ovlp := dOverlap ws && (dContiguous ws && decide (dSrc ws < dDst ws) || (!dContiguous ws && dBit ws 22)) } ∧
          t.chSt n.val = 1 ∧ Frame [] [.dma] [] s t) ∧
          (∀ errs : List (Nat × Bool), (∀ e ∈ errs, e.2 = false) → Completes (.dmaDescriptorFetch n errs) s (fun t => (t.chan n.val).words = some ws ∧
            t.chSt n.val = 1 ∧ Frame ((List.range 48).map R.memEccCnt) [.dma, .life] [.mem] s t))) ∧
        (s.descCode ws = 0 → dBit ws 21 = true → Completes (.dmaDescriptorFetch n []) s (fun t => (t.chan n.val).words = some ws ∧ (t.chan n.val).moved = 0 ∧
          t.jrnl.nextOp = (s.jrnl.nextOp + 1) % 2 ^ 32 ∧
          (s.jRoom = true → ∃ e : JEntry, t.jrnl.queue = s.jrnl.queue ++ [e] ∧ e.opid = s.jrnl.nextOp ∧ e.cls = 4 ∧ e.kind = 0 ∧
            e.data = [BitVec.ofNat 32 n.val, BitVec.ofNat 32 a, BitVec.ofNat 32 (a / 2 ^ 32), BitVec.ofNat 32 ((ws.getD 1 0).toNat / 65536)]) ∧
          Frame [] [.dma, .jrnl] [.jrnl] s t)) ∧
        (s.descCode ws ≠ 0 → s.remoteOf (a + 48) = none → Completes (.dmaDescriptorFetch n []) s (fun t => t.chSt n.val = 3 ∧ t.get (R.dmaChStat_code n.val) = s.descCode ws ∧ t.reg (R.dmaChLastLo n.val) = BitVec.ofNat 32 (s.chan n.val).desc ∧
            (t.reg (R.dmaChIrq n.val)).getLsbD 1 = true ∧ ((s.hdr .dma).errCode = 0 → (t.hdr .dma).errCode = BitVec.ofNat 16 (0x0100 + s.descCode ws)) ∧
            (PlainAccess s 1 ((s.chan n.val).desc + 48) 8 true → (t.word ((s.chan n.val).desc + 48)).toNat % 4 = 3 ∧ (t.word ((s.chan n.val).desc + 48)).toNat / 8 % 16 = s.descCode ws ∧
              t.word ((s.chan n.val).desc + 52) = s.tstamp ∧ SameMemoryBut ((s.chan n.val).desc + 48) 8 s t) ∧
            Frame ((R.dmaStat :: R.dmaChCtrl n.val :: R.dmaChStat n.val :: R.dmaChIrq n.val :: R.dmaChLastLo n.val :: R.dmaChLastHi n.val :: (List.range 5).map (fun i => (R.dmaChCur n.val).addr + 4 * i)) ++ ((List.range 3).map (fun i => R.memFault.addr + 4 * i) ++ (List.range 48).map R.memEccCnt)) [.dma, .mem, .sram, .jrnl, .life] [.dma, .jrnl, .mem] s t)))) ∧
    (∀ ans : List (Option (List Byte)),
      (s.chSt n.val ≠ 1 → exec (.dmaHkaRequest n ans) s = .next s.fin ∧ (∀ k : Nat, exec (.dmaCurInterval n k ans) s = .next s.fin) ∧
        exec (.dmaDescriptorDone n ans) s = .next s.fin) ∧
      ((s.get R.hkaCtrl_dma_ch ≠ n.val ∨ s.hka.fifo = [] ∨ s.chWaits n.val = false) → exec (.dmaHkaRequest n ans) s = .next s.fin) ∧
      ((s.chan n.val).words = none → exec (.dmaDescriptorDone n ans) s = .next s.fin) ∧
      (∀ k : Nat, s.chSt n.val = 1 → (k = 0 ∨ (s.chan n.val).words = none ∨ s.chWaits n.val = true) → Completes (.dmaCurInterval n k ans) s (fun t =>
        t.groupValid (R.dmaChCur n.val) = true ∧ t.groupWord (R.dmaChCur n.val) 1 = BitVec.ofNat 32 (s.chan n.val).desc ∧
        (∀ ws : List Word, (s.chan n.val).words = some ws → t.groupWord (R.dmaChCur n.val) 4 = BitVec.ofNat 32 (dTotal ws - (s.chan n.val).moved)) ∧
        t.chan n.val = s.chan n.val ∧ Frame ((List.range 5).map (fun i => (R.dmaChCur n.val).addr + 4 * i)) [] [.dma] s t)) ∧
      (∀ ws : List Word, s.chSt n.val = 1 → (s.chan n.val).words = some ws →
        (∀ (k : Nat) (x y : Nat → Nat), dReq ws = false → k ≤ dTotal ws - (s.chan n.val).moved → (∀ j : Nat, j < k → x j = dAddr ws 0 (if (s.chan n.val).backward then dTotal ws - 1 - ((s.chan n.val).moved + j) else (s.chan n.val).moved + j) ∧ y j = dAddr ws 1 (if (s.chan n.val).backward then dTotal ws - 1 - ((s.chan n.val).moved + j) else (s.chan n.val).moved + j) ∧
            PlainAccess s 1 (x j) (dSize ws) false ∧ PlainAccess s 1 (y j) (dSize ws) true) →
          Completes (.dmaCurInterval n k ans) s (fun t => t.chan n.val = { s.chan n.val with moved := (s.chan n.val).moved + k } ∧
            t.groupValid (R.dmaChCur n.val) = true ∧ t.groupWord (R.dmaChCur n.val) 4 = BitVec.ofNat 32 (dTotal ws - ((s.chan n.val).moved + k)) ∧
            ((∀ i j : Nat, i < j → j < k → (x j + dSize ws ≤ y i ∨ y i + dSize ws ≤ x j) ∧ (y i + dSize ws ≤ y j ∨ y j + dSize ws ≤ y i)) → ∀ j : Nat, j < k → memBytes t.mem (y j) (dSize ws) = memBytes s.mem (x j) (dSize ws)) ∧ (∀ a : Nat, (∀ j : Nat, j < k → a < y j ∨ y j + dSize ws ≤ a) → memByte t.mem a = memByte s.mem a) ∧ Frame ((List.range 5).map (fun i => (R.dmaChCur n.val).addr + 4 * i)) [.dma, .mem, .sram] [.dma] s t)) ∧
        (∀ (x y j : Nat) (f : MemFail), j = 0 → (s.chan n.val).moved < dTotal ws → x = dAddr ws 0 (if (s.chan n.val).backward then dTotal ws - 1 - ((s.chan n.val).moved + j) else (s.chan n.val).moved + j) → y = dAddr ws 1 (if (s.chan n.val).backward then dTotal ws - 1 - ((s.chan n.val).moved + j) else (s.chan n.val).moved + j) →
          s.remoteOf ((s.chan n.val).desc + 48) = none →
          s.memCheck 1 x (dSize ws) false = some f → (∀ r : Nat, s.target x ≠ .reg r) → (∀ u o : Nat, s.target x ≠ .member u o) →
          (dReq ws = false → ∀ k : Nat, 0 < k → Completes (.dmaCurInterval n k ans) s (fun t => t.chSt n.val = 3 ∧ t.get (R.dmaChStat_code n.val) = failCode f ∧ t.reg (R.dmaChLastLo n.val) = BitVec.ofNat 32 (s.chan n.val).desc ∧
            (t.reg (R.dmaChIrq n.val)).getLsbD 1 = true ∧ ((s.hdr .dma).errCode = 0 → (t.hdr .dma).errCode = BitVec.ofNat 16 (0x0100 + failCode f)) ∧
            (PlainAccess s 1 ((s.chan n.val).desc + 48) 8 true → (t.word ((s.chan n.val).desc + 48)).toNat % 4 = 3 ∧ (t.word ((s.chan n.val).desc + 48)).toNat / 8 % 16 = failCode f ∧
              t.word ((s.chan n.val).desc + 52) = s.tstamp ∧ SameMemoryBut ((s.chan n.val).desc + 48) 8 s t) ∧
            Frame ((R.dmaStat :: R.dmaChCtrl n.val :: R.dmaChStat n.val :: R.dmaChIrq n.val :: R.dmaChLastLo n.val :: R.dmaChLastHi n.val :: (List.range 5).map (fun i => (R.dmaChCur n.val).addr + 4 * i)) ++ ((List.range 3).map (fun i => R.memFault.addr + 4 * i) ++ (List.range 48).map R.memEccCnt)) [.dma, .mem, .sram, .jrnl, .life] [.dma, .jrnl, .mem] s t)) ∧
          (dReq ws = true → s.get R.hkaCtrl_dma_ch = n.val → s.hka.fifo ≠ [] → Completes (.dmaHkaRequest n ans) s (fun t => t.chSt n.val = 3 ∧ t.get (R.dmaChStat_code n.val) = failCode f ∧ t.reg (R.dmaChLastLo n.val) = BitVec.ofNat 32 (s.chan n.val).desc ∧
            (t.reg (R.dmaChIrq n.val)).getLsbD 1 = true ∧ ((s.hdr .dma).errCode = 0 → (t.hdr .dma).errCode = BitVec.ofNat 16 (0x0100 + failCode f)) ∧
            (PlainAccess s 1 ((s.chan n.val).desc + 48) 8 true → (t.word ((s.chan n.val).desc + 48)).toNat % 4 = 3 ∧ (t.word ((s.chan n.val).desc + 48)).toNat / 8 % 16 = failCode f ∧
              t.word ((s.chan n.val).desc + 52) = s.tstamp ∧ SameMemoryBut ((s.chan n.val).desc + 48) 8 s t) ∧
            Frame ((R.dmaStat :: R.dmaChCtrl n.val :: R.dmaChStat n.val :: R.dmaChIrq n.val :: R.dmaChLastLo n.val :: R.dmaChLastHi n.val :: (List.range 5).map (fun i => (R.dmaChCur n.val).addr + 4 * i)) ++ ((List.range 3).map (fun i => R.memFault.addr + 4 * i) ++ (List.range 48).map R.memEccCnt)) [.dma, .mem, .sram, .jrnl, .life] [.dma, .jrnl, .mem] s t))) ∧
        (∀ x y j : Nat, j = 0 → (s.chan n.val).moved < dTotal ws → x = dAddr ws 0 (if (s.chan n.val).backward then dTotal ws - 1 - ((s.chan n.val).moved + j) else (s.chan n.val).moved + j) → y = dAddr ws 1 (if (s.chan n.val).backward then dTotal ws - 1 - ((s.chan n.val).moved + j) else (s.chan n.val).moved + j) → PlainAccess s 1 y (dSize ws) true →
          dReq ws = true → s.get R.hkaCtrl_dma_ch = n.val → s.hka.fifo ≠ [] →
          (PlainAccess s 1 x (dSize ws) false → Completes (.dmaHkaRequest n ans) s (fun t =>
            t.chan n.val = { s.chan n.val with moved := (s.chan n.val).moved + 1 } ∧ memBytes t.mem y (dSize ws) = memBytes s.mem x (dSize ws) ∧
            SameMemoryBut y (dSize ws) s t ∧ Frame [] [.dma, .mem, .sram] [] s t)) ∧
          (x = R.hkaFifoData → dSize ws = 4 → Completes (.dmaHkaRequest n ans) s (fun t =>
            t.chan n.val = { s.chan n.val with moved := (s.chan n.val).moved + 1 } ∧ memBytes t.mem y 4 = leBytes 4 (s.reg R.hkaFifoData).toNat ∧
            t.hka = { s.hka with fifo := s.hka.fifo.tail } ∧ SameMemoryBut y 4 s t ∧
            Frame [R.hkaStat, R.hkaFifoData] [.dma, .mem, .sram, .hka] [] s t))) ∧
        (∀ (k w : Nat) (x y : Nat → Nat), (s.chan n.val).moved ≤ dTotal ws → k = dTotal ws - (s.chan n.val).moved → (dReq ws = false ∨ k = 0) → (∀ j : Nat, j < k → x j = dAddr ws 0 (if (s.chan n.val).backward then dTotal ws - 1 - ((s.chan n.val).moved + j) else (s.chan n.val).moved + j) ∧ y j = dAddr ws 1 (if (s.chan n.val).backward then dTotal ws - 1 - ((s.chan n.val).moved + j) else (s.chan n.val).moved + j) ∧
            PlainAccess s 1 (x j) (dSize ws) false ∧ PlainAccess s 1 (y j) (dSize ws) true) →
          PlainAccess s 1 ((s.chan n.val).desc + 48) 8 true → PlainAccess s 1 ((s.chan n.val).desc + 56) 8 false → (∀ j : Nat, j < k → y j + dSize ws ≤ (s.chan n.val).desc + 48 ∨ (s.chan n.val).desc + 64 ≤ y j) → w = leNat (memBytes s.mem ((s.chan n.val).desc + 56) 8) →
          (w / 2 % 32 = 0 → w % 2 = 1 → Completes (.dmaDescriptorDone n ans) s (fun t => t.chSt n.val = 2 ∧ t.bit (R.dmaChStat_kpend n.val) = false ∧
            t.get (R.dmaChStat_code n.val) = 0 ∧ t.reg (R.dmaChLastLo n.val) = BitVec.ofNat 32 (s.chan n.val).desc ∧
            (t.reg (R.dmaChIrq n.val)).getLsbD 2 = true ∧ (dBit ws 20 = true → (t.reg (R.dmaChIrq n.val)).getLsbD 0 = true) ∧
            (t.word ((s.chan n.val).desc + 48)).toNat = 1 + 4 * b2n (s.chan n.val).ovlp ∧ t.word ((s.chan n.val).desc + 52) = s.tstamp ∧
            t.groupValid (R.dmaChCur n.val) = true ∧ ((∀ i j : Nat, i < j → j < k → (x j + dSize ws ≤ y i ∨ y i + dSize ws ≤ x j) ∧ (y i + dSize ws ≤ y j ∨ y j + dSize ws ≤ y i)) → ∀ j : Nat, j < k → memBytes t.mem (y j) (dSize ws) = memBytes s.mem (x j) (dSize ws)) ∧ (∀ a : Nat, (∀ j : Nat, j < k → a < y j ∨ y j + dSize ws ≤ a) → (a < (s.chan n.val).desc + 48 ∨ (s.chan n.val).desc + 56 ≤ a) → memByte t.mem a = memByte s.mem a) ∧
            (∀ op : OpenOp, s.jFind (fun o => o.cls == 4 && o.data.headD 0 == BitVec.ofNat 32 n.val) = some op → ∀ o ∈ t.jrnl.ops, o.opid ≠ op.opid) ∧
            Frame (R.dmaStat :: R.dmaChCtrl n.val :: R.dmaChStat n.val :: R.dmaChIrq n.val :: R.dmaChLastLo n.val :: R.dmaChLastHi n.val :: (List.range 5).map (fun i => (R.dmaChCur n.val).addr + 4 * i)) [.dma, .mem, .sram, .jrnl] [.dma, .jrnl] s t)) ∧
          (w / 2 % 32 = 0 → w % 2 = 0 → s.memPlace (w / 64 % 2 ^ 42 * 64) = true → Completes (.dmaDescriptorDone n ans) s (fun t => t.chSt n.val = 1 ∧
            t.chan n.val = { desc := w / 64 % 2 ^ 42 * 64 } ∧ t.bit (R.dmaChStat_kpend n.val) = s.bit (R.dmaChStat_kpend n.val) ∧
            (dBit ws 20 = true → (t.reg (R.dmaChIrq n.val)).getLsbD 0 = true) ∧
            (t.word ((s.chan n.val).desc + 48)).toNat = 1 + 4 * b2n (s.chan n.val).ovlp ∧ ((∀ i j : Nat, i < j → j < k → (x j + dSize ws ≤ y i ∨ y i + dSize ws ≤ x j) ∧ (y i + dSize ws ≤ y j ∨ y j + dSize ws ≤ y i)) → ∀ j : Nat, j < k → memBytes t.mem (y j) (dSize ws) = memBytes s.mem (x j) (dSize ws)) ∧ (∀ a : Nat, (∀ j : Nat, j < k → a < y j ∨ y j + dSize ws ≤ a) → (a < (s.chan n.val).desc + 48 ∨ (s.chan n.val).desc + 56 ≤ a) → memByte t.mem a = memByte s.mem a) ∧
            Frame (R.dmaStat :: R.dmaChCtrl n.val :: R.dmaChStat n.val :: R.dmaChIrq n.val :: R.dmaChLastLo n.val :: R.dmaChLastHi n.val :: (List.range 5).map (fun i => (R.dmaChCur n.val).addr + 4 * i)) [.dma, .mem, .sram, .jrnl] [.dma, .jrnl] s t)) ∧
          ((w / 2 % 32 ≠ 0 ∨ (w % 2 = 0 ∧ s.memPlace (w / 64 % 2 ^ 42 * 64) = false)) → Completes (.dmaDescriptorDone n ans) s (fun t =>
            t.chSt n.val = 3 ∧ t.get (R.dmaChStat_code n.val) = 1 ∧ (t.reg (R.dmaChIrq n.val)).getLsbD 1 = true ∧
            (t.word ((s.chan n.val).desc + 48)).toNat / 8 % 16 = 1 ∧ (∀ a : Nat, (∀ j : Nat, j < k → a < y j ∨ y j + dSize ws ≤ a) → (a < (s.chan n.val).desc + 48 ∨ (s.chan n.val).desc + 56 ≤ a) → memByte t.mem a = memByte s.mem a) ∧ Frame (R.dmaStat :: R.dmaChCtrl n.val :: R.dmaChStat n.val :: R.dmaChIrq n.val :: R.dmaChLastLo n.val :: R.dmaChLastHi n.val :: (List.range 5).map (fun i => (R.dmaChCur n.val).addr + 4 * i)) [.dma, .mem, .sram, .jrnl] [.dma, .jrnl] s t)))))

/-- A power-on reset, or VAON below its level, returns every register but the fuses and the pending profile to reset, zeroes SRAM
alone, and keeps the MRAM and the event pointers. RESET_N, the recovery after a sealed Ladle, and SYS_RST_CMD with GO and KEY
make a member reset, which keeps bank modes, regions, the profile, memory, journal and lifetime; another KEY records RST_KEY,
GO = 0 does nothing. VRET or VMRAM below its level makes one with cause SUPPLY. Any other rail fault sets its SYS_SUPPLY bit,
clears SUPPLY_OK and starts the Ladle with a reset to follow (at once where the Ladle has sealed). The PFW ball, VMAIN_SNS and
the thermal source start it under their enables: LADLE = 1, arrivals taken, intake closed, shadow frozen, counts captured,
LADLES + 1, a slot write stopped; a second trigger has no effect. The seal writes the queued journal entries, the lifetime
record, the taken events with LADLE set, the retain copy and a LADLE entry in both copies, and a waiting reset follows. Boot,
once released and sealed, sets BOOTED and SUPPLY_OK and completes SYS_BOOT, with UNWARNED where the last journal entry is a
BOOT and not a LADLE; with both slots empty SAFE = 1. (R344, R345, R346, R348, R350, R353, R354, R355, R356,
21_power_reset_faults.md) -/
def Obligations.ResetsAndTheLadleRun : Prop :=
  ∀ (s : State),
    (∀ c : Instr, (c = .powerOnReset ∨ c = .railUndervoltage 0) → Completes c s (fun t => t.sys.inReset = true ∧ t.sys.cause = 1 ∧ t.sys.ladle = none ∧
      t.sys.slotA = s.sys.slotA ∧ t.sys.slotB = s.sys.slotB ∧ t.sys.active = s.sys.active ∧
      (∀ a : Nat, a ≠ R.sysFuse → a ≠ R.sysProfile → t.reg a = regReset a) ∧ t.reg R.sysFuse = s.reg R.sysFuse ∧
      t.get R.sysProfile_pend = s.get R.sysProfile_pend ∧ (∀ p : Page, (t.hdr p).lock = .locked) ∧
      (∀ a : Nat, memByte t.mem a = if 0x800000 ≤ a ∧ a < 0x2000000 then 0 else memByte s.mem a) ∧
      t.evr.next = s.evr.next ∧ t.evr.lost = s.evr.lost ∧ t.evr.journal = s.evr.journal ∧ t.jrnl.copyA = s.jrnl.copyA ∧ t.jrnl.copyB = s.jrnl.copyB ∧
      t.life.copyA = s.life.copyA ∧ t.life.copyB = s.life.copyB ∧ t.sto.recs = s.sto.recs)) ∧
    Completes .resetPin s (MemberReset 2 s) ∧
    (s.evr.closed = true → s.sys.ladle = none → s.sys.inReset = false → Completes .recoverReset s (MemberReset 5 s)) ∧
    ((s.evr.closed = false ∨ s.sys.ladle ≠ none ∨ s.sys.inReset = true) → exec .recoverReset s = .next s.fin) ∧
    (∀ (m : Master) (v : Word), Reaches s m .sys →
      (v.getLsbD 0 = false → exec (.sysRstCmd m v) s = .next s.fin) ∧
      (v.getLsbD 0 = true → v.toNat / 65536 ≠ 0xB5EF → exec (.sysRstCmd m v) s = .next (s.raise .sys 0x0105 m.val).fin) ∧
      (v.getLsbD 0 = true → v.toNat / 65536 = 0xB5EF → Completes (.sysRstCmd m v) s (MemberReset 4 s))) ∧
    (∀ r : Fin 8, (r = 1 ∨ r = 2) → Completes (.railUndervoltage r) s (fun t => t.sys.inReset = true ∧ t.sys.cause = 3 ∧ t.sys.ladle = none ∧
      t.sys.after = none ∧ t.reg R.sysSupply = BitVec.ofNat 32 (2 ^ r.val) ∧ t.bit R.sysStat_booted = false ∧
      (∀ a : Nat, resetKeeps a → t.reg a = s.reg a) ∧ SameMemoryBut 0x1480000 0x200000 s t ∧ t.life = s.life ∧ ∀ p : Page, (t.hdr p).lock = .locked)) ∧
    (∀ r : Fin 8, 3 ≤ r.val →
      (s.sys.ladle = none → s.evr.closed = false → Completes (.railUndervoltage r) s (fun t => t.regBit R.sysSupply (r.val) = true ∧ t.bit R.sysStat_supply_ok = false ∧
        (∃ r : LadleRun, t.sys.ladle = some r ∧ r.counts = t.life.counts ∧ r.booted = s.bit R.sysStat_booted) ∧ t.bit R.sysStat_ladle = true ∧
      (s.get R.lgeRcStat_phase ≠ 3 → t.evr.queue = []) ∧ t.evr.closed = true ∧ t.lge.frozen = true ∧ t.sys.op = s.sys.op.filter (fun o => o.img.isNone) ∧
      tget 0 t.life.counts 4 = Nat.min (2 ^ 48 - 1) (tget 0 s.life.counts 4 + 1) ∧ t.sys.after = (match s.sys.after with | none => some 3 | some c => some c) ∧ SameMemoryBut 0x1480000 0x200000 s t ∧ Frame (R.sysSupply :: gateRegs ++ [R.sysStat, R.evrStat, R.lgeStat, R.lgeRcStat] ++ (List.range 3).map (fun i => R.memFault.addr + 4 * i) ++ (List.range 5).map (fun i => R.lgeRcRes.addr + 4 * i)) ([.dup, .evr, .gal, .gos, .jrnl, .mac, .out, .trm, .life] ++ [.evr, .lge, .life, .mem, .sys]) ([.dup, .gos, .jrnl, .mem] ++ [.evr, .lge, .mem]) s t)) ∧
      (∀ x : LadleRun, s.sys.ladle = some x → Completes (.railUndervoltage r) s (fun t => t.regBit R.sysSupply (r.val) = true ∧ t.bit R.sysStat_supply_ok = false ∧
        t.sys = { s.sys with after := (match s.sys.after with | none => some 3 | some c => some c) } ∧ Frame (R.sysStat :: R.sysSupply :: gateRegs) ([.dup, .evr, .gal, .gos, .jrnl, .mac, .out, .trm, .life] ++ [.sys]) [.dup, .gos, .jrnl, .mem] s t)) ∧
      (s.sys.ladle = none → s.evr.closed = true → Completes (.railUndervoltage r) s (fun t => t.sys.inReset = true ∧ t.sys.cause = 3 ∧ SameMemory s t ∧
        (∀ a : Nat, resetKeeps a → t.reg a = s.reg a) ∧ ∀ p : Page, (t.hdr p).lock = .locked))) ∧
    (∀ r : Fin 8,
      (s.sys.ladle = none → s.evr.closed = false → Completes (.railOvervoltage r) s (fun t => t.regBit R.sysSupply (r.val + 8) = true ∧ t.bit R.sysStat_supply_ok = false ∧
        (∃ r : LadleRun, t.sys.ladle = some r ∧ r.counts = t.life.counts ∧ r.booted = s.bit R.sysStat_booted) ∧ t.bit R.sysStat_ladle = true ∧
      (s.get R.lgeRcStat_phase ≠ 3 → t.evr.queue = []) ∧ t.evr.closed = true ∧ t.lge.frozen = true ∧ t.sys.op = s.sys.op.filter (fun o => o.img.isNone) ∧
      tget 0 t.life.counts 4 = Nat.min (2 ^ 48 - 1) (tget 0 s.life.counts 4 + 1) ∧ t.sys.after = (match s.sys.after with | none => some 3 | some c => some c) ∧ SameMemoryBut 0x1480000 0x200000 s t ∧ Frame (R.sysSupply :: gateRegs ++ [R.sysStat, R.evrStat, R.lgeStat, R.lgeRcStat] ++ (List.range 3).map (fun i => R.memFault.addr + 4 * i) ++ (List.range 5).map (fun i => R.lgeRcRes.addr + 4 * i)) ([.dup, .evr, .gal, .gos, .jrnl, .mac, .out, .trm, .life] ++ [.evr, .lge, .life, .mem, .sys]) ([.dup, .gos, .jrnl, .mem] ++ [.evr, .lge, .mem]) s t)) ∧
      (∀ x : LadleRun, s.sys.ladle = some x → Completes (.railOvervoltage r) s (fun t => t.regBit R.sysSupply (r.val + 8) = true ∧ t.bit R.sysStat_supply_ok = false ∧
        t.sys = { s.sys with after := (match s.sys.after with | none => some 3 | some c => some c) } ∧ Frame (R.sysStat :: R.sysSupply :: gateRegs) ([.dup, .evr, .gal, .gos, .jrnl, .mac, .out, .trm, .life] ++ [.sys]) [.dup, .gos, .jrnl, .mem] s t)) ∧
      (s.sys.ladle = none → s.evr.closed = true → Completes (.railOvervoltage r) s (fun t => t.sys.inReset = true ∧ t.sys.cause = 3 ∧ SameMemory s t ∧
        (∀ a : Nat, resetKeeps a → t.reg a = s.reg a) ∧ ∀ p : Page, (t.hdr p).lock = .locked))) ∧
    (s.bit R.sysCtrl_pfw_en = false → exec (.pfwAssert false) s = .next s.fin) ∧
    ((s.sys.ladle ≠ none ∨ s.evr.closed = true) → exec (.pfwAssert false) s = .next s.fin) ∧
    (s.bit R.sysCtrl_pfw_en = true → s.sys.ladle = none → s.evr.closed = false → Completes (.pfwAssert false) s (fun t => (∃ r : LadleRun, t.sys.ladle = some r ∧ r.counts = t.life.counts ∧ r.booted = s.bit R.sysStat_booted) ∧ t.bit R.sysStat_ladle = true ∧
      (s.get R.lgeRcStat_phase ≠ 3 → t.evr.queue = []) ∧ t.evr.closed = true ∧ t.lge.frozen = true ∧ t.sys.op = s.sys.op.filter (fun o => o.img.isNone) ∧
      tget 0 t.life.counts 4 = Nat.min (2 ^ 48 - 1) (tget 0 s.life.counts 4 + 1) ∧
      t.sys.after = s.sys.after ∧ SameMemoryBut 0x1480000 0x200000 s t ∧ Frame ([R.sysStat, R.evrStat, R.lgeStat, R.lgeRcStat] ++ (List.range 3).map (fun i => R.memFault.addr + 4 * i) ++ (List.range 5).map (fun i => R.lgeRcRes.addr + 4 * i)) [.evr, .lge, .life, .mem, .sys] [.evr, .lge, .mem] s t)) ∧
    (s.bit R.sysCtrl_vmain_en = true → s.sys.ladle = none → s.evr.closed = false → Completes (.pfwAssert true) s (fun t => (∃ r : LadleRun, t.sys.ladle = some r ∧ r.counts = t.life.counts ∧ r.booted = s.bit R.sysStat_booted) ∧ t.bit R.sysStat_ladle = true ∧
      (s.get R.lgeRcStat_phase ≠ 3 → t.evr.queue = []) ∧ t.evr.closed = true ∧ t.lge.frozen = true ∧ t.sys.op = s.sys.op.filter (fun o => o.img.isNone) ∧
      tget 0 t.life.counts 4 = Nat.min (2 ^ 48 - 1) (tget 0 s.life.counts 4 + 1) ∧
      t.bit R.sysStat_supply_ok = false ∧ t.sys.after = s.sys.after ∧ SameMemoryBut 0x1480000 0x200000 s t ∧ Frame (R.sysSupply :: gateRegs ++ [R.sysStat, R.evrStat, R.lgeStat, R.lgeRcStat] ++ (List.range 3).map (fun i => R.memFault.addr + 4 * i) ++ (List.range 5).map (fun i => R.lgeRcRes.addr + 4 * i)) ([.dup, .evr, .gal, .gos, .jrnl, .mac, .out, .trm, .life] ++ [.evr, .lge, .life, .mem, .sys]) ([.dup, .gos, .jrnl, .mem] ++ [.evr, .lge, .mem]) s t)) ∧
    ((s.bit R.sysCtrl_vmain_en = false ∨ s.sys.ladle ≠ none ∨ s.evr.closed = true) → Completes (.pfwAssert true) s (fun t =>
      t.bit R.sysStat_supply_ok = false ∧ t.sys = s.sys ∧ t.evr.closed = s.evr.closed ∧ Frame (R.sysStat :: R.sysSupply :: gateRegs) ([.dup, .evr, .gal, .gos, .jrnl, .mac, .out, .trm, .life] ++ [.sys]) [.dup, .gos, .jrnl, .mem] s t)) ∧
    ((s.bit R.sysCtrl_therm_en = false ∨ s.hottest < tempCode 135) → exec .thermalTrip s = .next s.fin) ∧
    (s.bit R.sysCtrl_therm_en = true → tempCode 135 ≤ s.hottest → s.sys.ladle = none →
      (s.evr.closed = false → Completes .thermalTrip s (fun t => (∃ r : LadleRun, t.sys.ladle = some r ∧ r.counts = t.life.counts ∧ r.booted = s.bit R.sysStat_booted) ∧ t.bit R.sysStat_ladle = true ∧
      (s.get R.lgeRcStat_phase ≠ 3 → t.evr.queue = []) ∧ t.evr.closed = true ∧ t.lge.frozen = true ∧ t.sys.op = s.sys.op.filter (fun o => o.img.isNone) ∧
      tget 0 t.life.counts 4 = Nat.min (2 ^ 48 - 1) (tget 0 s.life.counts 4 + 1) ∧ t.sys.thermal = true ∧ Pends t .sys 1 ∧
        t.sys.after = (match s.sys.after with | none => some 6 | some c => some c) ∧ SameMemoryBut 0x1480000 0x200000 s t ∧ Frame ([R.sysStat, R.evrStat, R.lgeStat, R.lgeRcStat] ++ (List.range 3).map (fun i => R.memFault.addr + 4 * i) ++ (List.range 5).map (fun i => R.lgeRcRes.addr + 4 * i)) [.evr, .lge, .life, .mem, .sys] [.evr, .lge, .mem] s t)) ∧
      (s.evr.closed = true → Completes .thermalTrip s (fun t => t.sys.thermal = true ∧ t.sys.inReset = true ∧ t.sys.cause = 6 ∧ SameMemory s t))) ∧
    (∀ x : LadleRun, s.bit R.sysCtrl_therm_en = true → tempCode 135 ≤ s.hottest → s.sys.ladle = some x → Completes .thermalTrip s (fun t =>
      t.sys = { s.sys with thermal := true, after := (match s.sys.after with | none => some 6 | some c => some c) } ∧ Frame [] [.sys] [] s t)) ∧
    (s.sys.ladle = none → exec .ladleSeal s = .next s.fin) ∧
    (∀ r : LadleRun, s.sys.ladle = some r → Completes .ladleSeal s (fun t => t.sys.ladle = none ∧
      t.life.counts = s.life.counts ∧ t.life.seq = (s.life.seq + 1) % 2 ^ 32 ∧
      (∃ x : LifeRec, (t.life.copyA = some x ∨ t.life.copyB = some x) ∧ x.seq = s.life.seq ∧ x.counts = r.counts) ∧
      (∃ e : JEntry, e.kind = 6 ∧ tget none t.jrnl.copyA (e.seq % 4096) = some e ∧ tget none t.jrnl.copyB (e.seq % 4096) = some e ∧
        t.jrnl.next = (e.seq + 1) % 2 ^ 32) ∧
      (s.jrnl.queue.length + s.jrnl.waiting.length < 256 → t.jrnl.queue = []) ∧
      (∀ i : Nat, r.booted = true → r.count ≤ 4096 → i < r.count →
        (tget [] t.evr.journal ((r.first + i) % 2 ^ 32 % 262144)).take 4 = (List.range 4).map (fun k => s.word (evAddr ((r.first + i) % 2 ^ 32) + 4 * k)) ∧
        ((tget [] t.evr.journal ((r.first + i) % 2 ^ 32 % 262144)).getD 4 0).getLsbD 26 = true) ∧
      (∀ c : RetainCopy, r.booted = true → r.retain = some c → t.lge.copyA = some c ∨ t.lge.copyB = some c) ∧
      (r.booted = false → t.evr.journal = s.evr.journal ∧ t.lge.copyA = s.lge.copyA ∧ t.lge.copyB = s.lge.copyB) ∧
      (s.sys.after = none → t.bit R.sysStat_ladle = false ∧ t.sys = { s.sys with ladle := none } ∧ t.evr.closed = s.evr.closed ∧ Pends t .life 0 ∧
        Frame ([R.sysStat, R.lgeStat, R.lifeStat] ++ (List.range 4).map (fun i => R.lgeRetain.addr + 4 * i) ++ (List.range 4).map (fun i => R.lifeLast.addr + 4 * i))
          [.evr, .lge, .life, .jrnl, .sys] [.life, .jrnl] s t) ∧
      (∀ c : Nat, s.sys.after = some c → t.sys.inReset = true ∧ t.sys.cause = c ∧ t.sys.after = none ∧ t.bit R.sysStat_booted = false ∧ SameMemory s t ∧
        (∀ a : Nat, resetKeeps a → t.reg a = s.reg a) ∧ ∀ p : Page, (t.hdr p).lock = .locked))) ∧
    (∀ f : BootFinds,
      ((s.sys.inReset = false ∨ s.sys.ladle ≠ none ∨ (s.sys.cause = 6 ∧ tempCode 115 < s.hottest)) → exec (.boot f) s = .next s.fin) ∧
      (s.sys.inReset = true → s.sys.ladle = none → (s.sys.cause ≠ 6 ∨ s.hottest ≤ tempCode 115) → Completes (.boot f) s (fun t =>
        t.sys.inReset = false ∧ t.bit R.sysStat_booted = true ∧ t.bit R.sysStat_supply_ok = true ∧ t.groupValid R.sysBoot = true ∧
        t.groupWord R.sysBoot 2 = BitVec.ofNat 32 f.time ∧
        (s.sys.cause ≠ 1 → t.groupWord R.sysBoot 1 = BitVec.ofNat 32 s.sys.cause) ∧
        (∀ (q : Nat) (e : JEntry), s.sys.cause = 1 → s.jrnl.queue = [] → s.jrnl.next = q + 1 → q + 1 < 2 ^ 32 → f.badA.contains (q % 4096) = false →
          tget none s.jrnl.copyA (q % 4096) = some e → e.seq = q → (e.kind = 5 ∨ e.kind = 6) →
          t.groupWord R.sysBoot 1 = BitVec.ofNat 32 (1 + 8 * b2n (e.kind == 5))) ∧
        (s.sys.slotA = none → s.sys.slotB = none → t.bit R.sysStat_safe = true ∧ t.sys.slotA = none ∧ t.sys.slotB = none ∧
          t.bit R.jrnlStat_scanned = true ∧ t.groupValid R.memMarchRes = true ∧ t.evr.closed = false ∧ Pends t .mem 3))))

/-- An image verifies exactly where its key matches a valid unrevoked slot, its signature checks, SECVER is at least SECVER_MIN
and its format is valid. For an UNLOCKED SYS page an operation while one runs is dropped with CFG_BUSY; a WRITE that fails
verification, or is too long, gives STATUS VERIFY and its ERR and touches no slot; else it opens a journal entry. LOAD gives
STATUS LIMIT, ERR IMG_LIMIT and a LOAD_REJECT event where the loader rejects the image, with the running configuration kept;
else the loaded state with SLOT, FALLBACK 0 and SAFE 0. The end completes SYS_CFG_RES and CFG_DONE: a failed slot write gives
SLOT, SLOT_FAIL and leaves the slots, a good WRITE makes its slot active. SYS_PROFILE stores PEND and keeps ACTIVE. WRITE_LOAD
then loads. A drain writes copies A and B at NEXT, a CARRY first where the head meets an open operation, and a GAP or a
waiting entry follows; TRIP_ISSUE ends PARTIAL or FAILED; RESOLVE appends RESOLVED or records RES_BAD; the cursor loads the
window, with BAD bits, GONE and zeros; JRNL_POS completes. LIFE_UPDATE writes the next record under its operation and
completes LIFE_LAST, unless the Ladle has run; LIFE_SEL returns a count or records SEL_BAD. (R350, R352, R31, R357, R358,
R359, R360, R362, R364, R312, 21_power_reset_faults.md) -/
def Obligations.ConfigurationJournalAndLifetime : Prop :=
  ∀ (s : State),
    (∀ img : CfgImage, s.verify img = none ↔ (∃ k : Fin 4, img.key = some k ∧ (s.get R.sysFuse_valid).testBit k.val = true ∧
      (s.get R.sysFuse_revoked).testBit k.val = false) ∧ img.signed = true ∧ s.get R.sysFuse_secver_min ≤ img.secver ∧ img.format = true) ∧
    (∀ (m : Master) (v : Word), Reaches s m .sys →
      (∀ img : CfgImage, (s.sys.op ≠ none → exec (.configWrite m v img) s = .next (s.raise .sys 0x0104 m.val).fin) ∧
        (∀ e : Nat, s.sys.op = none → (if 1984 * 1024 < s.get R.sysCfgLen_len then some 0x0102 else s.verify img) = some e → Completes (.configWrite m v img) s (fun t =>
          t.sys = { s.sys with op := some { op := 1, status := 1, slotB := !s.sys.active, digest := img.digest0, start := s.time.ticks } } ∧
          ((s.hdr .sys).errCode = 0 → (t.hdr .sys).errCode = BitVec.ofNat 16 e) ∧ t.groupValid R.sysCfgRes = false ∧
          Frame [R.sysCfgRes.addr] [.sys] [.sys] s t)) ∧
        (s.sys.op = none → s.get R.sysCfgLen_len ≤ 1984 * 1024 → s.verify img = none → Completes (.configWrite m v img) s (fun t =>
          t.sys = { s.sys with op := some { op := 1, img := some img, slotB := !s.sys.active, digest := img.digest0, start := s.time.ticks } } ∧
          t.groupValid R.sysCfgRes = false ∧ t.jrnl.nextOp = (s.jrnl.nextOp + 1) % 2 ^ 32 ∧
          (s.jRoom = true → t.jrnl.queue = s.jrnl.queue ++ [s.jEntry s.jrnl.nextOp 6 0 0 [img.digest0, BitVec.ofNat 32 (b2n !s.sys.active)]] ∧
            t.jrnl.ops = s.jrnl.ops ++ [⟨s.jrnl.nextOp, 6, [img.digest0, BitVec.ofNat 32 (b2n !s.sys.active)], 0, none⟩]) ∧
          (s.jRoom = false → t.jrnl.ops = s.jrnl.ops ∧ t.jrnl.queue = s.jrnl.queue ∧ t.jrnl.lost = s.jrnl.lost + 1 ∧ Pends t .jrnl 1) ∧
          Frame [R.sysCfgRes.addr] [.sys, .jrnl] [.jrnl] s t)) ∧
        (s.sys.op ≠ none → exec (.configWriteLoad m v img) s = .next (s.raise .sys 0x0104 m.val).fin) ∧
        (∀ e : Nat, s.sys.op = none → (if 1984 * 1024 < s.get R.sysCfgLen_len then some 0x0102 else s.verify img) = some e → Completes (.configWriteLoad m v img) s (fun t =>
          t.sys = { s.sys with op := some { op := 3, status := 1, slotB := !s.sys.active, digest := img.digest0, start := s.time.ticks } } ∧
          ((s.hdr .sys).errCode = 0 → (t.hdr .sys).errCode = BitVec.ofNat 16 e) ∧ t.groupValid R.sysCfgRes = false ∧
          Frame [R.sysCfgRes.addr] [.sys] [.sys] s t)) ∧
        (s.sys.op = none → s.get R.sysCfgLen_len ≤ 1984 * 1024 → s.verify img = none → Completes (.configWriteLoad m v img) s (fun t =>
          t.sys = { s.sys with op := some { op := 3, img := some img, slotB := !s.sys.active, digest := img.digest0, start := s.time.ticks } } ∧
          t.groupValid R.sysCfgRes = false ∧ t.jrnl.nextOp = (s.jrnl.nextOp + 1) % 2 ^ 32 ∧
          (s.jRoom = true → t.jrnl.queue = s.jrnl.queue ++ [s.jEntry s.jrnl.nextOp 6 0 0 [img.digest0, BitVec.ofNat 32 (b2n !s.sys.active)]] ∧
            t.jrnl.ops = s.jrnl.ops ++ [⟨s.jrnl.nextOp, 6, [img.digest0, BitVec.ofNat 32 (b2n !s.sys.active)], 0, none⟩]) ∧
          (s.jRoom = false → t.jrnl.ops = s.jrnl.ops ∧ t.jrnl.queue = s.jrnl.queue ∧ t.jrnl.lost = s.jrnl.lost + 1 ∧ Pends t .jrnl 1) ∧
          Frame [R.sysCfgRes.addr] [.sys, .jrnl] [.jrnl] s t))) ∧
      (s.sys.op ≠ none → exec (.configLoad m v) s = .next (s.raise .sys 0x0104 m.val).fin) ∧
      (s.sys.op = none → s.activeImage = none → Completes (.configLoad m v) s (fun t =>
        t.sys = { s.sys with op := some { op := 2, status := 1, slotB := s.sys.active, start := s.time.ticks } } ∧
        ((s.hdr .sys).errCode = 0 → (t.hdr .sys).errCode = 0x0102) ∧ t.groupValid R.sysCfgRes = false ∧ Frame [R.sysCfgRes.addr] [.sys] [.sys] s t)) ∧
      (∀ img : CfgImage, s.sys.op = none → s.activeImage = some img →
        (loadImage img (s.cfgBegin { op := 2, slotB := s.sys.active, digest := img.digest0 }) = none → Completes (.configLoad m v) s (fun t =>
          t.sys = { s.sys with op := some { op := 2, status := 3, slotB := s.sys.active, digest := img.digest0, start := s.time.ticks } } ∧
          ((s.hdr .sys).errCode = 0 → (t.hdr .sys).errCode = 0x0103) ∧ t.groupValid R.sysCfgRes = false ∧
          t.evr.queue = s.evr.queue ++ [s.mkEvent 0x02 3 0 0x0103 0 0] ∧ Frame [R.sysCfgRes.addr] [.sys, .evr] [.sys] s t)) ∧
        (∀ u : State, loadImage img (s.cfgBegin { op := 2, slotB := s.sys.active, digest := img.digest0 }) = some u → Completes (.configLoad m v) s (fun t =>
          t.bit R.sysStat_safe = false ∧ t.bit R.sysStat_fallback = false ∧ t.bit R.sysStat_slot = s.sys.active ∧
          t.sys = { u.sys with op := u.sys.op.map (fun o => { o with status := 0 }) } ∧ Frame [R.sysStat] [.sys, .evr] [] u t))) ∧
      Completes (.sysProfileWrite m v) s (fun t => t.get R.sysProfile_pend = v.toNat % 4 ∧ t.get R.sysProfile_active = s.get R.sysProfile_active ∧
        t.sys = { s.sys with seq := s.sys.seq + 2 } ∧ Frame [R.sysProfile] [.sys] [] s t)) ∧
    (∀ ok : Bool, (s.sys.op = none → exec (.configOperationEnd ok) s = .next s.fin) ∧
      (∀ o : CfgOp, s.sys.op = some o → Completes (.configOperationEnd ok) s (fun t => t.sys.op = none ∧ t.trm.loading = false ∧
        t.groupValid R.sysCfgRes = true ∧ t.groupWord R.sysCfgRes 2 = o.digest ∧ Pends t .sys 2 ∧
        (o.img = none → t.groupWord R.sysCfgRes 1 = BitVec.ofNat 32 (o.status + 8 * b2n o.slotB) ∧ t.sys = { s.sys with op := none } ∧ Frame (gateRegs ++ (List.range 4).map (fun i => R.sysCfgRes.addr + 4 * i)) ([.dup, .evr, .gal, .gos, .jrnl, .mac, .out, .trm, .life] ++ [.sys]) ([.dup, .gos, .jrnl, .mem] ++ [.sys]) s t) ∧
        (o.img ≠ none → ok = false → t.groupWord R.sysCfgRes 1 = BitVec.ofNat 32 (2 + 8 * b2n o.slotB) ∧ t.sys = { s.sys with op := none } ∧
          ((s.hdr .sys).errCode = 0 → (t.hdr .sys).errCode = 0x0106) ∧ Frame (gateRegs ++ (List.range 4).map (fun i => R.sysCfgRes.addr + 4 * i)) ([.dup, .evr, .gal, .gos, .jrnl, .mac, .out, .trm, .life] ++ [.sys]) ([.dup, .gos, .jrnl, .mem] ++ [.sys]) s t) ∧
        (∀ img : CfgImage, o.img = some img → ok = true → o.op = 1 → t.groupWord R.sysCfgRes 1 = BitVec.ofNat 32 (8 * b2n o.slotB) ∧
          t.sys = { s.sys with op := none, active := o.slotB, seq := s.sys.seq + 2, slotA := if o.slotB then s.sys.slotA else some img, slotB := if o.slotB then some img else s.sys.slotB } ∧ Frame (gateRegs ++ (List.range 4).map (fun i => R.sysCfgRes.addr + 4 * i)) ([.dup, .evr, .gal, .gos, .jrnl, .mac, .out, .trm, .life] ++ [.sys]) ([.dup, .gos, .jrnl, .mem] ++ [.sys]) s t) ∧
        (∀ (img : CfgImage) (w : State), o.img = some img → ok = true → o.op = 3 →
          w = ((s.jDoneAll (fun (x : OpenOp) => x.cls == 6) 0 (fun x => x.data)).updSys (fun x => { x with slotA := if o.slotB then x.slotA else some img, slotB := if o.slotB then some img else x.slotB, active := o.slotB, seq := x.seq + 2 })).sysEvent 2 img.digest0 (b2n o.slotB) →
          (loadImage img w = none → t.groupWord R.sysCfgRes 1 = BitVec.ofNat 32 (3 + 8 * b2n o.slotB) ∧ t.sys.active = o.slotB ∧
            ((s.hdr .sys).errCode = 0 → (t.hdr .sys).errCode = 0x0103) ∧ Frame (gateRegs ++ (List.range 4).map (fun i => R.sysCfgRes.addr + 4 * i)) ([.dup, .evr, .gal, .gos, .jrnl, .mac, .out, .trm, .life] ++ [.sys]) ([.dup, .gos, .jrnl, .mem] ++ [.sys]) s t) ∧
          ((loadImage img w).isSome = true → t.groupWord R.sysCfgRes 1 = BitVec.ofNat 32 (8 * b2n o.slotB) ∧ t.bit R.sysStat_safe = false ∧
            t.bit R.sysStat_fallback = false ∧ t.bit R.sysStat_slot = o.slotB))))) ∧
    ((s.jrnl.queue = [] ∨ s.sys.ladle ≠ none) → exec .journalDrain s = .next s.fin) ∧
    (∀ (e : JEntry) (rest : List JEntry), s.sys.ladle = none → s.jrnl.queue = e :: rest →
      ((∀ o ∈ s.jrnl.ops, ∀ q : Nat, o.seq = some q → (s.jrnl.next + 2 ^ 32 - q) % 2 ^ 32 ≠ 4096) → Completes .journalDrain s (fun t =>
        tget none t.jrnl.copyA (s.jrnl.next % 4096) = some { e with seq := s.jrnl.next } ∧
        tget none t.jrnl.copyB (s.jrnl.next % 4096) = some { e with seq := s.jrnl.next } ∧ t.jrnl.next = (s.jrnl.next + 1) % 2 ^ 32 ∧
        (∀ k : Nat, k ≠ s.jrnl.next % 4096 → tget none t.jrnl.copyA k = tget none s.jrnl.copyA k ∧ tget none t.jrnl.copyB k = tget none s.jrnl.copyB k) ∧
        (s.jrnl.gap = 0 → s.jrnl.waiting = [] → t.jrnl.queue = rest) ∧
        (0 < s.jrnl.gap → s.jrnl.waiting = [] → rest.length < 64 → t.jrnl.gap = 0 ∧
          t.jrnl.queue = rest ++ [s.jEntry 0 0 7 0 [BitVec.ofNat 32 s.jrnl.gap]]) ∧
        (∀ (w : JEntry) (ws : List JEntry), s.jrnl.gap = 0 → s.jrnl.waiting = w :: ws → rest.length < 64 → t.jrnl.queue = rest ++ [w] ∧ t.jrnl.waiting = ws) ∧
        Frame [] [.jrnl] [] s t)) ∧
      (∀ (o : OpenOp) (q : Nat) (y : JEntry), s.jrnl.ops = [o] → o.seq = some q → (s.jrnl.next + 2 ^ 32 - q) % 2 ^ 32 = 4096 →
        tget none s.jrnl.copyA (s.jrnl.next % 4096) = some y → Completes .journalDrain s (fun t =>
        tget none t.jrnl.copyA (s.jrnl.next % 4096) = some { y with seq := s.jrnl.next, kind := 3 } ∧
        tget none t.jrnl.copyB (s.jrnl.next % 4096) = some { y with seq := s.jrnl.next, kind := 3 } ∧
        tget none t.jrnl.copyA ((s.jrnl.next + 1) % 4096) = some { e with seq := (s.jrnl.next + 1) % 2 ^ 32 } ∧
        tget none t.jrnl.copyB ((s.jrnl.next + 1) % 4096) = some { e with seq := (s.jrnl.next + 1) % 2 ^ 32 } ∧ Frame [] [.jrnl] [] s t))) ∧
    (s.jOwn.find? (fun o => o.cls == 1) = none → exec .tripIssueTimeout s = .next s.fin) ∧
    (∀ o : OpenOp, s.jOwn.find? (fun o => o.cls == 1) = some o → Completes .tripIssueTimeout s (fun t =>
      t.jrnl.ops = s.jrnl.ops.filter (fun x => x.opid != o.opid) ∧
      (s.jRoom = true → t.jrnl.queue = s.jrnl.queue ++ [s.jEntry o.opid 1 2 (if o.marks = 0 then 2 else 1) o.data]) ∧
      (s.jRoom = false → t.jrnl.lost = s.jrnl.lost + 1 ∧ t.jrnl.gap = s.jrnl.gap + 1 ∧ Pends t .jrnl 1) ∧ Frame [] [.jrnl] [.jrnl] s t)) ∧
    (s.jRoom = true ↔ s.jrnl.queue.length < (match s.sys.ladle with | some r => r.queued + 128 | none => 64)) ∧
    (∀ (m : Master) (v : Word), Reaches s m .jrnl →
      ((∀ o ∈ s.jrnl.ops, o.opid ≠ v.toNat) → exec (.jrnlResolve m v) s = .next (s.raise .jrnl 0x0101 m.val).fin) ∧
      (∀ o ∈ s.jrnl.ops, o.opid = v.toNat → Completes (.jrnlResolve m v) s (fun t =>
        t.jrnl.ops = s.jrnl.ops.filter (fun x => x.opid != v.toNat) ∧ t.jrnl.scanOpen = s.jrnl.scanOpen.filter (fun x => x.opid != v.toNat) ∧
        (s.jRoom = true → ∃ c : Nat, t.jrnl.queue = s.jrnl.queue ++ [s.jEntry v.toNat c 4 0 []]) ∧ t.groupValid R.jrnlOpen = true ∧
        Frame ((List.range 5).map (fun i => R.jrnlOpen.addr + 4 * i)) [.jrnl] [.jrnl] s t)) ∧
      Completes (.jrnlCursorWrite m v) s (fun t => t.reg R.jrnlCursor = v ∧ t.groupValid R.jrnlWinSt = false ∧
        t.jrnl = { s.jrnl with load := some v.toNat } ∧ Frame [R.jrnlCursor, R.jrnlWinSt.addr] [.jrnl] [] s t)) ∧
    (s.jrnl.load = none → exec .jrnlWindowLoadDone s = .next s.fin) ∧
    (∀ q back held : Nat, s.jrnl.load = some q → back = (s.jrnl.next + 2 ^ 32 - q) % 2 ^ 32 → held = (s.jrnl.next + 2 ^ 32 - s.jOldest) % 2 ^ 32 →
      Completes .jrnlWindowLoadDone s (fun t => t.jrnl = { s.jrnl with load := none } ∧ t.groupValid R.jrnlWinSt = true ∧
        (0 < back → back ≤ held → t.groupWord R.jrnlWinSt 1 = BitVec.ofNat 32 q ∧ (t.groupWord R.jrnlWinSt 2).toNat % 16 = Nat.min 8 back ∧
          ∀ e k : Nat, e < 8 → k < 16 →
            (Nat.min 8 back ≤ e → t.reg (R.jrnlWin (16 * e + k)) = 0) ∧
            (e < Nat.min 8 back →
              (∀ x : JEntry, (tget none s.jrnl.copyA ((q + e) % 4096) = some x ∨
                  (tget none s.jrnl.copyA ((q + e) % 4096) = none ∧ tget none s.jrnl.copyB ((q + e) % 4096) = some x)) →
                t.reg (R.jrnlWin (16 * e + k)) = x.words.getD k 0 ∧ (t.groupWord R.jrnlWinSt 2).getLsbD (4 + e) = false) ∧
              (tget none s.jrnl.copyA ((q + e) % 4096) = none → tget none s.jrnl.copyB ((q + e) % 4096) = none →
                t.reg (R.jrnlWin (16 * e + k)) = 0 ∧ (t.groupWord R.jrnlWinSt 2).getLsbD (4 + e) = true))) ∧
        ((back = 0 ∨ held < back) → t.groupWord R.jrnlWinSt 2 = 0 ∧ ∀ i : Nat, i < 128 → t.reg (R.jrnlWin i) = 0) ∧
        (held < back → back < 2 ^ 31 → t.groupWord R.jrnlWinSt 1 = BitVec.ofNat 32 s.jOldest) ∧
        Frame ((List.range 3).map (fun i => R.jrnlWinSt.addr + 4 * i) ++ (List.range 128).map R.jrnlWin) [.jrnl] [.jrnl] s t)) ∧
    Completes .jrnlPosInterval s (fun t => t.groupValid R.jrnlPos = true ∧ t.groupWord R.jrnlPos 1 = BitVec.ofNat 32 s.jrnl.next ∧
      t.groupWord R.jrnlPos 2 = BitVec.ofNat 32 s.jOldest ∧ t.groupWord R.jrnlPos 3 = BitVec.ofNat 32 s.jrnl.ops.length ∧
      t.groupWord R.jrnlPos 4 = BitVec.ofNat 32 s.jrnl.lost ∧ Frame ((List.range 5).map (fun i => R.jrnlPos.addr + 4 * i)) [] [.jrnl] s t) ∧
    (s.evr.closed = true → exec .lifeUpdate s = .next s.fin) ∧
    (s.evr.closed = false → Completes .lifeUpdate s (fun t => t.life.counts = s.life.counts ∧ t.life.seq = (s.life.seq + 1) % 2 ^ 32 ∧
      (∃ x : LifeRec, (t.life.copyA = some x ∧ t.life.copyB = s.life.copyB ∨ t.life.copyB = some x ∧ t.life.copyA = s.life.copyA) ∧
        x.seq = s.life.seq ∧ x.counts = s.life.counts) ∧
      t.groupValid R.lifeLast = true ∧ t.groupWord R.lifeLast 1 = BitVec.ofNat 32 s.life.seq ∧ t.groupWord R.lifeLast 2 = s.tstamp ∧ Pends t .life 0 ∧
      (s.sys.ladle = none → s.jrnl.queue.length < 63 → (∀ o ∈ s.jrnl.scanOpen ++ s.jrnl.ops, o.opid ≠ s.jrnl.nextOp) → t.jrnl.ops = s.jrnl.ops ∧
        t.jrnl.queue = s.jrnl.queue ++ [s.jEntry s.jrnl.nextOp 7 0 0 [BitVec.ofNat 32 s.life.seq, BitVec.ofNat 32 (b2n s.life.toB)], s.jEntry s.jrnl.nextOp 7 2 0 [BitVec.ofNat 32 s.life.seq, BitVec.ofNat 32 (b2n s.life.toB)]]) ∧
      Frame (R.lifeStat :: (List.range 4).map (fun i => R.lifeLast.addr + 4 * i)) [.life, .jrnl] [.life, .jrnl] s t)) ∧
    (∀ (m : Master) (v : Word), Reaches s m .life →
      (281 < v.toNat % 512 → exec (.lifeSelWrite m v) s = .next (s.raise .life 0x0101 m.val).fin) ∧
      (v.toNat % 512 ≤ 281 → Completes (.lifeSelWrite m v) s (fun t => t.get R.lifeSel_index = v.toNat % 512 ∧ t.groupValid R.lifeVal = true ∧
        t.groupWord R.lifeVal 1 = BitVec.ofNat 32 (tget 0 s.life.counts (v.toNat % 512)) ∧
        t.groupWord R.lifeVal 2 = BitVec.ofNat 32 (tget 0 s.life.counts (v.toNat % 512) / 2 ^ 32) ∧ Frame (R.lifeSel :: (List.range 3).map (fun i => R.lifeVal.addr + 4 * i)) [] [.life] s t)))

/-- From every state whose memory is in canonical form (addresses strictly rising, no entry equal to what an unlisted address
reads as), a step of any command, the commands that reset, load and copy among them, and the tick of an empty queue, answers a
state whose memory is in that form. (R4, R38, R325, 20_memory_and_dma.md) -/
def Obligations.StepKeepsMemoryForm : Prop :=
  ∀ s t : State, MemoryInv s → step s = .next t → MemoryInv t

/-- Whatever state a step starts in and whatever command it runs: in the state it answers, IRQ_PEND of every page holds every
LEVEL source that reads 1, and the forward OR stands only while some enabled source is asserted; so the interrupt invariant
holds after every step. (R44, R45, R54, R56) -/
def Obligations.EveryStepLeavesInterruptsConsistent : Prop :=
  ∀ s t : State, step s = .next t → PendCovers t ∧ ForwardOrHolds t ∧ InterruptInv t

/-- The state after reset lists no memory and so has its canonical form; boot is not complete and no forward OR stands, so the
interrupt invariant holds; every page is LOCKED with ERR 0, and the queue is empty. (R44, R46, R345, R348) -/
def Obligations.InvariantsHoldAtReset : Prop :=
  MemoryInv State.reset ∧ InterruptInv State.reset ∧ State.reset.pending = [] ∧ State.reset.bit R.sysStat_booted = false ∧
    ∀ p : Page, (State.reset.hdr p).lock = .locked ∧ (State.reset.hdr p).errCode = 0 ∧ (State.reset.hdr p).irqPend = 0 ∧ (State.reset.hdr p).irqEn = 0
end

