-- ==== Sys2Proof/Laws/State.lean ====
section
/-! SUPPORT. One lemma for each field of State under each named update, so that no proof unfolds a record update. -/

namespace Sys2Proof.Machine

/-! ### setReg -/

@[simp] theorem setReg_pending (s : State) (a : Nat) (v : Word) : (s.setReg a v).pending = s.pending := rfl
@[simp] theorem setReg_hdrs (s : State) (a : Nat) (v : Word) : (s.setReg a v).hdrs = s.hdrs := rfl
@[simp] theorem setReg_latches (s : State) (a : Nat) (v : Word) : (s.setReg a v).latches = s.latches := rfl
@[simp] theorem setReg_mem (s : State) (a : Nat) (v : Word) : (s.setReg a v).mem = s.mem := rfl
@[simp] theorem setReg_out (s : State) (a : Nat) (v : Word) : (s.setReg a v).out = s.out := rfl
@[simp] theorem setReg_free (s : State) (a : Nat) (v : Word) : (s.setReg a v).free = s.free := rfl
@[simp] theorem setReg_host (s : State) (a : Nat) (v : Word) : (s.setReg a v).host = s.host := rfl
@[simp] theorem setReg_time (s : State) (a : Nat) (v : Word) : (s.setReg a v).time = s.time := rfl
@[simp] theorem setReg_afe (s : State) (a : Nat) (v : Word) : (s.setReg a v).afe = s.afe := rfl
@[simp] theorem setReg_dfc (s : State) (a : Nat) (v : Word) : (s.setReg a v).dfc = s.dfc := rfl
@[simp] theorem setReg_grid (s : State) (a : Nat) (v : Word) : (s.setReg a v).grid = s.grid := rfl
@[simp] theorem setReg_svs (s : State) (a : Nat) (v : Word) : (s.setReg a v).svs = s.svs := rfl
@[simp] theorem setReg_phe (s : State) (a : Nat) (v : Word) : (s.setReg a v).phe = s.phe := rfl
@[simp] theorem setReg_pea (s : State) (a : Nat) (v : Word) : (s.setReg a v).pea = s.pea := rfl
@[simp] theorem setReg_trm (s : State) (a : Nat) (v : Word) : (s.setReg a v).trm = s.trm := rfl
@[simp] theorem setReg_dup (s : State) (a : Nat) (v : Word) : (s.setReg a v).dup = s.dup := rfl
@[simp] theorem setReg_evr (s : State) (a : Nat) (v : Word) : (s.setReg a v).evr = s.evr := rfl
@[simp] theorem setReg_drc (s : State) (a : Nat) (v : Word) : (s.setReg a v).drc = s.drc := rfl
@[simp] theorem setReg_sto (s : State) (a : Nat) (v : Word) : (s.setReg a v).sto = s.sto := rfl
@[simp] theorem setReg_jrnl (s : State) (a : Nat) (v : Word) : (s.setReg a v).jrnl = s.jrnl := rfl
@[simp] theorem setReg_life (s : State) (a : Nat) (v : Word) : (s.setReg a v).life = s.life := rfl
@[simp] theorem setReg_lge (s : State) (a : Nat) (v : Word) : (s.setReg a v).lge = s.lge := rfl
@[simp] theorem setReg_gos (s : State) (a : Nat) (v : Word) : (s.setReg a v).gos = s.gos := rfl
@[simp] theorem setReg_mac (s : State) (a : Nat) (v : Word) : (s.setReg a v).mac = s.mac := rfl
@[simp] theorem setReg_gal (s : State) (a : Nat) (v : Word) : (s.setReg a v).gal = s.gal := rfl
@[simp] theorem setReg_fio (s : State) (a : Nat) (v : Word) : (s.setReg a v).fio = s.fio := rfl
@[simp] theorem setReg_hka (s : State) (a : Nat) (v : Word) : (s.setReg a v).hka = s.hka := rfl
@[simp] theorem setReg_sram (s : State) (a : Nat) (v : Word) : (s.setReg a v).sram = s.sram := rfl
@[simp] theorem setReg_dma (s : State) (a : Nat) (v : Word) : (s.setReg a v).dma = s.dma := rfl
@[simp] theorem setReg_sys (s : State) (a : Nat) (v : Word) : (s.setReg a v).sys = s.sys := rfl

/-! ### put -/

@[simp] theorem put_pending (s : State) (f : Fld) (v : Nat) : (s.put f v).pending = s.pending := rfl
@[simp] theorem put_hdrs (s : State) (f : Fld) (v : Nat) : (s.put f v).hdrs = s.hdrs := rfl
@[simp] theorem put_latches (s : State) (f : Fld) (v : Nat) : (s.put f v).latches = s.latches := rfl
@[simp] theorem put_mem (s : State) (f : Fld) (v : Nat) : (s.put f v).mem = s.mem := rfl
@[simp] theorem put_out (s : State) (f : Fld) (v : Nat) : (s.put f v).out = s.out := rfl
@[simp] theorem put_free (s : State) (f : Fld) (v : Nat) : (s.put f v).free = s.free := rfl
@[simp] theorem put_host (s : State) (f : Fld) (v : Nat) : (s.put f v).host = s.host := rfl
@[simp] theorem put_time (s : State) (f : Fld) (v : Nat) : (s.put f v).time = s.time := rfl
@[simp] theorem put_afe (s : State) (f : Fld) (v : Nat) : (s.put f v).afe = s.afe := rfl
@[simp] theorem put_dfc (s : State) (f : Fld) (v : Nat) : (s.put f v).dfc = s.dfc := rfl
@[simp] theorem put_grid (s : State) (f : Fld) (v : Nat) : (s.put f v).grid = s.grid := rfl
@[simp] theorem put_svs (s : State) (f : Fld) (v : Nat) : (s.put f v).svs = s.svs := rfl
@[simp] theorem put_phe (s : State) (f : Fld) (v : Nat) : (s.put f v).phe = s.phe := rfl
@[simp] theorem put_pea (s : State) (f : Fld) (v : Nat) : (s.put f v).pea = s.pea := rfl
@[simp] theorem put_trm (s : State) (f : Fld) (v : Nat) : (s.put f v).trm = s.trm := rfl
@[simp] theorem put_dup (s : State) (f : Fld) (v : Nat) : (s.put f v).dup = s.dup := rfl
@[simp] theorem put_evr (s : State) (f : Fld) (v : Nat) : (s.put f v).evr = s.evr := rfl
@[simp] theorem put_drc (s : State) (f : Fld) (v : Nat) : (s.put f v).drc = s.drc := rfl
@[simp] theorem put_sto (s : State) (f : Fld) (v : Nat) : (s.put f v).sto = s.sto := rfl
@[simp] theorem put_jrnl (s : State) (f : Fld) (v : Nat) : (s.put f v).jrnl = s.jrnl := rfl
@[simp] theorem put_life (s : State) (f : Fld) (v : Nat) : (s.put f v).life = s.life := rfl
@[simp] theorem put_lge (s : State) (f : Fld) (v : Nat) : (s.put f v).lge = s.lge := rfl
@[simp] theorem put_gos (s : State) (f : Fld) (v : Nat) : (s.put f v).gos = s.gos := rfl
@[simp] theorem put_mac (s : State) (f : Fld) (v : Nat) : (s.put f v).mac = s.mac := rfl
@[simp] theorem put_gal (s : State) (f : Fld) (v : Nat) : (s.put f v).gal = s.gal := rfl
@[simp] theorem put_fio (s : State) (f : Fld) (v : Nat) : (s.put f v).fio = s.fio := rfl
@[simp] theorem put_hka (s : State) (f : Fld) (v : Nat) : (s.put f v).hka = s.hka := rfl
@[simp] theorem put_sram (s : State) (f : Fld) (v : Nat) : (s.put f v).sram = s.sram := rfl
@[simp] theorem put_dma (s : State) (f : Fld) (v : Nat) : (s.put f v).dma = s.dma := rfl
@[simp] theorem put_sys (s : State) (f : Fld) (v : Nat) : (s.put f v).sys = s.sys := rfl

/-! ### putBit -/

@[simp] theorem putBit_pending (s : State) (f : Fld) (b : Bool) : (s.putBit f b).pending = s.pending := rfl
@[simp] theorem putBit_hdrs (s : State) (f : Fld) (b : Bool) : (s.putBit f b).hdrs = s.hdrs := rfl
@[simp] theorem putBit_latches (s : State) (f : Fld) (b : Bool) : (s.putBit f b).latches = s.latches := rfl
@[simp] theorem putBit_mem (s : State) (f : Fld) (b : Bool) : (s.putBit f b).mem = s.mem := rfl
@[simp] theorem putBit_out (s : State) (f : Fld) (b : Bool) : (s.putBit f b).out = s.out := rfl
@[simp] theorem putBit_free (s : State) (f : Fld) (b : Bool) : (s.putBit f b).free = s.free := rfl
@[simp] theorem putBit_host (s : State) (f : Fld) (b : Bool) : (s.putBit f b).host = s.host := rfl
@[simp] theorem putBit_time (s : State) (f : Fld) (b : Bool) : (s.putBit f b).time = s.time := rfl
@[simp] theorem putBit_afe (s : State) (f : Fld) (b : Bool) : (s.putBit f b).afe = s.afe := rfl
@[simp] theorem putBit_dfc (s : State) (f : Fld) (b : Bool) : (s.putBit f b).dfc = s.dfc := rfl
@[simp] theorem putBit_grid (s : State) (f : Fld) (b : Bool) : (s.putBit f b).grid = s.grid := rfl
@[simp] theorem putBit_svs (s : State) (f : Fld) (b : Bool) : (s.putBit f b).svs = s.svs := rfl
@[simp] theorem putBit_phe (s : State) (f : Fld) (b : Bool) : (s.putBit f b).phe = s.phe := rfl
@[simp] theorem putBit_pea (s : State) (f : Fld) (b : Bool) : (s.putBit f b).pea = s.pea := rfl
@[simp] theorem putBit_trm (s : State) (f : Fld) (b : Bool) : (s.putBit f b).trm = s.trm := rfl
@[simp] theorem putBit_dup (s : State) (f : Fld) (b : Bool) : (s.putBit f b).dup = s.dup := rfl
@[simp] theorem putBit_evr (s : State) (f : Fld) (b : Bool) : (s.putBit f b).evr = s.evr := rfl
@[simp] theorem putBit_drc (s : State) (f : Fld) (b : Bool) : (s.putBit f b).drc = s.drc := rfl
@[simp] theorem putBit_sto (s : State) (f : Fld) (b : Bool) : (s.putBit f b).sto = s.sto := rfl
@[simp] theorem putBit_jrnl (s : State) (f : Fld) (b : Bool) : (s.putBit f b).jrnl = s.jrnl := rfl
@[simp] theorem putBit_life (s : State) (f : Fld) (b : Bool) : (s.putBit f b).life = s.life := rfl
@[simp] theorem putBit_lge (s : State) (f : Fld) (b : Bool) : (s.putBit f b).lge = s.lge := rfl
@[simp] theorem putBit_gos (s : State) (f : Fld) (b : Bool) : (s.putBit f b).gos = s.gos := rfl
@[simp] theorem putBit_mac (s : State) (f : Fld) (b : Bool) : (s.putBit f b).mac = s.mac := rfl
@[simp] theorem putBit_gal (s : State) (f : Fld) (b : Bool) : (s.putBit f b).gal = s.gal := rfl
@[simp] theorem putBit_fio (s : State) (f : Fld) (b : Bool) : (s.putBit f b).fio = s.fio := rfl
@[simp] theorem putBit_hka (s : State) (f : Fld) (b : Bool) : (s.putBit f b).hka = s.hka := rfl
@[simp] theorem putBit_sram (s : State) (f : Fld) (b : Bool) : (s.putBit f b).sram = s.sram := rfl
@[simp] theorem putBit_dma (s : State) (f : Fld) (b : Bool) : (s.putBit f b).dma = s.dma := rfl
@[simp] theorem putBit_sys (s : State) (f : Fld) (b : Bool) : (s.putBit f b).sys = s.sys := rfl

/-! ### setRegBit -/

@[simp] theorem setRegBit_pending (s : State) (a i : Nat) (b : Bool) : (s.setRegBit a i b).pending = s.pending := rfl
@[simp] theorem setRegBit_hdrs (s : State) (a i : Nat) (b : Bool) : (s.setRegBit a i b).hdrs = s.hdrs := rfl
@[simp] theorem setRegBit_latches (s : State) (a i : Nat) (b : Bool) : (s.setRegBit a i b).latches = s.latches := rfl
@[simp] theorem setRegBit_mem (s : State) (a i : Nat) (b : Bool) : (s.setRegBit a i b).mem = s.mem := rfl
@[simp] theorem setRegBit_out (s : State) (a i : Nat) (b : Bool) : (s.setRegBit a i b).out = s.out := rfl
@[simp] theorem setRegBit_free (s : State) (a i : Nat) (b : Bool) : (s.setRegBit a i b).free = s.free := rfl
@[simp] theorem setRegBit_host (s : State) (a i : Nat) (b : Bool) : (s.setRegBit a i b).host = s.host := rfl
@[simp] theorem setRegBit_time (s : State) (a i : Nat) (b : Bool) : (s.setRegBit a i b).time = s.time := rfl
@[simp] theorem setRegBit_afe (s : State) (a i : Nat) (b : Bool) : (s.setRegBit a i b).afe = s.afe := rfl
@[simp] theorem setRegBit_dfc (s : State) (a i : Nat) (b : Bool) : (s.setRegBit a i b).dfc = s.dfc := rfl
@[simp] theorem setRegBit_grid (s : State) (a i : Nat) (b : Bool) : (s.setRegBit a i b).grid = s.grid := rfl
@[simp] theorem setRegBit_svs (s : State) (a i : Nat) (b : Bool) : (s.setRegBit a i b).svs = s.svs := rfl
@[simp] theorem setRegBit_phe (s : State) (a i : Nat) (b : Bool) : (s.setRegBit a i b).phe = s.phe := rfl
@[simp] theorem setRegBit_pea (s : State) (a i : Nat) (b : Bool) : (s.setRegBit a i b).pea = s.pea := rfl
@[simp] theorem setRegBit_trm (s : State) (a i : Nat) (b : Bool) : (s.setRegBit a i b).trm = s.trm := rfl
@[simp] theorem setRegBit_dup (s : State) (a i : Nat) (b : Bool) : (s.setRegBit a i b).dup = s.dup := rfl
@[simp] theorem setRegBit_evr (s : State) (a i : Nat) (b : Bool) : (s.setRegBit a i b).evr = s.evr := rfl
@[simp] theorem setRegBit_drc (s : State) (a i : Nat) (b : Bool) : (s.setRegBit a i b).drc = s.drc := rfl
@[simp] theorem setRegBit_sto (s : State) (a i : Nat) (b : Bool) : (s.setRegBit a i b).sto = s.sto := rfl
@[simp] theorem setRegBit_jrnl (s : State) (a i : Nat) (b : Bool) : (s.setRegBit a i b).jrnl = s.jrnl := rfl
@[simp] theorem setRegBit_life (s : State) (a i : Nat) (b : Bool) : (s.setRegBit a i b).life = s.life := rfl
@[simp] theorem setRegBit_lge (s : State) (a i : Nat) (b : Bool) : (s.setRegBit a i b).lge = s.lge := rfl
@[simp] theorem setRegBit_gos (s : State) (a i : Nat) (b : Bool) : (s.setRegBit a i b).gos = s.gos := rfl
@[simp] theorem setRegBit_mac (s : State) (a i : Nat) (b : Bool) : (s.setRegBit a i b).mac = s.mac := rfl
@[simp] theorem setRegBit_gal (s : State) (a i : Nat) (b : Bool) : (s.setRegBit a i b).gal = s.gal := rfl
@[simp] theorem setRegBit_fio (s : State) (a i : Nat) (b : Bool) : (s.setRegBit a i b).fio = s.fio := rfl
@[simp] theorem setRegBit_hka (s : State) (a i : Nat) (b : Bool) : (s.setRegBit a i b).hka = s.hka := rfl
@[simp] theorem setRegBit_sram (s : State) (a i : Nat) (b : Bool) : (s.setRegBit a i b).sram = s.sram := rfl
@[simp] theorem setRegBit_dma (s : State) (a i : Nat) (b : Bool) : (s.setRegBit a i b).dma = s.dma := rfl
@[simp] theorem setRegBit_sys (s : State) (a i : Nat) (b : Bool) : (s.setRegBit a i b).sys = s.sys := rfl

/-! ### setArrBit -/

@[simp] theorem setArrBit_pending (s : State) (a i : Nat) (b : Bool) : (s.setArrBit a i b).pending = s.pending := rfl
@[simp] theorem setArrBit_hdrs (s : State) (a i : Nat) (b : Bool) : (s.setArrBit a i b).hdrs = s.hdrs := rfl
@[simp] theorem setArrBit_latches (s : State) (a i : Nat) (b : Bool) : (s.setArrBit a i b).latches = s.latches := rfl
@[simp] theorem setArrBit_mem (s : State) (a i : Nat) (b : Bool) : (s.setArrBit a i b).mem = s.mem := rfl
@[simp] theorem setArrBit_out (s : State) (a i : Nat) (b : Bool) : (s.setArrBit a i b).out = s.out := rfl
@[simp] theorem setArrBit_free (s : State) (a i : Nat) (b : Bool) : (s.setArrBit a i b).free = s.free := rfl
@[simp] theorem setArrBit_host (s : State) (a i : Nat) (b : Bool) : (s.setArrBit a i b).host = s.host := rfl
@[simp] theorem setArrBit_time (s : State) (a i : Nat) (b : Bool) : (s.setArrBit a i b).time = s.time := rfl
@[simp] theorem setArrBit_afe (s : State) (a i : Nat) (b : Bool) : (s.setArrBit a i b).afe = s.afe := rfl
@[simp] theorem setArrBit_dfc (s : State) (a i : Nat) (b : Bool) : (s.setArrBit a i b).dfc = s.dfc := rfl
@[simp] theorem setArrBit_grid (s : State) (a i : Nat) (b : Bool) : (s.setArrBit a i b).grid = s.grid := rfl
@[simp] theorem setArrBit_svs (s : State) (a i : Nat) (b : Bool) : (s.setArrBit a i b).svs = s.svs := rfl
@[simp] theorem setArrBit_phe (s : State) (a i : Nat) (b : Bool) : (s.setArrBit a i b).phe = s.phe := rfl
@[simp] theorem setArrBit_pea (s : State) (a i : Nat) (b : Bool) : (s.setArrBit a i b).pea = s.pea := rfl
@[simp] theorem setArrBit_trm (s : State) (a i : Nat) (b : Bool) : (s.setArrBit a i b).trm = s.trm := rfl
@[simp] theorem setArrBit_dup (s : State) (a i : Nat) (b : Bool) : (s.setArrBit a i b).dup = s.dup := rfl
@[simp] theorem setArrBit_evr (s : State) (a i : Nat) (b : Bool) : (s.setArrBit a i b).evr = s.evr := rfl
@[simp] theorem setArrBit_drc (s : State) (a i : Nat) (b : Bool) : (s.setArrBit a i b).drc = s.drc := rfl
@[simp] theorem setArrBit_sto (s : State) (a i : Nat) (b : Bool) : (s.setArrBit a i b).sto = s.sto := rfl
@[simp] theorem setArrBit_jrnl (s : State) (a i : Nat) (b : Bool) : (s.setArrBit a i b).jrnl = s.jrnl := rfl
@[simp] theorem setArrBit_life (s : State) (a i : Nat) (b : Bool) : (s.setArrBit a i b).life = s.life := rfl
@[simp] theorem setArrBit_lge (s : State) (a i : Nat) (b : Bool) : (s.setArrBit a i b).lge = s.lge := rfl
@[simp] theorem setArrBit_gos (s : State) (a i : Nat) (b : Bool) : (s.setArrBit a i b).gos = s.gos := rfl
@[simp] theorem setArrBit_mac (s : State) (a i : Nat) (b : Bool) : (s.setArrBit a i b).mac = s.mac := rfl
@[simp] theorem setArrBit_gal (s : State) (a i : Nat) (b : Bool) : (s.setArrBit a i b).gal = s.gal := rfl
@[simp] theorem setArrBit_fio (s : State) (a i : Nat) (b : Bool) : (s.setArrBit a i b).fio = s.fio := rfl
@[simp] theorem setArrBit_hka (s : State) (a i : Nat) (b : Bool) : (s.setArrBit a i b).hka = s.hka := rfl
@[simp] theorem setArrBit_sram (s : State) (a i : Nat) (b : Bool) : (s.setArrBit a i b).sram = s.sram := rfl
@[simp] theorem setArrBit_dma (s : State) (a i : Nat) (b : Bool) : (s.setArrBit a i b).dma = s.dma := rfl
@[simp] theorem setArrBit_sys (s : State) (a i : Nat) (b : Bool) : (s.setArrBit a i b).sys = s.sys := rfl

/-! ### invalidate -/

@[simp] theorem invalidate_pending (s : State) (g : Grp) : (s.invalidate g).pending = s.pending := rfl
@[simp] theorem invalidate_hdrs (s : State) (g : Grp) : (s.invalidate g).hdrs = s.hdrs := rfl
@[simp] theorem invalidate_latches (s : State) (g : Grp) : (s.invalidate g).latches = s.latches := rfl
@[simp] theorem invalidate_mem (s : State) (g : Grp) : (s.invalidate g).mem = s.mem := rfl
@[simp] theorem invalidate_out (s : State) (g : Grp) : (s.invalidate g).out = s.out := rfl
@[simp] theorem invalidate_free (s : State) (g : Grp) : (s.invalidate g).free = s.free := rfl
@[simp] theorem invalidate_host (s : State) (g : Grp) : (s.invalidate g).host = s.host := rfl
@[simp] theorem invalidate_time (s : State) (g : Grp) : (s.invalidate g).time = s.time := rfl
@[simp] theorem invalidate_afe (s : State) (g : Grp) : (s.invalidate g).afe = s.afe := rfl
@[simp] theorem invalidate_dfc (s : State) (g : Grp) : (s.invalidate g).dfc = s.dfc := rfl
@[simp] theorem invalidate_grid (s : State) (g : Grp) : (s.invalidate g).grid = s.grid := rfl
@[simp] theorem invalidate_svs (s : State) (g : Grp) : (s.invalidate g).svs = s.svs := rfl
@[simp] theorem invalidate_phe (s : State) (g : Grp) : (s.invalidate g).phe = s.phe := rfl
@[simp] theorem invalidate_pea (s : State) (g : Grp) : (s.invalidate g).pea = s.pea := rfl
@[simp] theorem invalidate_trm (s : State) (g : Grp) : (s.invalidate g).trm = s.trm := rfl
@[simp] theorem invalidate_dup (s : State) (g : Grp) : (s.invalidate g).dup = s.dup := rfl
@[simp] theorem invalidate_evr (s : State) (g : Grp) : (s.invalidate g).evr = s.evr := rfl
@[simp] theorem invalidate_drc (s : State) (g : Grp) : (s.invalidate g).drc = s.drc := rfl
@[simp] theorem invalidate_sto (s : State) (g : Grp) : (s.invalidate g).sto = s.sto := rfl
@[simp] theorem invalidate_jrnl (s : State) (g : Grp) : (s.invalidate g).jrnl = s.jrnl := rfl
@[simp] theorem invalidate_life (s : State) (g : Grp) : (s.invalidate g).life = s.life := rfl
@[simp] theorem invalidate_lge (s : State) (g : Grp) : (s.invalidate g).lge = s.lge := rfl
@[simp] theorem invalidate_gos (s : State) (g : Grp) : (s.invalidate g).gos = s.gos := rfl
@[simp] theorem invalidate_mac (s : State) (g : Grp) : (s.invalidate g).mac = s.mac := rfl
@[simp] theorem invalidate_gal (s : State) (g : Grp) : (s.invalidate g).gal = s.gal := rfl
@[simp] theorem invalidate_fio (s : State) (g : Grp) : (s.invalidate g).fio = s.fio := rfl
@[simp] theorem invalidate_hka (s : State) (g : Grp) : (s.invalidate g).hka = s.hka := rfl
@[simp] theorem invalidate_sram (s : State) (g : Grp) : (s.invalidate g).sram = s.sram := rfl
@[simp] theorem invalidate_dma (s : State) (g : Grp) : (s.invalidate g).dma = s.dma := rfl
@[simp] theorem invalidate_sys (s : State) (g : Grp) : (s.invalidate g).sys = s.sys := rfl

/-! ### updHdr -/

@[simp] theorem updHdr_pending (s : State) (p : Page) (f : PageHdr → PageHdr) : (s.updHdr p f).pending = s.pending := rfl
@[simp] theorem updHdr_regs (s : State) (p : Page) (f : PageHdr → PageHdr) : (s.updHdr p f).regs = s.regs := rfl
@[simp] theorem updHdr_latches (s : State) (p : Page) (f : PageHdr → PageHdr) : (s.updHdr p f).latches = s.latches := rfl
@[simp] theorem updHdr_mem (s : State) (p : Page) (f : PageHdr → PageHdr) : (s.updHdr p f).mem = s.mem := rfl
@[simp] theorem updHdr_out (s : State) (p : Page) (f : PageHdr → PageHdr) : (s.updHdr p f).out = s.out := rfl
@[simp] theorem updHdr_free (s : State) (p : Page) (f : PageHdr → PageHdr) : (s.updHdr p f).free = s.free := rfl
@[simp] theorem updHdr_host (s : State) (p : Page) (f : PageHdr → PageHdr) : (s.updHdr p f).host = s.host := rfl
@[simp] theorem updHdr_time (s : State) (p : Page) (f : PageHdr → PageHdr) : (s.updHdr p f).time = s.time := rfl
@[simp] theorem updHdr_afe (s : State) (p : Page) (f : PageHdr → PageHdr) : (s.updHdr p f).afe = s.afe := rfl
@[simp] theorem updHdr_dfc (s : State) (p : Page) (f : PageHdr → PageHdr) : (s.updHdr p f).dfc = s.dfc := rfl
@[simp] theorem updHdr_grid (s : State) (p : Page) (f : PageHdr → PageHdr) : (s.updHdr p f).grid = s.grid := rfl
@[simp] theorem updHdr_svs (s : State) (p : Page) (f : PageHdr → PageHdr) : (s.updHdr p f).svs = s.svs := rfl
@[simp] theorem updHdr_phe (s : State) (p : Page) (f : PageHdr → PageHdr) : (s.updHdr p f).phe = s.phe := rfl
@[simp] theorem updHdr_pea (s : State) (p : Page) (f : PageHdr → PageHdr) : (s.updHdr p f).pea = s.pea := rfl
@[simp] theorem updHdr_trm (s : State) (p : Page) (f : PageHdr → PageHdr) : (s.updHdr p f).trm = s.trm := rfl
@[simp] theorem updHdr_dup (s : State) (p : Page) (f : PageHdr → PageHdr) : (s.updHdr p f).dup = s.dup := rfl
@[simp] theorem updHdr_evr (s : State) (p : Page) (f : PageHdr → PageHdr) : (s.updHdr p f).evr = s.evr := rfl
@[simp] theorem updHdr_drc (s : State) (p : Page) (f : PageHdr → PageHdr) : (s.updHdr p f).drc = s.drc := rfl
@[simp] theorem updHdr_sto (s : State) (p : Page) (f : PageHdr → PageHdr) : (s.updHdr p f).sto = s.sto := rfl
@[simp] theorem updHdr_jrnl (s : State) (p : Page) (f : PageHdr → PageHdr) : (s.updHdr p f).jrnl = s.jrnl := rfl
@[simp] theorem updHdr_life (s : State) (p : Page) (f : PageHdr → PageHdr) : (s.updHdr p f).life = s.life := rfl
@[simp] theorem updHdr_lge (s : State) (p : Page) (f : PageHdr → PageHdr) : (s.updHdr p f).lge = s.lge := rfl
@[simp] theorem updHdr_gos (s : State) (p : Page) (f : PageHdr → PageHdr) : (s.updHdr p f).gos = s.gos := rfl
@[simp] theorem updHdr_mac (s : State) (p : Page) (f : PageHdr → PageHdr) : (s.updHdr p f).mac = s.mac := rfl
@[simp] theorem updHdr_gal (s : State) (p : Page) (f : PageHdr → PageHdr) : (s.updHdr p f).gal = s.gal := rfl
@[simp] theorem updHdr_fio (s : State) (p : Page) (f : PageHdr → PageHdr) : (s.updHdr p f).fio = s.fio := rfl
@[simp] theorem updHdr_hka (s : State) (p : Page) (f : PageHdr → PageHdr) : (s.updHdr p f).hka = s.hka := rfl
@[simp] theorem updHdr_sram (s : State) (p : Page) (f : PageHdr → PageHdr) : (s.updHdr p f).sram = s.sram := rfl
@[simp] theorem updHdr_dma (s : State) (p : Page) (f : PageHdr → PageHdr) : (s.updHdr p f).dma = s.dma := rfl
@[simp] theorem updHdr_sys (s : State) (p : Page) (f : PageHdr → PageHdr) : (s.updHdr p f).sys = s.sys := rfl

/-! ### raise -/

@[simp] theorem raise_pending (s : State) (p : Page) (c m : Nat) : (s.raise p c m).pending = s.pending := rfl
@[simp] theorem raise_regs (s : State) (p : Page) (c m : Nat) : (s.raise p c m).regs = s.regs := rfl
@[simp] theorem raise_latches (s : State) (p : Page) (c m : Nat) : (s.raise p c m).latches = s.latches := rfl
@[simp] theorem raise_mem (s : State) (p : Page) (c m : Nat) : (s.raise p c m).mem = s.mem := rfl
@[simp] theorem raise_out (s : State) (p : Page) (c m : Nat) : (s.raise p c m).out = s.out := rfl
@[simp] theorem raise_free (s : State) (p : Page) (c m : Nat) : (s.raise p c m).free = s.free := rfl
@[simp] theorem raise_host (s : State) (p : Page) (c m : Nat) : (s.raise p c m).host = s.host := rfl
@[simp] theorem raise_time (s : State) (p : Page) (c m : Nat) : (s.raise p c m).time = s.time := rfl
@[simp] theorem raise_afe (s : State) (p : Page) (c m : Nat) : (s.raise p c m).afe = s.afe := rfl
@[simp] theorem raise_dfc (s : State) (p : Page) (c m : Nat) : (s.raise p c m).dfc = s.dfc := rfl
@[simp] theorem raise_grid (s : State) (p : Page) (c m : Nat) : (s.raise p c m).grid = s.grid := rfl
@[simp] theorem raise_svs (s : State) (p : Page) (c m : Nat) : (s.raise p c m).svs = s.svs := rfl
@[simp] theorem raise_phe (s : State) (p : Page) (c m : Nat) : (s.raise p c m).phe = s.phe := rfl
@[simp] theorem raise_pea (s : State) (p : Page) (c m : Nat) : (s.raise p c m).pea = s.pea := rfl
@[simp] theorem raise_trm (s : State) (p : Page) (c m : Nat) : (s.raise p c m).trm = s.trm := rfl
@[simp] theorem raise_dup (s : State) (p : Page) (c m : Nat) : (s.raise p c m).dup = s.dup := rfl
@[simp] theorem raise_evr (s : State) (p : Page) (c m : Nat) : (s.raise p c m).evr = s.evr := rfl
@[simp] theorem raise_drc (s : State) (p : Page) (c m : Nat) : (s.raise p c m).drc = s.drc := rfl
@[simp] theorem raise_sto (s : State) (p : Page) (c m : Nat) : (s.raise p c m).sto = s.sto := rfl
@[simp] theorem raise_jrnl (s : State) (p : Page) (c m : Nat) : (s.raise p c m).jrnl = s.jrnl := rfl
@[simp] theorem raise_life (s : State) (p : Page) (c m : Nat) : (s.raise p c m).life = s.life := rfl
@[simp] theorem raise_lge (s : State) (p : Page) (c m : Nat) : (s.raise p c m).lge = s.lge := rfl
@[simp] theorem raise_gos (s : State) (p : Page) (c m : Nat) : (s.raise p c m).gos = s.gos := rfl
@[simp] theorem raise_mac (s : State) (p : Page) (c m : Nat) : (s.raise p c m).mac = s.mac := rfl
@[simp] theorem raise_gal (s : State) (p : Page) (c m : Nat) : (s.raise p c m).gal = s.gal := rfl
@[simp] theorem raise_fio (s : State) (p : Page) (c m : Nat) : (s.raise p c m).fio = s.fio := rfl
@[simp] theorem raise_hka (s : State) (p : Page) (c m : Nat) : (s.raise p c m).hka = s.hka := rfl
@[simp] theorem raise_sram (s : State) (p : Page) (c m : Nat) : (s.raise p c m).sram = s.sram := rfl
@[simp] theorem raise_dma (s : State) (p : Page) (c m : Nat) : (s.raise p c m).dma = s.dma := rfl
@[simp] theorem raise_sys (s : State) (p : Page) (c m : Nat) : (s.raise p c m).sys = s.sys := rfl

/-! ### edge -/

@[simp] theorem edge_pending (s : State) (p : Page) (b : Nat) : (s.edge p b).pending = s.pending := rfl
@[simp] theorem edge_regs (s : State) (p : Page) (b : Nat) : (s.edge p b).regs = s.regs := rfl
@[simp] theorem edge_latches (s : State) (p : Page) (b : Nat) : (s.edge p b).latches = s.latches := rfl
@[simp] theorem edge_mem (s : State) (p : Page) (b : Nat) : (s.edge p b).mem = s.mem := rfl
@[simp] theorem edge_out (s : State) (p : Page) (b : Nat) : (s.edge p b).out = s.out := rfl
@[simp] theorem edge_free (s : State) (p : Page) (b : Nat) : (s.edge p b).free = s.free := rfl
@[simp] theorem edge_host (s : State) (p : Page) (b : Nat) : (s.edge p b).host = s.host := rfl
@[simp] theorem edge_time (s : State) (p : Page) (b : Nat) : (s.edge p b).time = s.time := rfl
@[simp] theorem edge_afe (s : State) (p : Page) (b : Nat) : (s.edge p b).afe = s.afe := rfl
@[simp] theorem edge_dfc (s : State) (p : Page) (b : Nat) : (s.edge p b).dfc = s.dfc := rfl
@[simp] theorem edge_grid (s : State) (p : Page) (b : Nat) : (s.edge p b).grid = s.grid := rfl
@[simp] theorem edge_svs (s : State) (p : Page) (b : Nat) : (s.edge p b).svs = s.svs := rfl
@[simp] theorem edge_phe (s : State) (p : Page) (b : Nat) : (s.edge p b).phe = s.phe := rfl
@[simp] theorem edge_pea (s : State) (p : Page) (b : Nat) : (s.edge p b).pea = s.pea := rfl
@[simp] theorem edge_trm (s : State) (p : Page) (b : Nat) : (s.edge p b).trm = s.trm := rfl
@[simp] theorem edge_dup (s : State) (p : Page) (b : Nat) : (s.edge p b).dup = s.dup := rfl
@[simp] theorem edge_evr (s : State) (p : Page) (b : Nat) : (s.edge p b).evr = s.evr := rfl
@[simp] theorem edge_drc (s : State) (p : Page) (b : Nat) : (s.edge p b).drc = s.drc := rfl
@[simp] theorem edge_sto (s : State) (p : Page) (b : Nat) : (s.edge p b).sto = s.sto := rfl
@[simp] theorem edge_jrnl (s : State) (p : Page) (b : Nat) : (s.edge p b).jrnl = s.jrnl := rfl
@[simp] theorem edge_life (s : State) (p : Page) (b : Nat) : (s.edge p b).life = s.life := rfl
@[simp] theorem edge_lge (s : State) (p : Page) (b : Nat) : (s.edge p b).lge = s.lge := rfl
@[simp] theorem edge_gos (s : State) (p : Page) (b : Nat) : (s.edge p b).gos = s.gos := rfl
@[simp] theorem edge_mac (s : State) (p : Page) (b : Nat) : (s.edge p b).mac = s.mac := rfl
@[simp] theorem edge_gal (s : State) (p : Page) (b : Nat) : (s.edge p b).gal = s.gal := rfl
@[simp] theorem edge_fio (s : State) (p : Page) (b : Nat) : (s.edge p b).fio = s.fio := rfl
@[simp] theorem edge_hka (s : State) (p : Page) (b : Nat) : (s.edge p b).hka = s.hka := rfl
@[simp] theorem edge_sram (s : State) (p : Page) (b : Nat) : (s.edge p b).sram = s.sram := rfl
@[simp] theorem edge_dma (s : State) (p : Page) (b : Nat) : (s.edge p b).dma = s.dma := rfl
@[simp] theorem edge_sys (s : State) (p : Page) (b : Nat) : (s.edge p b).sys = s.sys := rfl

/-! ### emit -/

@[simp] theorem emit_pending (s : State) (e : Emit) : (s.emit e).pending = s.pending := rfl
@[simp] theorem emit_regs (s : State) (e : Emit) : (s.emit e).regs = s.regs := rfl
@[simp] theorem emit_hdrs (s : State) (e : Emit) : (s.emit e).hdrs = s.hdrs := rfl
@[simp] theorem emit_latches (s : State) (e : Emit) : (s.emit e).latches = s.latches := rfl
@[simp] theorem emit_mem (s : State) (e : Emit) : (s.emit e).mem = s.mem := rfl
@[simp] theorem emit_free (s : State) (e : Emit) : (s.emit e).free = s.free := rfl
@[simp] theorem emit_host (s : State) (e : Emit) : (s.emit e).host = s.host := rfl
@[simp] theorem emit_time (s : State) (e : Emit) : (s.emit e).time = s.time := rfl
@[simp] theorem emit_afe (s : State) (e : Emit) : (s.emit e).afe = s.afe := rfl
@[simp] theorem emit_dfc (s : State) (e : Emit) : (s.emit e).dfc = s.dfc := rfl
@[simp] theorem emit_grid (s : State) (e : Emit) : (s.emit e).grid = s.grid := rfl
@[simp] theorem emit_svs (s : State) (e : Emit) : (s.emit e).svs = s.svs := rfl
@[simp] theorem emit_phe (s : State) (e : Emit) : (s.emit e).phe = s.phe := rfl
@[simp] theorem emit_pea (s : State) (e : Emit) : (s.emit e).pea = s.pea := rfl
@[simp] theorem emit_trm (s : State) (e : Emit) : (s.emit e).trm = s.trm := rfl
@[simp] theorem emit_dup (s : State) (e : Emit) : (s.emit e).dup = s.dup := rfl
@[simp] theorem emit_evr (s : State) (e : Emit) : (s.emit e).evr = s.evr := rfl
@[simp] theorem emit_drc (s : State) (e : Emit) : (s.emit e).drc = s.drc := rfl
@[simp] theorem emit_sto (s : State) (e : Emit) : (s.emit e).sto = s.sto := rfl
@[simp] theorem emit_jrnl (s : State) (e : Emit) : (s.emit e).jrnl = s.jrnl := rfl
@[simp] theorem emit_life (s : State) (e : Emit) : (s.emit e).life = s.life := rfl
@[simp] theorem emit_lge (s : State) (e : Emit) : (s.emit e).lge = s.lge := rfl
@[simp] theorem emit_gos (s : State) (e : Emit) : (s.emit e).gos = s.gos := rfl
@[simp] theorem emit_mac (s : State) (e : Emit) : (s.emit e).mac = s.mac := rfl
@[simp] theorem emit_gal (s : State) (e : Emit) : (s.emit e).gal = s.gal := rfl
@[simp] theorem emit_fio (s : State) (e : Emit) : (s.emit e).fio = s.fio := rfl
@[simp] theorem emit_hka (s : State) (e : Emit) : (s.emit e).hka = s.hka := rfl
@[simp] theorem emit_sram (s : State) (e : Emit) : (s.emit e).sram = s.sram := rfl
@[simp] theorem emit_dma (s : State) (e : Emit) : (s.emit e).dma = s.dma := rfl
@[simp] theorem emit_sys (s : State) (e : Emit) : (s.emit e).sys = s.sys := rfl

/-! ### setWord -/

@[simp] theorem setWord_pending (s : State) (a : Nat) (w : Word) : (s.setWord a w).pending = s.pending := rfl
@[simp] theorem setWord_regs (s : State) (a : Nat) (w : Word) : (s.setWord a w).regs = s.regs := rfl
@[simp] theorem setWord_hdrs (s : State) (a : Nat) (w : Word) : (s.setWord a w).hdrs = s.hdrs := rfl
@[simp] theorem setWord_latches (s : State) (a : Nat) (w : Word) : (s.setWord a w).latches = s.latches := rfl
@[simp] theorem setWord_out (s : State) (a : Nat) (w : Word) : (s.setWord a w).out = s.out := rfl
@[simp] theorem setWord_free (s : State) (a : Nat) (w : Word) : (s.setWord a w).free = s.free := rfl
@[simp] theorem setWord_host (s : State) (a : Nat) (w : Word) : (s.setWord a w).host = s.host := rfl
@[simp] theorem setWord_time (s : State) (a : Nat) (w : Word) : (s.setWord a w).time = s.time := rfl
@[simp] theorem setWord_afe (s : State) (a : Nat) (w : Word) : (s.setWord a w).afe = s.afe := rfl
@[simp] theorem setWord_dfc (s : State) (a : Nat) (w : Word) : (s.setWord a w).dfc = s.dfc := rfl
@[simp] theorem setWord_grid (s : State) (a : Nat) (w : Word) : (s.setWord a w).grid = s.grid := rfl
@[simp] theorem setWord_svs (s : State) (a : Nat) (w : Word) : (s.setWord a w).svs = s.svs := rfl
@[simp] theorem setWord_phe (s : State) (a : Nat) (w : Word) : (s.setWord a w).phe = s.phe := rfl
@[simp] theorem setWord_pea (s : State) (a : Nat) (w : Word) : (s.setWord a w).pea = s.pea := rfl
@[simp] theorem setWord_trm (s : State) (a : Nat) (w : Word) : (s.setWord a w).trm = s.trm := rfl
@[simp] theorem setWord_dup (s : State) (a : Nat) (w : Word) : (s.setWord a w).dup = s.dup := rfl
@[simp] theorem setWord_evr (s : State) (a : Nat) (w : Word) : (s.setWord a w).evr = s.evr := rfl
@[simp] theorem setWord_drc (s : State) (a : Nat) (w : Word) : (s.setWord a w).drc = s.drc := rfl
@[simp] theorem setWord_sto (s : State) (a : Nat) (w : Word) : (s.setWord a w).sto = s.sto := rfl
@[simp] theorem setWord_jrnl (s : State) (a : Nat) (w : Word) : (s.setWord a w).jrnl = s.jrnl := rfl
@[simp] theorem setWord_life (s : State) (a : Nat) (w : Word) : (s.setWord a w).life = s.life := rfl
@[simp] theorem setWord_lge (s : State) (a : Nat) (w : Word) : (s.setWord a w).lge = s.lge := rfl
@[simp] theorem setWord_gos (s : State) (a : Nat) (w : Word) : (s.setWord a w).gos = s.gos := rfl
@[simp] theorem setWord_mac (s : State) (a : Nat) (w : Word) : (s.setWord a w).mac = s.mac := rfl
@[simp] theorem setWord_gal (s : State) (a : Nat) (w : Word) : (s.setWord a w).gal = s.gal := rfl
@[simp] theorem setWord_fio (s : State) (a : Nat) (w : Word) : (s.setWord a w).fio = s.fio := rfl
@[simp] theorem setWord_hka (s : State) (a : Nat) (w : Word) : (s.setWord a w).hka = s.hka := rfl
@[simp] theorem setWord_sram (s : State) (a : Nat) (w : Word) : (s.setWord a w).sram = s.sram := rfl
@[simp] theorem setWord_dma (s : State) (a : Nat) (w : Word) : (s.setWord a w).dma = s.dma := rfl
@[simp] theorem setWord_sys (s : State) (a : Nat) (w : Word) : (s.setWord a w).sys = s.sys := rfl

/-! ### setWords -/

@[simp] theorem setWords_pending (s : State) (a : Nat) (ws : List Word) : (s.setWords a ws).pending = s.pending := rfl
@[simp] theorem setWords_regs (s : State) (a : Nat) (ws : List Word) : (s.setWords a ws).regs = s.regs := rfl
@[simp] theorem setWords_hdrs (s : State) (a : Nat) (ws : List Word) : (s.setWords a ws).hdrs = s.hdrs := rfl
@[simp] theorem setWords_latches (s : State) (a : Nat) (ws : List Word) : (s.setWords a ws).latches = s.latches := rfl
@[simp] theorem setWords_out (s : State) (a : Nat) (ws : List Word) : (s.setWords a ws).out = s.out := rfl
@[simp] theorem setWords_free (s : State) (a : Nat) (ws : List Word) : (s.setWords a ws).free = s.free := rfl
@[simp] theorem setWords_host (s : State) (a : Nat) (ws : List Word) : (s.setWords a ws).host = s.host := rfl
@[simp] theorem setWords_time (s : State) (a : Nat) (ws : List Word) : (s.setWords a ws).time = s.time := rfl
@[simp] theorem setWords_afe (s : State) (a : Nat) (ws : List Word) : (s.setWords a ws).afe = s.afe := rfl
@[simp] theorem setWords_dfc (s : State) (a : Nat) (ws : List Word) : (s.setWords a ws).dfc = s.dfc := rfl
@[simp] theorem setWords_grid (s : State) (a : Nat) (ws : List Word) : (s.setWords a ws).grid = s.grid := rfl
@[simp] theorem setWords_svs (s : State) (a : Nat) (ws : List Word) : (s.setWords a ws).svs = s.svs := rfl
@[simp] theorem setWords_phe (s : State) (a : Nat) (ws : List Word) : (s.setWords a ws).phe = s.phe := rfl
@[simp] theorem setWords_pea (s : State) (a : Nat) (ws : List Word) : (s.setWords a ws).pea = s.pea := rfl
@[simp] theorem setWords_trm (s : State) (a : Nat) (ws : List Word) : (s.setWords a ws).trm = s.trm := rfl
@[simp] theorem setWords_dup (s : State) (a : Nat) (ws : List Word) : (s.setWords a ws).dup = s.dup := rfl
@[simp] theorem setWords_evr (s : State) (a : Nat) (ws : List Word) : (s.setWords a ws).evr = s.evr := rfl
@[simp] theorem setWords_drc (s : State) (a : Nat) (ws : List Word) : (s.setWords a ws).drc = s.drc := rfl
@[simp] theorem setWords_sto (s : State) (a : Nat) (ws : List Word) : (s.setWords a ws).sto = s.sto := rfl
@[simp] theorem setWords_jrnl (s : State) (a : Nat) (ws : List Word) : (s.setWords a ws).jrnl = s.jrnl := rfl
@[simp] theorem setWords_life (s : State) (a : Nat) (ws : List Word) : (s.setWords a ws).life = s.life := rfl
@[simp] theorem setWords_lge (s : State) (a : Nat) (ws : List Word) : (s.setWords a ws).lge = s.lge := rfl
@[simp] theorem setWords_gos (s : State) (a : Nat) (ws : List Word) : (s.setWords a ws).gos = s.gos := rfl
@[simp] theorem setWords_mac (s : State) (a : Nat) (ws : List Word) : (s.setWords a ws).mac = s.mac := rfl
@[simp] theorem setWords_gal (s : State) (a : Nat) (ws : List Word) : (s.setWords a ws).gal = s.gal := rfl
@[simp] theorem setWords_fio (s : State) (a : Nat) (ws : List Word) : (s.setWords a ws).fio = s.fio := rfl
@[simp] theorem setWords_hka (s : State) (a : Nat) (ws : List Word) : (s.setWords a ws).hka = s.hka := rfl
@[simp] theorem setWords_sram (s : State) (a : Nat) (ws : List Word) : (s.setWords a ws).sram = s.sram := rfl
@[simp] theorem setWords_dma (s : State) (a : Nat) (ws : List Word) : (s.setWords a ws).dma = s.dma := rfl
@[simp] theorem setWords_sys (s : State) (a : Nat) (ws : List Word) : (s.setWords a ws).sys = s.sys := rfl

/-! ### setBytes -/

@[simp] theorem setBytes_pending (s : State) (a : Nat) (bs : List Byte) : (s.setBytes a bs).pending = s.pending := rfl
@[simp] theorem setBytes_regs (s : State) (a : Nat) (bs : List Byte) : (s.setBytes a bs).regs = s.regs := rfl
@[simp] theorem setBytes_hdrs (s : State) (a : Nat) (bs : List Byte) : (s.setBytes a bs).hdrs = s.hdrs := rfl
@[simp] theorem setBytes_latches (s : State) (a : Nat) (bs : List Byte) : (s.setBytes a bs).latches = s.latches := rfl
@[simp] theorem setBytes_out (s : State) (a : Nat) (bs : List Byte) : (s.setBytes a bs).out = s.out := rfl
@[simp] theorem setBytes_free (s : State) (a : Nat) (bs : List Byte) : (s.setBytes a bs).free = s.free := rfl
@[simp] theorem setBytes_host (s : State) (a : Nat) (bs : List Byte) : (s.setBytes a bs).host = s.host := rfl
@[simp] theorem setBytes_time (s : State) (a : Nat) (bs : List Byte) : (s.setBytes a bs).time = s.time := rfl
@[simp] theorem setBytes_afe (s : State) (a : Nat) (bs : List Byte) : (s.setBytes a bs).afe = s.afe := rfl
@[simp] theorem setBytes_dfc (s : State) (a : Nat) (bs : List Byte) : (s.setBytes a bs).dfc = s.dfc := rfl
@[simp] theorem setBytes_grid (s : State) (a : Nat) (bs : List Byte) : (s.setBytes a bs).grid = s.grid := rfl
@[simp] theorem setBytes_svs (s : State) (a : Nat) (bs : List Byte) : (s.setBytes a bs).svs = s.svs := rfl
@[simp] theorem setBytes_phe (s : State) (a : Nat) (bs : List Byte) : (s.setBytes a bs).phe = s.phe := rfl
@[simp] theorem setBytes_pea (s : State) (a : Nat) (bs : List Byte) : (s.setBytes a bs).pea = s.pea := rfl
@[simp] theorem setBytes_trm (s : State) (a : Nat) (bs : List Byte) : (s.setBytes a bs).trm = s.trm := rfl
@[simp] theorem setBytes_dup (s : State) (a : Nat) (bs : List Byte) : (s.setBytes a bs).dup = s.dup := rfl
@[simp] theorem setBytes_evr (s : State) (a : Nat) (bs : List Byte) : (s.setBytes a bs).evr = s.evr := rfl
@[simp] theorem setBytes_drc (s : State) (a : Nat) (bs : List Byte) : (s.setBytes a bs).drc = s.drc := rfl
@[simp] theorem setBytes_sto (s : State) (a : Nat) (bs : List Byte) : (s.setBytes a bs).sto = s.sto := rfl
@[simp] theorem setBytes_jrnl (s : State) (a : Nat) (bs : List Byte) : (s.setBytes a bs).jrnl = s.jrnl := rfl
@[simp] theorem setBytes_life (s : State) (a : Nat) (bs : List Byte) : (s.setBytes a bs).life = s.life := rfl
@[simp] theorem setBytes_lge (s : State) (a : Nat) (bs : List Byte) : (s.setBytes a bs).lge = s.lge := rfl
@[simp] theorem setBytes_gos (s : State) (a : Nat) (bs : List Byte) : (s.setBytes a bs).gos = s.gos := rfl
@[simp] theorem setBytes_mac (s : State) (a : Nat) (bs : List Byte) : (s.setBytes a bs).mac = s.mac := rfl
@[simp] theorem setBytes_gal (s : State) (a : Nat) (bs : List Byte) : (s.setBytes a bs).gal = s.gal := rfl
@[simp] theorem setBytes_fio (s : State) (a : Nat) (bs : List Byte) : (s.setBytes a bs).fio = s.fio := rfl
@[simp] theorem setBytes_hka (s : State) (a : Nat) (bs : List Byte) : (s.setBytes a bs).hka = s.hka := rfl
@[simp] theorem setBytes_sram (s : State) (a : Nat) (bs : List Byte) : (s.setBytes a bs).sram = s.sram := rfl
@[simp] theorem setBytes_dma (s : State) (a : Nat) (bs : List Byte) : (s.setBytes a bs).dma = s.dma := rfl
@[simp] theorem setBytes_sys (s : State) (a : Nat) (bs : List Byte) : (s.setBytes a bs).sys = s.sys := rfl

/-! ### Updates under a condition -/

@[simp] theorem edgeIf_pending (s : State) (c : Bool) (p : Page) (b : Nat) : (s.edgeIf c p b).pending = s.pending := by cases c <;> rfl
@[simp] theorem edgeIf_regs (s : State) (c : Bool) (p : Page) (b : Nat) : (s.edgeIf c p b).regs = s.regs := by cases c <;> rfl
@[simp] theorem edgeIf_latches (s : State) (c : Bool) (p : Page) (b : Nat) : (s.edgeIf c p b).latches = s.latches := by cases c <;> rfl
@[simp] theorem edgeIf_mem (s : State) (c : Bool) (p : Page) (b : Nat) : (s.edgeIf c p b).mem = s.mem := by cases c <;> rfl
@[simp] theorem edgeIf_out (s : State) (c : Bool) (p : Page) (b : Nat) : (s.edgeIf c p b).out = s.out := by cases c <;> rfl
@[simp] theorem edgeIf_free (s : State) (c : Bool) (p : Page) (b : Nat) : (s.edgeIf c p b).free = s.free := by cases c <;> rfl
@[simp] theorem edgeIf_host (s : State) (c : Bool) (p : Page) (b : Nat) : (s.edgeIf c p b).host = s.host := by cases c <;> rfl
@[simp] theorem edgeIf_time (s : State) (c : Bool) (p : Page) (b : Nat) : (s.edgeIf c p b).time = s.time := by cases c <;> rfl
@[simp] theorem edgeIf_afe (s : State) (c : Bool) (p : Page) (b : Nat) : (s.edgeIf c p b).afe = s.afe := by cases c <;> rfl
@[simp] theorem edgeIf_dfc (s : State) (c : Bool) (p : Page) (b : Nat) : (s.edgeIf c p b).dfc = s.dfc := by cases c <;> rfl
@[simp] theorem edgeIf_grid (s : State) (c : Bool) (p : Page) (b : Nat) : (s.edgeIf c p b).grid = s.grid := by cases c <;> rfl
@[simp] theorem edgeIf_svs (s : State) (c : Bool) (p : Page) (b : Nat) : (s.edgeIf c p b).svs = s.svs := by cases c <;> rfl
@[simp] theorem edgeIf_phe (s : State) (c : Bool) (p : Page) (b : Nat) : (s.edgeIf c p b).phe = s.phe := by cases c <;> rfl
@[simp] theorem edgeIf_pea (s : State) (c : Bool) (p : Page) (b : Nat) : (s.edgeIf c p b).pea = s.pea := by cases c <;> rfl
@[simp] theorem edgeIf_trm (s : State) (c : Bool) (p : Page) (b : Nat) : (s.edgeIf c p b).trm = s.trm := by cases c <;> rfl
@[simp] theorem edgeIf_dup (s : State) (c : Bool) (p : Page) (b : Nat) : (s.edgeIf c p b).dup = s.dup := by cases c <;> rfl
@[simp] theorem edgeIf_evr (s : State) (c : Bool) (p : Page) (b : Nat) : (s.edgeIf c p b).evr = s.evr := by cases c <;> rfl
@[simp] theorem edgeIf_drc (s : State) (c : Bool) (p : Page) (b : Nat) : (s.edgeIf c p b).drc = s.drc := by cases c <;> rfl
@[simp] theorem edgeIf_sto (s : State) (c : Bool) (p : Page) (b : Nat) : (s.edgeIf c p b).sto = s.sto := by cases c <;> rfl
@[simp] theorem edgeIf_jrnl (s : State) (c : Bool) (p : Page) (b : Nat) : (s.edgeIf c p b).jrnl = s.jrnl := by cases c <;> rfl
@[simp] theorem edgeIf_life (s : State) (c : Bool) (p : Page) (b : Nat) : (s.edgeIf c p b).life = s.life := by cases c <;> rfl
@[simp] theorem edgeIf_lge (s : State) (c : Bool) (p : Page) (b : Nat) : (s.edgeIf c p b).lge = s.lge := by cases c <;> rfl
@[simp] theorem edgeIf_gos (s : State) (c : Bool) (p : Page) (b : Nat) : (s.edgeIf c p b).gos = s.gos := by cases c <;> rfl
@[simp] theorem edgeIf_mac (s : State) (c : Bool) (p : Page) (b : Nat) : (s.edgeIf c p b).mac = s.mac := by cases c <;> rfl
@[simp] theorem edgeIf_gal (s : State) (c : Bool) (p : Page) (b : Nat) : (s.edgeIf c p b).gal = s.gal := by cases c <;> rfl
@[simp] theorem edgeIf_fio (s : State) (c : Bool) (p : Page) (b : Nat) : (s.edgeIf c p b).fio = s.fio := by cases c <;> rfl
@[simp] theorem edgeIf_hka (s : State) (c : Bool) (p : Page) (b : Nat) : (s.edgeIf c p b).hka = s.hka := by cases c <;> rfl
@[simp] theorem edgeIf_sram (s : State) (c : Bool) (p : Page) (b : Nat) : (s.edgeIf c p b).sram = s.sram := by cases c <;> rfl
@[simp] theorem edgeIf_dma (s : State) (c : Bool) (p : Page) (b : Nat) : (s.edgeIf c p b).dma = s.dma := by cases c <;> rfl
@[simp] theorem edgeIf_sys (s : State) (c : Bool) (p : Page) (b : Nat) : (s.edgeIf c p b).sys = s.sys := by cases c <;> rfl
@[simp] theorem storeReg_pending (s : State) (a : Nat) (v : Word) : (s.storeReg a v).pending = s.pending := by unfold State.storeReg; split <;> rfl
@[simp] theorem storeReg_hdrs (s : State) (a : Nat) (v : Word) : (s.storeReg a v).hdrs = s.hdrs := by unfold State.storeReg; split <;> rfl
@[simp] theorem storeReg_latches (s : State) (a : Nat) (v : Word) : (s.storeReg a v).latches = s.latches := by unfold State.storeReg; split <;> rfl
@[simp] theorem storeReg_mem (s : State) (a : Nat) (v : Word) : (s.storeReg a v).mem = s.mem := by unfold State.storeReg; split <;> rfl
@[simp] theorem storeReg_out (s : State) (a : Nat) (v : Word) : (s.storeReg a v).out = s.out := by unfold State.storeReg; split <;> rfl
@[simp] theorem storeReg_free (s : State) (a : Nat) (v : Word) : (s.storeReg a v).free = s.free := by unfold State.storeReg; split <;> rfl
@[simp] theorem storeReg_host (s : State) (a : Nat) (v : Word) : (s.storeReg a v).host = s.host := by unfold State.storeReg; split <;> rfl
@[simp] theorem storeReg_time (s : State) (a : Nat) (v : Word) : (s.storeReg a v).time = s.time := by unfold State.storeReg; split <;> rfl
@[simp] theorem storeReg_afe (s : State) (a : Nat) (v : Word) : (s.storeReg a v).afe = s.afe := by unfold State.storeReg; split <;> rfl
@[simp] theorem storeReg_dfc (s : State) (a : Nat) (v : Word) : (s.storeReg a v).dfc = s.dfc := by unfold State.storeReg; split <;> rfl
@[simp] theorem storeReg_grid (s : State) (a : Nat) (v : Word) : (s.storeReg a v).grid = s.grid := by unfold State.storeReg; split <;> rfl
@[simp] theorem storeReg_svs (s : State) (a : Nat) (v : Word) : (s.storeReg a v).svs = s.svs := by unfold State.storeReg; split <;> rfl
@[simp] theorem storeReg_phe (s : State) (a : Nat) (v : Word) : (s.storeReg a v).phe = s.phe := by unfold State.storeReg; split <;> rfl
@[simp] theorem storeReg_pea (s : State) (a : Nat) (v : Word) : (s.storeReg a v).pea = s.pea := by unfold State.storeReg; split <;> rfl
@[simp] theorem storeReg_trm (s : State) (a : Nat) (v : Word) : (s.storeReg a v).trm = s.trm := by unfold State.storeReg; split <;> rfl
@[simp] theorem storeReg_dup (s : State) (a : Nat) (v : Word) : (s.storeReg a v).dup = s.dup := by unfold State.storeReg; split <;> rfl
@[simp] theorem storeReg_evr (s : State) (a : Nat) (v : Word) : (s.storeReg a v).evr = s.evr := by unfold State.storeReg; split <;> rfl
@[simp] theorem storeReg_drc (s : State) (a : Nat) (v : Word) : (s.storeReg a v).drc = s.drc := by unfold State.storeReg; split <;> rfl
@[simp] theorem storeReg_sto (s : State) (a : Nat) (v : Word) : (s.storeReg a v).sto = s.sto := by unfold State.storeReg; split <;> rfl
@[simp] theorem storeReg_jrnl (s : State) (a : Nat) (v : Word) : (s.storeReg a v).jrnl = s.jrnl := by unfold State.storeReg; split <;> rfl
@[simp] theorem storeReg_life (s : State) (a : Nat) (v : Word) : (s.storeReg a v).life = s.life := by unfold State.storeReg; split <;> rfl
@[simp] theorem storeReg_lge (s : State) (a : Nat) (v : Word) : (s.storeReg a v).lge = s.lge := by unfold State.storeReg; split <;> rfl
@[simp] theorem storeReg_gos (s : State) (a : Nat) (v : Word) : (s.storeReg a v).gos = s.gos := by unfold State.storeReg; split <;> rfl
@[simp] theorem storeReg_mac (s : State) (a : Nat) (v : Word) : (s.storeReg a v).mac = s.mac := by unfold State.storeReg; split <;> rfl
@[simp] theorem storeReg_gal (s : State) (a : Nat) (v : Word) : (s.storeReg a v).gal = s.gal := by unfold State.storeReg; split <;> rfl
@[simp] theorem storeReg_fio (s : State) (a : Nat) (v : Word) : (s.storeReg a v).fio = s.fio := by unfold State.storeReg; split <;> rfl
@[simp] theorem storeReg_hka (s : State) (a : Nat) (v : Word) : (s.storeReg a v).hka = s.hka := by unfold State.storeReg; split <;> rfl
@[simp] theorem storeReg_sram (s : State) (a : Nat) (v : Word) : (s.storeReg a v).sram = s.sram := by unfold State.storeReg; split <;> rfl
@[simp] theorem storeReg_dma (s : State) (a : Nat) (v : Word) : (s.storeReg a v).dma = s.dma := by unfold State.storeReg; split <;> rfl
@[simp] theorem storeReg_sys (s : State) (a : Nat) (v : Word) : (s.storeReg a v).sys = s.sys := by unfold State.storeReg; split <;> rfl

/-! ### How a command ends -/

@[simp] theorem fin_pending (s : State) : s.fin.pending = s.pending := by simp only [State.fin]; split <;> rfl
@[simp] theorem fin_regs (s : State) : s.fin.regs = s.regs := by simp only [State.fin]; split <;> rfl
@[simp] theorem fin_latches (s : State) : s.fin.latches = s.latches := by simp only [State.fin]; split <;> rfl
@[simp] theorem fin_mem (s : State) : s.fin.mem = s.mem := by simp only [State.fin]; split <;> rfl
@[simp] theorem fin_out (s : State) : s.fin.out = s.out := by simp only [State.fin]; split <;> rfl
@[simp] theorem fin_free (s : State) : s.fin.free = s.free := by simp only [State.fin]; split <;> rfl
@[simp] theorem fin_time (s : State) : s.fin.time = s.time := by simp only [State.fin]; split <;> rfl
@[simp] theorem fin_afe (s : State) : s.fin.afe = s.afe := by simp only [State.fin]; split <;> rfl
@[simp] theorem fin_dfc (s : State) : s.fin.dfc = s.dfc := by simp only [State.fin]; split <;> rfl
@[simp] theorem fin_grid (s : State) : s.fin.grid = s.grid := by simp only [State.fin]; split <;> rfl
@[simp] theorem fin_svs (s : State) : s.fin.svs = s.svs := by simp only [State.fin]; split <;> rfl
@[simp] theorem fin_phe (s : State) : s.fin.phe = s.phe := by simp only [State.fin]; split <;> rfl
@[simp] theorem fin_pea (s : State) : s.fin.pea = s.pea := by simp only [State.fin]; split <;> rfl
@[simp] theorem fin_trm (s : State) : s.fin.trm = s.trm := by simp only [State.fin]; split <;> rfl
@[simp] theorem fin_dup (s : State) : s.fin.dup = s.dup := by simp only [State.fin]; split <;> rfl
@[simp] theorem fin_evr (s : State) : s.fin.evr = s.evr := by simp only [State.fin]; split <;> rfl
@[simp] theorem fin_drc (s : State) : s.fin.drc = s.drc := by simp only [State.fin]; split <;> rfl
@[simp] theorem fin_sto (s : State) : s.fin.sto = s.sto := by simp only [State.fin]; split <;> rfl
@[simp] theorem fin_jrnl (s : State) : s.fin.jrnl = s.jrnl := by simp only [State.fin]; split <;> rfl
@[simp] theorem fin_life (s : State) : s.fin.life = s.life := by simp only [State.fin]; split <;> rfl
@[simp] theorem fin_lge (s : State) : s.fin.lge = s.lge := by simp only [State.fin]; split <;> rfl
@[simp] theorem fin_gos (s : State) : s.fin.gos = s.gos := by simp only [State.fin]; split <;> rfl
@[simp] theorem fin_mac (s : State) : s.fin.mac = s.mac := by simp only [State.fin]; split <;> rfl
@[simp] theorem fin_gal (s : State) : s.fin.gal = s.gal := by simp only [State.fin]; split <;> rfl
@[simp] theorem fin_fio (s : State) : s.fin.fio = s.fio := by simp only [State.fin]; split <;> rfl
@[simp] theorem fin_hka (s : State) : s.fin.hka = s.hka := by simp only [State.fin]; split <;> rfl
@[simp] theorem fin_sram (s : State) : s.fin.sram = s.sram := by simp only [State.fin]; split <;> rfl
@[simp] theorem fin_dma (s : State) : s.fin.dma = s.dma := by simp only [State.fin]; split <;> rfl
@[simp] theorem fin_sys (s : State) : s.fin.sys = s.sys := by simp only [State.fin]; split <;> rfl

end Sys2Proof.Machine
end

