-- ==== Sys2Proof/Laws/Table.lean ====
section
/-! SUPPORT. Laws of the sparse tables and of the byte memory: read after write, and that every memory operation keeps the
canonical form. -/

namespace Sys2Proof.Machine

/-! ## Read after write -/

theorem find_filter_ne {α : Type} (m : Table α) (p : Nat × α → Bool) (k : Nat) (h : ∀ e : Nat × α, e.1 = k → p e = true) :
    (m.filter p).find? (fun e => e.1 == k) = m.find? (fun e => e.1 == k) := by
  induction m with
  | nil => rfl
  | cons e t ih =>
    by_cases hk : e.1 = k
    · simp [h e hk, hk]
    · cases hp : p e <;> simp [hp, hk, ih]

theorem find_filter_none {α : Type} (m : Table α) (p : Nat × α → Bool) (k : Nat) (h : ∀ e : Nat × α, e.1 = k → p e = false) :
    (m.filter p).find? (fun e => e.1 == k) = none := by
  rw [List.find?_eq_none]
  intro e he
  have hp := (List.mem_filter.mp he).2
  intro hk
  have := h e (by simpa using hk)
  simp_all

/-- What was written is read back. -/
@[simp] theorem tget_tset_same {α : Type} [DecidableEq α] (d : α) (m : Table α) (k : Nat) (v : α) : tget d (tset d m k v) k = v := by
  have hl := find_filter_none m (fun e => decide (e.1 < k)) k (by intro e he; simp [he])
  have hr := find_filter_none m (fun e => decide (k < e.1)) k (by intro e he; simp [he])
  unfold tget tset
  by_cases hv : v = d
  · simp only [hv, if_true, List.append_nil, List.find?_append, hl, hr, Option.none_or]
  · simp only [hv, if_false, List.find?_append, hl, Option.none_or, List.find?_cons, beq_self_eq_true, Option.some_or]

/-- A write leaves every other key alone, whatever either reads where nothing is listed. -/
theorem tget_tset_other {α : Type} [DecidableEq α] (d d' : α) (m : Table α) (k j : Nat) (v : α) (h : j ≠ k) :
    tget d' (tset d m k v) j = tget d' m j := by
  have hm : List.find? (fun e : Nat × α => e.1 == j) (if v = d then [] else [(k, v)]) = none := by
    by_cases hv : v = d <;> simp [hv, Ne.symm h]
  unfold tget tset
  simp only [List.find?_append, hm, Option.or_none]
  rcases Nat.lt_or_gt_of_ne h with hj | hj
  · rw [find_filter_ne m _ j (by intro e he; simp [he, hj]),
        find_filter_none m (fun e => decide (k < e.1)) j (by intro e he; simp [he]; omega), Option.or_none]
  · rw [find_filter_none m (fun e => decide (e.1 < k)) j (by intro e he; simp [he]; omega), Option.none_or,
        find_filter_ne m _ j (by intro e he; simp [he, hj])]

/-- A write leaves every other key alone. -/
@[simp] theorem tget_tset_ne {α : Type} [DecidableEq α] (d : α) (m : Table α) (k j : Nat) (v : α) (h : j ≠ k) :
    tget d (tset d m k v) j = tget d m j := tget_tset_other d d m k j v h

/-! ## Canonical form -/

theorem risingFrom_mono {α : Type} (m : Table α) : ∀ a b : Nat, a ≤ b → risingFrom b m = true → risingFrom a m = true := by
  cases m with
  | nil => intros; rfl
  | cons e t => intro a b hab h; simp only [risingFrom, Bool.and_eq_true, decide_eq_true_eq] at *; exact ⟨by omega, h.2⟩

theorem risingFrom_le {α : Type} (m : Table α) : ∀ a : Nat, risingFrom a m = true → ∀ e ∈ m, a ≤ e.1 := by
  induction m with
  | nil => intro a _ e he; cases he
  | cons x t ih =>
    intro a h e he
    simp only [risingFrom, Bool.and_eq_true, decide_eq_true_eq] at h
    rcases List.mem_cons.mp he with rfl | he
    · exact h.1
    · have := ih _ h.2 e he; omega

theorem risingFrom_filter {α : Type} (p : Nat × α → Bool) (m : Table α) :
    ∀ a : Nat, risingFrom a m = true → risingFrom a (m.filter p) = true := by
  induction m with
  | nil => intros; rfl
  | cons x t ih =>
    intro a h
    simp only [risingFrom, Bool.and_eq_true, decide_eq_true_eq] at h
    cases hp : p x
    · simp only [List.filter_cons, hp, Bool.false_eq_true, if_false]
      exact risingFrom_mono _ a _ (by omega) (ih _ h.2)
    · simp only [List.filter_cons, hp, if_true, risingFrom, Bool.and_eq_true, decide_eq_true_eq]
      exact ⟨h.1, ih _ h.2⟩

theorem risingFrom_append {α : Type} (x y : Table α) : ∀ a b : Nat, risingFrom a x = true → (∀ e ∈ x, e.1 < b) → a ≤ b →
    risingFrom b y = true → risingFrom a (x ++ y) = true := by
  induction x with
  | nil => intro a b _ _ hab hy; exact risingFrom_mono y a b hab hy
  | cons e t ih =>
    intro a b hx hb hab hy
    simp only [risingFrom, Bool.and_eq_true, decide_eq_true_eq, List.cons_append] at *
    have he := hb e (List.mem_cons_self ..)
    exact ⟨hx.1, ih _ b hx.2 (fun e' h' => hb e' (List.mem_cons_of_mem _ h')) (by omega) hy⟩

/-- The keys above a bound, kept in order, rise from that bound. -/
theorem risingFrom_above {α : Type} (m : Table α) (b : Nat) (p : Nat × α → Bool) (hp : ∀ e, p e = true → b ≤ e.1) :
    ∀ a : Nat, risingFrom a m = true → risingFrom b (m.filter p) = true := by
  induction m with
  | nil => intros; rfl
  | cons x t ih =>
    intro a h
    simp only [risingFrom, Bool.and_eq_true, decide_eq_true_eq] at h
    cases hx : p x
    · simp only [List.filter_cons, hx, Bool.false_eq_true, if_false]
      exact ih _ h.2
    · simp only [List.filter_cons, hx, if_true, risingFrom, Bool.and_eq_true, decide_eq_true_eq]
      exact ⟨hp x hx, risingFrom_filter p t _ h.2⟩

/-- A table write keeps the canonical form. -/
theorem tset_wf {α : Type} [DecidableEq α] (d : Nat → α) (m : Table α) (k : Nat) (v : α) (h : Table.wf d m = true) :
    Table.wf d (tset (d k) m k v) = true := by
  simp only [Table.wf, Bool.and_eq_true] at *
  obtain ⟨h1, h2⟩ := h
  refine ⟨?_, ?_⟩
  · unfold tset
    rw [List.append_assoc]
    refine risingFrom_append _ _ 0 k (risingFrom_filter _ m 0 h1) (by intro e he; simpa using (List.mem_filter.mp he).2) (Nat.zero_le _) ?_
    by_cases hv : v = d k
    · simp only [hv, if_true, List.nil_append]
      exact risingFrom_mono _ k (k + 1) (by omega) (risingFrom_above m (k + 1) _ (by intro e he; have := of_decide_eq_true he; omega) 0 h1)
    · simp only [hv, if_false, List.cons_append, List.nil_append, risingFrom, Bool.and_eq_true, decide_eq_true_eq]
      exact ⟨Nat.le_refl _, risingFrom_above m (k + 1) _ (by intro e he; have := of_decide_eq_true he; omega) 0 h1⟩
  · rw [List.all_eq_true] at *
    intro e he
    unfold tset at he
    simp only [List.mem_append, List.mem_filter] at he
    rcases he with (⟨he, _⟩ | he) | ⟨he, _⟩
    · exact h2 e he
    · by_cases hv : v = d k
      · simp [hv] at he
      · simp only [hv, if_false, List.mem_singleton] at he
        subst he; simpa using hv
    · exact h2 e he

/-! ## Byte memory -/

theorem cellsFrom_rising (bs : List Byte) : ∀ a : Nat, risingFrom a (cellsFrom a bs) = true := by
  induction bs with
  | nil => intro a; rfl
  | cons b t ih =>
    intro a
    by_cases hb : b = emptyByte
    · simp only [cellsFrom, hb, if_true]; exact risingFrom_mono _ a (a + 1) (by omega) (ih (a + 1))
    · simp only [cellsFrom, hb, if_false, risingFrom, Bool.and_eq_true, decide_eq_true_eq]; exact ⟨Nat.le_refl _, ih (a + 1)⟩

theorem cellsFrom_lt (bs : List Byte) : ∀ a : Nat, ∀ e ∈ cellsFrom a bs, e.1 < a + bs.length := by
  induction bs with
  | nil => intro a e he; cases he
  | cons b t ih =>
    intro a e he
    simp only [List.length_cons]
    by_cases hb : b = emptyByte
    · simp only [cellsFrom, hb, if_true] at he; have := ih (a + 1) e he; omega
    · simp only [cellsFrom, hb, if_false, List.mem_cons] at he
      rcases he with rfl | he
      · simp
      · have := ih (a + 1) e he; omega

theorem cellsFrom_ne (bs : List Byte) : ∀ a : Nat, ∀ e ∈ cellsFrom a bs, e.2 ≠ emptyByte := by
  induction bs with
  | nil => intro a e he; cases he
  | cons b t ih =>
    intro a e he
    by_cases hb : b = emptyByte
    · simp only [cellsFrom, hb, if_true] at he; exact ih (a + 1) e he
    · simp only [cellsFrom, hb, if_false, List.mem_cons] at he
      rcases he with rfl | he
      · exact hb
      · exact ih (a + 1) e he

/-- Storing bytes keeps the canonical form. -/
theorem memWrite_wf (m : List Host.Cell) (a : Nat) (bs : List Byte) (h : Memory.wf m = true) : Memory.wf (memWrite m a bs) = true := by
  simp only [Memory.wf, Table.wf, Bool.and_eq_true] at *
  obtain ⟨h1, h2⟩ := h
  refine ⟨?_, ?_⟩
  · unfold memWrite
    rw [List.append_assoc]
    refine risingFrom_append _ _ 0 a (risingFrom_filter _ m 0 h1) (by intro e he; simpa using (List.mem_filter.mp he).2) (Nat.zero_le _) ?_
    exact risingFrom_append _ _ a (a + bs.length) (cellsFrom_rising bs a) (cellsFrom_lt bs a) (by omega)
      (risingFrom_above m _ _ (by intro e he; simpa using he) 0 h1)
  · rw [List.all_eq_true] at *
    intro e he
    unfold memWrite at he
    simp only [List.mem_append, List.mem_filter] at he
    rcases he with (⟨he, _⟩ | he) | ⟨he, _⟩
    · exact h2 e he
    · simpa using cellsFrom_ne bs a e he
    · exact h2 e he

theorem memWriteWord_wf (m : List Host.Cell) (a : Nat) (w : Word) (h : Memory.wf m = true) : Memory.wf (memWriteWord m a w) = true :=
  memWrite_wf m a _ h

theorem memWriteWords_wf (m : List Host.Cell) (a : Nat) (ws : List Word) (h : Memory.wf m = true) : Memory.wf (memWriteWords m a ws) = true :=
  memWrite_wf m a _ h

/-- Forgetting bytes keeps the canonical form. -/
theorem filter_wf (m : List Host.Cell) (p : Host.Cell → Bool) (h : Memory.wf m = true) : Memory.wf (m.filter p) = true := by
  simp only [Memory.wf, Table.wf, Bool.and_eq_true] at *
  refine ⟨risingFrom_filter p m 0 h.1, ?_⟩
  rw [List.all_eq_true] at *
  intro e he
  exact h.2 e (List.mem_filter.mp he).1

/-- A store leaves every byte outside its range alone. -/
theorem memByte_memWrite_out (m : List Host.Cell) (a : Nat) (bs : List Byte) (k : Nat) (h : k < a ∨ a + bs.length ≤ k) :
    memByte (memWrite m a bs) k = memByte m k := by
  have hc : (cellsFrom a bs).find? (fun e => e.1 == k) = none := by
    rw [List.find?_eq_none]
    intro e he hk
    have h1 := risingFrom_le _ a (cellsFrom_rising bs a) e he
    have h2 := cellsFrom_lt bs a e he
    have : e.1 = k := by simpa using hk
    omega
  unfold memByte tget memWrite
  simp only [List.find?_append, hc, Option.or_none]
  rcases h with h | h
  · rw [find_filter_ne m _ k (by intro e he; simp [he, h]),
        find_filter_none m (fun e => decide (a + bs.length ≤ e.1)) k (by intro e he; simp [he]; omega), Option.or_none]
  · rw [find_filter_none m (fun e => decide (e.1 < a)) k (by intro e he; simp [he]; omega), Option.none_or,
        find_filter_ne m _ k (by intro e he; simp [he, h])]

theorem find_cellsFrom (bs : List Byte) : ∀ (a i : Nat), i < bs.length →
    tget emptyByte (cellsFrom a bs) (a + i) = bs.getD i emptyByte := by
  unfold tget
  induction bs with
  | nil => intro a i h; simp at h
  | cons b t ih =>
    intro a i h
    have hout : ∀ k : Nat, k ≤ a → (cellsFrom (a + 1) t).find? (fun e => e.1 == k) = none := by
      intro k hk
      rw [List.find?_eq_none]
      intro e he hek
      have := risingFrom_le _ (a + 1) (cellsFrom_rising t (a + 1)) e he
      have : e.1 = k := by simpa using hek
      omega
    cases i with
    | zero =>
      by_cases hb : b = emptyByte
      · simp only [cellsFrom, hb, if_true, Nat.add_zero, hout a (Nat.le_refl _), List.getD_cons_zero]
      · simp only [cellsFrom, hb, if_false, Nat.add_zero, List.find?_cons, beq_self_eq_true, List.getD_cons_zero]
    | succ j =>
      have e1 : a + (j + 1) = a + 1 + j := by omega
      have := ih (a + 1) j (by simpa using h)
      by_cases hb : b = emptyByte
      · simpa only [cellsFrom, hb, if_true, e1, List.getD_cons_succ] using this
      · have hne : (a == a + 1 + j) = false := by simp; omega
        simpa only [cellsFrom, hb, if_false, e1, List.find?_cons, hne, List.getD_cons_succ] using this

/-- A stored byte is read back. -/
theorem memByte_memWrite_in (m : List Host.Cell) (a : Nat) (bs : List Byte) (i : Nat) (h : i < bs.length) :
    memByte (memWrite m a bs) (a + i) = bs.getD i emptyByte := by
  have hl := find_filter_none m (fun e => decide (e.1 < a)) (a + i) (by intro e he; simp [he])
  have hr := find_filter_none m (fun e => decide (a + bs.length ≤ e.1)) (a + i) (by intro e he; simp [he]; omega)
  unfold memByte tget memWrite
  simp only [List.find?_append, hl, hr, Option.none_or, Option.or_none]
  have := find_cellsFrom bs a i h
  unfold tget at this
  exact this

/-! ## The memory operations of a state -/

theorem setBytes_wf (s : State) (a : Nat) (bs : List Byte) (h : Memory.wf s.mem = true) : Memory.wf (s.setBytes a bs).mem = true := memWrite_wf _ a bs h
theorem setWord_wf (s : State) (a : Nat) (w : Word) (h : Memory.wf s.mem = true) : Memory.wf (s.setWord a w).mem = true := memWrite_wf _ a _ h
theorem setWords_wf (s : State) (a : Nat) (ws : List Word) (h : Memory.wf s.mem = true) : Memory.wf (s.setWords a ws).mem = true := memWrite_wf _ a _ h
theorem clearRange_wf (s : State) (a n : Nat) (h : Memory.wf s.mem = true) : Memory.wf (s.clearRange a n).mem = true := filter_wf _ _ h
theorem clearBank_wf (s : State) (b : Nat) (h : Memory.wf s.mem = true) : Memory.wf (s.clearBank b).mem = true := filter_wf _ _ h

theorem memStore_wf (s : State) (m a : Nat) (bs : List Byte) (h : Memory.wf s.mem = true) : Memory.wf (s.memStore m a bs).mem = true := by
  simp only [State.memStore]
  repeat' split
  all_goals first | exact h | exact memWrite_wf _ _ _ h

theorem memLoad_wf (s : State) (m a n : Nat) (h : Memory.wf s.mem = true) : Memory.wf (s.memLoad m a n).2.mem = true := by
  simp only [State.memLoad]
  repeat' split
  all_goals first | exact h | exact memWrite_wf _ _ _ h

/-- The memory of the reset state has the canonical form. -/
theorem reset_mem_wf : Memory.wf State.reset.mem = true := rfl

end Sys2Proof.Machine
end

