-- ==== Sys2Proof/Laws/Regs.lean ====
section
/-! SUPPORT. Laws of registers and their fields, of page headers and of the guards: what is written is read back, and everything
else keeps its value. -/

namespace Sys2Proof.Machine

/-! ## Registers -/

@[simp] theorem reg_setReg_same (s : State) (a : Nat) (v : Word) : (s.setReg a v).reg a = v := tget_tset_same ..
@[simp] theorem reg_setReg_ne (s : State) (a b : Nat) (v : Word) (h : b ≠ a) : (s.setReg a v).reg b = s.reg b := tget_tset_other _ _ _ _ _ _ h

/-- A state whose registers are those of another reads as it does. -/
theorem reg_congr (s t : State) (h : t.regs = s.regs) (a : Nat) : t.reg a = s.reg a := by unfold State.reg; rw [h]
theorem get_congr (s t : State) (h : t.regs = s.regs) (f : Fld) : t.get f = s.get f := by unfold State.get; rw [reg_congr s t h]
theorem bit_congr (s t : State) (h : t.regs = s.regs) (f : Fld) : t.bit f = s.bit f := by unfold State.bit; rw [get_congr s t h]

@[simp] theorem fin_reg (s : State) (a : Nat) : s.fin.reg a = s.reg a := reg_congr _ _ (fin_regs s) a
@[simp] theorem fin_get (s : State) (f : Fld) : s.fin.get f = s.get f := get_congr _ _ (fin_regs s) f
@[simp] theorem fin_bit (s : State) (f : Fld) : s.fin.bit f = s.bit f := bit_congr _ _ (fin_regs s) f
@[simp] theorem fin_regBit (s : State) (a i : Nat) : s.fin.regBit a i = s.regBit a i := by unfold State.regBit; rw [fin_reg]

/-! ## Fields -/

/-- A word as the bits above a field, the field, and the bits below it. -/
theorem Fld.split (f : Fld) (w : Word) (h : f.lo ≤ f.hi) :
    w.toNat = (w.toNat / 2 ^ (f.hi + 1)) * 2 ^ (f.hi + 1) + f.of w * 2 ^ f.lo + w.toNat % 2 ^ f.lo := by
  have e : (2 : Nat) ^ (f.hi + 1) = 2 ^ f.lo * 2 ^ f.width := by rw [← Nat.pow_add]; congr 1; unfold Fld.width; omega
  unfold Fld.of
  rw [Nat.shiftRight_eq_div_pow, e]
  have a := Nat.div_add_mod w.toNat (2 ^ f.lo)
  have b := Nat.div_add_mod (w.toNat / 2 ^ f.lo) (2 ^ f.width)
  rw [Nat.div_div_eq_div_mul] at b
  generalize w.toNat / (2 ^ f.lo * 2 ^ f.width) = H at *
  generalize w.toNat / 2 ^ f.lo % 2 ^ f.width = F at *
  generalize w.toNat % 2 ^ f.lo = L at *
  rw [← a, ← b]
  ring

theorem Fld.of_lt (f : Fld) (w : Word) : f.of w < 2 ^ f.width := Nat.mod_lt _ (Nat.two_pow_pos _)

/-- The number of a word after a field is put. -/
theorem Fld.put_toNat (f : Fld) (w : Word) (v : Nat) (h : f.lo ≤ f.hi) (hh : f.hi < 32) :
    (f.put w v).toNat = (w.toNat / 2 ^ (f.hi + 1)) * 2 ^ (f.hi + 1) + v % 2 ^ f.width * 2 ^ f.lo + w.toNat % 2 ^ f.lo := by
  have s := Fld.split f w h
  have e : (2 : Nat) ^ (f.hi + 1) = 2 ^ f.lo * 2 ^ f.width := by rw [← Nat.pow_add]; congr 1; unfold Fld.width; omega
  have hv : v % 2 ^ f.width < 2 ^ f.width := Nat.mod_lt _ (Nat.two_pow_pos _)
  have hl : w.toNat % 2 ^ f.lo < 2 ^ f.lo := Nat.mod_lt _ (Nat.two_pow_pos _)
  have hw : w.toNat < 2 ^ 32 := w.isLt
  have e2 : (2 : Nat) ^ 32 = 2 ^ (f.hi + 1) * 2 ^ (31 - f.hi) := by rw [← Nat.pow_add]; congr 1; omega
  have hq : w.toNat / 2 ^ (f.hi + 1) < 2 ^ (31 - f.hi) := by
    rw [Nat.div_lt_iff_lt_mul (Nat.two_pow_pos _), Nat.mul_comm, ← e2]; exact hw
  unfold Fld.put
  rw [BitVec.toNat_ofNat]
  have hn : w.toNat - f.of w * 2 ^ f.lo + v % 2 ^ f.width * 2 ^ f.lo
      = w.toNat / 2 ^ (f.hi + 1) * 2 ^ (f.hi + 1) + v % 2 ^ f.width * 2 ^ f.lo + w.toNat % 2 ^ f.lo := by omega
  rw [hn]
  apply Nat.mod_eq_of_lt
  generalize w.toNat / 2 ^ (f.hi + 1) = H at *
  generalize v % 2 ^ f.width = V at *
  generalize w.toNat % 2 ^ f.lo = L at *
  have c1 : V * 2 ^ f.lo + L < 2 ^ (f.hi + 1) := by
    rw [e]
    calc V * 2 ^ f.lo + L < V * 2 ^ f.lo + 2 ^ f.lo := by omega
      _ = (V + 1) * 2 ^ f.lo := by ring
      _ ≤ 2 ^ f.width * 2 ^ f.lo := Nat.mul_le_mul_right _ hv
      _ = 2 ^ f.lo * 2 ^ f.width := Nat.mul_comm ..
  calc H * 2 ^ (f.hi + 1) + V * 2 ^ f.lo + L < H * 2 ^ (f.hi + 1) + 2 ^ (f.hi + 1) := by omega
    _ = (H + 1) * 2 ^ (f.hi + 1) := by ring
    _ ≤ 2 ^ (31 - f.hi) * 2 ^ (f.hi + 1) := Nat.mul_le_mul_right _ hq
    _ = 2 ^ 32 := by rw [e2, Nat.mul_comm]

/-- Bit `i` of a word after a field is put. -/
theorem Fld.put_bit (f : Fld) (w : Word) (v i : Nat) (h : f.lo ≤ f.hi) (hh : f.hi < 32) :
    (f.put w v).toNat.testBit i = if f.lo ≤ i ∧ i ≤ f.hi then v.testBit (i - f.lo) else w.toNat.testBit i := by
  have e : (2 : Nat) ^ (f.hi + 1) = 2 ^ f.lo * 2 ^ f.width := by rw [← Nat.pow_add]; congr 1; unfold Fld.width; omega
  have hv : v % 2 ^ f.width < 2 ^ f.width := Nat.mod_lt _ (Nat.two_pow_pos _)
  have hl : w.toNat % 2 ^ f.lo < 2 ^ f.lo := Nat.mod_lt _ (Nat.two_pow_pos _)
  have r : (f.put w v).toNat = 2 ^ f.lo * (2 ^ f.width * (w.toNat / 2 ^ (f.hi + 1)) + v % 2 ^ f.width) + w.toNat % 2 ^ f.lo := by
    rw [Fld.put_toNat f w v h hh, e]; ring
  rw [r, Nat.testBit_two_pow_mul_add _ hl]
  by_cases h1 : i < f.lo
  · simp only [h1, if_true, Nat.testBit_mod_two_pow, decide_true, Bool.true_and]
    rw [if_neg (by omega)]
  · simp only [h1, if_false]
    rw [Nat.testBit_two_pow_mul_add _ hv]
    unfold Fld.width
    by_cases h2 : i - f.lo < f.hi + 1 - f.lo
    · simp only [h2, if_true, Nat.testBit_mod_two_pow, decide_true, Bool.true_and]
      rw [if_pos (by omega)]
    · simp only [h2, if_false, Nat.testBit_div_two_pow]
      rw [if_neg (by omega)]
      congr 1
      omega

/-- Bit `i` of a field. -/
theorem Fld.of_bit (f : Fld) (w : Word) (i : Nat) : (f.of w).testBit i = (decide (i < f.width) && w.toNat.testBit (f.lo + i)) := by
  unfold Fld.of; rw [Nat.testBit_mod_two_pow, Nat.testBit_shiftRight]

/-- A field reads what was put, cut to its width. -/
@[simp] theorem Fld.of_put (f : Fld) (w : Word) (v : Nat) (h : f.lo ≤ f.hi) (hh : f.hi < 32) : f.of (f.put w v) = v % 2 ^ f.width := by
  apply Nat.eq_of_testBit_eq
  intro i
  rw [Fld.of_bit, Fld.put_bit f w v _ h hh, Nat.testBit_mod_two_pow]
  unfold Fld.width
  by_cases hi : i < f.hi + 1 - f.lo
  · rw [if_pos (by omega)]; simp
  · simp [hi]

/-- Other fields of the word keep their values. -/
theorem Fld.of_put_ne (f g : Fld) (w : Word) (v : Nat) (h : f.lo ≤ f.hi) (hh : f.hi < 32) (hd : g.hi < f.lo ∨ f.hi < g.lo) :
    g.of (f.put w v) = g.of w := by
  apply Nat.eq_of_testBit_eq
  intro i
  rw [Fld.of_bit, Fld.of_bit, Fld.put_bit f w v _ h hh]
  unfold Fld.width
  by_cases hi : i < g.hi + 1 - g.lo
  · rw [if_neg (by omega)]
  · simp [hi]

/-- A field of the device reads what was put. -/
theorem get_put_same (s : State) (f : Fld) (v : Nat) (h : f.lo ≤ f.hi) (hh : f.hi < 32) : (s.put f v).get f = v % 2 ^ f.width := by
  unfold State.get State.put; rw [reg_setReg_same, Fld.of_put f _ _ h hh]

/-- Fields of other registers, and other fields of the same register, keep their values. -/
theorem get_put_ne (s : State) (f g : Fld) (v : Nat) (h : f.lo ≤ f.hi) (hh : f.hi < 32) (hd : g.addr ≠ f.addr ∨ g.hi < f.lo ∨ f.hi < g.lo) :
    (s.put f v).get g = s.get g := by
  unfold State.get State.put
  by_cases ha : g.addr = f.addr
  · rw [ha, reg_setReg_same]; exact Fld.of_put_ne f g _ v h hh (by tauto)
  · rw [reg_setReg_ne _ _ _ _ ha]

theorem reg_put_ne (s : State) (f : Fld) (v a : Nat) (h : a ≠ f.addr) : (s.put f v).reg a = s.reg a := reg_setReg_ne _ _ _ _ h

/-- A one-bit field reads the bit that was put. -/
theorem bit_putBit_same (s : State) (f : Fld) (b : Bool) (h : f.lo = f.hi) (hh : f.hi < 32) : (s.putBit f b).bit f = b := by
  unfold State.bit State.putBit
  rw [get_put_same s f _ (by omega) hh]
  unfold Fld.width
  cases b <;> simp [h]

theorem bit_putBit_ne (s : State) (f g : Fld) (b : Bool) (h : f.lo ≤ f.hi) (hh : f.hi < 32) (hd : g.addr ≠ f.addr ∨ g.hi < f.lo ∨ f.hi < g.lo) :
    (s.putBit f b).bit g = s.bit g := by unfold State.bit State.putBit; rw [get_put_ne s f g _ h hh hd]

theorem get_putBit_ne (s : State) (f g : Fld) (b : Bool) (h : f.lo ≤ f.hi) (hh : f.hi < 32) (hd : g.addr ≠ f.addr ∨ g.hi < f.lo ∨ f.hi < g.lo) :
    (s.putBit f b).get g = s.get g := by unfold State.putBit; rw [get_put_ne s f g _ h hh hd]

/-- A bit of a register reads what was set. -/
theorem regBit_setRegBit_same (s : State) (a i : Nat) (b : Bool) (h : i < 32) : (s.setRegBit a i b).regBit a i = b := by
  unfold State.regBit State.setRegBit State.put
  rw [reg_setReg_same]
  have := Fld.put_bit ⟨a, i, i⟩ (s.reg a) (if b then 1 else 0) i (Nat.le_refl _) h
  rw [BitVec.getLsbD, this]
  cases b <;> simp

theorem regBit_setRegBit_ne (s : State) (a i c j : Nat) (b : Bool) (h : i < 32) (hd : c ≠ a ∨ j ≠ i) :
    (s.setRegBit a i b).regBit c j = s.regBit c j := by
  unfold State.regBit State.setRegBit State.put
  by_cases ha : c = a
  · subst ha
    rw [reg_setReg_same]
    have := Fld.put_bit ⟨c, i, i⟩ (s.reg c) (if b then 1 else 0) j (Nat.le_refl _) h
    rw [BitVec.getLsbD, this, if_neg (by simp; omega), BitVec.getLsbD]
  · rw [reg_setReg_ne _ _ _ _ ha]

/-! ## Page headers -/

theorem Page.idx_inj (p q : Page) (h : p.idx = q.idx) : p = q := by cases p <;> cases q <;> first | rfl | (exact absurd h (by decide))

@[simp] theorem hdr_updHdr_same (s : State) (p : Page) (f : PageHdr → PageHdr) : (s.updHdr p f).hdr p = f (s.hdr p) := tget_tset_same ..
@[simp] theorem hdr_updHdr_ne (s : State) (p q : Page) (f : PageHdr → PageHdr) (h : q ≠ p) : (s.updHdr p f).hdr q = s.hdr q :=
  tget_tset_ne _ _ _ _ _ (fun e => h (Page.idx_inj q p e))

/-- A state whose headers are those of another shows them. -/
theorem hdr_congr (s t : State) (h : t.hdrs = s.hdrs) (p : Page) : t.hdr p = s.hdr p := by unfold State.hdr; rw [h]

/-- R48: what recording an error does. -/
theorem raise_hdr (s : State) (p : Page) (c m : Nat) : (s.raise p c m).hdr p =
    if (s.hdr p).errCode = 0 then { s.hdr p with errCode := BitVec.ofNat 16 c, errMaster := BitVec.ofNat 4 m, errMore := false }
    else { s.hdr p with errMore := true } := by unfold State.raise; rw [hdr_updHdr_same]

/-- R44: what a rising EDGE source does. -/
theorem edge_hdr (s : State) (p : Page) (b : Nat) : (s.edge p b).hdr p = { s.hdr p with irqPend := (s.hdr p).irqPend ||| BitVec.ofNat 32 (2 ^ b) } := by
  unfold State.edge; rw [hdr_updHdr_same]

/-! ## Guards (R33, R47) -/

theorem guarded_unlocked (s : State) (m : Nat) (p : Page) (f : State → State) (hb : s.bootGate m p = false) (hu : s.unlocked p = true) :
    s.guarded m p f = f s := by simp [State.guarded, hb, hu]
theorem guarded_locked (s : State) (m : Nat) (p : Page) (f : State → State) (hb : s.bootGate m p = false) (hu : s.unlocked p = false) :
    s.guarded m p f = (s.updHdr p (fun h => { h with lock := .locked })).raise p 0x0001 m := by simp [State.guarded, hb, hu]
theorem guarded_gated (s : State) (m : Nat) (p : Page) (f : State → State) (hb : s.bootGate m p = true) : s.guarded m p f = s := by
  simp [State.guarded, hb]
theorem ungated_open (s : State) (m : Nat) (p : Page) (f : State → State) (hb : s.bootGate m p = false) : s.ungated m p f = f s := by
  simp [State.ungated, hb]

end Sys2Proof.Machine
end

