-- ==== Sys2Proof/Laws/Fin.lean ====
section
/-! SUPPORT. What the end of every command does to the page headers: IRQ_PEND takes every LEVEL source, and nothing else of a
header changes (R44). -/

namespace Sys2Proof.Machine

theorem tget_latchLevels (s : State) (q : Page) (ps : List Page) : ∀ h : Table PageHdr, ps.Nodup →
    tget {} (latchLevels s ps h) q.idx =
      if q ∈ ps then { tget {} h q.idx with irqPend := (tget {} h q.idx).irqPend ||| levels s q } else tget {} h q.idx := by
  induction ps with
  | nil => intro h _; simp [latchLevels]
  | cons p t ih =>
    intro h hn
    have hp := (List.nodup_cons.mp hn).1
    have ht := (List.nodup_cons.mp hn).2
    have e : latchLevels s (p :: t) h = latchLevels s t (tupd {} h p.idx (fun x => { x with irqPend := x.irqPend ||| levels s p })) := rfl
    rw [e, ih _ ht]
    by_cases hq : q = p
    · subst hq
      rw [if_neg hp, if_pos (List.mem_cons_self ..)]
      exact tget_tset_same ..
    · have hi : q.idx ≠ p.idx := fun e => hq (Page.idx_inj q p e)
      have hk : tget {} (tupd {} h p.idx (fun x => { x with irqPend := x.irqPend ||| levels s p })) q.idx = tget {} h q.idx :=
        tget_tset_ne _ _ _ _ _ hi
      rw [hk]
      simp [hq]

/-- Everything about a header at the end of a command. -/
theorem fin_hdr (s : State) (p : Page) : s.fin.hdr p = { s.hdr p with irqPend := (s.hdr p).irqPend ||| levels s p } := by
  have hp : p ∈ Page.all := by cases p <;> decide
  have hn : Page.all.Nodup := by decide
  have := tget_latchLevels s p Page.all s.hdrs hn
  rw [if_pos hp] at this
  have e : s.fin.hdrs = latchLevels s Page.all s.hdrs := by simp only [State.fin]; split <;> rfl
  unfold State.hdr
  rw [e]
  exact this

@[simp] theorem fin_lock (s : State) (p : Page) : (s.fin.hdr p).lock = (s.hdr p).lock := by rw [fin_hdr]
@[simp] theorem fin_irqEn (s : State) (p : Page) : (s.fin.hdr p).irqEn = (s.hdr p).irqEn := by rw [fin_hdr]
@[simp] theorem fin_errCode (s : State) (p : Page) : (s.fin.hdr p).errCode = (s.hdr p).errCode := by rw [fin_hdr]
@[simp] theorem fin_errMaster (s : State) (p : Page) : (s.fin.hdr p).errMaster = (s.hdr p).errMaster := by rw [fin_hdr]
@[simp] theorem fin_errMore (s : State) (p : Page) : (s.fin.hdr p).errMore = (s.hdr p).errMore := by rw [fin_hdr]
@[simp] theorem fin_seq (s : State) (p : Page) : (s.fin.hdr p).seq = (s.hdr p).seq := by rw [fin_hdr]
theorem fin_irqPend (s : State) (p : Page) : (s.fin.hdr p).irqPend = (s.hdr p).irqPend ||| levels s p := by rw [fin_hdr]
@[simp] theorem fin_unlocked (s : State) (p : Page) : s.fin.unlocked p = s.unlocked p := by unfold State.unlocked; rw [fin_lock]

/-- A pending bit that is set stays set at the end of a command. -/
theorem fin_pend_keeps (s : State) (p : Page) (i : Nat) (h : (s.hdr p).irqPend.getLsbD i = true) : (s.fin.hdr p).irqPend.getLsbD i = true := by
  rw [fin_irqPend, BitVec.getLsbD_or, h, Bool.true_or]

/-- An edge pends, to the end of the command. -/
theorem fin_edge_pend (s : State) (p : Page) (i : Nat) (h : i < 32) : ((s.edge p i).fin.hdr p).irqPend.getLsbD i = true := by
  apply fin_pend_keeps
  rw [edge_hdr, BitVec.getLsbD_or]
  have : (BitVec.ofNat 32 (2 ^ i)).getLsbD i = true := by rw [BitVec.getLsbD_ofNat, Nat.testBit_two_pow_self]; simp [h]
  rw [this, Bool.or_true]

/-- The LEVEL sources do not depend on what is pending. -/
theorem levels_fin (s : State) (p : Page) : levels s.fin p = levels s p := by
  unfold levels
  rw [fin_errCode]
  congr 2
  cases p <;> simp [blockLevels, State.anyIn, State.arrBit]

/-- After every command, IRQ_PEND covers the LEVEL sources. -/
theorem fin_covers (s : State) (p : Page) : levels s.fin p &&& ~~~(s.fin.hdr p).irqPend = 0 := by
  rw [levels_fin, fin_irqPend]
  ext i
  simp
  intro a b
  simp_all

end Sys2Proof.Machine
end

