-- ==== Sys2Proof/Laws/Frames.lean ====
section
/-! SUPPORT. How a frame is shown: the end of a command adds nothing to it, and frames compose. -/

namespace Sys2Proof.Safety

open Sys2Proof.Machine

theorem Part.same_refl (p : Part) (s : State) : p.same s s := by cases p <;> first | rfl | exact fun _ => rfl

/-- What a command does before its end decides its frame. -/
theorem frame_fin {l : List Nat} {ps : List Part} {pg : List Page} {s u : State} (h1 : ∀ a, a ∉ l → u.reg a = s.reg a)
    (h2 : ∀ p, p ∉ ps → p.same s u) (h3 : ∀ q, q ∉ pg → u.hdr q = s.hdr q) : Frame l ps pg s u.fin := by
  refine ⟨fun a ha => by rw [fin_reg, h1 a ha], fun p hp => ?_, fun q hq => ?_⟩
  · have h := h2 p hp
    cases p
    case mem => intro a; rw [fin_mem]; exact h a
    case host =>
      have h' : u.host = { s.host with fwdOr := u.host.fwdOr } := h
      show u.fin.host = { s.host with fwdOr := u.fin.host.fwdOr }
      have e : u.fin.host = { u.host with fwdOr := u.fin.host.fwdOr } := by simp only [State.fin]; split <;> rfl
      rw [e, h']
    case pending => exact (fin_pending u).trans h
    case latches => exact (fin_latches u).trans h
    case out => exact (fin_out u).trans h
    case free => exact (fin_free u).trans h
    case time => exact (fin_time u).trans h
    case afe => exact (fin_afe u).trans h
    case dfc => exact (fin_dfc u).trans h
    case grid => exact (fin_grid u).trans h
    case svs => exact (fin_svs u).trans h
    case phe => exact (fin_phe u).trans h
    case pea => exact (fin_pea u).trans h
    case trm => exact (fin_trm u).trans h
    case dup => exact (fin_dup u).trans h
    case evr => exact (fin_evr u).trans h
    case drc => exact (fin_drc u).trans h
    case sto => exact (fin_sto u).trans h
    case jrnl => exact (fin_jrnl u).trans h
    case life => exact (fin_life u).trans h
    case lge => exact (fin_lge u).trans h
    case gos => exact (fin_gos u).trans h
    case mac => exact (fin_mac u).trans h
    case gal => exact (fin_gal u).trans h
    case fio => exact (fin_fio u).trans h
    case hka => exact (fin_hka u).trans h
    case sram => exact (fin_sram u).trans h
    case dma => exact (fin_dma u).trans h
    case sys => exact (fin_sys u).trans h
  · unfold SameHeader; rw [fin_hdr, h3 q hq, levels_fin]

/-- A command that does nothing keeps everything. -/
theorem frame_same (l : List Nat) (ps : List Part) (pg : List Page) (s : State) : Frame l ps pg s s.fin :=
  frame_fin (fun _ _ => rfl) (fun p _ => Part.same_refl p s) (fun _ _ => rfl)

/-- Registers under one more write. -/
theorem onlyRegs_setReg {l : List Nat} {s u : State} {a : Nat} (v : Word) (h : ∀ b, b ∉ l → u.reg b = s.reg b) (ha : a ∈ l) :
    ∀ b, b ∉ l → (u.setReg a v).reg b = s.reg b := by
  intro b hb
  have e : b ≠ a := fun e => hb (by rw [e]; exact ha)
  rw [reg_setReg_ne _ _ _ _ e]
  exact h b hb

/-- Headers under one more change. -/
theorem hdrs_updHdr {pg : List Page} {s u : State} {p : Page} (f : PageHdr → PageHdr) (h : ∀ q, q ∉ pg → u.hdr q = s.hdr q) (hp : p ∈ pg) :
    ∀ q, q ∉ pg → (u.updHdr p f).hdr q = s.hdr q := by
  intro q hq
  have e : q ≠ p := fun e => hq (by rw [e]; exact hp)
  rw [hdr_updHdr_ne _ _ _ _ e]
  exact h q hq

end Sys2Proof.Safety
end

