-- ==== Sys2Proof/Laws/Memory.lean ====
section
/-! SUPPORT. What a checked access by a master to memory can do (R36 to R40, R328, R329). -/

namespace Sys2Proof.Machine

/-- The first 2 GB of the DRAM window are populated on every member (R39). -/
theorem target_dram (s : State) (a : Nat) (h : 0x100000000 ≤ a) (h' : a < 0x180000000) : s.target a = .dram a := by
  have hb : 2 ^ 31 ≤ dramBytes := Nat.pow_le_pow_right (by decide) (Nat.le_add_right 31 _)
  have h2 : (2 : Nat) ^ 31 = 2147483648 := by decide
  unfold State.target
  rw [if_neg (by omega), if_neg (by omega), if_neg (by omega), if_pos (by omega), if_pos (by omega)]

/-- An access to DRAM that a region grants completes (R328). -/
theorem memCheck_dram (s : State) (m a len : Nat) (w : Bool) (ha : s.target a = .dram a)
    (hb : s.target (a + len - 1) = .dram (a + len - 1)) (hr : s.regionOk m a len w = true) : s.memCheck m a len w = none := by
  unfold State.memCheck
  rw [ha, hb]
  simp [hr]

/-- A range of SRAM is reached at its own addresses (R36). -/
theorem target_sram (s : State) (x : Nat) (h1 : 0x800000 ≤ x) (h2 : x < 0x2000000) : s.target x = .sram x := by
  unfold State.target
  rw [if_neg (by omega), if_pos h2]

theorem range_one (b : Nat) : (List.range (b - b + 1)).map (fun i => b + i) = [b] := by
  rw [Nat.sub_self]
  rfl

/-- An access within one bank of SRAM completes: a region grants it, its claim admits the writer, the bank answers, and no window of an
ATOMIC bank holds it (R325, R326, R328, R332). -/
theorem memCheck_sram (s : State) (m a len : Nat) (w : Bool) (h : 0x800000 ≤ a) (h' : a + len - 1 < 0x2000000) (hl : 0 < len)
    (hb : bankOf (a + len - 1) = bankOf a) (hr : s.regionOk m a len w = true)
    (hc : w = true → (s.claimed (bankOf a) && !claimWriter (bankOf a) m) = false) (hk : s.bankReady (bankOf a) = true) (hw : s.atomWin a = 0) :
    s.memCheck m a len w = none := by
  have e1 := target_sram s a h (by omega)
  have e2 := target_sram s (a + len - 1) (by omega) h'
  clear h h'
  unfold State.memCheck
  rw [e1, e2]
  simp only [hr, hb, range_one, hw, List.any_cons, List.any_nil, List.all_cons, List.all_nil, hk]
  cases w
  · rfl
  · rw [Bool.or_false, hc rfl]
    rfl

/-- With no poisoned word in the SRAM no read touches one (R329). -/
theorem poisoned_none (s : State) (a n : Nat) (h : s.sram.poison = []) : s.poisoned a n = false := by
  unfold State.poisoned
  simp [h]

/-- A granted access to DRAM is plain (R39, R328). -/
theorem plain_dram (s : State) (m a n : Nat) (w : Bool) (ha : s.target a = .dram a) (hb : s.target (a + n - 1) = .dram (a + n - 1))
    (hr : s.regionOk m a n w = true) (hp : s.sram.poison = []) (hl : s.lge.prog = none) : Safety.PlainAccess s m a n w := by
  refine ⟨memCheck_dram s m a n w ha hb hr, ?_, ?_, ?_, Or.inr ⟨poisoned_none s a n hp, ?_⟩⟩
  · simp [State.remoteOf, ha]
  · simp [State.localAddr, ha]
  · intro x hx; rw [ha] at hx; cases hx
  · simp [State.lgeOpen, hl]

/-- A write answers a failure, which is recorded and stores nothing; travels to another member; meets a double-bit error in an ADD window;
or stores its bytes (R328, R329, R332). -/
theorem devWrite_cases (s : State) (m a : Nat) (bs : List Byte) :
    (∃ f, s.memCheck m a bs.length true = some f ∧ s.devWrite m a bs = (some f, s.memFault f m a true)) ∨
    (s.memCheck m a bs.length true = none ∧
      ((∃ k o, s.remoteOf a = some (k, o)) ∨
       (s.remoteOf a = none ∧ (s.addsTo a && s.poisoned a bs.length) = true ∧ s.devWrite m a bs = (some .ecc2, eccRead m a s)) ∨
       (s.remoteOf a = none ∧ (s.addsTo a && s.poisoned a bs.length) = false ∧ s.devWrite m a bs = (none, s.memStore m a bs)))) := by
  unfold State.devWrite
  cases h : s.memCheck m a bs.length true with
  | some f => exact .inl ⟨f, rfl, rfl⟩
  | none =>
    refine .inr ⟨rfl, ?_⟩
    cases hr : s.remoteOf a with
    | some x => exact .inl ⟨x.1, x.2, rfl⟩
    | none =>
      cases hp : s.addsTo a && s.poisoned a bs.length with
      | true => exact .inr (.inl ⟨rfl, rfl, by simp⟩)
      | false => exact .inr (.inr ⟨rfl, rfl, by simp⟩)

/-- A read answers a failure, which is recorded; travels to another member; meets a double-bit error; answers open bytes; or its bytes
(R328, R329). -/
theorem devRead_cases (s : State) (m a n : Nat) :
    (∃ f, s.memCheck m a n false = some f ∧ s.devRead m a n = (some f, [], s.memFault f m a false)) ∨
    (s.memCheck m a n false = none ∧
      ((∃ k o, s.remoteOf a = some (k, o)) ∨
       (s.remoteOf a = none ∧ s.poisoned a n = true ∧ s.devRead m a n = (some .ecc2, (s.memLoad m a n).1, eccRead m a s)) ∨
       (s.remoteOf a = none ∧ s.poisoned a n = false ∧ s.lgeOpen (s.localAddr a) n = true) ∨
       (s.remoteOf a = none ∧ s.poisoned a n = false ∧ s.lgeOpen (s.localAddr a) n = false ∧ s.devRead m a n = (none, s.memLoad m a n)))) := by
  unfold State.devRead
  cases h : s.memCheck m a n false with
  | some f => exact .inl ⟨f, rfl, rfl⟩
  | none =>
    refine .inr ⟨rfl, ?_⟩
    cases hr : s.remoteOf a with
    | some x => exact .inl ⟨x.1, x.2, rfl⟩
    | none =>
      cases hp : s.poisoned a n with
      | true => exact .inr (.inl ⟨rfl, rfl, by simp⟩)
      | false =>
        cases hl : s.lgeOpen (s.localAddr a) n with
        | true => exact .inr (.inr (.inl ⟨rfl, rfl, rfl⟩))
        | false => exact .inr (.inr (.inr ⟨rfl, rfl, rfl, by simp⟩))

/-- A plain read answers the bytes at its address and changes nothing. -/
theorem devRead_plain (s : State) (m a n : Nat) (h : Safety.PlainAccess s m a n false) : s.devRead m a n = (none, memBytes s.mem a n, s) := by
  obtain ⟨hc, hr, ha, hw, h'⟩ := h
  obtain ⟨hp, hl⟩ : s.poisoned a n = false ∧ s.lgeOpen a n = false := by simpa using h'
  have hm : s.memLoad m a n = (memBytes s.mem a n, s) := by
    unfold State.memLoad
    cases ht : s.target a <;> simp only [ha]
    case sram x =>
      have hx : x = a := by simpa [State.localAddr, ht] using ha
      subst hx
      rw [hw x ht]
      rfl
  unfold State.devRead
  simp [hc, hr, hp, ha, hl, hm]

/-- A plain write stores its bytes at its address. -/
theorem devWrite_plain (s : State) (m a : Nat) (bs : List Byte) (h : Safety.PlainAccess s m a bs.length true) :
    s.devWrite m a bs = (none, s.memStore m a bs) := by
  obtain ⟨hc, hr, ha, hw, -⟩ := h
  have hadd : s.addsTo a = false := by
    unfold State.addsTo
    split
    case h_1 x ht =>
      have hx : x = a := by simpa [State.localAddr, ht] using ha
      subst hx
      simp [ha, hw x ht]
    case h_2 => rfl
  unfold State.devWrite
  simp [hc, hr, hadd]

/-- A store outside the windows of an ATOMIC bank changes no byte but its own. -/
theorem memStore_mem (s : State) (m a : Nat) (bs : List Byte) (ha : s.localAddr a = a) (hw : ∀ x : Nat, s.target a = .sram x → s.atomWin x = 0) :
    (s.memStore m a bs).mem = (s.setBytes a bs).mem := by
  unfold State.memStore
  cases ht : s.target a <;> simp only [ha]
  case sram x =>
    have hx : x = a := by simpa [State.localAddr, ht] using ha
    subst hx
    rw [hw x ht]
    rfl

/-- A write to DRAM stores its bytes there and nowhere else. -/
theorem memStore_dram (s : State) (m a : Nat) (bs : List Byte) (h : s.target a = .dram a) : s.memStore m a bs = s.setBytes a bs := by
  unfold State.memStore State.localAddr
  rw [h]

/-- A read of DRAM changes nothing. -/
theorem memLoad_dram (s : State) (m a n : Nat) (h : s.target a = .dram a) : s.memLoad m a n = (memBytes s.mem a n, s) := by
  unfold State.memLoad State.localAddr
  rw [h]

/-- A recorded fault stores nothing. -/
theorem memFault_mem (s : State) (f : MemFail) (m a : Nat) (w : Bool) : (s.memFault f m a w).mem = s.mem := by
  cases f <;> rfl

/-- An aligned descriptor whose first accesses are granted and whose sides do not overlap passes its checks (R338, R340). -/
theorem descCode_zero (s : State) (ws : List Word) (hm : dMisaligned ws = false) (ha : s.accessCode (dAddr ws 0 0) (dSize ws) false = 0)
    (hb : s.accessCode (dAddr ws 1 0) (dSize ws) true = 0) (ho : dOverlap ws = false) : s.descCode ws = 0 := by
  simp [State.descCode, hm, ha, hb, ho]

end Sys2Proof.Machine
end

