-- ==== Sys2Proof/Tests/Slice0.lean ====
section
/-! SUPPORT. Tests: an ill-formed command for each check of Instr.wf, and small states that meet the hypotheses of the statements
with what the commands do on them. -/

set_option maxRecDepth 100000
set_option Elab.async false

namespace Sys2Proof.Tests

open Sys2Proof.Machine Sys2Proof.Safety

/-! ## States the tests start from -/

/-- Boot complete, supplies good, every page UNLOCKED. -/
def up : State := { regs := [(0x0000C, 3)], hdrs := (List.range 27).map (fun i => (i, { lock := .unlocked })) }

/-- `up` with registers set. -/
def on (l : List (Nat × Word)) : State := l.foldl (fun (s : State) x => s.setReg x.1 x.2) up

/-- The state a command answers. -/
def after (c : Instr) (s : State) : State := match exec c s with | .next t => t | _ => s

/-- The code in a page's ERR after a command. -/
def errOf (p : Page) (c : Instr) (s : State) : Nat := ((after c s).hdr p).errCode.toNat

/-! ## Well-formed commands -/

theorem test_wf_address : (Instr.registerWrite 1 0x800000 4 0).wf = false ∧ (Instr.registerWrite 1 0x7FFFFC 4 0).wf = true := by decide
theorem test_wf_width : (Instr.registerWrite 1 0 0 0).wf = false ∧ (Instr.registerWrite 1 0 9 0).wf = false := by decide
theorem test_wf_low_word : (Instr.resultLowWordRead 1 0x20000).wf = false ∧ (Instr.resultLowWordRead 1 2).wf = false := by decide
theorem test_wf_host_access : (Instr.hostRemoteAccess true 0 257 none [] none).wf = false ∧ (Instr.hostRemoteAccess true 0 0 none [] none).wf = false ∧
    (Instr.hostRemoteAccess true 0x1FFFFFF 2 none [] none).wf = false ∧ (Instr.hostRemoteAccess false 0x3FFFFFF 2 none [] none).wf = false ∧
    (Instr.hostRemoteAccess false 0 2 none [] (some [0])).wf = false ∧ (Instr.hostRemoteAccess true 0x1FFFFFC 4 none [] none).wf = true := by decide
theorem test_wf_access_frame : (Instr.remoteAccessFrame 0 0 0 none []).wf = false ∧ (Instr.remoteAccessFrame 0 0 257 none []).wf = false ∧
    (Instr.remoteAccessFrame 0 0x1FFFFFF 2 none []).wf = false := by decide
theorem test_wf_violation : (Instr.manchesterViolation 0 65).wf = false ∧ (Instr.manchesterViolation 0 64).wf = true := by decide
theorem test_wf_chain : (Instr.rowWrite 1 [(32, [])] []).wf = false ∧ (Instr.rowWrite 1 [] [(36, [])]).wf = false ∧ (Instr.rowWrite 0 [(31, [])] [(35, [])]).wf = true ∧
    (Instr.strikeAssert 0 1 [(32, [])] []).wf = false ∧ (Instr.strikeClear 0 1 [] [(36, [])]).wf = false := by decide
theorem test_wf_link_state : (Instr.linkStateFlood 0 0 [(6, 0)]).wf = false ∧ (Instr.linkStateFlood 0 0 [(0, 64)]).wf = false := by decide
theorem test_wf_shadow : (Instr.shadowFrame 0 0 []).wf = false := by decide
theorem test_wf_pairing : (Instr.pairingFrame [] 0 0).wf = false := by decide
theorem test_wf_cumulus : (Instr.cumulusFrameReceived 0 0 0 []).wf = false := by decide

/-! ## Registers and the host (chapter 02): states that meet the statements' hypotheses, and what follows there -/

theorem witness_step : step { up with pending := [.syncBallEdge] } = exec .syncBallEdge up ∧ (up.pending = [] → step up = .next (timeTick up).fin) :=
  ⟨rfl, fun _ => rfl⟩

theorem witness_lock : up.bootGate 0 .dfc = false ∧ (after (.lockWrite 0 .dfc 0x4A21) State.reset).unlocked .sys = false ∧
    ((after (.lockWrite 1 .dfc 0x4A21) State.reset).hdr .dfc).lock = .armed ∧
    ((after (.lockWrite 1 .dfc 0xB5DE) (after (.lockWrite 1 .dfc 0x4A21) State.reset)).hdr .dfc).lock = .unlocked ∧
    ((after (.lockWrite 1 .dfc 0x4A21) up).hdr .dfc).lock = .armed ∧ ((after (.lockWrite 1 .dfc 1) up).hdr .dfc).lock = .locked := by decide +kernel
theorem witness_locked_write : State.reset.bootGate 1 .fio = false ∧ State.reset.unlocked .fio = false ∧ writePage (.fioRearm 1 0) = some (1, .fio) ∧
    pageOf (pageBase .fio + 0xFFC) = some .fio ∧ errOf .fio (.fioRearm 1 0) State.reset = 1 ∧ errOf .fio (.registerWrite 1 0x0FFFC 4 0) State.reset = 1 := by decide
theorem witness_resets : (∀ q ∈ Page.all, ((after .resetPin up).hdr q).lock = .locked) ∧ (up.unlocked .sys = true ∧
    ∀ q ∈ Page.all, ((after (.sysRstCmd 1 0xB5EF0001) up).hdr q).lock = .locked) := by decide
theorem test_pend_level_stays : (levels (up.putBit R.sysStat_supply_ok false) .sys).getLsbD 0 = true ∧
    ((after (.irqPendClear 1 .sys 3) ((up.putBit R.sysStat_supply_ok false).edge .sys 2)).hdr .sys).irqPend = 5 := by decide
theorem test_enable_raises : (after (.irqEnWrite 1 .gal 4) (up.edge .gal 2)).blockIrq .gal = true := by decide
theorem witness_widths : up.bootGate 0 .tim = false ∧ pageOf (pageBase .tim + 0x028) = some .tim ∧ widthOk 0x15044 8 = false ∧
    errOf .tim (.registerWrite 0 0x15044 8 0) up = 2 ∧ errOf .tim (.registerWrite 0 0x15028 4 0) up = 3 ∧ regRow 0x15FFC = none ∧
    errOf .tim (.registerWrite 0 0x15FFC 4 0) up = 3 ∧ pageOf 0x1E000 = none ∧ errOf .sys (.registerWrite 0 0x1E000 4 0) up = 3 := by decide
theorem witness_plain : (regRow (pageBase .fio + 0x048)).isSome = true ∧ Reaches up 0 .fio ∧ ownEffect .fio 0x048 = false ∧ ownEffect .mem 0x040 = false ∧
    ownEffect .sys 0x140 = false ∧ ownEffect .sys 0x144 = false ∧ (regRow 0x00144).isSome = true ∧
    (let t := after (.registerWrite 1 0x00140 8 0x8180000000000080) up; t.reg 0x00140 = 0x80 ∧ t.reg 0x00144 = 0x81800000) ∧
    (regRow 0x1C008).isSome = true ∧ writeOf (.evrCursorWrite 1 7) = some (1, 0x12048, 7) ∧
    (after (.registerWrite 0 0x0F048 4 5) (on [(0x0F048, 7)])).reg 0x0F048 = 2 ∧ (regRow (pageBase .mem + 0xCFC)).isSome = true ∧
    (after (.registerWrite 0 0x03040 4 0xFFFFFFFF) up).reg 0x03040 = mergeWrite ((regRow 0x03040).getD ⟨0, 1, 4, 0, 0, 0, 0⟩) (up.reg 0x03040) 0xFFFFFFFF := by decide +kernel
theorem witness_low_word : latchLows.length ≠ 0 ∧ (∀ a ∈ latchLows, (pageOf a).isSome = true) ∧
    (let a := latchLows.headD 0; let t := after (.resultLowWordRead 1 a) (on [(a + 4, 77)]); t.readReg 1 (a + 4) = 77 ∧ t.readReg 2 (a + 4) = 0) := by decide

/-- The root, its link up, MSI-X on, source 0 (SYS) raised and mapped to vector 33. -/
def root33 : State :=
  let s := on [(R.pciLink, 0), (R.sysIrqMap 0, 0xA1)]
  let s := (((s.putBit R.pciLink_root true).putBit R.pciLink_up true).setReg (R.pciMsix 135) 0)
  ({ s with host := { perst := false, busMaster := true, msixEn := true } }.updHdr .sys (fun h => { h with irqEn := 4, irqPend := 4 }))

theorem witness_vectors : root33.isRoot = true ∧ root33.vecAsserted 33 = true ∧ root33.vecSent 33 = false ∧ root33.vecMasked 33 = false ∧ root33.hostOk = true ∧
    (let t := after (.vectorAssert 33) root33
     t.out = [.msix 33] ∧ t.vecSent 33 = true ∧ t.vecAsserted 33 = true ∧ (after (.sysIrqAck 1 33) t).out = [.msix 33, .msix 33] ∧
     (let u := { t with hdrs := up.hdrs }; u.vecAsserted 33 = false ∧ (after (.sysIrqAck 1 33) u).vecSent 33 = false)) ∧
    (let m := { root33 with host := { root33.host with funcMask := true } }
     let t := after (.vectorAssert 33) m
     t.out = [] ∧ t.vecPend 33 = true ∧ (after (.msixUnmask none) t).out = [.msix 33]) := by decide +kernel
theorem witness_unmask : (let p := (root33.setArrBit (R.pciPba 0) 33 true).setRegBit (R.pciMsix 135) 0 true
    Reaches p 0 .pci ∧ p.host.funcMask = false ∧ p.vecPend 33 = true ∧ p.vecAsserted 33 = true ∧ (after (.msixUnmask (some 33)) p).vecSent 33 = true ∧
    (let q := { p with hdrs := up.hdrs }; q.vecAsserted 33 = false ∧ (after (.msixUnmask (some 33)) q).vecPend 33 = false)) := by decide
theorem witness_forward : (let m := root33.putBit R.pciLink_root false
    m.isRoot = false ∧ m.anyRouted = true ∧ (after (.vectorAssert 0) m).out = [.forward] ∧ (after .forwardRepeat m).out = [.forward]) ∧
    (after (.forwardMessage 63) root33).reg R.sysRmtPendHi = 0x80000000 ∧ (after (.forwardMessage 0) root33).reg R.sysRmtPendLo = 0 := by decide
theorem witness_endpoint : root33.host.perst = false ∧ (after (.pcieLinkRetrain 2 true) root33).reg R.pciLink = 0x1C3 ∨ root33.host.perst = false := by decide
theorem witness_remote : root33.host.perst = false ∧ root33.host.d3hot = false ∧ root33.bit R.pciLink_up = true ∧
    root33.regionOk 0 (0x10000000000 + 1 * 0x2000000) 4 false = true ∧
    (after (.hostRemoteAccess false 0x2000000 4 none [] none) root33).out = [.remoteReq 0 1 0 false []] ∧
    (let r : RemoteReq := ⟨0, 1, 0, false, 4⟩
     let s : State := { root33 with host := { root33.host with remote := [r] } }
     errOf .pci (.remoteAccessTimeout 0) s = 4 ∧ (after (.remoteAccessTimeout 0) s).host.late = [0]) ∧
    (root33.putBit R.pciLink_root false).isRoot = false ∧ errOf .pci (.hostRemoteAccess false 0 4 none [] none) (root33.putBit R.pciLink_root false) = 0x0101 ∧
    up.regionOk 6 0x0 4 false = true := by decide +kernel
/-- A numbered member. -/
def numbered : State := on [(R.galStat, 0x80)]
theorem witness_frames : numbered.get R.galStat_num = 1 ∧ up.get R.galStat_num ≠ 1 ∧ (after (.remoteAccessFrame 5 0 4 none []) up).out = [] ∧
    (after (.remoteAccessFrame 5 0 4 none []) numbered).out = [.remoteAnswer 5 0 (leBytes 4 (numbered.busRead 6 0).toNat)] ∧
    numbered.memCheck 6 0x1000000 4 true = none ∧ numbered.atomWin 0x1000000 = 0 ∧ numbered.poisoned 0x1000000 4 = false ∧ numbered.lgeOpen 0x1000000 4 = false ∧
    (let t := after (.remoteAccessFrame 5 0x1000000 0 (some [1, 2, 3, 4]) []) numbered
     t.word 0x1000000 = 0x04030201 ∧ t.out = [.remoteAnswer 5 0x1000000 []] ∧
     (after (.remoteAccessFrame 6 0x1000001 2 none []) t).out = [.remoteAnswer 5 0x1000000 [], .remoteAnswer 6 0x1000001 [2, 3]]) ∧
    (let t := after (.hostRemoteAccess true 0x1000000 0 (some [9]) [] none) root33
     t.word 0x1000000 = 9 ∧ (after (.hostRemoteAccess false 0x1000000 1 none [] none) t).out = [.readData 0 0x1000000 [9]]) := by decide +kernel

/-! ## Analog inputs and filter chain (chapters 03 and 04) -/

/-- AIN31 enabled with open-wire mode `md`, OW_THR 10, OW_CNT 2. -/
def ain31 (md : Nat) : State := on [(R.afeCtrl, 1), (R.afeAinCfg 31, BitVec.ofNat 32 (1 + 4 * md + 10 * 256 + 2 * 65536))]

/-- Channel 31 with the mean of its last cycle, in units of range / 1024, and OVR. -/
def mean31 (k : Int) (o : Bool) : State := (ain31 1).updAin 31 (fun c => { c with mean := some (k * 0x60000000, 1024, o) })

theorem witness_ain : (ain31 1).ainOn 31 = true ∧ (ain31 1).get (R.afeAinCfg_ow_mode 31) = 1 ∧ (ain31 1).regBit R.afeOvrSticky 31 = false ∧
    (after (.overrangeDetect 31) (ain31 1)).regBit R.afeOvrSticky 31 = true ∧
    (mean31 11 false).owMode 31 = 1 ∧ (mean31 11 false).owReady 31 = some (11 * 0x60000000 * 1024, 1024 * 0x60000000, false) ∧
    (ain31 1).owReady 31 = none ∧ (mean31 11 true).owReady 31 = some (11 * 0x60000000 * 1024, 1024 * 0x60000000, true) ∧ up.ainOn 31 = false := by decide +kernel
theorem test_open_wire : (let t := after (.openWireMeasurement 31) (mean31 11 false)
     t.regBit R.afeOwStat 31 = false ∧ t.groupWord (R.afeOwMeas 31) 1 = 0x1000B) ∧
    ((after (.openWireMeasurement 31) ((mean31 11 false).updAin 31 (fun c => { c with owRun := 1 }))).regBit R.afeOwStat 31 = true) ∧
    ((after (.openWireMeasurement 31) ((mean31 4 false).updAin 31 (fun c => { c with owRun := 1, owClear := 7 }))).ain 31).owClear = 8 := by decide +kernel
theorem witness_probe : (let s := (ain31 2).put R.gridStat_trk 4
    let d : State := { s with grid := { s.grid with row := 3 * 96 + 63 } }
    let u : State := { ain31 2 with grid := d.grid }
    s.ainOn 31 = true ∧ s.owMode 31 = 2 ∧ s.tracked = true ∧ s.gridN ≠ 192 ∧ d.gridN = 96 ∧ s.probeDue 31 = false ∧
    d.probeDue 31 = true ∧ d.get R.gridStat_trk = 4 ∧ ((after (.probePulse 31) d).ain 31).deferred = true ∧
    u.probeDue 31 = true ∧ u.get R.gridStat_trk ≠ 4 ∧ u.ovrLastCycle 31 = false ∧ ((after (.probePulse 31) u).ain 31).pulse = true) := by decide +kernel
/-- A pulse has run at clock 1000, the newest sinc sample is that of clock 1600. -/
theorem witness_pulse : (let s := (ain31 2).updAin 31 (fun c => { c with pulse := true, pulseClk := 1000, sincClk := 1600, sincs := List.replicate 40 ⟨7, false, false⟩ })
    s.owMode 31 = 2 ∧ (s.ain 31).pulse = true ∧ (s.ain 31).eight ((s.ain 31).pulseClk + 491) = some (List.replicate 8 ⟨7, false, false⟩) ∧
    (s.ain 31).eight (s.ain 31).pulseClk = some (List.replicate 8 ⟨7, false, false⟩)) := by decide

/-- MCLK_OUT toggles; BSI31 enabled with a Manchester source. -/
def bsi31 : State := on [(R.afeStat, 0x2), (R.afeBsiCfg 31, 5)]

theorem witness_bsi : bsi31.bit R.afeStat_mclk_run = true ∧ bsi31.usesClock 3 = false ∧ up.bsiMan 31 = false ∧
    (let c := on [(R.afeStat, 0x2), (R.afeBsiCfg 31, 1)]
     c.usesClock 3 = true ∧ (after (.returnedClockLost 3) c).afeInvalid 63 = true ∧ (after (.returnedClockLost 3) c).regBit R.afeBsiStat 31 = true) ∧
    (let c : State := { bsi31 with dfc := { chan := [(63, { bits := [⟨true, false, false⟩, ⟨true, false, false⟩, ⟨false, false, false⟩] })] } }
     (tget {} (after (.manchesterViolation 31 1) c).dfc.chan 63).bits = [⟨false, true, false⟩, ⟨false, true, false⟩, ⟨false, false, false⟩]) ∧ bsi31.bsiMan 31 = true ∧ bsi31.bsiOn 31 = true ∧ bsi31.afeInvalid 63 = false ∧
    (after (.manchesterViolation 31 5) bsi31).regBit R.afeBsiStat 31 = true ∧
    (after (.manchesterViolation 31 4) bsi31).regBit R.afeBsiStat 31 = false ∧ (after (.identicalBitRun 31 4095) bsi31).regBit R.afeBsiStat 31 = false ∧
    (after (.identicalBitRun 31 4096) bsi31).regBit R.afeBsiStat 31 = true := by decide +kernel
theorem witness_afe_writes : Reaches up 1 .afe ∧ (ain31 1).bit (R.afeAinCfg_en 31) = true ∧ (R.afeAinCfg_range 31).of 3 ≠ (ain31 1).get (R.afeAinCfg_range 31) ∧
    errOf .afe (.afeAinCfgWrite 1 31 3) (ain31 1) = 0x0101 ∧ errOf .afe (.afeAinCfgWrite 1 31 0xD) up = 0x0103 ∧
    (after (.afeAinCfgWrite 1 31 0xFFFFFF05) up).reg (R.afeAinCfg 31) = 0x00FFFF05 ∧ errOf .afe (.afeCtrlWrite 1 6) up = 0x0102 ∧
    (after (.afeCtrlWrite 1 4) up).bit R.afeStat_mclk_run = true ∧ bsi31.bit (R.afeBsiCfg_en 31) = true ∧ errOf .afe (.afeBsiCfgWrite 1 31 3) bsi31 = 0x0104 ∧
    (after (.afeBsiCfgWrite 1 31 0x0A05) bsi31).reg (R.afeBsiCfg 31) = 0x0A05 := by decide +kernel
theorem witness_chain : Reaches up 1 .dfc ∧ up.bit R.dfcCtrl_en = false ∧ R.dfcCtrl_align.of 1 = 0 ∧ R.dfcCtrl_align.of 5 = 1 ∧
    (after (.chainEnable 1 1) up).dfc.syncAt = some 4096 ∧ (after (.chainEnable 1 5) up).bit R.dfcStat_run = true ∧ (after (.chainEnable 1 5) up).dfc.origin = 3 ∧
    errOf .dfc (.syncCmd 1 1) up = 0x0103 ∧
    (let s := on [(R.dfcCtrl, 3), (R.dfcStat, 1)]
     s.bit R.dfcCtrl_en = true ∧ s.bit R.dfcCtrl_sync_ball = true ∧ s.bit R.dfcStat_sync_pend = false ∧ (after (.chainDisable 1 0) s).bit R.dfcStat_run = false ∧
     (let p := after (.syncCmd 1 1) s
      p.bit R.dfcStat_sync_pend = true ∧ p.dfc.syncAt ≠ none ∧ (after .syncAlignment p).groupValid R.dfcSyncRes = true ∧
      (after .syncAlignment p).bit R.dfcStat_sync_pend = false) ∧
     (let e : State := { s with dfc := { s.dfc with lastEdge := some 0 }, time := { s.time with grid := 166666 * 2 ^ 32 } }
      e.gridNs < 0 + 166667 ∧ (after .syncBallEdge e).dfc.ignored = 1) ∧
     (let e : State := { s with dfc := { s.dfc with lastEdge := some 0 }, time := { s.time with grid := 166667 * 2 ^ 32 } }
      0 + 166667 ≤ e.gridNs ∧ (after .syncBallEdge e).dfc.lastEdge = some 166667)) := by decide +kernel
theorem witness_coefficients : (after (.hbSwapRequest 1 0x10) up).get R.dfcHbSwap_swap = 16 ∧ errOf .dfc (.coefWrite 1 0 40 7) up = 0x0101 ∧
    up.regBit R.dfcHbBank (coefPlace 40).1 ≠ true ∧ up.regBit R.dfcHbSwap (coefPlace 40).1 = false ∧ coefAddr 1 40 = 0x095C0 ∧
    (let s := after (.hbSwapRequest 1 0x10) up; s.regBit R.dfcHbSwap (coefPlace 40).1 = true ∧ errOf .dfc (.coefWrite 1 1 40 7) s = 0x0101 ∧
     (after (.hbSwapDone 4) s).regBit R.dfcHbBank 4 = true ∧ (after (.hbSwapDone 4) s).bit R.dfcStat_swap_pend = false) ∧
    errOf .dfc (.dfcIntWrite 1 63 1) (on [(R.dfcCtrl, 1)]) = 0x0102 ∧ (after (.dfcIntWrite 1 63 0x7FFFFF) up).reg (R.dfcChInt 63) = 0x7FFFFF ∧
    (let s : State := { (on [(R.dfcStat, 1)]) with dfc := { chan := [(63, { x1 := { invalid := false } })] } }
     s.bit R.dfcStat_run = true ∧ (tget {} s.dfc.chan 63).x1.invalid = false ∧
     (tget {} (after (.integratorSettled 63) s).dfc.chan 63).settling = false) := by decide +kernel

/-! ## Grid, subscriber, phasor engine (chapters 05 to 07) -/

/-- One row in flight. -/
def flight (l : List (Nat × Word)) : State := { (on l) with grid := { inflight := [{ row := 1 }] } }

theorem witness_rows : (let s : State := { (on [(R.gridStat, 1)]) with grid := { row := rowMod - 1 } }
    s.rowDue = true ∧ (∀ x ∈ rowAcc s.grid.row true, (chainStep 0 [] [] s).memCheck 3 x.1 x.2.1 x.2.2 = none) ∧ s.bit R.dfcStat_run = false) ∧
    up.rowDue = false ∧ up.grid.inflight = [] ∧
    (let s := flight [(R.gridStat, 0x31), (R.gridCtrl, 2)]
     s.grid.inflight = { row := 1 } :: [] ∧ s.grid.stopAt = none ∧ s.grid.old = 0 ∧ s.bit R.drcCtrl_en = false ∧ s.memCheck 3 (headAddr 1) 32 true = none) ∧
    (flight [(R.gridCfg, 0x10)]).isTickRow 1 = false ∧
    (let s := flight [(R.gridStat, 7)]
     let f : State := { s with grid := { s.grid with inflight := [{ row := 0 }] } }
     f.tracked = true ∧ f.get R.gridStat_trk = 3 ∧ (f.putBit R.gridCtrl_force_frz true).bit R.gridCtrl_force_frz = true ∧
     { s with grid := { s.grid with stopAt := some 0 } }.rowDue = false) := by decide +kernel
theorem witness_grid : Reaches up 1 .grid ∧ up.bit R.gridCtrl_en = false ∧ (after (.gridEnable 1 1) up).bit R.gridStat_run = true ∧
    (let s := (on [(R.gridCtrl, 1), (R.gridStat, 1)])
     s.bit R.gridCtrl_en = true ∧ s.grid.inflight = [] ∧ s.bit R.gridStat_run = true ∧ s.gridNs ≤ nsOfInstant (s.grid.origin * 2 ^ 24 + s.grid.pos) ∧
     (after (.gridDisable 1 0) s).bit R.gridStat_run = false ∧ R.gridTrk_mode.of (R.gridTrk_mode.put 0 1) ≠ s.get R.gridTrk_mode ∧
     (after (.gridDisable 1 0) { s with grid := (flight []).grid }).grid.stopAt = some 0 ∧
     errOf .grid (.gridTrkWrite 1 (R.gridTrk_mode.put 0 1)) s = 0x0101 ∧ errOf .grid (.gridAlignCmd 1 1) s = 0x0102 ∧
     (let f := s.put R.gridTrk_mode 1; f.get R.gridTrk_mode = 1 ∧ (after (.gridAlignCmd 1 1) f).out = [.alignReq 0])) ∧
    (after (.gridQCfgWrite 1 575 1) up).reg (R.gridQCfg 575) = 1 := by decide +kernel
theorem witness_tracker : (let s : State := { (on []).put R.gridStat_trk 4 with grid := { clearCycles := 1000 } }
    s.get R.gridStat_trk = 4 ∧ Nat.max 1 (s.get R.gridFrz2_hold) ≤ s.grid.clearCycles ∧ s.bit R.gridStat_stale = false ∧ s.grid.relMeas = none ∧
    (after .trackerRelease s).get R.gridStat_trk = 5 ∧ (after .trackerStale s).bit R.gridStat_stale = true ∧ up.get R.gridStat_trk ≠ 4) ∧
    (let s := (up.put R.gridStat_trk 6).putBit R.gridStat_run true
     s.get R.gridStat_trk = 6 ∧ s.bit R.gridStat_run = true ∧ (after (.gridAlign 5 7 0) s).grid.align.isSome = true) ∧
    (let s := up.putBit R.gridStat_run true
     s.get R.gridStat_trk ≠ 6 ∧ s.trkMode = 0 ∧ (after (.gridAlign 0 0 0) s).out = [.align 192 0 0]) := by decide +kernel

/-- The subscriber on; slot 63 in RUN for frames to 0x010CCD040000 with APPID 0x4000. -/
def sub : State :=
  let s := on [(R.svsCtrl, 1), (slotReg 63 3, 5)]
  let s := (((s.putBit (R.svsSlCfg_en 63) true).put (R.svsSlCfg_nent 63) 1).setReg (slotReg 63 1) 0xCD040000).put (R.svsSlAddr_dmac_hi 63) 0x010C
  { (s.put (R.svsSlAddr_appid 63) 0x4000) with svs := { slot := [(63, { svid := [1], st := .run, next := some 4800, released := [{ num := 4799 }] })] }, time := { grid := 1000000000 * 2 ^ 32 } }
def svA (cnt rev : Nat) : SvAsdu := { svid := [1], smpCnt := cnt, confRev := rev, smpSynch := 2, data := some [(7, 0)] }
def svF (a : SvAsdu) : SvFrame := ⟨0, 0x010CCD040000, 9, 0x4000, false, false, none, [a]⟩

theorem witness_sv : sub.bit R.svsCtrl_en = true ∧ sub.svAddressed (svF (svA 0 5)) 63 = true ∧ sub.bit R.svsCtrl_prp_en = false ∧
    sub.svHit (svF (svA 0 5)) (svA 0 5) = some 63 ∧ (sub.reg (slotReg 63 3)).toNat = 5 ∧ 0 < sub.slotRate 63 ∧ sub.slotNent 63 = 1 ∧
    (after (.svFrameReceive (svF (svA 0 5))) sub).svs.accept = 1 ∧ ((after (.svFrameReceive (svF (svA 0 5))) sub).slot 63).held.length = 1 ∧
    sampleAge 4800 (sampleNumber 4800 0 sub.gridNs) sub.gridNs = 0 ∧ ((after (.svFrameReceive (svF (svA 0 6))) sub).slot 63).flags = 8 ∧
    ((jbClamp (sub.get (R.svsSlCfg_jb 63)) * 10000 : Nat) < sampleAge 4800 (sampleNumber 4800 4700 sub.gridNs) sub.gridNs) ∧
    sampleAge 4800 (sampleNumber 4800 100 sub.gridNs) sub.gridNs < -1000000 ∧
    ((after (.svFrameReceive (svF (svA 4700 5))) sub).slot 63).late = 1 ∧ ((after (.svFrameReceive (svF (svA 100 5))) sub).slot 63).early = 1 ∧
    (∀ k < 64, sub.svAddressed { svF (svA 0 5) with appid := 1 } k = false) ∧
    (after (.svFrameReceive { svF (svA 0 5) with asdus := [{ svA 0 5 with svid := [2] }] }) sub).svs.noslot = 1 := by decide +kernel
theorem test_sv_drops : ((after (.svFrameReceive { svF (svA 0 5) with sim := true }) sub).slot 63).flags = 64 ∧
    ((after (.svFrameReceive (svF { svA 0 5 with data := none })) sub).slot 63).flags = 16 ∧ ((after (.svFrameReceive (svF (svA 4800 5))) sub).slot 63).flags = 128 ∧
    ((after (.svFrameReceive (svF { svA 0 5 with smpSynch := 0 })) sub).slot 63).flags = 32 := by decide
theorem witness_prp : (let s := sub.putBit R.svsCtrl_prp_en true
    let f := { svF (svA 0 5) with prp := some (3, false) }
    s.bit R.svsCtrl_prp_en = true ∧ (after (.svFrameReceive { f with hsr := true }) s).svs.hsrDrop = 1 ∧ (prpCheck s.svs.prp 9 3 s.gridNs).1 = false ∧
    (let t := after (.svFrameReceive f) s; t.svs.accept = 1 ∧ (prpCheck t.svs.prp 9 3 t.gridNs).1 = true ∧ (after (.svFrameReceive f) t).svs.dupDisc = 1) ∧
    (after (.svFrameReceive { f with prp := some (3, true) }) s).svs.wrongLan = 1) := by decide +kernel
theorem witness_slots : Reaches sub 1 .svs ∧ sub.bit (R.svsSlCfg_en 63) = true ∧ errOf .svs (.svsSlotCfgWrite 1 63 1 0) sub = 0x0101 ∧
    (let v := sub.reg (R.svsSlCfg 63) &&& ~~~1#32
     (v ^^^ sub.reg (R.svsSlCfg 63)) >>> 1 = 0 ∧ (R.svsSlCfg_en 63).of v = 0 ∧ ((after (.svsSlotCfgWrite 1 63 0 v) sub).slot 63).st = .off ∧
     (let t := after (.svsSlotCfgWrite 1 63 0 v) sub
      let w := sub.reg (R.svsSlCfg 63)
      t.bit (R.svsSlCfg_en 63) = false ∧ (R.svsSlCfg_en 63).of w = 1 ∧ errOf .svs (.svsSlotCfgWrite 1 63 0 w) t = 0x0104 ∧
      (let u := t.put R.gridSeal_delay 0xFFFFF
       slotNeed ((R.svsSlCfg_jb 63).of w) 4800 ≤ u.get R.gridSeal_delay ∧ ((after (.svsSlotCfgWrite 1 63 0 w) u).slot 63).st = .wait ∧
       u.memCheck 3 (svidAddr 63) 64 false = none ∧ errOf .svs (.svsSlotCfgWrite 1 63 0 w) (u.put R.sysProfile_active 2) = 0x0103))) ∧
    (let s := after (.svFrameReceive (svF (svA 0 5))) sub
     (s.slot 63).next = some 4800 ∧ ((s.slot 63).held.find? (fun h => h.num == 4800)).isSome = true ∧
     ((after (.svSampleRelease 63) s).slot 63).released.length = 2) ∧
    (let s : State := { sub with svs := { slot := [(63, { st := .run, next := some 4800, released := [{ num := 4799 }], missing := 2 })] } }
     (s.slot 63).missing = 2 ∧ (s.slot 63).st ≠ .off ∧ (s.slot 63).held.find? (fun h => h.num == 4800) = none ∧ ((after (.svSampleRelease 63) s).slot 63).st = .lost) ∧
    (after .svsCountInterval sub).groupValid (R.svsSlSt 63) = true ∧ up.bit (R.svsSlCfg_en 63) = false := by decide +kernel

/-- Stream 7 runs and its next sample is known. -/
def stream7 : State := { (on [(R.gosCtrl, 0xFF)]) with gos := { svp := [(7, { on := true, next := some 10 })] } }

theorem witness_streams : Reaches up 1 .gos ∧ (after (.svStreamEnable 1 7 1) up).bit (R.gosSvpCfg_en 7) = true ∧ up.memCheck 5 (0x1433000 + 64 * 7) 64 false = none ∧
    (let s := after (.svStreamEnable 1 7 1) up
     s.bit (R.gosSvpCfg_en 7) = true ∧ (s.svp 7).on = true ∧ errOf .gos (.svStreamEnable 1 7 1) s = 0x0101 ∧
     ((after (.svStreamEnable 1 7 0) s).svp 7).on = false ∧ s.svpNext 7 = none) ∧
    stream7.bit R.gosCtrl_svp_en = true ∧ (stream7.svp 7).on = true ∧ stream7.svpNext 7 = some 10 ∧ stream7.svpReady 7 10 = true ∧
    (stream7.putBit R.dfcStat_run true).svpNext 7 = some 10 ∧ (stream7.putBit R.dfcStat_run true).svpReady 7 10 = false := by decide +kernel
theorem witness_phasors : up.phe.busy = none ∧ up.pea.tick = none ∧
    ((BitVec.ofNat 32 0x12).getLsbD (4 + 2 * (0 : Fin 8).val) = true) ∧ Reaches up 1 .phe ∧ up.numQ = 576 ∧ up.numGroups = 192 ∧ errOf .phe (.pheQCfgWrite 1 575 0x12) up = 0x0101 ∧
    (let s := up.put R.sysProfile_active 2; s.numQ ≤ 575 ∧ errOf .phe (.pheQCfgWrite 1 575 1) s = 0x0103) ∧
    (after (.pheQCfgWrite 1 575 0) up).reg (R.pheQCfg 575) = 0x20 ∧ errOf .phe (.pheGrpCfgWrite 1 191 0x80000000) up = 0x0102 ∧
    (after (.pheGrpCfgWrite 1 191 0x00100401) up).bit (R.pheGrpCfg_en 191) = false ∧ (after (.pheFcfgWrite 1 0xFFF) up).reg R.pheFcfg = 0xFFF ∧
    (let s : State := { (on [(R.pheCtrl, 1)]) with phe := { busy := some 3 } }
     s.phe.busy = some 3 ∧ (after (.pheDone []) (s.putBit R.gridStat_run true)).groupValid R.pheTick = true ∧ (after .pheLate s).bit R.peaStat_fault = true) := by decide +kernel

/-! ## Element array and trip matrix (chapters 08 to 11) -/

/-- A tick runs in slot 4095 with work byte `w`; slot words as given. -/
def slot (w : Nat) (ws : List (Nat × Word)) (ext : List (Nat × Word)) : State :=
  let s := ws.foldl (fun (s : State) x => s.setWord (slotAddr 4095 + x.1) x.2) (on [(R.peaCtrl, 1)])
  let s := ext.foldl (fun (s : State) x => s.setWord (extAddr 4095 + x.1) x.2) s
  { s with pea := { tick := some 0, work := [(4095, w)] } }

theorem witness_ticks : (let s : State := { (on [(R.peaCtrl, 1)]) with grid := { inflight := [{ row := 0 }] }, pea := { tick := some 0, pair := (List.range 8).map (fun p => (p, { finished := true })) } }
    s.isTickRow 0 = true ∧ s.bit R.peaCtrl_en = true ∧ (∀ p : Fin 8, (s.pairRun p.val).finished = true)) ∧
    ((up.pairRun 0).finished = false) ∧ up.pea.lastTick = none := by decide
theorem witness_pairs : (let s : State := { (on []) with pea := { tick := some 0, pair := [(7, { ph1 := true })] }, dup := { set := (List.range 8).map (fun k => (k, { returned := true })) } }
    s.pea.tick ≠ none ∧ (s.pairRun 7).ph1 = true ∧ (s.pairRun 7).ph2 = false ∧ s.totalsBack = true ∧
    (let t := after (.elementPhase2 7 []) s
     (t.pairRun 7).ph2 = true ∧ t.pea.tick ≠ none ∧ ((after (.crucibleCommit 7 99) t).pairRun 7).cycles = 99)) := by decide +kernel
theorem witness_live : Reaches up 1 .pea ∧ R.peaLiveCmd_go.of 1 = 1 ∧ up.pea.live = none ∧ errOf .pea (.peaLiveGo 1 1) up = 0x0102 ∧
    (let s := (slot 0 [(0, 0x0801)] []).setReg R.peaLiveSlot 4095
     s.pea.live = none ∧ s.bit R.peaCtrl_en = true ∧ s.get R.peaLiveSlot_slot < s.numSlots ∧ s.slotType 4095 ≠ 0 ∧
     setOk (s.slotType 4095) (s.slotRefs 4095) ((List.range 8).map (fun i => s.reg (R.peaLiveData i))) = false ∧ errOf .pea (.peaLiveGo 1 1) s = 0x0103) ∧
    (let s := (((slot 0 [(0, 0x0401)] []).setReg R.peaLiveSlot 4095).setReg (R.peaLiveData 0) 0x42480000).setReg (R.peaLiveData 2) 0x3F000000
     setOk (s.slotType 4095) (s.slotRefs 4095) ((List.range 8).map (fun i => s.reg (R.peaLiveData i))) = true ∧
     (let t := after (.peaLiveGo 1 1) s
      t.bit R.peaStat_live_pend = true ∧ t.pea.live ≠ none ∧ errOf .pea (.peaLiveGo 1 1) t = 0x0101) ∧
     (after .peaPairStatInterval s).groupValid (R.peaPairStat 7) = true) := by decide +kernel
theorem witness_timers : (let s := slot 1 [] [(0, 0), (4, 0x10000)]
    s.pea.tick ≠ none ∧ tget 0 s.pea.work 4095 = 1 ∧ gOne ≤ (Ctx.mk s 4095 0 none).acc ∧ tget 0 (after (.elementTimerExpiry 4095) s).pea.work 4095 = 3) ∧
    (let s := slot 0 [(0, 0x0101), (0x10 + 16, 0x10), (0x18, 0x3F800000), (0x34, 0x3F800000), (0x30, 0x40000000)] [(0, 5)]
     s.slotType 4095 = 0x0101 ∧ (Ctx.mk s 4095 0 none).bits 4 5 4 = 1 ∧
     fge ((Ctx.mk s 4095 0 none).st 1) ((Ctx.mk s 4095 0 none).set 2) = true ∧ (after (.resetTimerExpiry 4095) s).word (extAddr 4095) = 0) ∧
    (let s := slot 2 [(0, 0x0421), (0x14, 0x3F800000), (0x34, 0x3F800000)] []
     holdSetting (s.slotType 4095) = some 1 ∧ fge ((Ctx.mk s 4095 0 none).st 1) ((Ctx.mk s 4095 0 none).set 1) = true ∧
     tget 0 (after (.operateHoldExpiry 4095) s).pea.work 4095 = 0) ∧
    (let s := slot 0 [(0, 0x0801), (0x3C, 0x3F800000)] [(8, 0x2001)]
     fge ((Ctx.mk s 4095 0 none).st 3) (fq (2 * (Ctx.mk s 4095 0 none).bits 7 29 22) 1000) = true ∧
     (after (.polarisingMemoryExpiry 4095) s).word (extAddr 4095 + 8) = 1) ∧
    (let s := slot 15 [(0, 0x00080101)] []
     let s : State := { s with pea := { s.pea with qHold := [(4095, 17)] } }
     (15 : Nat).testBit 3 = true ∧ s.slotFlags 4095 / 4 % 4 = 2 ∧ 16 < tget 0 s.pea.qHold 4095 ∧
     tget 0 (after (.qualityHoldExpiry 4095) s).pea.work 4095 = 8) := by decide +kernel
theorem witness_pass : (let s : State := { (on [(R.trmCtrl, 1), (R.trmFoCfg 15, 1)]) with trm := { request := true } }
    s.bit R.trmCtrl_en = true ∧ s.trm.request = true ∧ s.bit (R.trmFoCfg_en 15) = true ∧ s.trm.hashRow = none ∧ s.lineLegal 255 = true) ∧
    up.bit R.trmCtrl_en = false := by decide

/-- Comparator 63 on, over a threshold of 2 for two samples. -/
def stk : State := on [((R.trmStkCfg 63), 0x21), (R.trmStkThr 63, 2)]

/-- Comparator 63 over a threshold of 2 for two samples; two SINC outputs of 2 wait, and its channel's chain is stopped. -/
def stk2 : State :=
  let s := (((on []).put (R.trmStkCfg_cnt 63) 2).put (R.trmStkThr_thr 63) 2).putBit (R.trmStkCfg_en 63) true
  { s with dfc := { s.dfc with chan := [(63, { sinc := [⟨2, false, false⟩, ⟨2, false, false⟩] })] } }

theorem witness_strikes : (let s := stk2
    let x : Tagged := ⟨2, false, false⟩
    s.bit (R.trmStkCfg_en 63) = true ∧ (s.strike 63).blk = false ∧ s.strikeLive 63 = false ∧ (s.strike 63).cnt = 0 ∧
    strikeBeyond (s.get (R.trmStkCfg_pol 63)) 2 (16 * Nat.max 1 (s.get (R.trmStkThr_thr 63)) : Nat) = true ∧
    ((runChain 0 [] [] s).sincOf 63).reverse = [x, x] ∧ Nat.max 1 (s.get (R.trmStkCfg_cnt 63)) = 2 ∧
    (let t := after (.strikeAssert 63 0 [] []) s
     t.strikeLive 63 = true ∧ t.arrBit R.trmStkStickyLo 63 = true ∧
     (let z : Tagged := ⟨0, false, false⟩
      let n := Nat.max 1 (t.get (R.trmStkCfg_dcnt 63))
      let u : State := { t with dfc := { t.dfc with chan := [(63, { sinc := List.replicate n z })] } }
      strikeBeyond (t.get (R.trmStkCfg_pol 63)) 0 (Nat.max 1 (t.get (R.trmStkThr_thr 63)) * Nat.max 8 (t.get (R.trmStkCfg_dr 63)) : Nat) = false ∧
      ((runChain 0 [] [] u).sincOf 63).reverse = List.replicate n z ∧ (u.strike 63).dcnt = 0 ∧ (after (.strikeClear 63 0 [] []) u).strikeLive 63 = false))) ∧
    stk.strikeLive 63 = false ∧ (stk2.put (R.trmStkCfg_cnt 63) 3).get (R.trmStkCfg_cnt 63) = 3 ∧ up.bit (R.trmStkCfg_en 63) = false := by decide +kernel
theorem witness_strike_block : (let s : State := { (on [(R.trmStkBlk 63, 0x600FF)]) with trm := { lines := 2 ^ 255 } }
    s.stkBlock 63 = true ∧ ((after (.strikeBlockChange 63) s).strike 63).blk = true) ∧ up.stkBlock 63 = false ∧ Reaches up 1 .trm ∧
    litKind (0x20000 : Word).toNat = 2 ∧ errOf .trm (.trmStkBlkWrite 1 63 0x20000) up = 0x0101 ∧ errOf .trm (.trmStkBlkWrite 1 63 0x80000) up = 0x0101 ∧
    (after (.trmStkBlkWrite 1 63 0x70000) up).reg (R.trmStkBlk 63) = 0x70000 ∧ (after (.trmLatchRst 1 0x8000) up).trm.latchRst = 0x8000 ∧
    (let s : State := { (on []) with trm := { minon := [(15, some 9)] } }
     tget none s.trm.minon 15 ≠ none ∧ (after (.minonExpiry 15) s).trm.request = true) := by decide +kernel

/-! ## Field I/O and housekeeping (chapter 12) -/

/-- FIO on, both dies linked, FO15 in a state. -/
def fio (st : Nat) : State := (((((on [(R.fioCtrl, 1)]).putBit R.fioStat_link_a true).putBit R.fioStat_link_b true).put (R.fioFoStat_state 15) st).setRegBit
  R.trmFoDrv 15 (st == foOFF))

theorem witness_outputs : (fio foOFF).bit R.fioCtrl_en = true ∧ (fio foOFF).bit (uvloFld 1) = false ∧ (fio foOFF).foState 15 = foOFF ∧
    (fio foOFF).drvBit 15 = true ∧ (after (.outputFrame 1 true) (fio foOFF)).foState 15 = foON ∧
    (fio foON).foState 15 = foON ∧ (fio foON).drvBit 15 = false ∧ (after (.outputFrame 1 true) (fio foON)).foState 15 = foOFF ∧
    (fio foON).bit (linkFld 1) = true ∧ up.bit (linkFld 1) = false ∧ (after (.linklossTimeout 1) up).foState 15 = foLINKLOSS ∧ (after (.linklossTimeout 1) (fio foON)).foState 15 = foLINKLOSS ∧
    (after (.foCurrentLimit 15) (fio foON)).foState 15 = foLIMIT ∧ (after (.currentLimitEnd 15) (fio foLIMIT)).foState 15 = foON ∧
    (after (.ovlEntry 15) (fio foLIMIT)).foState 15 = foOVL ∧ (after (.demagEnd 15) (fio foDEMAG)).foState 15 = foOFF := by decide +kernel
theorem witness_overload : (let s := ((fio foOVL).put (R.fioFoCfg_retry 15) 1).setRegBit R.trmFoDrv 15 true
    s.foState 15 = foOVL ∧ s.get (R.fioFoCfg_retry 15) ≠ 0 ∧ s.drvBit 15 = true ∧ (s.foChan 15).hot = false ∧
    (after (.ovlRetry 15) s).foState 15 = foON) ∧ ((after (.thermalShutdown 15) (fio foON)).foState 15 = foOVL) ∧
    ((after (.thermalCooled 15) (after (.thermalShutdown 15) (fio foON))).foChan 15).hot = false ∧
    (after (.foMismatchTimer 15) (fio foOFF)).regBit R.fioFoMismatch 15 = true ∧ (after (.foMismatchTimer 15) (fio foON)).regBit R.fioFoMismatch 15 = false := by decide +kernel
theorem witness_supply : up.bit (vfLowFld 1) = false ∧ (after (.vfLow 1) up).bit (vfLowFld 1) = true ∧
    (let u := after (.uvlo 1) (fio foON)
     (fio foON).bit (uvloFld 1) = false ∧ u.foState 15 = foUVLO ∧ u.foState 7 = (fio foON).foState 7 ∧
     (let r := after (.vfRecover 1) u
      tget false r.fio.timing 1 = true ∧ tget false (after (.vfFallDuringRecovery 1) r).fio.timing 1 = false ∧
      (let t := after (.vfRecoveryTimer 1) r
       tget false t.fio.recovered 1 = true ∧ (after (.fioRearm 1 2) t).bit (uvloFld 1) = false) ∧
      errOf .fio (.fioRearm 1 2) u = 0x0102)) := by decide +kernel
theorem witness_rearm : Reaches up 1 .fio ∧ R.fioRearm_a.of 1 = 1 ∧ R.fioRearm_b.of 1 = 0 ∧ up.bit R.fioStat_uvlo_a = false ∧
    (let s := after (.uvlo 0) up; s.bit R.fioStat_uvlo_a = true ∧ tget false s.fio.recovered 0 = false ∧ errOf .fio (.fioRearm 1 1) s = 0x0102 ∧
     (let t : State := { s with fio := { s.fio with recovered := [(0, true)] } }
      tget false t.fio.recovered 0 = true ∧ (after (.fioRearm 1 1) t).bit R.fioStat_uvlo_a = false)) ∧
    (fio foON).bit R.fioCtrl_en = true ∧ R.fioCtrl_en.of 0 = 0 ∧ (after (.fioCtrlWrite 1 0) (fio foON)).bit R.fioStat_link_b = false ∧
    up.keepAlive = false := by decide +kernel
theorem witness_inputs : ((after (.statusFrame 1 0x8000 0x80 false 0) (fio foON)).regBit R.fioFiRaw 31 = true) ∧
    (let s : State := { (fio foON).put (R.fioFiFlt_on 31) 2 with fio := { stepping := true } }
     s.fio.stepping = true ∧ up.fio.stepping = false ∧ (s.fiFilter 31).c ≤ s.fltOn 31 ∧ s.fltOn 31 = 2 ∧ s.regBit R.fioFiRaw 31 = s.bit (R.fioFiFlt_inv 31) ∧
     (let r := s.setRegBit R.fioFiRaw 31 true
      r.regBit R.fioFiRaw 31 ≠ r.bit (R.fioFiFlt_inv 31) ∧ (after (.inputFilterStep 31) r).regBit R.fioFiState 31 = false ∧
      (after (.inputFilterStep 31) (after (.inputFilterStep 31) r)).regBit R.fioFiState 31 = true)) ∧
    (let v : Word := BitVec.ofNat 32 ((R.fioFiFlt_off 31).put ((R.fioFiFlt_on 31).put 0 3) 3).toNat
     Nat.max 1 ((R.fioFiFlt_on 31).of v) ≤ (R.fioFiFlt_off 31).of v ∧ errOf .fio (.fiFltWrite 1 31 v) up = 0x0101) ∧
    (let v : Word := (R.fioFiFlt_off 31).put ((R.fioFiFlt_on 31).put 0 3) 2
     (R.fioFiFlt_off 31).of v < Nat.max 1 ((R.fioFiFlt_on 31).of v) ∧ (after (.fiFltWrite 1 31 v) up).reg (R.fioFiFlt 31) = v) := by decide +kernel
theorem witness_clamp : (let s := (fio foOFF).putBit (R.fioFoCfg_tcs_en 15) true
    s.bit (R.fioFoCfg_tcs_en 15) = true ∧ s.foState 15 = foOFF ∧ s.bit (vfLowFld 1) = false ∧ s.bit (uvloFld 1) = false ∧ s.bit (R.fioFoCfg_par 15) = false ∧
    (after (.tcsTimer 15 true) s).regBit R.fioTcsFail 15 = true) ∧ (after (.clampEventEnd 15 25000) up).regBit R.fioClampSticky 15 = false ∧
    (after (.clampEventEnd 15 25001) up).regBit R.fioClampSticky 15 = true ∧ (after .clampAverage (fio foON)).groupValid (R.fioGrpClampavg 1) = true := by decide +kernel

/-- A sequence of one entry, input 39, and DMA channel 15 running for the FIFO. -/
def hka1 : State := ((((on []).put R.hkaSeqLen_len 1).setReg (R.hkaSeq 0) 39).put (R.dmaChStat_state 15) 1).putBit R.hkaStat_warm true

theorem witness_hka : Reaches up 1 .hka ∧ hka1.bit R.hkaCtrl_go = false ∧ hka1.hkaLen = 1 ∧ hka1.hkaEntry 0 ≤ 39 ∧ hka1.hka.run = .idle ∧ hka1.hka.urg = none ∧
    up.hkaLen = 0 ∧ errOf .hka (.hkaGo 1 0) up = 0x0102 ∧ errOf .hka (.hkaGo 1 0) hka1 = 0x0103 ∧ hka1.hka.warming = false ∧ hka1.hka.next = none ∧
    (let g : State := { hka1.putBit R.hkaCtrl_go true with hka := { next := some 0, run := .seq 0 } }
     (after (.hkaGo 1 0) g).bit R.hkaCtrl_go = false ∧ ((after (.hkaConversionDone 0x800 true) g).hka.fifo.length = 1) ∧
     (after (.hkaConversionDone 0x800 true) g).hka.run = .idle) ∧
    (let v := R.hkaCtrl_dma_ch.put (R.hkaCtrl_go.put (R.hkaCtrl_en.put 0 1) 1) 15
     R.hkaCtrl_en.of v = 1 ∧ hka1.get (R.dmaChStat_state (R.hkaCtrl_dma_ch.of v)) = 1 ∧ (after (.hkaGo 1 v) hka1).hka.run = .seq 0) ∧
    (let v := R.hkaUrg_go.put (R.hkaUrg_in.put 0 39) 1
     R.hkaUrg_go.of v = 1 ∧ R.hkaUrg_in.of v ≤ 39 ∧
     (let t := after (.hkaUrgentRequest 1 v) hka1
      t.hka.run = .urgent 39 ∧ t.hka.warming = false ∧ (after (.hkaConversionDone 5 false) t).groupValid R.hkaUrgRes = true ∧
      ((after (.hkaConversionDone 5 false) t).hka.fifo.length = 1) ∧
      errOf .hka (.hkaUrgentRequest 1 v) t = 0x0101) ∧
     (let w : State := { hka1 with hka := { urg := some 0 } }; w.hka.urg ≠ none ∧ errOf .hka (.hkaUrgentRequest 1 v) w = 0x0101)) := by decide +kernel
theorem witness_hka_rest : (let s : State := { (on []) with hka := { fifo := [7, 8] } }
    s.hka.fifo = 7 :: [8] ∧ ([8] : List Word).length ≤ 63 ∧ (after .hkaFifoPop s).hka.fifo = [8]) ∧
    (let s : State := { (on []) with hka := { warming := true } }; s.hka.warming = true ∧ (after .hkaWarmupDone s).hka.warming = false) ∧
    (let s := ((hka1.putBit R.hkaCtrl_en true).putBit R.hkaCtrl_go true).putBit R.hkaCtrl_cont true
     s.bit R.hkaCtrl_en = true ∧ s.bit R.hkaCtrl_go = true ∧ s.bit R.hkaCtrl_cont = true ∧ s.hka.next = none ∧ (after .hkaPassPeriod s).hka.run = .seq 0) ∧
    tget 0 (after (.hkaTemperatureSample 7 9 false) up).hka.temps 7 = 9 ∧ (after (.hkaTemperatureSample 7 9 true) up).hka.fifo.length = 1 := by decide +kernel

/-! ## Logic and its recast (chapters 13 and 14) -/

/-- A NOT and a TON. -/
def prog2 : LProg := { progId := 7, retainId := 9, insts := [{ sym := 1, type := 4, ins := [.const 0] }, { sym := 2, type := 0x10, ins := [.const 1, .const 5] }], syms := [{ sym := 1, ty := .bool, forceable := true }] }

/-- A master of a domain of members 0 and 63, EN and FORCE_EN set, in a state and a phase. -/
def mas (st : Nat) (ph : LPhase) : State :=
  let s := (((((on []).put R.lgeCfg_role 1).putBit R.lgeCtrl_en true).putBit R.lgeCtrl_force_en true).setReg R.lgeDomLo 1).setReg R.lgeDomHi 0x80000000
  { s.setLe st with lge := { prog := some prog2, cells := prog2.insts.map LInst.cold, phase := ph, safe := [1] } }

theorem witness_cycle : (mas leRUN .idle).lgeMaster = true ∧ (mas leRUN .idle).lgeRuns = true ∧ (mas leRUN .idle).bit R.lgeCtrl_en = true ∧
    (mas leRUN .idle).lgeDom.testBit 63 = true ∧ (63 : Nat) ≠ (mas leRUN .idle).selfId ∧ (mas leRUN .idle).lgeDom.testBit 62 = false ∧
    (after .logicCycleLead (mas leRUN .idle)).lge.phase = .lead ∧ (after (.inputImageReceived 63 [5]) (mas leRUN .gather)).lge.valid = 2 ^ 63 ∧
    (after (.logicExec none) (mas leRUN .gather)).lge.phase = .exec ∧
    ((after (.logicExec none) (mas leRUN .gather)).lge.cells.map LCell.out) = [1, 0] := by decide +kernel
theorem witness_remote_snapshot : (let s := (((on []).put R.lgeCfg_role 2).putBit R.lgeCtrl_en true).put R.lgeCfg_master_mbr 5
    s.lgeMaster = false ∧ s.lgeRemote = true) ∧ (mas leRUN .lead).lge.phase = .lead ∧ (mas leRUN .exec).lge.swap = none ∧
    (mas leRUN .exec).bit R.lgeCfg_outsync = false ∧ ((mas leRUN .exec).putBit R.lgeCfg_outsync true).bit R.lgeCfg_outsync = true := by decide
theorem witness_logic_memory : LogicMemory prog2 (mas leRUN .gather) ∧ (mas leRUN .gather).lgePoison prog2 = none ∧
    (let s : State := { mas leRUN .gather with sram := { poison := [0x1000040] } }
     s.lgePoison prog2 = some (0x1000040, 1) ∧ (after (.logicExec none) s).get R.lgeStat_cause = 3) := by
  unfold LogicMemory; decide +kernel
theorem witness_images : (after (.logicSnapshot 0) (mas leRUN .lead)).lge.phase = .gather ∧ (after .logicOut (mas leRUN .exec)).le = leRUN ∧
    (after (.logicExec (some 8191)) (mas leRUN .gather)).get R.lgeStat_cause = 3 ∧ ((mas leRUN .gather).gin 1023).valid = false := by decide +kernel
theorem test_ton : (let x : LInst := { type := 0x10 }
    let c : LCell := { restart := false, prev := 1, start := 10 }
    (lEval 14 x [1, 5] c 0).cell.out = 0 ∧ (lEval 15 x [1, 5] c 0).cell.out = 1 ∧ (lEval 15 x [0, 5] c 0).cell.out = 0) := by decide
theorem test_saturation : (lEval 0 { type := 0x28 } [0x7FFFFFFF, 1] {} 0).cell.out = 0x7FFFFFFF ∧ (lEval 0 { type := 0x2B } [5, 0] {} 0).arith = true := by decide
theorem witness_stops : (after (.logicWatchdog 8191) (mas leRUN .gather)).le = leSTOPPED ∧ Reaches (mas leRUN .idle) 1 .lge ∧
    (after (.lgeStop 1 2) (mas leRUN .idle)).get R.lgeStat_cause = 1 ∧ R.lgeCtrl_en.of 0 = 0 ∧
    (after (.lgeCtrlWrite 1 0) (mas leRUN .idle)).le = leSTOPPED ∧ (mas leSTOPPED .idle).lgeRuns = false := by decide
theorem witness_remote_stops : (let s := ((((on []).put R.lgeCfg_role 2).putBit R.lgeCtrl_en true).put R.lgeCfg_master_mbr 5).setLe leREMOTE
    s.lgeRemote = true ∧ s.le = leREMOTE ∧ s.bit R.lgeCtrl_en = true ∧ (after .masterLost s).le = leREMOTESAFE ∧ (after (.stopReceived 6) s).get R.lgeStat_cause = 6 ∧
    s.bit R.lgeCfg_outsync = false ∧ (after (.sliceReceived [3]) s).lge.sliceAt = 0 ∧
    (let h : State := { s.putBit R.lgeCfg_outsync true with lge := { held := some [3] } }
     h.bit R.lgeCfg_outsync = true ∧ h.lge.held = some [3] ∧ h.lgeMaster = false ∧ (after .sliceApplyOutsync h).lge.held = none)) ∧
    (let h := { mas leRUN .out with lge := { (mas leRUN .out).lge with held := some [3] } }
     h.lge.phase = .out ∧ h.lge.swap = none ∧ (after .sliceApplyOutsync h).lge.phase = .idle) := by decide +kernel
theorem witness_starts : R.lgeCmd_stop.of 0 = 0 ∧ (let n : State := { mas leSTOPPED .idle with lge := {} }
     n.lge.prog = none ∧ n.lgeRuns = false ∧ errOf .lge (.lgeStart 1 0) n = 0x0101) ∧ (mas leSTOPPED .idle).le = leSTOPPED ∧
    (let v := R.lgeCmd_mode.put 0 1; R.lgeCmd_mode.of v = 1 ∧ R.lgeCmd_stop.of v = 0 ∧ (after (.lgeStart 1 v) (mas leSTOPPED .idle)).le = leSTARTING) ∧
    (mas leSTOPPED .idle).retainCopy 9 = none ∧ (after (.lgeStart 1 0) (mas leSTOPPED .idle)).bit R.lgeStat_retain_lost = true ∧
    (let k : State := { mas leSTOPPED .idle with lge := { (mas leSTOPPED .idle).lge with copyA := some ⟨9, 1, 0, []⟩ } }
     k.retainCopy 9 = some ⟨9, 1, 0, []⟩ ∧ (after (.lgeStart 1 0) k).bit R.lgeStat_retain_lost = false) := by decide +kernel
theorem witness_watchdog_write : (let s := up.put R.lgeWcet_wcet 100000
    R.lgeWdt_wdt.of 110 * 100000 < 111 * s.get R.lgeWcet_wcet ∧ errOf .lge (.lgeWdtWrite 1 110) s = 0x0105 ∧
    111 * s.get R.lgeWcet_wcet ≤ R.lgeWdt_wdt.of 111 * 100000 ∧ (after (.lgeWdtWrite 1 111) s).get R.lgeWdt_wdt = 111) := by decide
theorem witness_forces : up.bit R.lgeCtrl_force_en = false ∧ errOf .lge (.forceSet 1 1) up = 0x0102 ∧ errOf .lge (.forceClear 1 2) up = 0x0102 ∧
    (let s := ((mas leRUN .gather).setReg R.lgeForceSym 1).setReg R.lgeForceVal 1
     s.bit R.lgeCtrl_force_en = true ∧ s.lge.fcmd = [] ∧ (prog2.sym 1).isSome = true ∧ prog2.sym 9 = none ∧
     errOf .lge (.forceSet 1 1) (s.setReg R.lgeForceSym 9) = 0x0103 ∧ (after (.forceSet 1 1) s).lge.forces = [(1, 1)] ∧
     (let f : State := { s with lge := { s.lge with forces := (List.range 256).map (fun i => (BitVec.ofNat 32 (100 + i), 0)) } }
      256 ≤ f.lge.forces.length ∧ errOf .lge (.forceSet 1 1) f = 0x0104) ∧
     (let e : State := { s with lge := { s.lge with phase := .exec, forces := [(1, 0)] } }
      (after (.forceSet 1 1) e).lge.fcmd.length = 1 ∧ (after (.forceClear 1 1) e).lge.fcmd.length = 1 ∧ (after (.forceClearAll 1 1) e).lge.forces.length = 1) ∧
     (let i : State := { s with lge := { s.lge with phase := .idle, forces := [(1, 1), (2, 2)] } }
      i.lge.phase = .idle ∧ (after (.forceClear 1 2) i).lge.forces = [(2, 2)] ∧ (after (.forceClearAll 1 3) i).lge.forces = [] ∧
      (after (.forceClear 1 2) (i.setReg R.lgeForceSym 9)).lge.forces.length = 2)) := by decide +kernel
theorem witness_saves : (mas leRUN .idle).lge.saving = none ∧ (mas leRUN .idle).lge.frozen = false ∧
    (after .retainSave (mas leRUN .idle)).lge.saving ≠ none ∧ (after .retainSaveDone (after .retainSave (mas leRUN .idle))).lge.copyA ≠ none := by decide

/-- `mas` with banks 18 to 22 ON, in a recast phase. -/
def rcs (st : Nat) (ph : LPhase) (rc : Nat) : State :=
  ((List.range 5).foldl (fun (s : State) i => s.setReg (R.memBankCfg (18 + i)) (((R.memBankCfg_state 0).put 0 1) ||| (R.memBankCfg_ready 0).put 0 1)) (mas st ph)).setPhase rc
def img2 : LImage := { signed := true, prog := prog2, role := 1, dom := 0x8000000000000001 }

theorem witness_prepare : Reaches (rcs leRUN .idle rcIDLE) 1 .lge ∧ (rcs leRUN .idle rcIDLE).lgeMaster = true ∧ (rcs leRUN .idle rcIDLE).le = leRUN ∧
    errOf .lge (.recastPrepare 1 0 img2) (rcs leSTARTING .idle rcIDLE) = 0x0106 ∧ errOf .lge (.recastPrepare 1 0 img2) (rcs leRUN .idle rcSWAPPEND) = 0x0106 ∧
    (∀ b < 5, (rcs leRUN .idle rcREADY).bankOn (18 + b) = true) ∧ ((rcs leRUN .idle rcREADY).put (R.memBankCfg_state 22) 0).bankOn 22 = false ∧
    (after (.recastPrepare 1 0 img2) ((rcs leRUN .idle rcREADY).put (R.memBankCfg_state 22) 0)).lge.prep.map LPrep.status = some 4 ∧
    (after (.recastPrepare 1 0 { img2 with signed := false }) (rcs leRUN .idle rcREADY)).lge.prep.map LPrep.status = some 1 ∧
    (after (.recastPrepare 1 0 img2) ((rcs leRUN .idle rcREADY).put R.lgeRcLen_len 0x400001)).lge.prep.map LPrep.status = some 2 ∧
    (rcs leRUN .idle rcREADY).progOk prog2 = true ∧
    (after (.recastPrepare 1 0 { img2 with dom := 1 }) (rcs leRUN .idle rcREADY)).lge.prep.map LPrep.status = some 3 ∧
    (let t := after (.recastPrepare 1 0 img2) (rcs leRUN .idle rcREADY)
     t.lge.prep.map LPrep.status = some 0 ∧ t.rcPhase = rcPREPARING ∧ t.lge.prep.map LPrep.waits = some [63] ∧
     (after .noack t).groupWord R.lgeRcPrep 1 = 5 ∧ (after (.recastAbort 1 0) t).groupWord R.lgeRcPrep 1 = 7 ∧
     (let a := after (.iomapAck 63 0 {} []) t
      a.lge.prep.map LPrep.waits = some [] ∧ (∀ p ∈ a.lge.prep, p.tSwap ≤ a.swapMax) ∧ (after .recastPrepareDone a).rcPhase = rcREADY)) := by decide +kernel
theorem witness_swap : (let s : State := { rcs leRUN .idle rcREADY with lge := { (mas leRUN .idle).lge with stage := some prog2, stageCells := prog2.insts.map LInst.cold } }
    let p := after (.recastSwap 1 0) s
    s.rcPhase = rcREADY ∧ p.rcPhase = rcSWAPPEND ∧ errOf .lge (.recastSwap 1 0) p = 0x0106 ∧ (after (.recastAbort 1 0) p).rcPhase = rcREADY ∧
    p.swapDue = true ∧ p.lge.stage = some prog2 ∧
    (let t := after (.swapStart 10) p
     t.rcPhase = rcSWAPPING ∧ t.get R.lgeRcStat_gen = 1 ∧ t.lge.swap ≠ none ∧ t.lge.phase = .idle ∧ (after .swapOverrun t).le = leSTOPPED)) ∧
    (let s : State := { rcs leSTOPPED .idle rcREADY with lge := { (mas leRUN .idle).lge with stage := some prog2 } }
     let t := after (.recastSwap 1 0) s
     s.le = leSTOPPED ∧ t.rcPhase = rcIDLE ∧ t.bit R.lgeRcStat_rb_avail = true ∧ (after (.recastRollback 1 0) t).groupWord R.lgeRcRes 1 = 8 ∧
     (let r := t.setLe leRUN; r.le = leRUN ∧ (after (.recastRollback 1 0) r).rcPhase = rcPREPARING)) ∧
    errOf .lge (.recastRollback 1 0) (rcs leRUN .idle rcIDLE) = 0x0106 ∧ errOf .lge (.recastAbort 1 0) (rcs leRUN .idle rcIDLE) = 0x0106 := by decide +kernel
theorem witness_recast_ends : (let s : State := { rcs leRUN .exec rcSWAPPING with lge := { (mas leRUN .exec).lge with swap := some { fdrop := 3 } } }
    s.lge.swap = some { fdrop := 3 } ∧ (after .logicOut s).groupWord R.lgeRcRes 1 = 48 ∧ (after .logicOut s).bit R.lgeStat_save_busy = true ∧
    (after (.logicWatchdog 0) s).groupWord R.lgeRcRes 1 = 50) ∧
    (after (.lgeStop 1 0) (rcs leRUN .idle rcSWAPPEND)).rcPhase = rcREADY ∧
    (let s : State := { rcs leRUN .idle rcPREPARING with lge := { (mas leRUN .idle).lge with prep := some {}, rollback := true } }
     (after .recastPrepareDone s).rcPhase = rcSWAPPEND) := by decide +kernel
theorem witness_staging : (rcs leRUN .idle rcPREPARING).memCheck 4 0x1100000 0x280000 true = none ∧
    (rcs leRUN .idle rcPREPARING).memCheck 4 0x109F800 0x400 true = none ∧ (∀ i ∈ prog2.insts, i.addr + 8 ≤ 0x200000) ∧
    (rcs leRUN .idle rcPREPARING).sys.ladle = none := by decide +kernel
theorem witness_remote_map : (let s := ((((on []).put R.lgeCfg_role 2).putBit R.lgeCtrl_en true).put R.lgeCfg_master_mbr 5)
    s.lgeRemote = true ∧ s.selfId = 0 ∧ (after (.iomapAck 0 7 {} []) s).out = [.logicMapAck 7]) ∧
    (let s : State := { rcs leRUN .idle rcPREPARING with lge := { (mas leRUN .idle).lge with prep := some { status := 1 } } }
     (after .recastPrepareDone s).groupWord R.lgeRcPrep 1 = 1) ∧
    (let s : State := { rcs leRUN .idle rcPREPARING with lge := { (mas leRUN .idle).lge with prep := some { tSwap := 2 ^ 20 } } }
     s.swapMax < 2 ^ 20 ∧ (after .recastPrepareDone s).groupWord R.lgeRcPrep 1 = 6) := by decide +kernel
/-! ## Time (chapter 15) -/

/-- Domain 1 enabled on MAC 3 with number 255, in a state, under a source. -/
def ptp (st : Nat) : State := let c := (R.timDCfg_domnum 1).put ((R.timDCfg_ports 1).put ((R.timDCfg_en 1).put 0 1) 8) 255; ((on [(R.timDCfg 1, c)]).put R.timStat_d1 st).put R.timCtrl_src srcPTP
def ann : PtpAnnounce := { dom := 255, sender := 7, steps := 254 }
def parented (st run : Nat) : State := (ptp st).updDom 1 (fun x => { x with parent := some ⟨ann, 3, 2, 0⟩, run := run })

theorem witness_domain_cfg : Reaches (ptp dsSLAVE) 1 .tim ∧ (let v := (ptp dsSLAVE).reg (R.timDCfg 1)
    (ptp dsSLAVE).bit (R.timDCfg_en 1) = true ∧ errOf .tim (.timDomainCfgWrite 1 1 (v ^^^ 2#32)) (ptp dsSLAVE) = 0x0101 ∧
    errOf .tim (.timDomainCfgWrite 1 1 (v ^^^ 0x00200000#32)) (ptp dsSLAVE) = 0x0101 ∧ (v ^^^ (v ^^^ 1#32)) &&& 0x003FFFFF#32 = 1 ∧
    (after (.timDomainCfgWrite 1 1 (v ^^^ 1#32)) (ptp dsSLAVE)).domSt 1 = dsDISABLED ∧ up.bit (R.timDCfg_en 0) = false ∧
    (after (.timDomainCfgWrite 1 0 v) up).domSt 0 = dsLISTENING) := by decide +kernel
theorem witness_announce : (ptp dsLISTENING).domainsOn 3 255 = [1] ∧ ((ptp dsLISTENING).pdom 1).foreign = [] ∧
    (let t := after (.ptpAnnounceReceived 3 ann) (ptp dsLISTENING)
     t.domSt 1 = dsLISTENING ∧ (t.pdom 1).foreign = [⟨ann, 3, 1, 0⟩] ∧ (after (.ptpAnnounceReceived 3 ann) t).domSt 1 = dsUNCAL ∧
     (let u := t.updTime (fun x => { x with ticks := announceWindow 0 }); (after (.ptpAnnounceReceived 3 ann) u).domSt 1 = dsUNCAL) ∧
     (let u := t.updTime (fun x => { x with ticks := announceWindow 0 + 1 }); (after (.ptpAnnounceReceived 3 ann) u).domSt 1 = dsLISTENING)) ∧
    (let h := (ptp dsHOLDOVER).updDom 1 (fun x => { x with foreign := [⟨ann, 3, 1, 0⟩] })
     h.domSt 1 = dsHOLDOVER ∧ (after (.ptpAnnounceReceived 3 ann) h).domSt 1 = dsUNCAL) := by decide +kernel
theorem witness_sync : (let s := parented dsUNCAL 3
    s.domainsOn 3 255 = [1] ∧ s.domSt 1 = dsUNCAL ∧ 3 ≤ (s.pdom 1).run ∧ (s.syncOffset 1 3 (65536 * 250) 0).natAbs = 250 * nsUnit ∧
    250 * nsUnit < (s.syncOffset 1 3 (65536 * 250 + 1) 0).natAbs ∧ (s.syncOffset 1 3 (65536 * 1000) 0).natAbs = 1000 * nsUnit ∧
    1000 * nsUnit < (s.syncOffset 1 3 (65536 * 1000 + 1) 0).natAbs ∧ ((after (.ptpSyncReceived 3 255 7 (65536 * 1000 + 1) 0) s).pdom 1).clock = 1000 * nsUnit + 65536) ∧
    (let s := parented dsSLAVE 2; s.domSt 1 = dsSLAVE ∧ (s.pdom 1).run < 3 ∧ (after (.ptpSyncReceived 3 255 7 (65536 * 2000) 0) s).domSt 1 = dsUNCAL) := by decide +kernel
theorem witness_timeouts : (after (.announceTimeout 1) (parented dsSLAVE 4)).domSt 1 = dsHOLDOVER ∧ (after (.syncTimeout 1) (parented dsSLAVE 4)).domSt 1 = dsHOLDOVER ∧
    (after (.announceTimeout 1) (parented dsUNCAL 0)).domSt 1 = dsLISTENING ∧ (ptp dsUNCAL).domSt 1 ≠ dsSLAVE := by decide
theorem witness_pdelay : up.domainsOn 3 255 = [] ∧ ((after (.pdelayReqReceived 3 255 9) (ptp dsUNCAL)).macPort 3).ptpQ = [TxItem.ptp 3 255 9 true] ∧
    ((after (.pdelayReqReceived 3 255 9) ((ptp dsUNCAL).putBit (R.timDCfg_pd_2step 1) true)).macPort 3).ptpQ.length = 2 ∧
    tget 0 (after (.pdelayRespReceived 3 255 1000 200) (ptp dsUNCAL)).time.pdelay 3 = 400 := by decide
/-- The wall class follows domain 1 and domain 0 is a preferred SLAVE. -/
def follows : State := (((((ptp dsSLAVE).put R.timStat_wall wLOCKED).put R.timStat_wall_dom 1).put R.timStat_d0 dsSLAVE).putBit R.timWallCfg_revert_en true).updTime (fun t => { t with locked := true })
def src (x w : Nat) : State := ((on []).put R.timCtrl_src x).put R.timStat_wall w

theorem witness_wall : follows.followed = some 1 ∧ follows.get R.timWallCfg_pref = 0 ∧ follows.bit R.timWallCfg_revert_en = true ∧ follows.domSt 0 = dsSLAVE ∧
    (after .wallRevert follows).get R.timStat_wall_dom = 0 ∧ Pends (after .wallRevert follows) .tim 3 ∧
    (after .blendComplete follows).bit R.timStat_blend = false ∧ (src srcFREE wFREE).followed = none := by decide
theorem witness_wall_set : Reaches (src srcPPS wFREE) 1 .tim ∧ errOf .tim (.timWallSet 1 0) (src srcPTP wFREE) = 0x0103 ∧
    errOf .tim (.timWallSet 1 0) (src srcFABRIC wFREE) = 0x0103 ∧
    (let t := after (.timWallSet 1 0) (((src srcPPS wFREE).setReg R.timWallSetLo 1).setReg R.timWallSetNs 0x3FFFFFFF)
     t.time.wall = 1999999999 * 2 ^ 32 ∧ Pends t .tim 2) ∧ (after (.timWallSet 1 0) (src srcFREE wFREE)).time.wall = 0 ∧
    (after (.timSnapCmd 1 0) (src srcFREE wFREE)).groupValid R.timSnap = true := by decide +kernel
theorem witness_pps : up.bit R.timCtrl_ppsi_en = false ∧ (let s := ((src srcPPS wFREE).putBit R.timCtrl_ppsi_en true).updTime (fun t => { t with ppsRun := 3 })
    s.bit R.timCtrl_ppsi_en = true ∧ s.timSrc = srcPPS ∧ s.time.ppsRun = 3 ∧ (after (.ppsInEdge 1000000) s).get R.timStat_wall = wLOCKED ∧
    (after (.ppsInEdge 1000001) s).get R.timStat_wall = wFREE ∧ (after (.ppsInEdge (-1000001)) s).time.ppsRun = 3 ∧
    Pends (after (.ppsInEdge 0) s) .tim 5) ∧ (after .ppsEdgeMissing (src srcPPS wLOCKED)).get R.timStat_wall = wHOLDOVER ∧ (src srcFREE 0).timSrc ≠ srcPPS := by decide +kernel
theorem witness_fabric_time : (let s := (src srcFABRIC wFREE).put R.timCtrl_src_mbr 63
    s.timSrc = srcFABRIC ∧ s.get R.timCtrl_src_mbr = 63 ∧ (let t := after (.fabricTimeMessage 63 (101 * 2 ^ 32) 0 0 0 1 1) s
     t.time.wall = 101 * 2 ^ 32 ∧ t.get R.timStat_wall = wLOCKED ∧ t.bit R.timStat_fab_ok = true ∧ Pends t .tim 2 ∧
     (after .fabricTimeTimeout t).get R.timStat_wall = wHOLDOVER) ∧
    (after (.fabricTimeMessage 63 (100 * 2 ^ 32) 0 0 0 1 1) s).time.stepped = false) ∧ (src srcFREE 0).timSrc ≠ srcFABRIC := by decide +kernel
theorem witness_xo_pps_out : (up.putBit R.timStat_xo_active true).bit R.timStat_xo_active = true ∧ up.bit R.timStat_xo_active = false ∧
    (up.putBit R.timCtrl_ppso_en true).bit R.timCtrl_ppso_en = true ∧ (after .ppsOutEdge (up.putBit R.timCtrl_ppso_en true)).time.ppsOut = true ∧
    up.bit R.timCtrl_ppso_en = false := by decide

/-- SRC = FREE, a grid state, and an error of `e` ns of the grid class. -/
def grd (st e : Nat) : State := (src srcFREE wFREE).updTime (fun t => { t with gridSt := st, wall := e * 2 ^ 32, trackAdj := 5 })

theorem witness_grid_class : (grd gUNSET 9).timSrc = srcFREE ∧ (grd gUNSET 9).gridIdle = true ∧ (after .gridTimeUpdate (grd gUNSET 9)).get R.timStat_grid = gTRACK ∧
    (let r := (grd gUNSET 9).putBit R.gridCtrl_en true; r.gridIdle = false ∧ (after .gridTimeUpdate r).get R.timStat_grid = gUNSET) ∧
    (let s := (grd gTRACK 100).put R.timGridCfg_step_lim 10
     s.stepLim = 100 * nsUnit ∧ s.gridErr.natAbs ≤ s.stepLim ∧ (after .gridTimeUpdate s).get R.timStat_grid = gTRACK ∧
     (let x := s.updTime (fun t => { t with wall := t.wall + 1 })
      x.stepLim < x.gridErr.natAbs ∧ (after .gridTimeUpdate x).get R.timStat_grid = gOVERCAST ∧ (after .gridTimeUpdate x).groupWord R.timRefused 1 = 1)) ∧
    (let o := grd gOVERCAST 100
     o.slewing = true ∧ o.time.stepped = false ∧ o.time.srcLost = false ∧ (after .gridTimeUpdate o).get R.timStat_grid = gTRACK) ∧
    (let o := (grd gOVERCAST 100).putBit R.timGridCfg_ovc_mode true; o.slewing = false ∧ (after .gridTimeUpdate o).get R.timStat_grid = gOVERCAST) := by decide +kernel
theorem witness_grid_lost : (let s := (src srcPPS wHOLDOVER).updTime (fun t => { t with gridSt := gTRACK, trackAdj := 5 })
    s.timSrc = srcPPS ∧ s.get R.timStat_wall ≠ wLOCKED ∧ s.time.gridSt = gTRACK ∧ (after .gridTimeUpdate s).time.gridAdj = 5) := by decide
theorem witness_grid_cmd : Reaches (grd gTRACK 9) 1 .tim ∧ R.timGridCmd_accept.of 0 = 0 ∧ R.timGridCmd_set.of 0 = 0 ∧
    errOf .tim (.gridSet 1 0) ((grd gTRACK 9).putBit R.gridCtrl_en true) = 0x0102 ∧ (src srcPPS wFREE).srcPresent = false ∧ (src srcPPS wFREE).gridIdle = true ∧
    (grd gTRACK 9).srcPresent = true ∧ (after (.gridSet 1 0) (grd gTRACK 9)).time.grid = 9 * 2 ^ 32 ∧ (grd gTRACK 9).time.gridSt ≠ gOVERCAST ∧
    (grd gOVERCAST 9).bit R.timGridCfg_ovc_mode = false ∧ (let s := (grd gOVERCAST 101).putBit R.timGridCfg_ovc_mode true
     s.bit R.timGridCfg_ovc_mode = true ∧ 100 * nsUnit < s.gridErr.natAbs ∧ (after (.accept 1 0) s).time.accepted = true) := by decide +kernel
theorem witness_domain_rest : (let s := parented dsUNCAL 0
    s.domSt 1 ≠ dsLISTENING ∧ (after (.ptpAnnounceReceived 3 { ann with sender := 8 }) s).domSt 1 = dsUNCAL ∧
    (after (.ptpSyncReceived 3 255 8 0 0) s).domSt 1 = dsUNCAL ∧ (ptp dsHOLDOVER).domSt 1 ≠ dsUNCAL) ∧
    (let v := (ptp dsSLAVE).reg (R.timDCfg 1); (v ^^^ v) &&& 0x003FFFFF#32 = 0 ∧ (after (.timDomainCfgWrite 1 1 v) (ptp dsSLAVE)).domSt 1 = dsSLAVE) ∧
    (R.timDCfg_en 0).of 2 = 0 ∧ (after (.timDomainCfgWrite 1 0 2) up).reg (R.timDCfg 0) = 2 := by decide +kernel
theorem witness_grid_rest : (let s := (grd gOVERCAST 9000).updTime (fun t => { t with srcLost := true })
    s.time.srcLost = true ∧ s.stepLim < s.gridErr.natAbs ∧ (after .gridTimeUpdate s).groupWord R.timRefused 1 = 1) ∧
    (let s := (grd gOVERCAST 9000).updTime (fun t => { t with stepped := true })
     s.time.stepped = true ∧ (after .gridTimeUpdate s).groupWord R.timRefused 1 = 1 ∧ (after .gridTimeUpdate s).time.gridAdj = ppmAdj 10) ∧
    (let s := (src srcFABRIC wFREE).updTime (fun t => { t with gridSt := gTRACK, trackAdj := 5 })
     s.srcPresent = false ∧ (after .gridTimeUpdate s).time.gridAdj = 5) ∧
    (let s := (ptp dsUNCAL).updTime (fun t => { t with gridSt := gTRACK, trackAdj := 6 })
     s.domSt 0 ≠ dsSLAVE ∧ s.domSt 1 ≠ dsSLAVE ∧ (after .gridTimeUpdate s).time.gridAdj = 6) := by decide +kernel
/-! ## The fabric and its global operations (chapter 16) -/

/-- The fabric on, every port enabled, a member of ID `id`, serial number 77, port 5 in a state. -/
def fab (id : Nat) (st : PortRun) : State := (((((on [(R.galCtrl, 0x7F)]).put R.galStat_id id).put R.galStat_num 1).setReg R.galSerialLo 77).put R.sysProfile_active 0).updPort 5 (fun g => { g with st := st })

theorem witness_ports : (fab 0 .down).portOn 5 = true ∧ up.portOn 5 = false ∧ ((after (.portSignalDetect 5) (fab 0 .down)).galPort 5).st = .train ∧
    (let t := after (.helloReceived 5 76 (some 63) 5) (fab 0 .train)
     (t.galPort 5).nId = 63 ∧ ((after (.portTrainComplete 5) t).galPort 5).st = .up ∧ (after (.portTrainComplete 5) t).regBit R.galStat 14 = true ∧
     (after (.portTrainComplete 5) t).gal.changed = true) ∧
    (let f := after (.helloReceived 5 77 none 0) (fab 0 .train); (f.galPort 5).st = .fault ∧ (f.galPort 5).selfLoop = true ∧ Pends f .gal 0) ∧
    ((fab 0 .train).galPort 5).hello = false ∧ ((after (.portBlockLoss 5) (fab 0 .up)).galPort 5).st = .down ∧
    ((after (.portFaultRetry 5) (fab 0 .fault)).galPort 5).st = .train ∧ ((fab 0 .fault).galPort 5).selfLoop = false := by decide +kernel
theorem witness_crc : (let s := fab 0 .up
    (let u := s.updPort 5 (fun g => { g with crcMs := List.replicate 31 0 }); ((after (.frameCrcError 5) u).galPort 5).st = .up) ∧
    (let u := s.updPort 5 (fun g => { g with crcMs := List.replicate 32 0 })
     32 ≤ ((u.galPort 5).crcMs.filter (fun x => decide (u.time.ticks < x + 250000))).length ∧ ((after (.frameCrcError 5) u).galPort 5).st = .fault ∧
     (let v := u.updTime (fun t => { t with ticks := 250000 })
      ((v.galPort 5).crcMs.filter (fun x => decide (v.time.ticks < x + 250000))).length < 32 ∧ ((after (.frameCrcError 5) v).galPort 5).st = .up)) ∧
    ((after (.linkDelayMeasurement 5 9) s).galPort 5).delay = 9 ∧ (fab 0 .down).galPort 5 ≠ s.galPort 5 ∧ s.bit R.galCtrl_en = true ∧
    ((after .galPortStatInterval s).groupWord (R.galPortSt 5) 1).toNat % 8 = 3 ∧ up.bit R.galCtrl_en = false) := by decide +kernel
/-- Member 0 with a link on port 5 to member 1, which is announced by both. -/
def linked : State := let s := (fab 0 .up).updPort 5 (fun g => { g with nId := 1 }); { s with gal := { s.gal with changed := true, links := [⟨0, 1, [(5, 1)]⟩, ⟨1, 4, [(0, 0)]⟩] } }

theorem witness_flood : (1 : Nat) ≠ linked.selfId ∧ (after (.linkStateFlood 1 5 []) linked).gal.links.length = 2 ∧
    (∀ x ∈ linked.gal.links, x.origin = 1 → x.seq < 5) ∧ (after (.linkStateFlood 1 4 []) linked).out = [] ∧
    (after (.linkStateFlood 1 5 []) linked).out = [.linkState 1 5 []] := by decide
theorem witness_routes : linked.gal.changed = true ∧ linked.get R.galStat_num = 1 ∧ (hopsFrom linked.gal.links linked.selfId).getD 1 none = some 1 ∧
    (hopsFrom linked.gal.links linked.selfId).getD 63 none = none ∧ linked.routePort 1 = 5 ∧ linked.routePort 63 = 7 ∧ up.gal.changed = false ∧
    (let s := (((linked.setReg R.galMbrHi 0x80000000).putBit (R.galFbi_en 255) true).put (R.galFbi_src_mbr 255) 63).setFbi 255 ({ valid := true, val := true }, false)
     (63 : Nat) ≠ s.selfId ∧ s.arrBit R.galMbrLo 63 = true ∧ s.bit (R.galFbi_en 255) = true ∧ s.get (R.galFbi_src_mbr 255) = 63) := by decide +kernel
theorem witness_numbering : (let l : List Found := [⟨5, none, none, true⟩, ⟨6, some 3, none, false⟩, ⟨7, some 3, none, false⟩, ⟨8, none, none, false⟩]
    (l.map (fun x => x.serial)).Nodup ∧ (l.filterMap (fun x => x.held)).Nodup ∧ numbering none l = [(5, 0, 1), (6, 3, 1), (7, 0, 2), (8, 1, 1)]) ∧
    (let l : List Found := [⟨77, none, none, true⟩]
     (numbering (fab 5 .up).gal.rootSerial ((fab 5 .up).foundHere l)).find? (fun x => x.1 == (fab 5 .up).ownSerial) ≠ none ∧ (after (.discovery l) (fab 5 .up)).get R.galStat_num = 1) ∧
    up.bit R.galCtrl_en = false := by decide +kernel
/-- Input 255 from bit 63 of the reachable member 63. -/
def fbi : State := ((((fab 0 .up).setReg R.galMbrHi 0x80000000).putBit (R.galFbi_en 255) true).put (R.galFbi_src_mbr 255) 63).put (R.galFbi_src_bit 255) 63

theorem witness_fabric_bits : (fbi.fbi 255).hold = false ∧ (let t := after (.fabricBitsFrame 63 0x8000000000000000) fbi
    (t.fbi 255).valid = true ∧ (t.fbi 255).val = true ∧ t.trm.request = true ∧ t.arrBit (R.galFbiState 0) 255 = true ∧
    (after (.fbiTimeout 63) t).arrBit (R.galFbiInv 0) 255 = true) ∧
    (let h := fbi.setFbi 255 ({ valid := true, hold := true }, false)
     (h.fbi 255).hold = true ∧ ((after (.fabricBitsFrame 63 0x8000000000000000) h).fbi 255).val = false) ∧
    (fbi.arrBit R.galMbrLo 62 = false) ∧ (63 : Nat) ≠ fbi.selfId ∧ fbi.get (R.galFbi_src_mbr 0) ≠ 63 ∧
    (after .fabricBitsRefresh fbi).out = [.fabricBits 0] := by decide +kernel
theorem witness_fbi_hold : (fbi.fbi 255).pend = [] ∧ (let h := fbi.setFbi 255 ({ valid := true, hold := true, pend := [(true, true)] }, false)
    (h.fbi 255).pend = [(true, true)] ∧ ((after (.fbiHoldEnd 255) h).fbi 255).val = true) ∧ Reaches fbi 1 .gal ∧
    (R.galFbi_en 255).of 0 = 0 ∧ ((after (.galFbiWrite 1 255 0) fbi).fbi 255).valid = false ∧
    (let s : State := { fbi with gal := { fbi.gal with src := [(63, some (2 ^ 63))] } }; let v := s.reg (R.galFbi 255)
     (R.galFbi_en 255).of v = 1 ∧ s.fbiSource ((R.galFbi_src_mbr 255).of v) = some (2 ^ 63) ∧ ((after (.galFbiWrite 1 255 v) s).fbi 255).val = true) := by decide +kernel

/-- An operation set, and an instant 4 ns times `x` away. -/
def gop (set x : Nat) : State := (((fab 0 .up).setReg R.galGopSetLo (BitVec.ofNat 32 set)).setReg R.galGopSetHi (BitVec.ofNat 32 (set / 2 ^ 32))).setReg R.galGopAt (BitVec.ofNat 32 x)
def atTime : Word := R.galGopCmd_atmode.put 0 1

theorem witness_gop_refused : Reaches (gop 1 0) 1 .gal ∧ (let s : State := { gop 1 0 with gal := { (gop 1 0).gal with gop := some {} } }; errOf .gal (.barrier 1 0) s = 0x0101 ∧
    errOf .gal (.gopReset 1 0) s = 0x0101) ∧ (gop 0 0).gal.gop = none ∧ errOf .gal (.broadcast 1 0) (gop 0 0) = 0x0103 ∧
    R.galGopCmd_atmode.of atTime = 1 ∧ (gop 1 250).leadTo 1 250 = some 1000 ∧ 10 * gopTime ((gop 1 250).setDepth 1) = 1000 ∧
    errOf .gal (.snapshot 1 atTime) (gop 1 250) = 0x0102 ∧ (gop 1 250).leadTo 0 250 = none ∧ errOf .gal (.gopReset 1 0) (gop 1 251) = 0x0102 := by decide +kernel
theorem witness_gop_issued : (gop 1 251).leadTo 1 251 = some 1004 ∧ (gop 1 251).inSet 1 = true ∧ (gop (2 ^ 63) 251).inSet (2 ^ 63) = false ∧
    (after (.snapshot 1 atTime) (gop 1 251)).gal.due.length = 1 ∧ (after (.gopReset 1 (R.galGopCmd_tgt.put atTime 7)) (gop 1 251)).gal.due.map GopDue.tgt = [7] ∧
    (after (.snapshot 1 atTime) (gop (2 ^ 63) 251)).gal.due = [] ∧ (after (.barrier 1 0) (gop 1 0)).gal.barriers = [(0, 1, false)] ∧
    (after (.broadcast 1 0) (gop 1 0)).groupWord R.galBcastRx 1 = 64 := by decide +kernel
theorem witness_gop_delivered : (5 : Nat) ≠ (gop 1 0).selfId ∧ (gop 1 0).leadTo 1 1 = some 4 ∧ (gop 1 0).leadTo 1 0 = some 0 ∧
    (after (.gopDelivery 5 9 3 0 1 1 []) (gop 1 0)).out = [.gopAck 5 9 false] ∧ (after (.gopDelivery 5 9 4 1 1 0 []) (gop 1 0)).out = [.gopAck 5 9 true] ∧
    (let a : State := { gop 1 0 with gal := { (gop 1 0).gal with arrived := true } }
     a.gal.arrived = true ∧ (after (.gopDelivery 5 9 1 0 0 0 []) a).gal.barriers = [(5, 9, true)]) ∧
    (after (.broadcastReceived 5 9 (List.replicate 14 3)) (gop 1 0)).groupWord R.galBcastRx 15 = 3 ∧ up.get R.galStat_num ≠ 1 := by decide +kernel
theorem witness_arrive : (after (.barrierArrive 1 0) (gop 1 0)).gal.arrived = true ∧ (gop 1 0).gal.barriers = [] ∧
    (let s : State := { gop 1 0 with gal := { (gop 1 0).gal with barriers := [(5, 9, false)] } }
     s.gal.barriers = [(5, 9, false)] ∧ (5 : Nat) ≠ s.selfId ∧ (after (.barrierArrive 1 0) s).out = [.barrier 5 9 false] ∧
     Pends (after (.barrierRelease 5 9) (after (.barrierArrive 1 0) s)) .gal 3) := by decide
theorem witness_instant : (let s : State := { gop 1 0 with gal := { (gop 1 0).gal with due := [⟨3, 0, 1, 0, 1, 7⟩] } }
    (after (.gopInstant false 7) s).groupWord R.galSnap 2 = 7 ∧ (after (.gopInstant false 7) s).gal.due = []) ∧
    (let s : State := { (gop 1 0).setReg R.fioOvlSticky 1 with gal := { (gop 1 0).gal with due := [⟨4, 0, 1, 6, 1, 7⟩] } }
     let t := after (.gopInstant false 7) s; t.trm.latchRst = 0xFFFF ∧ t.reg R.fioOvlSticky = 0) ∧ (stickyRegs.all fun a => (regRow a).isSome) = true ∧
    (let s : State := { (gop 1 0).putBit R.dfcCtrl_en true with gal := { (gop 1 0).gal with due := [⟨4, 0, 1, 1, 1, 7⟩] } }
     s.bit R.dfcCtrl_en = true ∧ (after (.gopInstant false 7) s).bit R.dfcStat_sync_pend = true) := by decide +kernel
theorem witness_gop_ends : (let g : Gop := { op := 1, seq := 4, set := 3, reach := 3 }
    let s : State := { gop 3 0 with gal := { (gop 3 0).gal with gop := some g, barriers := [(0, 4, true)] } }
    s.gal.gop = some g ∧ (∀ b ∈ s.gal.barriers, b.1 = 0 → b.2.1 = 4 → b.2.2 = true) ∧ (after (.barrierRelease 0 4) s).groupWord R.galGopRes 1 = 4 ∧
    (let p : State := { s with gal := { s.gal with gop := some { g with reach := 1 } } }; (after (.barrierRelease 0 4) p).groupWord R.galGopRes 1 = 5) ∧
    (after (.barrierTimeout 1) s).groupWord R.galGopRes 1 = 6 ∧ (after (.barrierTimeout 1) s).arrBit (R.galGopRes.addr + 8) 1 = true ∧
    (let b : State := { s with gal := { s.gal with gop := some { g with op := 2, acked := 1 } } }
     b.dup.cmd = none ∧ (after (.gopComplete 4 2 0) b).groupWord R.galGopRes 1 = 8 ∧ (after (.gopComplete 4 2 2) b).arrBit (R.galGopRes.addr + 8) 1 = true ∧
     (after (.gopComplete 5 2 0) b).gal.gop ≠ none)) := by decide +kernel
theorem witness_port_queue : (let a : PortFrame := { cls := 3, bytes := 100 }; let b : PortFrame := { cls := 1, bytes := 64 }
    let g : GalPort := { st := .up, queue := [a, b], owed := 356 }
    (∀ x ∈ [a], b.cls < x.cls) ∧ g.owed < 3 * (a.bytes + 19) ∧ (portSend g).wire = some (b, 17) ∧ (portSend { g with owed := 357 }).wire = some (a, wireTicks 100) ∧
    (portSend (portSend g)).wire = some (b, 16)) ∧ (framesOf (.remoteReq 0 1 0 true (List.replicate 256 0))).map PortFrame.bytes = [256] := by decide +kernel
theorem witness_fabric_rest : ((after (.helloReceived 5 76 (some 9) 1) (fab 0 .up)).galPort 5).nId = 9 ∧ ((after (.frameCrcError 5) (fab 0 .train)).galPort 5).st = .train ∧
    2 ≤ (linked.put R.galStat_num 2).get R.galStat_num ∧ (after (.linkStateFlood 1 9 []) (linked.put R.galStat_num 2)).out = [] ∧
    (after .routeUpdate (linked.put R.galStat_num 0)).get ⟨R.galRt 0, 8, 0⟩ = 7 ∧
    (numbering none ((fab 0 .up).foundHere [])).find? (fun x => x.1 == (fab 0 .up).ownSerial) = none ∧
    (let s : State := { gop 1 0 with gal := { (gop 1 0).gal with due := [⟨3, 0, 1, 0, 2, 7⟩] } }; (after (.gopInstant true 7) s).groupValid R.galSnap = true) ∧
    (after (.gopDelivery 5 9 1 0 0 0 []) (gop 1 0)).gal.barriers = [(5, 9, false)] := by decide +kernel
/-! ## Cumulus and the duplex pair (chapter 17) -/

/-- Set 7 enabled on member `me` of 0 and 1, origin 0, ALT 1, one phasor channel at place 63, row 9 running. -/
def cum (me : Nat) (x : CumSet) : State :=
  let s := ((((on []).putBit R.dupCtrl_cum_en true).put R.galStat_id me).put R.galStat_num 1).setWords 0x13820E0 [3, 0, 0, 0, BitVec.ofNat 32 (0 + 64 + 3 * 2 ^ 12 + 2 ^ 18), BitVec.ofNat 32 (63 + 64), 0xABCD, 0xFFFFFFFF]
  s.updCum 7 (fun _ => { x with row := 9 })
def open7 : CumSet := { sent := false, returned := false }

theorem witness_cum_frames : (cum 1 open7).cumOn 7 = true ∧ ((cum 1 open7).cumSet 7).row = 9 ∧ (cum 1 open7).cumRoot 7 ≠ (cum 1 open7).selfId ∧
    ((after (.cumulusFrameReceived 7 8 0 [(0, 0, 0, 1)]) (cum 1 open7)).cumSet 7).discard = 1 ∧ up.cumOn 7 = false ∧
    (let s : State := { cum 1 open7 with phe := { (cum 1 open7).phe with busy := some 9 } }
     s.phe.busy ≠ none ∧ (let t := after (.cumulusFrameReceived 7 9 0 [(5, 6, 2, 2 ^ 63)]) s
      (tget ({} : CumChan) (t.cumSet 7).chans 0).re = 5 ∧ (tget ({} : CumChan) (t.cumSet 7).chans 0).mask = 2 ^ 63)) ∧
    ((cum 1 { open7 with sent := true }).cumSet 7).sent = true := by decide +kernel
theorem witness_cum_cutoff : ((after (.cumulusCutoff 7) (cum 1 open7)).cumSet 7).sent = true ∧ (cum 0 open7).cumRoot 7 = (cum 0 open7).selfId ∧
    (cum 0 open7).cumPbase 7 + (cum 0 open7).cumPcount 7 = 64 ∧ ((cum 0 open7).cumSet 7).chans = [] ∧
    (0 < (cum 0 open7).cumPlaces 7 ∧ cumCovered ((cum 0 open7).cumPairs 7) ((cum 0 open7).cumExpected 7) (tget ({} : CumChan) ((cum 0 open7).cumSet 7).chans 0).mask = false) ∧
    (after (.cumulusCutoff 7) (cum 0 open7)).word ((cum 0 open7).cumBuf 9 + 0x108 + 16 * 63) = 0x101 := by decide +kernel
theorem witness_cum_totals : ((after (.cumulusTotalsReceived 7 0 8 []) (cum 1 open7)).cumSet 7).discard = 1 ∧
    (let t := after (.cumulusTotalsReceived 7 0 9 [(4, 5, 2)]) (cum 1 open7)
     t.word ((cum 1 open7).cumBuf 9 + 0x100 + 16 * 63) = 4 ∧ (t.cumSet 7).returned = true) ∧
    ((cum 1 { open7 with returned := true }).cumSet 7).returned = true ∧
    (after (.cumulusReturnBound 7) (cum 1 open7)).word ((cum 1 open7).cumBuf 9 + 0x108 + 16 * 63) = 0x201 ∧
    (after (.cumulusJoin 7 0xABCD) (cum 1 open7)).cumJoined 7 = true ∧ (after (.cumulusJoin 7 0) (cum 1 open7)).cumJoined 7 = false ∧
    (after .cumSetStatInterval (cum 1 open7)).groupValid (R.cumSetSt 7) = true := by decide +kernel

theorem witness_cum_memory : (cum 1 open7).memCheck 6 ((cum 1 open7).cumBuf 9) 0x700 true = none ∧ (cum 1 open7).memCheck 6 ((cum 1 open7).cumBuf 9 + 12) 4 true = none ∧
    (cum 1 open7).memCheck 6 ((cum 1 open7).cumBuf 9) 16 true = none ∧ (cum 1 open7).cumPbase 7 + (cum 1 open7).cumPcount 7 ≤ 64 ∧
    (cum 1 open7).cumIbase 7 + (cum 1 open7).cumIcount 7 ≤ 64 := by decide
/-- A channel of set 7 with the contributions of a mask. -/
def held (me : Nat) (c : CumChan) : State := (cum me open7).updCum 7 (fun x => { x with chans := [(0, c)] })
theorem witness_cum_forward : (held 1 { re := 5, mask := 2 }).phe.busy = none ∧
    ((after (.cumulusFrameReceived 7 9 0 [(5, 6, 2, 4)]) (held 1 { re := 5, mask := 2 })).cumSet 7).sent = true ∧
    (let s : State := { cum 0 open7 with phe := { (cum 0 open7).phe with busy := some 9 } }
     s.cumRoot 7 = s.selfId ∧ (s.cumSet 7).excluded = 0 ∧ (tget ({} : CumChan) ((after (.cumulusFrameReceived 7 9 0 [(5, 6, 2, 4)]) s).cumSet 7).chans 0).mask = 4) := by decide +kernel
theorem witness_cum_origin : (let s := held 0 { re := 5, mask := 3 }
    (s.cumPairs 7 = [] ∧ cumCovered (s.cumPairs 7) (s.cumExpected 7) 3 = true ∧ s.cumPlaces 7 = 1 ∧ (s.cumSet 7).sent = false) ∧
    (after (.cumulusCutoff 7) s).word (s.cumBuf 9 + 0x108 + 16 * 63) = 0 ∧ ((after (.cumulusCutoff 7) s).cumSet 7).returned = true) ∧
    (let s := (held 0 { re := 5, mask := 3 }).updCum 7 (fun x => { x with returned := true })
     (s.cumSet 7).returned = true ∧ (after (.cumulusCutoff 7) s).out.length = 1) ∧
    (let s := (held 0 { mask := 3 }).setWords 0x13820FC [0xFFFF0100]
     s.cumPairs 7 = [(0, 1)] ∧ (after (.cumulusCutoff 7) s).word (s.cumBuf 9 + 0x108 + 16 * 63) = 0x401) := by decide +kernel
theorem witness_cum_good : ∀ x ∈ ([(4, 5, 2)] : List (Word × Word × Word)), x.2.2.toNat / 256 % 16 = 0 := by
  intro x hx; rw [List.mem_singleton] at hx; subst hx; rfl
/-- The grid runs, and CUM_AT names a row `x` rows ahead; DMAX = 3 makes T 2800 ns. -/
def lead (me x : Nat) : State := { ((cum me open7).putBit R.gridStat_run true).setReg R.cumAt (BitVec.ofNat 32 x) with grid := { inc := 2 ^ 32 } }
def cumV (mbr : Nat) : Word := R.cumCmd_mbr.put (R.cumCmd_set.put (R.cumCmd_go.put 0 1) 7) mbr

theorem witness_members : Reaches (lead 0 1) 1 .dup ∧ R.cumCmd_go.of (cumV 1) = 1 ∧ R.cumCmd_set.of (cumV 1) = 7 ∧ R.cumCmd_mbr.of (cumV 63) = 63 ∧
    (lead 0 0).leadTo 2 0 = some 0 ∧ errOf .dup (.exclude 1 (cumV 1)) (lead 0 0) = 0x0101 ∧ errOf .dup (.include 1 (cumV 1)) (cum 0 open7) = 0x0101 ∧
    ((lead 0 500).leadTo 2 500).any (fun x => decide (2800 < x)) = true ∧ 10 * gopTime ((lead 0 500).cumDmax 7) = 2800 ∧
    ((lead 0 500).cumMask 7).testBit 63 = false ∧ errOf .dup (.exclude 1 (cumV 63)) (lead 0 500) = 0x0102 ∧ errOf .dup (.include 1 (cumV 63)) (lead 0 500) = 0x0102 ∧
    (let s := (lead 0 500).updCum 7 (fun x => { x with excluded := 1 })
     (s.cumExpected 7).testBit 0 = false ∧ s.cumExpected 7 = 2 ^ 1 ∧ errOf .dup (.exclude 1 (cumV 0)) s = 0x0102 ∧ errOf .dup (.exclude 1 (cumV 1)) s = 0x0102) ∧
    (let s := lead 5 500
     s.inSet (2 ^ s.cumOrigin 7 ||| 2 ^ s.cumAlt 7) = false ∧ s.cumExpected 7 = 3 ∧ (s.cumExpected 7).testBit 1 = true ∧ (s.cumExpected 7).testBit 0 = true ∧
     (after (.exclude 1 (cumV 1)) s).dup.cmd = some ⟨1, 7, 500, 0, 0⟩ ∧ (after (.include 1 (cumV 1)) s).dup.cmd = some ⟨1, 7, 500, 0, 0⟩) := by decide +kernel
theorem witness_member_result : (let s : State := { up with dup := { up.dup with cmd := some ⟨3, 7, 500, 1, 0⟩ } }
    let t := after (.gopComplete 3 2 0) s; t.dup.cmd = none ∧ t.groupWord R.cumCmdRes 2 = 500 ∧ Pends t .dup 3) := by decide

theorem witness_member_origin : (let s := lead 0 500
    R.cumCmd_go.of 0 = 0 ∧ after (.exclude 1 0) s = s ∧ s.inSet (2 ^ s.cumOrigin 7 ||| 2 ^ s.cumAlt 7) = true ∧
    (after (.exclude 1 (cumV 1)) s).dup.cmd = some ⟨1, 7, 500, 1, 0⟩ ∧ (after (.include 1 (cumV 1)) s).dup.changes = [⟨7, true, 1, 500⟩]) := by decide
theorem witness_member_alt : (let s := (lead 5 500).updCum 7 (fun x => { x with excluded := 1 })
    R.cumCmd_mbr.of (cumV 1) = s.cumAlt 7 ∧ (s.cumExpected 7).testBit (s.cumOrigin 7) = false ∧ errOf .dup (.exclude 1 (cumV 1)) s = 0x0102) := by decide
theorem witness_member_delivery : opCUM = (5 : Fin 6).val ∧ (lead 0 500).get R.galStat_num = 1 ∧ (lead 0 500).selfId = (lead 0 500).cumOrigin 7 ∧
    (after (.gopDelivery 5 3 5 0 2 500 [cumV 1]) (lead 0 500)).dup.changes.length = 1 ∧ (lead 0 0).leadTo 2 0 = some 0 ∧
    Emit.gopAck 5 3 true ∈ (after (.gopDelivery 5 3 5 0 2 0 [cumV 1]) (lead 0 0)).out ∧ (lead 5 500).selfId ≠ (lead 5 500).cumOrigin 7 ∧
    (lead 5 500).selfId ≠ (lead 5 500).cumAlt 7 := by decide +kernel
theorem witness_member_status : (let s : State := { lead 0 500 with dup := { (lead 0 500).dup with cmd := some ⟨3, 7, 500, 1, 0⟩ } }
    (after (.gopComplete 3 2 0) s).groupWord R.cumCmdRes 1 = 0 ∧ (after (.gopComplete 3 0 0) s).groupWord R.cumCmdRes 1 = 1 ∧
    (let u : State := { s with dup := { s.dup with cmd := some ⟨3, 7, 500, 0, 1⟩ } }; (after (.gopComplete 3 2 0) u).groupWord R.cumCmdRes 1 = 2)) := by decide

/-- A healthy paired member in an authority state. -/
def pair (a : Nat) (d : DupState) : State :=
  let s := ((((up.putBit R.sysStat_supply_ok true).putBit R.fioStat_link_a true).putBit R.fioStat_link_b true).putBit R.dupCfg_paired true).put R.dupStat_auth a
  { s with dup := d }

theorem witness_auth_in : (pair auGUARD {}).paired = true ∧ (after (.authInChange true) (pair auGUARD {})).auth = auSTANDBY ∧
    (after (.authInChange true) (pair auBACKOFF {})).auth = auSTANDBY ∧ (after (.authInChange true) (pair auCLAIM { collisions := 6 })).auth = auBACKOFF ∧
    (after (.authInChange true) (pair auCLAIM { collisions := 7 })).auth = auCONTEND ∧
    (let a := (pair auACTIVE { authOut := true }).putBit R.trmStat_fo_gate true
     a.bit R.trmStat_fo_gate = true ∧ (after (.authInChange true) a).auth = auCONTEND ∧ (after (.authInChange true) a).bit R.trmStat_fo_gate = false ∧
     (after (.authInChange false) (after (.authInChange true) a)).auth = auACTIVE) ∧ (after (.authInChange true) (pair auUNFIT {})).auth = auUNFIT ∧
    (pair auSTANDBY { authIn := true }).dup.authIn = true ∧ (pair auSTANDBY { authIn := true }).auth ≠ auCONTEND := by decide +kernel
theorem witness_pulses : (after .hbPulseReceived (pair auGUARD {})).dup.pulseAt = some 0 ∧ Emit.hbPulse ∈ (after .hbPulseSend (pair auACTIVE {})).out ∧
    (pair auGUARD {}).auth ≠ auACTIVE ∧ (pair auGUARD {}).auth ≠ auCONTEND ∧ (after .authMonostableExpiry (pair auACTIVE { authOut := true })).dup.authOut = false := by decide
theorem witness_health : (let s := (pair auACTIVE { authOut := true }).putBit R.fioStat_link_b false
    s.healthy = false ∧ s.auth ≠ auDOWN ∧ (after .healthLoss s).auth = auDOWN ∧ Pends (after .healthLoss s) .dup 0) ∧ (pair auDOWN {}).healthy = true ∧
    (after .healthRecovery (pair auDOWN {})).auth = auGUARD ∧ (after .healthRecovery (pair auDOWN { authIn := true })).auth = auSTANDBY ∧
    (after .healthRecovery (pair auDOWN { unfit := true, contend := true })).auth = auUNFIT ∧
    (after .healthRecovery (pair auDOWN { contend := true })).auth = auCONTEND := by decide +kernel
theorem witness_claims : (after .claimWindowExpiry (pair auSTANDBY {})).auth = auCLAIM ∧ (after .claimWindowExpiry (pair auGUARD {})).dup.authOut = true ∧
    (let t := after .claimConfirm (pair auCLAIM { authOut := true }); t.auth = auACTIVE ∧ t.bit R.trmStat_fo_gate = true ∧ t.groupValid R.dupTake = true) ∧
    (after .claimConfirm ((pair auCLAIM { authOut := true }).putBit R.peaStat_fault true)).bit R.trmStat_fo_gate = false ∧
    (after .backoffRetry (pair auBACKOFF {})).auth = auCLAIM ∧ up.paired = false := by decide +kernel
theorem witness_interlock_still : (after (.authInChange true) (pair auSTANDBY { authIn := true })).auth = auSTANDBY ∧
    Emit.hbPulse ∈ (after .hbPulseSend (pair auCONTEND { contendActive := true, authIn := true })).out ∧ (pair auCONTEND {}).dup.contendActive = false ∧
    (after .hbPulseSend (pair auCONTEND {})).out = [] ∧ (after .healthLoss (pair auGUARD {})).auth = auGUARD ∧ (pair auDOWN {}).auth = auDOWN ∧
    (pair auCLAIM {}).auth ≠ auGUARD ∧ (pair auGUARD {}).auth ≠ auCLAIM ∧ (pair auGUARD {}).auth ≠ auBACKOFF := by decide +kernel
/-- A formed pair's member that has just taken a shadow: FO3 driven, FO2 latched, MINON 2 ms. -/
def shadowed (at_ : Nat) : State :=
  let s := (((pair auCLAIM { authOut := true, shadow := some ⟨8, 4, [0, 0, 2], 0⟩ }).putBit R.dupStat_formed true).putBit (R.trmFoCfg_en 2) true).putBit (R.trmFoCfg_en 3) true
  { s with time := { s.time with ticks := at_ } }
theorem witness_shadow_merge : (shadowed 100).shadowNow.isSome = true ∧ (shadowed 100).bit (R.trmFoCfg_en 2) = true ∧
    (let t := after .claimConfirm (shadowed 100)
     t.trm.latch = 4 ∧ t.get R.trmFoCmd_cmd = 12 ∧ tget none t.trm.minon 2 = some 500100 ∧ (t.groupWord R.dupTake 1).getLsbD 2 = true) ∧
    (shadowed 6251).shadowNow = none ∧ (after .claimConfirm (shadowed 6251)).trm.latch = 0 := by decide
/-- A formed pair whose partner is in a state. -/
def formed (a pa : Nat) (d : DupState) : State := (pair a { d with partner := some ⟨(pair a {}).digest, 0, pa⟩ }).putBit R.dupStat_formed true

theorem witness_pairing : (let s := pair auSTANDBY {}
    (after (.pairingFrame s.digest (Fin.ofNat 4 (s.get R.sysProfile_active)) 5) s).bit R.dupStat_formed = true ∧
    (after (.pairingFrame [1] 0 5) (s.putBit R.dupStat_mismatch true)).bit R.dupStat_mismatch = false ∧ [1] ≠ s.digest ∧ s.bit R.sysStat_booted = true ∧
    (after .pairingFrameSend s).out.length = 1 ∧ (after .pairingTimeout (formed 3 5 {})).dup.partner = none ∧ up.paired = false) := by decide +kernel
theorem witness_shadow : (after (.shadowFrame 0x8000 1 []) (formed 3 5 {})).groupWord R.dupShadow 1 = 0x00018000 ∧
    (formed 3 5 {}).bit R.dupStat_formed = true ∧ (pair 3 {}).bit R.dupStat_formed = false := by decide
theorem witness_hash : (let s := fun (mis ok : Nat) => (formed auSTANDBY 5 { own := [(9, 4)], misRun := mis, okRun := ok }).put R.dupCfg_policy 1
    (s 0 63).dup.own = [(9, 4)] ∧ (after (.tripVectorHash 9 4) ((s 0 63).putBit R.dupStat_mismatch true)).bit R.dupStat_mismatch = false ∧
    (after (.tripVectorHash 9 4) ((s 0 62).putBit R.dupStat_mismatch true)).bit R.dupStat_mismatch = true ∧
    (after (.tripVectorHash 9 5) (s 0 0)).bit R.dupStat_mismatch = false ∧ (s 1 0).get R.dupCfg_policy = 1 ∧ (after (.tripVectorHash 9 5) (s 1 0)).auth = auUNFIT) ∧
    (let a := (formed auACTIVE 3 { own := [(9, 4)], misRun := 1 }).put R.dupCfg_policy 2; a.auth = auACTIVE ∧ (after (.tripVectorHash 9 5) a).auth = auUNFIT) ∧
    (let z := (formed auACTIVE 3 { own := [(9, 4)], misRun := 1 }).put R.dupCfg_policy 0; (after (.tripVectorHash 9 5) z).auth = auACTIVE) ∧
    (after (.tripVectorHash 9 5) (formed 3 5 {})).dup.theirs = [(9, 5)] := by decide +kernel
theorem witness_dup_cmd : Reaches (formed auACTIVE 3 {}) 1 .dup ∧ R.dupCmd_clear_unfit.of 0 = 0 ∧ R.dupCmd_handover.of 0 = 0 ∧
    (after (.handover 1 0) (formed auACTIVE auSTANDBY { authOut := true })).auth = auGUARD ∧ errOf .dup (.handover 1 0) (formed auACTIVE auUNFIT {}) = 0x0103 ∧
    errOf .dup (.handover 1 0) (formed auACTIVE auDOWN {}) = 0x0103 ∧ errOf .dup (.handover 1 0) (pair auACTIVE {}) = 0x0103 ∧
    errOf .dup (.handover 1 0) (formed auSTANDBY 5 {}) = 0x0103 ∧ (after (.clearUnfit 1 0) (pair auUNFIT { unfit := true })).auth = auGUARD ∧
    (after (.clearUnfit 1 0) (pair auUNFIT { unfit := true, authIn := true })).auth = auSTANDBY ∧
    (after (.clearUnfit 1 0) (pair auDOWN { unfit := true })).dup.unfit = false := by decide +kernel
theorem witness_pairing_off : (let s := (pair auDOWN {}).putBit R.sysStat_booted false; s.bit R.sysStat_booted = false ∧ (after .pairingFrameSend s).out = []) := by decide
theorem witness_hash_policies : (let s := fun (a p : Nat) => (formed a 5 { own := [(8, 1), (9, 4)], misRun := 1 }).put R.dupCfg_policy p
    (s auACTIVE 1).dup.own.find? (fun x => x.1 == 9) = some (9, 4) ∧ (after (.tripVectorHash 9 5) (s auACTIVE 1)).auth = auACTIVE ∧
    (after (.tripVectorHash 9 5) (s auSTANDBY 2)).auth = auSTANDBY ∧ (s auSTANDBY 2).dup.own.find? (fun x => x.1 == 7) = none ∧
    (after (.tripVectorHash 7 5) (s auSTANDBY 2)).dup.own = [(8, 1), (9, 4)]) := by decide +kernel
theorem witness_clear_contend : (let s := pair auCONTEND { contend := true }
    s.dup.contendActive = false ∧ (after (.clearUnfit 1 0) s).auth = auGUARD ∧ (after (.clearUnfit 1 0) s).dup.contend = false) ∧
    (after (.clearUnfit 1 0) (pair auCONTEND { contendActive := true, authIn := true })).auth = auCONTEND ∧
    R.dupCmd_handover.of 3 = 1 ∧ R.dupCmd_clear_unfit.of 3 = 1 ∧ R.dupCmd_clear_unfit.of 1 = 0 ∧
    (after (.handover 1 3) (formed auACTIVE auSTANDBY { authOut := true, unfit := true })).dup.unfit = false ∧
    (after (.clearUnfit 1 3) (pair auUNFIT { unfit := true })).auth = auGUARD := by decide +kernel
/-! ## Network ports (chapter 18) -/

/-- Master `m` has one region over everything; words of DRAM from `a` on. -/
def granted (m a : Nat) (ws : List Word) : State := ((((on []).setReg (rgnReg m 0 0) 7).setReg (rgnReg m 0 2) 0xFFFFF000).setReg (rgnReg m 0 3) 0xFFFF).setWords a ws

/-- MAC 3 takes every frame; ring `q` is enabled with one owned descriptor at the start of DRAM. -/
def mac (q : Nat) (ws : List Word) : State :=
  ((((((granted 5 0x100000000 ws).putBit (R.macCtrl_en 3) true).putBit (R.macCtrl_promisc 3) true).put (R.macSteer_pcpmap 3) 3).putBit (R.macRingCfg_en 3 q) true).put (R.macRingIdx_tail 3 q) 1).setReg (R.macRingBaseHi 3 q) 1
/-- A frame of an Ethertype, `n` bytes long. -/
def frame (hi lo : Byte) (n : Nat) (bs : List Byte) : List Byte := List.replicate 12 0 ++ [hi, lo] ++ bs ++ List.replicate (n - 14 - bs.length) 0
def counted (c : Nat) (i : Instr) (s : State) : Nat := ((after i s).macPort 3).cnt.getD c 0
def rx (bs : List Byte) (fcs full : Bool) : Instr := .macRxFrame 3 bs fcs [] full

theorem witness_rx_counts : counted cRUNT (rx (frame 0 0 59 []) true false) (mac 3 []) = 1 ∧ (frame 0 0 60 []).length + 4 = 64 ∧
    counted cFCS (rx (frame 0 0 60 []) false false) (mac 3 []) = 1 ∧ (mac 3 []).macMax 3 = 1522 ∧ (frame 0 0 1519 []).length + 4 = 1523 ∧
    counted cOVERSIZE (rx (frame 0 0 1519 []) true false) (mac 3 []) = 1 ∧ counted cFIFO (rx (frame 0 0 60 []) true true) (mac 3 []) = 1 ∧
    (mac 3 []).bit (R.macCtrl_en 3) = true ∧ up.bit (R.macCtrl_en 3) = false := by decide +kernel
theorem witness_rx_claims : (let s := (mac 3 []).putBit (R.macCtrl_ignore_pause 3) true
    frEther (frame 0x88 0x08 60 [0, 1]) = 0x8808 ∧ be16 (frame 0x88 0x08 60 [0, 1]) 14 = 1 ∧ counted cPAUSE (rx (frame 0x88 0x08 60 [0, 1]) true false) s = 1) ∧
    (let s := { parented dsSLAVE 0 with mac := {} }.putBit (R.macCtrl_en 3) true; let f := frame 0x88 0xF7 60 [0, 2, 0, 44, 255]
     s.hwClaims 3 f [] = true ∧ counted cHW (rx f true false) s = 1) ∧
    (let s := ((mac 3 []).putBit (R.macSteer_drop_sv 3) true).putBit (R.macSteer_drop_goose 3) true
     s.hwClaims 3 (frame 0x88 0xBA 60 []) [] = false ∧ s.hwClaims 3 (frame 0x88 0xB8 60 []) [] = false ∧ s.bit (R.macSteer_drop_sv 3) = true ∧
     s.bit (R.macSteer_drop_goose 3) = true ∧ (after (rx (frame 0x88 0xBA 60 []) true false) s).mac = s.mac) ∧
    (let s := ((mac 3 []).putBit (R.macCtrl_promisc 3) false).setReg (R.macAddrLo 3) 1
     s.macAccepts 3 (frame 0 0 60 []) = false ∧ counted cFILTERED (rx (frame 0 0 60 []) true false) s = 1) := by decide +kernel
theorem witness_rx_ring : (mac 3 []).get (R.macSteer_pcpmap 3) / 4 ^ frPcp (frame 0 0 60 []) ((mac 3 []).get (R.macSteer_def_pcp 3)) % 4 = 3 ∧
    (let s := (mac 3 []).put (R.macRingIdx_tail 3 3) 0; s.ringOwned 3 3 = 0 ∧ counted cNOBUF (rx (frame 0 0 60 []) true false) s = 1) ∧
    ((mac 2 []).bit (R.macRingCfg_en 3 3) = false ∧ Pends (after (rx (frame 0 0 60 []) true false) (mac 2 [])) .mac3 9) := by decide
theorem witness_rx_store : ((mac 3 [0x1000, 1]).macAccepts 3 (frame 0 0 60 []) = true ∧ frEther (frame 0 0 60 []) = 0 ∧ (mac 3 [0x1000, 1]).ringOwned 3 3 = 1 ∧
      0x100000000 = (mac 3 [0x1000, 1]).ringBase 3 3 + 16 * (((mac 3 [0x1000, 1]).ringHead 3 3 + 0) % (mac 3 [0x1000, 1]).ringSize 3 3) ∧
      0x100001000 = ((mac 3 [0x1000, 1]).word 0x100000000).toNat + ((mac 3 [0x1000, 1]).word 0x100000004).toNat % 65536 * 2 ^ 32 ∧
      Nat.min 1 ((60 + 2047) / 2048) = 1 ∧ Nat.min 1 ((2049 + 2047) / 2048) = 1) ∧
    PlainAccess (mac 3 [0x1000, 1]) 5 0x100000000 8 false ∧ PlainAccess (mac 3 [0x1000, 1]) 5 0x100001000 (Nat.min 2048 (60 - 2048 * 0)) true ∧
    PlainAccess (mac 3 [0x1000, 1]) 5 (0x100000000 + 8) 8 true ∧ PlainAccess (mac 3 [0x1000, 1]) 5 0x100001000 (Nat.min 2048 (2049 - 2048 * 0)) true :=
  ⟨by decide, plain_dram _ _ _ _ _ (target_dram _ _ (by decide) (by decide)) (target_dram _ _ (by decide) (by decide)) (by decide) (by decide) (by decide),
    plain_dram _ _ _ _ _ (target_dram _ _ (by decide) (by decide)) (target_dram _ _ (by decide) (by decide)) (by decide) (by decide) (by decide),
    plain_dram _ _ _ _ _ (target_dram _ _ (by decide) (by decide)) (target_dram _ _ (by decide) (by decide)) (by decide) (by decide) (by decide),
    plain_dram _ _ _ _ _ (target_dram _ _ (by decide) (by decide)) (target_dram _ _ (by decide) (by decide)) (by decide) (by decide) (by decide)⟩
theorem witness_rx_steer : (let s := ((mac 3 []).put (R.macSteer_sv_ring 3) 3).put (R.macSteer_goose_ring 3) 3
    counted cFIFO (rx (frame 0x88 0xBA 60 []) true true) s = 1 ∧ counted cFIFO (rx (frame 0x88 0xB8 60 []) true true) s = 1 ∧
    s.bit (R.macSteer_drop_sv 3) = false ∧ s.bit (R.macSteer_drop_goose 3) = false) ∧ counted cFILTERED (rx (frame 0x88 0x08 60 [1, 1]) true false) (mac 3 []) = 1 ∧
    be16 (frame 0x88 0x08 60 [0, 1, 0xAB, 0xCD]) 16 = 0xABCD ∧
    (let s := { parented dsSLAVE 0 with mac := {} }.putBit (R.macCtrl_en 3) true; s.hwClaims 3 (frame 0x88 0xF7 60 [13]) [] = false) := by decide +kernel
/-- A ring whose descriptors lie in register space. -/
def badRing : State := (mac 3 []).setReg (R.macRingBaseHi 3 3) 0
theorem witness_rx_address : badRing.memCheck 5 (badRing.ringBase 3 3 + 16 * (badRing.ringHead 3 3 % badRing.ringSize 3 3)) 8 false ≠ none ∧
    (after (rx (frame 0 0 60 []) true false) badRing).bit (R.macRingCfg_en 3 3) = false ∧ errOf .mac3 (rx (frame 0 0 60 []) true false) badRing = 0x0103 := by decide
theorem witness_mac_writes : Reaches (mac 7 []) 1 (macPage 3) ∧ (after (.rxTailWrite 1 3 3 0xFFFF0000) (mac 7 [])).get (R.macRingIdx_tail 3 3) = 0xFFFF ∧
    (after (.txTailWrite 1 3 3 0x20000) (mac 7 [])).ringOwned 3 7 = 2 ∧ (mac 7 []).bit (R.macRingCfg_en 3 7) = true ∧
    errOf .mac3 (.macRingCfgWrite 1 3 7 0 0) (mac 7 []) = 0x0102 ∧ errOf .mac3 (.macRingCfgWrite 1 3 7 2 1) (mac 7 []) = 0x0102 ∧
    (let v : Word := (mac 7 []).reg (R.macRingCfg 3 7) ^^^ 1#32; v.getLsbD 0 = false ∧ (R.macRingCfg_log2 3 7).of v = (mac 7 []).get (R.macRingCfg_log2 3 7) ∧
      (after (.macRingCfgWrite 1 3 7 2 v) (mac 7 [])).bit (R.macRingCfg_en 3 7) = false) ∧ (mac 7 []).bit (R.macRingCfg_en 3 6) = false ∧
    errOf .mac3 (.macMaxlenWrite 1 3 63) (mac 7 []) = 0x0101 ∧ errOf .mac3 (.macMaxlenWrite 1 3 9601) (mac 7 []) = 0x0101 ∧
    (after (.macMaxlenWrite 1 3 64) (mac 7 [])).macMax 3 = 64 ∧ (after (.macMaxlenWrite 1 3 9600) (mac 7 [])).macMax 3 = 9600 := by decide +kernel
/-- A port with link, and its waiting frames. -/
def txs (ws : List Word) (m : MacPort) : State := ((mac 7 ws).putBit (R.macStat_link 3) true).updMac 3 (fun _ => m)
def sv0 : SvTx := { stream := 1 }
def go0 : GooseTx := { ds := 2 }

theorem witness_tx_order : (txs [] {}).bit (R.macStat_link 3) = true ∧ (txs [] {}).bit (R.macStat_paused 3) = false ∧
    (after (.txFrame 3) (txs [] { ptpQ := [.ptp 3 1 2 true], gooseQ := [.goose go0], svQ := [.sv sv0] })).out = [.frame 3 (.ptp 3 1 2 true)] ∧
    (after (.txFrame 3) (txs [] { gooseQ := [.goose go0], svQ := [.sv sv0] })).out = [.frame 3 (.goose go0)] ∧
    (after (.txFrame 3) (txs [] { svQ := [.sv sv0] })).out = [.frame 3 (.sv sv0)] ∧
    (∀ f : SvTx, TxItem.sv f ∈ ((txs [] { svQ := [.sv sv0] }).macPort 3).svQ → (txs [] { svQ := [.sv sv0] }).time.ticks ≤ f.due + 2500) ∧
    ((mac 3 []).macPort 3).svQ = [] ∧ (∀ r < 4, (mac 3 []).bit (R.macRingCfg_en 3 (4 + r)) = false) ∧
    (let l : State := ((txs [] { svQ := [.sv sv0] }).putBit (R.macStat_paused 3) true).updTime (fun t => { t with ticks := 2501 })
     l.bit (R.macStat_paused 3) = true ∧ sv0.due + 2500 < l.time.ticks ∧ (after (.txFrame 3) l).gos.svpDrop = 1 ∧ Pends (after (.txFrame 3) l) .gos 3) := by
  refine ⟨by decide, by decide, by decide, by decide, by decide, ?_, by decide, by decide, by decide⟩
  intro f _
  exact Nat.le_trans (by decide : (txs [] { svQ := [.sv sv0] }).time.ticks ≤ 0) (Nat.zero_le _)
/-- A host frame of `n` bytes. -/
def txd (n : Nat) : State := txs [0x1000, 1, BitVec.ofNat 32 (n + 2 ^ 20), 0, 0, 0] {}

theorem witness_tx_host : (0 < (txd 60).ringOwned 3 7 ∧ (txd 60).bit (R.macRingCfg_en 3 7) = true ∧ (txd 60).macMax 3 - 4 = 1518 ∧
      0x100000000 = (txd 60).ringBase 3 7 + 32 * (((txd 60).ringHead 3 7 + 0) % (txd 60).ringSize 3 7) ∧ ((txd 60).word 0x100000008).toNat % 2 ^ 19 = 60 ∧
      (((List.range 6).map (fun j => ((txd 60).word (0x100000000 + 4 * j)).toNat)).getD 2 0).testBit 20 = true ∧ tget none ((txd 60).macPort 3).part 3 = none) ∧
    PlainAccess (txd 60) 5 0x100000000 24 false ∧ PlainAccess (txd 60) 5 0x100001000 60 false :=
  ⟨by decide, plain_dram _ _ _ _ _ (target_dram _ _ (by decide) (by decide)) (target_dram _ _ (by decide) (by decide)) (by decide) (by decide) (by decide),
    plain_dram _ _ _ _ _ (target_dram _ _ (by decide) (by decide)) (target_dram _ _ (by decide) (by decide)) (by decide) (by decide) (by decide)⟩
/-- Buffers in register space fail. -/
theorem witness_tx_address : (txs [0x1000, 0, BitVec.ofNat 32 (60 + 2 ^ 20), 0, 0, 0] {}).memCheck 5 0x1000 60 false ≠ none := by decide
theorem witness_tx_build : (let b := fun (n : Nat) => [List.replicate n (0 : Byte)]; let d := fun (w2 : Nat) => [(0, [0, 0, w2, 0, 0x01230000, 20])]
    txBuild up 0 (d 0) (b 60) = (0, b 60) ∧ txBuild up 0 (d 0) (b 1519) = (2, []) ∧ txBuild up 0 (d 0) (b 59) = (1, []) ∧
    txBuild (up.putBit (R.macCtrl_pad_en 0) true) 0 (d 0) (b 59) = (0, b 60) ∧ ((txBuild up 0 (d (2 ^ 23)) (b 60)).2.headD []).drop 12 = [0x81, 0, 0x01, 0x23] ++ List.replicate 48 0 ∧
    (txBuild up 0 (d (2 ^ 25)) [frame 0x86 0xDD 60 []]).1 = 4 ∧ (txBuild up 0 (d (2 ^ 21)) (b 60)).1 = 3) := by decide +kernel
/-- R298, the example's fields: identification 0x2A00 + 13 and sequence number 0x1000_0000 + 13 × 1448. -/
theorem test_lso_segment : (let h := patch (patch (List.replicate 66 0) 18 [0x2A, 0x00]) 38 [0x10, 0, 0, 0]
    let x := lsoSegment false false 14 34 1448 14 13 h [7]; be16 x 18 = 0x2A0D ∧ be16 x 38 = 0x1000 ∧ be16 x 40 = 0x4988 ∧ be16 x 16 = 53) := by decide
theorem witness_lso : (let d := [(0, [0, 0, 2 ^ 21, 66 + 14 * 2 ^ 8 + 34 * 2 ^ 15, 64, 0])]; let f := txBuild up 0 d [List.replicate 66 0, List.replicate 65 1]
    f.1 = 0 ∧ f.2.length = 2 ∧ 14 + 20 ≤ 34 ∧ 34 + 20 ≤ 66 ∧ (f.2.map (fun x => x.length)) = [130, 67]) := by decide
theorem witness_tx_part : (let h : HostTx := { ring := 2, frames := [[1], [2]], next := 1 }
    (∀ r' < 4, 2 < r' → ((txs [] {}).putBit (R.macRingCfg_en 3 7) false).bit (R.macRingCfg_en 3 (4 + r')) = false) ∧
    (after (.txFrame 3) (((txs [] { part := [(2, some h)] }).putBit (R.macRingCfg_en 3 7) false))).out = [.frame 3 (.host { h with frames := [[2]] })] ∧
    (let w : State := txs [] { wire := some h }
     h.next < h.frames.length ∧ tget none ((after (.txFrameComplete 3) w).macPort 3).part 2 = some h ∧ counted cTXOK (.txFrameComplete 3) w = 1)) := by decide +kernel
theorem witness_tx_complete : ((txs [] { wire := some { ring := 3, idx := [0], status := 5 } }).macPort 3).wire = some { ring := 3, idx := [0], status := 5 } ∧
    (txs [] {}).ringBase 3 7 + 32 * 0 + 20 = 0x100000014 ∧ PlainAccess (txs [] {}) 5 0x100000014 12 true :=
  ⟨by decide, by decide, plain_dram _ _ _ _ _ (target_dram _ _ (by decide) (by decide)) (target_dram _ _ (by decide) (by decide)) (by decide) (by decide) (by decide)⟩
theorem witness_pause : counted cPAUSE (.pauseReceived 3 0) ((mac 3 []).putBit (R.macCtrl_ignore_pause 3) true) = 1 ∧ (mac 3 []).bit (R.macCtrl_ignore_pause 3) = false ∧
    (let t := after (.pauseReceived 3 1) (mac 3 []); t.bit (R.macStat_paused 3) = true ∧
     (let u := t.updTime (fun x => { x with ticks := 250 }); counted cPAUSED (.pauseExpiry 3) u = 1 ∧ counted cPAUSED (.pauseReceived 3 0) u = 1)) ∧
    (after (.macLinkChange 3 true 2) (mac 3 [])).get (R.macStat_rate 3) = 2 ∧ (after (.macLinkChange 0 true 2) (mac 3 [])).get (R.macStat_rate 0) = 0 ∧
    (after (.macCntInterval 3) (mac 3 [])).groupValid (R.macCnt 3) = true := by decide +kernel

/-- Dataset 127 on MAC 3, MULT 2, TMAX 1 ms, with a state. -/
def gds : State := let s := ((on []).putBit R.gosCtrl_gp_en true).setWords (dsAddr 127) [0x11, 0x00010001, 2]
  s.setDs 127 { on := true, stNum := 4, sqNum := 2 ^ 32 - 1, ivl := 60 }

theorem witness_goose_publish : gds.dsEn 127 = true ∧ (gds.ds 127).on = true ∧ gds.dsOpen 127 = true ∧ gds.dsPorts 127 = [3] ∧
    (let t := after (.gooseRetransmit 127) gds; (t.ds 127).sqNum = 1 ∧ (t.ds 127).ivl = 100 ∧ (t.macPort 3).gooseQ.length = 1) ∧ up.bit R.gosCtrl_gp_en = false := by decide
/-- Subscription 511 on MAC 0 (confRev 6, no entries) in a state, for a frame of address 5 and APPID 7 with an empty gocbRef. -/
def gsub (x : GSub) : State := let s := ((on []).putBit R.gosCtrl_gs_en true).setWords (subAddr 511) [3, 5, 7 * 65536, 6, 0]
  { s with gos := { s.gos with sub := [(511, x)] } }
def gfr : GooseRx := { dmac := 5, appid := 7, confRev := 6, stNum := 9, sqNum := 1 }

theorem witness_goose_match : (List.range 512).filter (fun j => (gsub {}).subMatches j 0 5 7 []) = [511] ∧ (gsub {}).bit R.gosCtrl_gs_en = true ∧
    ((gsub {}).word (subAddr 511)).toNat / 2 ^ 6 % 128 = 0 ∧ ((gsub {}).word (subAddr 511)).getLsbD 5 = false ∧ ((gsub {}).word (subAddr 511 + 12)).toNat = 6 := by decide
theorem witness_goose_granted : (gsub {}).memCheck 5 (0x1430000 + 0x10 * 511) 16 true = none ∧
    (let t := judgeGoose gfr 511 (gsub { st := 4, some_ := true, stNum := 9, sqNum := 1, flags := 1 }); (t.sub 511).st = 2 ∧ (t.sub 511).flags = 0) := by decide
theorem witness_goose_judged : (judgeGoose { gfr with confRev := 5 } 511 (gsub { st := 2 })).sub 511 = { st := 4, flags := 1 } ∧
    ((judgeGoose { gfr with ndsCom := true } 511 (gsub { st := 2 })).sub 511).flags = 2 ∧ ((judgeGoose { gfr with vals := [.other] } 511 (gsub { st := 2 })).sub 511).flags = 4 ∧
    ((judgeGoose { gfr with sim := true } 511 (gsub { st := 2 })).sub 511) = { st := 2, flags := 8 } ∧
    (judgeGoose gfr 511 (gsub { st := 2, some_ := true, stNum := 9, sqNum := 1 })).gos.rxDup = 1 ∧
    (let t := judgeGoose gfr 511 (gsub { st := 1, some_ := true, stNum := 10 }); (t.sub 511).st = 2 ∧ (t.sub 511).flags = 16 ∧ t.word (0x1430000 + 0x10 * 511 + 4) = 9) := by decide +kernel
theorem witness_goose_stale : ((gsub { st := 2 }).sub 511).st = 2 ∧ ((gsub { st := 1 }).sub 511).st ≠ 2 ∧ ((gsub {}).word (0x1432000 + 4 * 1023)).toNat % 512 ≠ 511 ∧
    (((gsub {}).setWord (0x1432000 + 4 * 1023) 511).word (0x1432000 + 4 * 1023)).toNat % 512 = 511 := by decide
theorem witness_gin_hold : ((after (.ginHoldEnd 1023) { up with gos := { up.gos with gin := [(1023, { hold := true })] } }).gin 1023).hold = false ∧
    (let s : State := { up with gos := { up.gos with gin := [(1023, { hold := true, pend := [(true, false)] })] } }
     (s.gin 1023).pend = [(true, false)] ∧ (after (.ginHoldEnd 1023) s).arrBit (R.gosGinState 0) 1023 = true ∧ (after (.ginHoldEnd 1023) s).trm.request = true) ∧
    (after .gosCntInterval gds).groupValid R.gosCnt = true ∧ up.bit R.gosCtrl_gs_en = false ∧ up.bit R.gosCtrl_svp_en = false := by decide +kernel
/-! ## Recorders (chapter 19) -/

/-- EVR on with FLUSH.THR and SQ_ON above 1, its pointers, and an arrival. -/
def evr (x : EvrState) : State := let s := ((((on []).putBit R.evrCtrl_en true).put R.evrFlush_thr 9).put R.evrSq_sq_on 3).putBit R.evrCtrl_sq_en true; { s with evr := { x with queue := [{ cls := 0x10, ts := 8 }] } }

theorem witness_events : (evr {}).evr.queue = [{ cls := 0x10, ts := 8 }] ∧ (after .eventArrival (evr { closed := true })).evr.lost = 1 ∧
    (after .eventArrival ((evr {}).putBit R.evrCtrl_en false)).evr.next = 0 ∧ (evr { next := 65535 }).evU = 65535 ∧
    (let t := after .eventArrival (evr { next := 65535 }); t.evr.lost = 1 ∧ t.bit R.evrStat_overflow = true ∧ Pends t .evr 1) ∧
    (evr { next := 65534 }).evU < 65535 ∧ up.evr.queue = [] := by decide +kernel
theorem witness_event_memory : EventMemory (evr {}) := by
  intro q
  have h1 : 0x1480000 ≤ evAddr q := by unfold evAddr; omega
  have h2 : evAddr q + 32 ≤ 0x1680000 := by unfold evAddr; omega
  have h3 : evAddr q % 32 = 0 := by unfold evAddr; omega
  generalize evAddr q = a at h1 h2 h3
  have hg : ∀ x : Nat, x < 0x1000000000000 → (evr {}).rgnGrants 7 15 x true = true := by
    intro x hx
    have e0 : (evr {}).reg (rgnReg 7 15 0) = 7#32 := by decide
    have e1 : (evr {}).reg (rgnReg 7 15 1) = 0#32 := by decide
    have e2 : (evr {}).reg (rgnReg 7 15 2) = 0xFFFFF000#32 := by decide
    have e3 : (evr {}).reg (rgnReg 7 15 3) = 0xFFFF#32 := by decide
    unfold State.rgnGrants
    rw [e0, e1, e2, e3]
    simp
    omega
  have hb : bankOf a = 25 ∨ bankOf a = 26 ∨ bankOf a = 27 ∨ bankOf a = 28 := by unfold bankOf; omega
  apply memCheck_sram
  · omega
  · omega
  · omega
  · unfold bankOf; omega
  · unfold State.regionOk
    have h15 : (15 : Nat) ∈ List.range 16 := by decide
    simp only [Bool.and_eq_true, List.any_eq_true]
    exact ⟨⟨⟨15, h15, hg a (by omega)⟩, 15, h15, hg _ (by omega)⟩, rfl⟩
  · intro _; rcases hb with h | h | h | h <;> rw [h] <;> decide
  · rcases hb with h | h | h | h <;> rw [h] <;> decide
  · unfold State.atomWin; rcases hb with h | h | h | h <;> rw [h] <;> exact if_neg (by decide)
theorem witness_event_stored : (let s := evr {}
    s.evU + 1 < s.get R.evrSq_sq_on ∧ s.bit R.evrStat_squall = false ∧ (after .eventArrival s).evr.next = 1 ∧ (after .eventArrival s).word (evAddr 0 + 4) = 8) ∧
    (let q := evr { next := 2 }
     q.get R.evrSq_sq_on = 3 ∧ q.evU + 1 = 3 ∧ (after .eventArrival q).bit R.evrStat_squall = true ∧ (after .eventArrival q).evr.next = 4) ∧
    (let d := (evr { drops := 5, dropFirst := 6, dropLast := 7 }).putBit R.evrCtrl_sq_en false
     d.evr.drops ≠ 0 ∧ (after .eventArrival d).evr.drops = 0 ∧ (after .eventArrival d).word (evAddr 0 + 24) = 7) := by decide +kernel
theorem witness_squall_counts : (let s := ((evr { next := 1 }).putBit R.evrStat_squall true).setWord (evAddr 0 + 16) 0x10
    s.keyEntries { cls := 0x10, ts := 8 } = [(0, false)] ∧
    (let c := s.setWord (evAddr 0 + 16) 0x02000010
     c.keyEntries { cls := 0x10, ts := 8 } = [(0, true)] ∧ (after .eventArrival c).word (evAddr 0 + 20) = 1 ∧ (after .eventArrival c).evr.next = 1)) := by decide
theorem witness_flush : (evr {}).evU = 0 ∧ (after .eventFlushPeriod (evr { next := 1 })).bit R.evrStat_flushing = true ∧ (evr {}).bit R.evrStat_flushing = false ∧
    (let s := (evr { next := 2, tripFlush := true }).putBit R.evrStat_flushing true
     s.evr.unfl ≤ s.evr.next ∧ s.evU ≤ 65535 ∧ (let t := after .eventFlushDone s; t.evU = 0 ∧ Pends t .evr 2 ∧ t.groupWord R.evrPos 1 = 2 ∧ (tget [] t.evr.journal 1).length = 8) ∧
     (let q := s.putBit R.evrStat_squall true; q.bit R.evrStat_squall = true ∧ (after .eventFlushDone q).bit R.evrStat_squall = false)) := by decide +kernel
theorem witness_evr_window : Reaches (granted 15 0 []) 15 .evr ∧ (after (.evrCursorWrite 15 7) up).evr.load = some 7 ∧ (after (.evrUserEvent 1 7) up).evr.queue.length = 1 ∧
    up.evr.load = none ∧ (let s : State := { up with evr := { next := 12, oldest := 4, load := some 4 } }
     s.evr.load = some 4 ∧ s.evr.oldest ≤ s.evr.next ∧ (after .windowLoadDone s).groupWord R.evrWinSt 2 = 8 ∧
     (after .windowLoadDone { s with evr := { s.evr with load := some 3 } }).groupWord R.evrWinSt 1 = 4 ∧
     (after .windowLoadDone { s with evr := { s.evr with load := some 3 } }).groupWord R.evrWinSt 2 = 16 ∧
     (after .windowLoadDone { s with evr := { s.evr with load := some 12 } }).groupWord R.evrWinSt 2 = 0 ∧
     (after .windowLoadDone { s with evr := { s.evr with load := some 11 } }).groupWord R.evrWinSt 2 = 1) := by decide +kernel
theorem witness_evr_journal : (let s : State := { up with evr := { next := 70000, load := some 4, journal := [(4, [1, 2, 3, 4, 5, 6, 7, 8])] } }
    (70000 + 2 ^ 32 - 4) % 2 ^ 32 = 69996 ∧ (tget [] s.evr.journal 4).length = 8 ∧ (after .windowLoadDone s).reg (R.evrWin 6) = 7 ∧
    (after .windowLoadDone s).groupWord R.evrWinSt 2 = BitVec.ofNat 32 (8 + 255 * 2 ^ 5 + 255 * 2 ^ 13)) ∧
    (let s : State := { up with evr := { next := 4, load := some 0x80000003 } }; (after .windowLoadDone s).groupWord R.evrWinSt 2 = 0) := by decide +kernel
theorem witness_evr_clear : (up.setReg (rgnReg 1 15 0) 0).regionOk 1 0x1480000 0x200000 true = false ∧ errOf .evr (.evrClearArm 1 0) (up.setReg (rgnReg 1 15 0) 0) = 0x0102 ∧
    (let s : State := { granted 1 0 [] with evr := { next := 5, armed := some 1 } }; let k := s.put R.evrClrkey_key 77
     k.regionOk 1 0x1480000 0x200000 true = true ∧ k.evr.armed = some 1 ∧ R.evrClr_key.of (R.evrClr_key.put 0 77) = k.get R.evrClrkey_key ∧ k.bit R.sysStat_ladle = false ∧
     (let t := after (.evrClearConfirm 1 (R.evrClr_key.put 0 77)) k; t.evr.oldest = 5 ∧ t.evr.next = 6 ∧ Pends t .evr 3) ∧
     R.evrClr_key.of 0 ≠ k.get R.evrClrkey_key ∧ errOf .evr (.evrClearConfirm 1 0) k = 0x0101 ∧
     (after .evrClearKeyExpiry k).evr.armed = none) := by decide +kernel
/-- The store ready; a ring at the start of DRAM; DRC off. -/
def drc : State := ((((on []).putBit R.stoStat_ready true).putBit R.drcCtrl_retrig false).put R.drcRingLen_len 4095).put R.drcCfg_pre 0

theorem witness_drc_start : Reaches drc 1 .drc ∧ drc.bit R.drcCtrl_en = false ∧ errOf .drc (.drcCtrlWrite 1 1) (drc.putBit R.stoStat_ready false) = 0x0103 ∧
    drc.bit R.stoStat_ready = true ∧ (drc.drcPre + 2000000000) * (drc.gridN * 70) ≤ drc.drcCap * 1000000000 * drc.drcDec ∧ drc.tracked = true ∧
    (after (.drcCtrlWrite 1 1) drc).bit R.drcStat_run = true ∧ errOf .drc (.drcCtrlWrite 1 1) (drc.put R.drcRingLen_len 0) = 0x0102 ∧
    (after (.drcCtrlWrite 1 0) { drc with drc := { recs := [{ id := 1 }] } }).drc.recs.map DrcRec.last = [some 0] := by decide +kernel
theorem witness_drc_trigger : (let s := drc.putBit R.drcCtrl_en true
    s.bit R.drcCtrl_retrig = false ∧ s.stoOff = false ∧
    (let f : State := { s with drc := { recs := [{}, {}, {}, {}] } }; 4 ≤ f.drc.recs.length ∧ (after (.drcCmdTrig 1 1) f).drc.lost = 1) ∧
    (s.putBit R.stoStat_ready false).stoOff = true ∧ (after (.drcCmdTrig 1 1) { s with sto := { extents := 9 } }).sto.newest = 1 ∧
    (after (.drcCmdTrig 1 1) { s with sto := { extents := 9 } }).groupWord R.drcLast 1 = 1 ∧ drc.bit R.drcCtrl_en = false) := by decide +kernel
theorem witness_drc_records : (let r : DrcRec := { id := 1 }; let s : State := { drc with drc := { recs := [r], written := 5 }, sto := { extents := 9, recs := [{ id := 1, extents := 0 }] } }
    s.drc.recs = [r] ∧ r.last = none ∧ (after .drcPostEnd s).drc.recs = [{ r with last := some 5 }] ∧
    (let e : State := { s with drc := { s.drc with recs := [{ r with last := some 5 }] } }
     (s.stoTake 1).isSome = true ∧ e.drcExtEnd { r with last := some 5 } = some 5 ∧ (∀ x ∈ ([] : List DrcRec), x.id ≠ r.id) ∧ (after .recordExtentWritten e).drc.recs = [{ r with last := some 5, copied := 5, extents := 1 }] ∧
     (let n : State := { e with sto := { e.sto with extents := 2 } }; n.stoTake 1 = none ∧ (after .recordExtentWritten n).drc.trunc = 1 ∧ Pends (after .recordExtentWritten n) .drc 3)) ∧
    (let c : State := { s with drc := { s.drc with recs := [{ r with last := some 5, copied := 5 }] } }
     c.drcExtEnd { r with last := some 5, copied := 5 } = none ∧ (after .recordSeal c).sto.recs.map StoRec.st = [.sealed_] ∧ Pends (after .recordSeal c) .drc 1 ∧ c.drc.recs ≠ [])) ∧
    (after .drcStatInterval (drc.putBit R.drcCtrl_en true)).groupValid R.drcSt = true ∧ drc.drc.recs = [] := by decide +kernel
theorem witness_drc_again : (let s := drc.putBit R.drcCtrl_en true
    (after (.drcCtrlWrite 1 3) s).bit R.drcCtrl_retrig = true ∧
    (let r : DrcRec := { id := 4, t0 := s.nsOf (s.headWord s.lastRow 1) }
     let e : State := { s.putBit R.drcCtrl_retrig true with drc := { recs := [r] } }
     (e.drc.recs.reverse.find? (fun r => r.last.isNone && decide (e.nsOf (e.headWord e.lastRow 1) < r.t0 + 60000000000))) = some r ∧
     (after (.drcCmdTrig 1 1) e).groupWord R.drcLast 5 = 1 ∧ (after (.drcCmdTrig 1 1) e).groupWord R.drcLast 1 = 4) ∧
    (let t := after (.drcCmdTrig 1 1) { s with sto := { extents := 9 } }
     t.sto.recs.map (fun x => (x.id, x.header.cause, x.header.rowSize, x.header.scales.length)) = [(1, 0xFFF, 3232, 576)] ∧
     s.jRoom = true ∧ t.jrnl.queue.length = 1)) := by decide +kernel
/-- The store on and ready, one record 5 in a state, addressed by STO_REC, whose bytes go to DRAM. -/
def sto (st : RecordState) : State := let s := ((((granted 7 0 []).putBit R.stoCtrl_en true).putBit R.stoStat_ready true).setReg R.stoRec 5).put R.stoDstHi_dst 1
  { s with sto := { extents := 9, recs := [{ id := 5, st := st, runs := [(2, 1)], extents := 1 }] } }

theorem witness_sto_refused : Reaches (sto .sealed_) 1 .sto ∧ errOf .sto (.stoRead 1 0 []) ((sto .sealed_).putBit R.stoStat_busy true) = 0x0101 ∧
    errOf .sto (.stoFormat 1 0) ((sto .sealed_).putBit R.stoStat_busy true) = 0x0101 ∧ (sto .sealed_).bit R.stoStat_busy = false ∧
    (after (.stoKeep 1 0) ((sto .sealed_).putBit R.stoStat_ready false)).sto.cmd = some (3, 4, 0, 5) ∧
    errOf .sto (.stoFormat 1 0) (sto .sealed_) = 0x0103 ∧ R.stoCmd_key.of (R.stoCmd_key.put 0 0x4A33) = 0x4A33 ∧
    errOf .sto (.stoFormat 1 (R.stoCmd_key.put 0 0x4A33)) ((sto .sealed_).putBit R.drcCtrl_en true) = 0x0103 ∧
    (after (.stoFormat 1 (R.stoCmd_key.put 0 0x4A33)) (sto .sealed_)).sto.recs = [] ∧ ((sto .sealed_).setReg R.stoRec 6).stoFindRec = none ∧
    (after (.stoDirent 1 0 []) ((sto .sealed_).setReg R.stoRec 6)).sto.cmd = some (7, 1, 0, 6) := by decide +kernel
theorem witness_sto_commands : (sto .unsealed).stoFindRec.isSome = true ∧ (after (.stoRead 1 0 []) (sto .unsealed)).sto.cmd = some (1, 3, 0, 5) ∧
    (after (.stoSalvage 1 0) (sto .unsealed)).sto.recs.map StoRec.st = [.salvaged] ∧ (after (.stoSalvage 1 0) (sto .sealed_)).sto.cmd = some (5, 3, 0, 5) ∧
    (after (.stoDelete 1 0) (sto .salvaged)).sto.recs = [] ∧ (after (.stoKeep 1 0) (sto .sealed_)).sto.recs.map StoRec.keep = [true] ∧
    (after (.stoUnkeep 1 0) (sto .sealed_)).sto.recs.map StoRec.keep = [false] ∧
    (after (.stoRead 1 0 []) ((sto .sealed_).put R.stoLen_len 513)).sto.cmd = some (1, 2, 0, 5) ∧
    (after (.stoRead 1 0 []) (((sto .sealed_).put R.stoLen_len 512).setReg R.stoOfs 2048)).sto.cmd = some (1, 2, 0, 5) := by decide +kernel
theorem witness_sto_open : (sto .open_).stoFindRec.isSome = true ∧ (after (.stoDelete 1 0) (sto .open_)).sto.cmd = some (2, 3, 0, 5) ∧
    (after (.stoUnkeep 1 0) (sto .unsealed)).sto.cmd = some (4, 3, 0, 5) ∧ (after (.stoDelete 1 0) (sto .unsealed)).sto.recs = [] ∧
    (after (.stoRead 1 0 []) (sto .sealed_)).sto.cmd = some (1, 0, 0, 5) ∧
    (let s : State := { sto .open_ with sto := { (sto .open_).sto with recs := [{ id := 5, data := [{}, { check := some {} }, {}] }] } }
     (s.stoFindRec.map StoRec.readable) = some (3 * 2 ^ 20)) ∧
    (after (.stoFormat 1 (R.stoCmd_key.put 0 0x4A33)) ((sto .sealed_).putBit R.stoStat_ready false)).sto.cmd = some (6, 4, 0, 5) := by decide +kernel
theorem witness_sto_copy : ((let s := (sto .sealed_).put R.stoLen_len 512; s.get R.stoLen_len = 512 ∧ (s.setReg R.stoOfs 2047).stoDst = 0x100000000) ∧
      (sto .sealed_).stoDst = 0x100000000 ∧ (((sto .sealed_).put R.stoDstHi_dst 0).setReg R.stoDstLo 0x40).memCheck 7 0x40 256 true ≠ none) ∧
    PlainAccess (sto .sealed_) 7 0x100000000 512 true ∧ PlainAccess (sto .sealed_) 7 0x100000000 256 true :=
  ⟨by decide, plain_dram _ _ _ _ _ (target_dram _ _ (by decide) (by decide)) (target_dram _ _ (by decide) (by decide)) (by decide) rfl rfl,
    plain_dram _ _ _ _ _ (target_dram _ _ (by decide) (by decide)) (target_dram _ _ (by decide) (by decide)) (by decide) rfl rfl⟩
theorem witness_sto_rest : up.bit R.stoCtrl_en = false ∧ (after (.stoInit 8192 1 2 3 3) (sto .open_)).sto.recs.map StoRec.st = [.unsealed] ∧
    (after (.stoInit 8192 1 2 3 3) (sto .open_)).sto.extents = 4 ∧ up.sto.cmd = none ∧
    (let s : State := { sto .sealed_ with sto := { (sto .sealed_).sto with cmd := some (1, 0, 512, 5) } }
     (after .stoCommandDone s).groupWord R.stoRes 2 = 512 ∧ Pends (after .stoCommandDone s) .sto 1 ∧ (after .cardTimeout s).sto.cmd = some (1, 4, 0, 5) ∧
     Pends (after .cardTimeout s) .sto 3) ∧ up.bit R.stoStat_ready = false := by decide +kernel
/-! ## Memory and DMA (chapter 20) -/

/-- A bank word with a STATE and a MODE. -/
def bw (st md : Nat) : Word := (R.memBankCfg_mode 47).put ((R.memBankCfg_state 47).put 0 st) md
def bank (st md : Nat) (ready : Bool) : State := ((up.put (R.memBankCfg_state 47) st).put (R.memBankCfg_mode 47) md).putBit (R.memBankCfg_ready 47) ready

theorem witness_bank_cfg : Reaches up 1 .mem ∧ errOf .mem (.memBankCfgWrite 1 47 (bw 3 0)) up = 0x0103 ∧
    (errOf .mem (.memBankCfgWrite 1 47 (bw 1 0)) (bank 3 0 false) = 0x0103 ∧ (R.memBankCfg_state 47).of (bw 0 2) = 0 ∧ (bank 1 0 true).bankSt 47 = 1) ∧
    (let c := up.putBit R.dupCtrl_cum_en true; c.claimed 23 = true ∧ errOf .mem (.memBankCfgWrite 1 23 (bw 0 0)) c = 0x0103 ∧ errOf .mem (.memBankCfgWrite 1 23 (bw 1 1)) c = 0x0103) ∧
    errOf .mem (.memBankCfgWrite 1 47 (bw 0 1)) (bank 0 0 false) = 0x0103 ∧
    ((after (.memBankCfgWrite 1 47 (bw 1 2)) (bank 1 0 true)).get (R.memBankCfg_mode 47) = 2 ∧ (after (.memBankCfgWrite 1 47 (bw 1 2)) (bank 1 0 true)).bit (R.memBankCfg_ready 47) = true) ∧
    (after (.memBankCfgWrite 1 47 (bw 0 0)) (bank 1 0 true)).bit (R.memBankCfg_ready 47) = false := by decide +kernel
theorem witness_bank_zero : (let s := (bank 1 0 false).setWord (bankBase 47 + 0x7FFFC) 5
    s.bankSt 47 = 1 ∧ s.bit (R.memBankCfg_ready 47) = false ∧ (after (.bankZeroDone 47) s).word (bankBase 47 + 0x7FFFC) = 0 ∧
    (after (.bankZeroDone 47) s).bit (R.memBankCfg_ready 47) = true) ∧ (bank 2 0 false).bankSt 47 = 2 ∧ (bank 3 0 false).bankSt 47 = 3 := by decide
theorem witness_scrub : (let s := up.putBit R.memCtrl_scrub_en true
    bankOf 0x1FFFFFF = 47 ∧ s.bankReady 47 = true ∧ s.bankReady 0 = true ∧ (after (.scrubPass [(0x1FFFFFF, false)]) s).get (R.memEccCnt_corr 47) = 1 ∧
    (let t := after (.scrubPass [(0x800001, true)]) s; t.get (R.memEccCnt_uncorr 0) = 1 ∧ Pends t .mem 2 ∧ t.poisoned 0x800001 1 = true ∧ t.groupWord R.memFault 1 = 0x800000)) ∧
    (up.putBit R.memCtrl_scrub_en false).bit R.memCtrl_scrub_en = false := by decide +kernel
theorem witness_march : (let s := up.setReg R.memMarchHi 0x8000
    s.marchBanks = [47] ∧ s.sram.march = none ∧ (after (.marchGo 1 2) s).sram.march = some ⟨[47], true⟩ ∧ (after (.marchGo 1 2) s).bit R.memStat_march_busy = true ∧
    errOf .mem (.marchGo 1 0) (s.put (R.memBankCfg_state 47) bkOFF) = 0x0103 ∧ (s.put (R.memBankCfg_state 47) bkOFF).bankSt 47 = bkOFF ∧
    s.claimed 47 = false ∧ s.bankSt 47 ≠ bkOFF ∧ s.bankSt 47 ≠ bkFAILED ∧
    (let r : State := { s.setWord (bankBase 47) 5 with sram := { march := some ⟨[47], false⟩ } }
     errOf .mem (.marchGo 1 0) r = 0x0106 ∧ (after (.marchComplete 0x800000000000) r).bankSt 47 = 3 ∧ (after (.marchComplete 0) r).word (bankBase 47) = 0 ∧
     (after (.marchComplete 0) { r with sram := { march := some ⟨[47], true⟩ } }).word (bankBase 47) = 5)) ∧
    (let c := (up.putBit R.dupCtrl_cum_en true).setReg R.memMarchLo 0x800000; 23 ∈ c.marchBanks ∧ c.claimed 23 = true ∧ errOf .mem (.marchGo 1 0) c = 0x0103) := by decide +kernel
/-- Bank 47 ATOMIC, with a data word and an operand of master 1. -/
def atom : State := let s := (bank 1 2 true).setWord (bankBase 47 + 0x1FFF8) 5; { s with sram := { operand := [(16 * 47 + 1, 3)] } }

theorem witness_atomic : atom.get (R.memBankCfg_mode 47) = 2 ∧ atom.claimed 47 = false ∧ atom.memCheck 1 (bankBase 47 + 0x20000 + 0x1FFF8) 4 true = none ∧
    (after (.atomicAdd 1 47 0x1FFF8 false (some 7)) atom).word (bankBase 47 + 0x1FFF8) = 12 ∧
    (let t := after (.atomicAdd 1 47 0x1FFF8 false none) atom; t.word (bankBase 47 + 0x1FFF8) = 8 ∧ t.out = [.readData 1 (bankBase 47 + 0x20000 + 0x1FFF8) [5, 0, 0, 0]]) ∧
    (let t := after (.atomicSwap 1 47 0x1FFF8 true none) atom; t.word (bankBase 47 + 0x1FFF8) = 3) ∧
    atom.memCheck 1 (bankBase 47 + 0x40000 + 0x1FFF8) 4 true = some .atom ∧ errOf .mem (.atomicSwap 1 47 0x1FFF8 false (some 1)) atom = 0x0105 ∧
    tget 0 (after (.operandWrite 2 47 0x1FFFC false 0x1_0000_0009) atom).sram.operand (16 * 47 + 2) = 9 ∧
    tget 0 (after (.operandWrite 2 47 0 true 0x1_0000_0009) atom).sram.operand (16 * 47 + 2) = 0x1_0000_0009 := by decide +kernel
theorem witness_atomic_more : atom.hostRefused 1 = false ∧ ({ atom with host := { d3hot := true } } : State).hostRefused 0 = true ∧
    atom.poisoned (bankBase 47 + 0x20000) 8 = false ∧ atom.lgeOpen (bankBase 47 + 0x20000) 8 = false ∧
    (let p : State := { atom with sram := { poison := [bankBase 47] } }
     p.poisoned (bankBase 47 + 0x20000) 8 = true ∧ p.memCheck 1 (bankBase 47 + 0x20000) 8 true = none ∧ (after (.atomicAdd 1 47 0 true (some 1)) p).word (bankBase 47) = 0 ∧
     (after (.atomicAdd 1 47 0 true (some 1)) p).get (R.memEccCnt_uncorr 47) = 1 ∧
     (after (.atomicSwap 1 47 0 false none) p).out = [.readData 1 (bankBase 47 + 0x40000) [0xFF, 0xFF, 0xFF, 0xFF]]) ∧
    PlainAccess (bank 1 0 true) 1 (bankBase 47 + 0x20000) 8 true ∧ (after (.atomicAdd 1 47 0 true (some 7)) (bank 1 0 true)).word (bankBase 47 + 0x20000) = 7 ∧
    PlainAccess (bank 1 0 true) 1 (bankBase 47 + 0x60000) 4 true ∧ (after (.operandWrite 1 47 0 false 7) (bank 1 0 true)).word (bankBase 47 + 0x60000) = 7 ∧
    (after (.atomicAdd 1 47 0 true none) (bank 0 0 false)).out = [.readData 1 (bankBase 47 + 0x20000) (List.replicate 8 0xFF)] := by
  refine ⟨by decide, by decide, by decide, by decide, by decide, ?_, by decide, ?_, by decide, by decide⟩ <;>
    refine ⟨by decide, by decide, by decide, ?_, Or.inl rfl⟩ <;> intro x h <;>
    rw [target_sram _ _ (by decide) (by decide)] at h <;> injection h with h <;> subst h <;> decide
/-- Channel 15 on, in a state, with descriptor words at an address and a channel record. -/
def dma (st : Nat) (a : Nat) (ws : List Word) (c : DmaChan) : State := (((((granted 1 a ws).putBit R.dmaCtrl_en true).putBit (R.dmaChCtrl_en 15) true).put (R.dmaChStat_state 15) st).setRegBit R.dmaStat 15 (st == 1)).setChan 15 c

theorem witness_dma_kick : Reaches (dma 0 0 [] {}) 1 .dma ∧ (after (.dmaHeadWrite 1 15 1 0xFFFFFFFF) (dma 0 0 [] {})).get (R.dmaChHeadHi_head 15) = 0xFFFF ∧
    errOf .dma (.dmaHeadWrite 1 15 0 0) (dma 1 0 [] {}) = 0x0101 ∧ (after (.dmaKick 1 15 0) (dma 0 0 [] {})).chSt 15 = 1 ∧ up.chOn 15 = false ∧
    (after (.dmaKick 1 15 0) (dma 1 0 [] {})).bit (R.dmaChStat_kpend 15) = true ∧ errOf .dma (.dmaKick 1 15 0) (dma 3 0 [] {}) = 0x0101 ∧
    (after (.dmaAbort 1 15 0 0 []) (dma 3 0 [] {})).chSt 15 = 0 := by decide +kernel
/-- A descriptor of two 8-byte elements, or of `sz`, from one place of DRAM to another. -/
def desc (ctl : Nat) (link : Word) : List Word := [0x1000, 1, 0x2000, 1, 8, 8, 0, 0, 0, 0, 0x00010002, BitVec.ofNat 32 (1 + ctl), 0, 0, link, 0]
def dmad (st : Nat) (ctl : Nat) (link : Word) (c : DmaChan) : State := dma st 0x100000000 (desc ctl link) { c with desc := 0x100000000 }
def size8 : Nat := 3 * 2 ^ 16

theorem witness_dma_link : ((dmad 2 size8 1 {}).chSt 15 = 2 ∧ ((dmad 2 size8 1 {}).chan 15).desc + 56 = 0x100000038 ∧ leNat (memBytes (dmad 2 size8 1 {}).mem 0x100000038 8) = 1 ∧
      leNat (memBytes (dmad 2 size8 0x40 {}).mem 0x100000038 8) = 0x40 ∧ leNat (memBytes (dmad 2 size8 0x800000 {}).mem 0x100000038 8) = 0x800000 ∧
      (dmad 2 size8 0x800000 {}).memPlace 0x800000 = true ∧ (dmad 2 size8 0x40 {}).memPlace 0x40 = false ∧
      (after (.dmaAbort 1 15 0 0 []) (dma 1 0x100000000 [] { desc := 0x800000 })).chSt 15 = 0 ∧
      (after (.dmaAbort 1 15 0 0 []) (dma 1 0x100000000 [] { desc := 0x800000 })).word 0x800030 = 0x43) ∧
    PlainAccess (dmad 2 size8 1 {}) 1 0x100000038 8 false ∧ PlainAccess (dmad 2 size8 1 {}) 1 0x100000030 8 true ∧
    (dmad 2 size8 1 {}).remoteOf 0x100000030 = none ∧ (dma 2 0 [] { desc := 0x2000000 }).memCheck 1 0x2000038 8 false = some .unmapped :=
  ⟨by decide, plain_dram _ _ _ _ _ (target_dram _ _ (by decide) (by decide)) (target_dram _ _ (by decide) (by decide)) (by decide) rfl rfl,
    plain_dram _ _ _ _ _ (target_dram _ _ (by decide) (by decide)) (target_dram _ _ (by decide) (by decide)) (by decide) rfl rfl,
    by unfold State.remoteOf; rw [target_dram _ _ (by decide) (by decide)], by decide⟩
theorem witness_dma_fetch : ((dmad 1 size8 1 {}).chSt 15 = 1 ∧ ((dmad 1 size8 1 {}).chan 15).words = none ∧
      (List.range 14).map (fun k => (dmad 1 size8 1 {}).word (0x100000000 + 4 * k)) = (desc size8 1).take 14 ∧ dBit ((desc size8 1).take 14) 21 = false ∧
      dBit ((desc (size8 + 2 ^ 21) 1).take 14) 21 = true ∧ dMisaligned ((desc size8 1).take 14) = false ∧ dOverlap ((desc size8 1).take 14) = false ∧
      (dmad 1 (size8 + 2 ^ 27) 1 {}).descCode ((desc (size8 + 2 ^ 27) 1).take 14) = 1 ∧ (dmad 1 size8 1 {}).poisoned 0x100000000 56 = false) ∧
    (dmad 1 size8 1 {}).descCode ((desc size8 1).take 14) = 0 ∧ (dmad 1 size8 1 {}).memCheck 1 0x100000000 56 false = none := by
  have rd : ∀ (a n : Nat) (w : Bool), (dmad 1 size8 1 {}).regionOk 1 a n w = true → 0x100000000 ≤ a → 0 < n → a + n ≤ 0x180000000 →
      (dmad 1 size8 1 {}).memCheck 1 a n w = none := fun a n w h h1 h2 h3 =>
    memCheck_dram _ _ _ _ _ (target_dram _ _ h1 (by omega)) (target_dram _ _ (by omega) (by omega)) h
  refine ⟨⟨by decide, by decide, by decide, by decide, by decide, by decide, by decide, by decide, poisoned_none _ _ _ (by decide)⟩, ?_, rd _ _ _ (by decide) (by decide) (by decide) (by decide)⟩
  have e1 : (dmad 1 size8 1 {}).accessCode (dAddr ((desc size8 1).take 14) 0 0) (dSize ((desc size8 1).take 14)) false = 0 := by
    unfold State.accessCode
    rw [target_dram _ _ (by decide) (by decide), rd _ _ _ (by decide) (by decide) (by decide) (by decide)]
  have e2 : (dmad 1 size8 1 {}).accessCode (dAddr ((desc size8 1).take 14) 1 0) (dSize ((desc size8 1).take 14)) true = 0 := by
    unfold State.accessCode
    rw [target_dram _ _ (by decide) (by decide), rd _ _ _ (by decide) (by decide) (by decide) (by decide)]
  exact descCode_zero _ _ (by decide) e1 e2 (by decide)
theorem witness_dma_moves : (let c : DmaChan := { words := some ((desc size8 1).take 14), moved := 1 }; let s := dmad 1 size8 1 c
    (s.chan 15).words = some ((desc size8 1).take 14) ∧ dTotal ((desc size8 1).take 14) = 2 ∧ (s.chan 15).moved < 2 ∧ (s.chan 15).backward = false ∧
    dAddr ((desc size8 1).take 14) 0 1 = 0x100001008 ∧ dAddr ((desc size8 1).take 14) 1 1 = 0x100002008 ∧ dReq ((desc size8 1).take 14) = false ∧
    (after (.dmaCurInterval 15 0 []) s).groupWord (R.dmaChCur 15) 4 = 1) ∧
    dReq ((desc (size8 + 2 ^ 23) 1).take 14) = true ∧
    (let s : State := { (dmad 1 size8 1 {}).put R.hkaCtrl_dma_ch 15 with hka := { fifo := [0] } }; s.get R.hkaCtrl_dma_ch = 15 ∧ s.hka.fifo ≠ []) ∧
    ((dmad 1 size8 1 { words := some ((desc size8 1).take 14), moved := 2 }).chan 15).moved = dTotal ((desc size8 1).take 14) ∧
    (after (.memArbInterval 1 2 3 4) up).groupWord R.memArb 4 = 4 := by decide +kernel
/-- Two 8-byte elements from one place of SRAM to another, or by request. -/
def sdesc (src : Word) (ctl : Nat) : List Word := [src, 0, 0x900020, 0, 8, 8, 0, 0, 0, 0, 0x00010002, BitVec.ofNat 32 (1 + ctl), 0, 0]
def sdma (src : Word) (ctl : Nat) : State := (dma 1 0x880038 [1, 0] { desc := 0x880000, words := some (sdesc src ctl) }).setWords 0x900000 [1, 2, 3, 4]

theorem witness_dma_sram : PlainAccess (sdma 0x900000 size8) 1 0x900000 8 false ∧ PlainAccess (sdma 0x900000 size8) 1 0x900008 8 false ∧
    PlainAccess (sdma 0x900000 size8) 1 0x900020 8 true ∧ PlainAccess (sdma 0x900000 size8) 1 0x900028 8 true ∧
    PlainAccess (sdma 0x900000 size8) 1 0x880030 8 true ∧ PlainAccess (sdma 0x900000 size8) 1 0x880038 8 false := by
  refine ⟨?_, ?_, ?_, ?_, ?_, ?_⟩ <;> refine ⟨by decide, by decide, by decide, ?_, ?_⟩ <;>
    first
      | decide
      | (intro x h; rw [target_sram _ _ (by decide) (by decide)] at h; injection h with h; subst h; decide)
theorem witness_dma_runs : dAddr (sdesc 0x900000 size8) 0 1 = 0x900008 ∧ dAddr (sdesc 0x900000 size8) 1 1 = 0x900028 ∧
    (after (.dmaCurInterval 15 2 []) (sdma 0x900000 size8)).word 0x90002C = 4 ∧
    (let t := after (.dmaDescriptorDone 15 []) (sdma 0x900000 size8); t.chSt 15 = 2 ∧ t.word 0x880030 = 1 ∧ t.word 0x900028 = 3) ∧
    (after (.dmaAbort 1 15 0 1 []) (sdma 0x900000 size8)).word 0x900020 = 1 ∧
    (sdma 0x2000000 size8).memCheck 1 0x2000000 8 false = some .unmapped ∧ (after (.dmaCurInterval 15 1 []) (sdma 0x2000000 size8)).chSt 15 = 3 ∧
    (let s := (sdma 0x10060 (2 * 2 ^ 16 + 2 ^ 23)).put R.hkaCtrl_dma_ch 15
     let f : State := { s.setReg R.hkaFifoData 9 with hka := { fifo := [9, 8] } }
     dSize (sdesc 0x10060 (2 * 2 ^ 16 + 2 ^ 23)) = 4 ∧ (after (.dmaHkaRequest 15 []) f).word 0x900020 = 9 ∧ (after (.dmaHkaRequest 15 []) f).hka.fifo = [8]) := by decide +kernel
/-! ## Power, reset, configuration, journal and lifetime (chapter 21) -/

def withSys (x : SysState) (closed : Bool) : State := { up with sys := x, evr := { closed := closed } }

theorem witness_resets_follow : (after .powerOnReset up).sys.cause = 1 ∧ (after .resetPin up).sys.cause = 2 ∧ (after .resetPin up).bit R.sysStat_booted = false ∧
    (let s := withSys { inReset := false } true; s.evr.closed = true ∧ s.sys.ladle = none ∧ s.sys.inReset = false ∧ (after .recoverReset s).sys.cause = 5) ∧
    up.evr.closed = false ∧ Reaches up 1 .sys ∧ (0xB5EE0001 : Word).getLsbD 0 = true ∧ errOf .sys (.sysRstCmd 1 0xB5EE0001) up = 0x0105 ∧
    (after (.sysRstCmd 1 0xB5EF0001) up).sys.cause = 4 ∧ (0xB5EF0000 : Word).getLsbD 0 = false := by decide +kernel
theorem witness_rails : (after (.railUndervoltage 2) up).reg R.sysSupply = 4 ∧ (after (.railUndervoltage 0) up).sys.cause = 1 ∧
    (let t := after (.railUndervoltage 7) up
     up.sys.ladle = none ∧ t.regBit R.sysSupply 7 = true ∧ t.bit R.sysStat_ladle = true ∧ t.sys.after = some 3 ∧ tget 0 t.life.counts 4 = 1 ∧
     (after (.railOvervoltage 7) t).regBit R.sysSupply 15 = true ∧ t.sys.ladle ≠ none) ∧
    (after (.railOvervoltage 0) (withSys { inReset := false } true)).sys.cause = 3 := by decide +kernel
theorem witness_ladle : (let s := (up.putBit R.sysCtrl_pfw_en true).putBit R.sysCtrl_vmain_en true
    (after (.pfwAssert false) s).sys.ladle ≠ none ∧ (after (.pfwAssert true) s).bit R.sysStat_supply_ok = false ∧ s.get R.lgeRcStat_phase ≠ 3 ∧
    s.bit R.sysCtrl_pfw_en = true ∧ s.bit R.sysCtrl_vmain_en = true) ∧ (up.putBit R.sysCtrl_pfw_en false).bit R.sysCtrl_pfw_en = false ∧
    (let h : State := { (up.putBit R.sysCtrl_therm_en true) with hka := { temps := [(3, tempCode 135)] } }
     h.bit R.sysCtrl_therm_en = true ∧ tempCode 135 ≤ h.hottest ∧ (after .thermalTrip h).sys.after = some 6 ∧
     (let c : State := { h with hka := { temps := [(3, tempCode 135 - 1)] } }; c.hottest < tempCode 135 ∧ (after .thermalTrip c).sys.ladle = none) ∧
     (after .thermalTrip { h with evr := { closed := true } }).sys.cause = 6 ∧
     (after .thermalTrip (after .thermalTrip { h with sys := { h.sys with after := some 3 } })).sys.after = some 3) := by decide +kernel
theorem witness_seal : (let r : LadleRun := ⟨5, 1, [(4, 1)], some ⟨7, 1, 8, []⟩, 0, true⟩; let s := withSys { inReset := false, ladle := some r } true
    s.sys.ladle = some r ∧ s.sys.after = none ∧ r.count ≤ 4096 ∧ (let t := after .ladleSeal s; t.sys.ladle = none ∧ (tget none t.jrnl.copyA 0).map JEntry.kind = some 6 ∧ t.lge.copyA = some ⟨7, 1, 8, []⟩ ∧
      (tget [] t.evr.journal 5).length = 8) ∧
    (after .ladleSeal { s with sys := { s.sys with after := some 3 } }).sys.cause = 3) := by decide +kernel
theorem witness_boot : (let s := withSys { cause := 2 } true
    s.sys.inReset = true ∧ s.sys.ladle = none ∧ s.sys.cause ≠ 6 ∧ s.sys.slotA = none ∧ s.sys.slotB = none) ∧ up.sys.inReset = true ∧
    (let t : State := { withSys { cause := 6 } true with hka := { temps := [(0, tempCode 115 + 1)] } }
     t.sys.cause = 6 ∧ tempCode 115 < t.hottest ∧ (after (.boot {}) t).sys.inReset = true) := by decide
theorem witness_unwarned : (let s : State := { sys := { cause := 1, inReset := true }, jrnl := { next := 1, copyA := [(0, some { kind := 5, seq := 0 })] } }
   (after (.boot {}) s).groupWord R.sysBoot 1 = 9) ∧
   (let s : State := { sys := { cause := 1, inReset := true }, jrnl := { next := 1, copyA := [(0, some { kind := 6, seq := 0 })] } }
   (after (.boot {}) s).groupWord R.sysBoot 1 = 1) := by decide +kernel

def img0 : CfgImage := { key := some 3, signed := true, format := true, digest := [7], secver := 255 }
/-- Key slot 3 valid, SECVER_MIN 255. -/
def fused : State := up.setReg R.sysFuse 0xFF08

theorem witness_verify : fused.verify img0 = none ∧ up.verify img0 = some 0x0101 ∧ (fused.setReg R.sysFuse 0xFF88).verify img0 = some 0x0101 ∧
    fused.verify { img0 with secver := 254 } = some 0x0101 ∧ fused.verify { img0 with format := false } = some 0x0102 := by decide
theorem witness_cfg_write : (let b : State := { up with sys := { up.sys with op := some { op := 1 } } }
    b.sys.op ≠ none ∧ errOf .sys (.configWrite 1 0 img0) b = 0x0104 ∧ errOf .sys (.configLoad 1 0) b = 0x0104) ∧ up.sys.op = none ∧
    errOf .sys (.configWrite 1 0 img0) up = 0x0101 ∧ errOf .sys (.configWriteLoad 1 0 img0) (fused.put R.sysCfgLen_len (1984 * 1024 + 1)) = 0x0102 ∧
    (after (.configWrite 1 0 img0) (fused.put R.sysCfgLen_len (1984 * 1024))).jrnl.queue.length = 1 ∧ up.jRoom = true ∧
    up.activeImage = none ∧ errOf .sys (.configLoad 1 0) up = 0x0102 ∧ (after (.sysProfileWrite 1 3) up).get R.sysProfile_pend = 3 := by decide +kernel
theorem witness_cfg_end : up.sys.op = none ∧ (let s := fun (o : CfgOp) => withSys { inReset := false, op := some o } false
    (after (.configOperationEnd true) (s { op := 2, status := 3, digest := 7 })).groupWord R.sysCfgRes 1 = 3 ∧
    errOf .sys (.configOperationEnd false) (s { op := 1, img := some img0, slotB := true }) = 0x0106 ∧
    (after (.configOperationEnd true) (s { op := 1, img := some img0, slotB := true })).sys.slotB = some img0 ∧
    (after (.configOperationEnd true) (s { op := 1, img := some img0, slotB := true })).sys.active = true) := by decide +kernel
theorem witness_cfg_write_load_end : (let s := withSys { inReset := false, op := some { op := 3, img := some img0, slotB := true, digest := 7 } } false
    (after (.configOperationEnd true) s).groupWord R.sysCfgRes 1 = 8 ∧ (after (.configOperationEnd true) s).bit R.sysStat_slot = true) := by decide +kernel
def jr (x : JrnlState) : State := { up with jrnl := x }
def je (k : Nat) : JEntry := { opid := 5, cls := 1, kind := k }

theorem witness_drain : (jr {}).jrnl.queue = [] ∧ (let t := after .journalDrain (jr { queue := [je 0], next := 4097 })
    tget none t.jrnl.copyB 1 = some { je 0 with seq := 4097 } ∧ t.jrnl.queue = []) ∧
    (let o : OpenOp := ⟨5, 1, [], 0, some 1⟩; let s := jr { queue := [je 2], next := 4097, ops := [o], copyA := [(1, some (je 0))] }
     s.jrnl.ops = [o] ∧ (s.jrnl.next + 2 ^ 32 - 1) % 2 ^ 32 = 4096 ∧ tget none s.jrnl.copyA (s.jrnl.next % 4096) = some (je 0) ∧
     tget none (after .journalDrain s).jrnl.copyA 1 = some { je 3 with seq := 4097 } ∧ tget none (after .journalDrain s).jrnl.copyA 2 = some { je 2 with seq := 4098 }) := by decide +kernel
theorem witness_drain_gap : (let t := after .journalDrain (jr { queue := [je 0], gap := 3 })
    t.jrnl.gap = 0 ∧ t.jrnl.queue = [(jr {}).jEntry 0 0 7 0 [3]]) ∧
    (after .journalDrain (jr { queue := [je 0], waiting := [je 1, je 2] })).jrnl.queue = [je 1] ∧
    (after .journalDrain { jr { queue := [je 0] } with sys := { ladle := some ⟨0, 0, [], none, 0, true⟩ } }).jrnl.queue = [je 0] := by decide
theorem witness_window : (let w := jr { next := 3, load := some 1, copyB := [(1, some (je 0))] }
    w.jOldest = 0 ∧ (after .jrnlWindowLoadDone w).groupWord R.jrnlWinSt 2 = 0x22 ∧ (after .jrnlWindowLoadDone w).reg (R.jrnlWin 1) = 5) ∧
    (let w := jr { next := 8000, load := some 2 }
     (after .jrnlWindowLoadDone w).groupWord R.jrnlWinSt 1 = 3904 ∧ (after .jrnlWindowLoadDone w).groupWord R.jrnlWinSt 2 = 0) := by decide
theorem witness_life_operation : (after .lifeUpdate up).jrnl.queue.map JEntry.kind = [0, 2] ∧ (after .lifeUpdate up).jrnl.ops = [] := by decide
theorem witness_journal : (jr {}).jOwn.find? (fun o => o.cls == 1) = none ∧ (let o : OpenOp := ⟨5, 1, [], 0, none⟩; let s := jr { ops := [o] }
    s.jOwn.find? (fun o => o.cls == 1) = some o ∧ s.jRoom = true ∧ (after .tripIssueTimeout s).jrnl.queue.map JEntry.outcome = [2] ∧
    (after .tripIssueTimeout (jr { ops := [o], scanOpen := [o] })).jrnl.ops = [o] ∧ (after (.jrnlResolve 1 5) (jr { ops := [o], scanOpen := [o] })).jrnl.scanOpen = [] ∧ errOf .jrnl (.jrnlResolve 1 6) s = 0x0101 ∧ o.opid = (5 : Word).toNat ∧
    (let f := jr { ops := [o], queue := List.replicate 64 (je 2) }; f.jRoom = false ∧ (after .tripIssueTimeout f).jrnl.lost = 1)) ∧ Reaches up 1 .jrnl ∧
    (after (.jrnlCursorWrite 1 3) up).jrnl.load = some 3 ∧ up.jrnl.load = none ∧
    (let w := jr { next := 3, load := some 2, copyA := [(2, some (je 0))] }
     w.jOldest = 0 ∧ (after .jrnlWindowLoadDone w).groupWord R.jrnlWinSt 2 = 1 ∧ (after .jrnlWindowLoadDone w).reg (R.jrnlWin 1) = 5 ∧
     (after .jrnlWindowLoadDone (jr { next := 3, load := some 3 })).groupWord R.jrnlWinSt 2 = 0) ∧ (after .jrnlPosInterval up).groupValid R.jrnlPos = true := by decide +kernel
theorem witness_life : (withSys {} true).evr.closed = true ∧ up.evr.closed = false ∧ (after .lifeUpdate up).life.copyA.map LifeRec.seq = some 0 ∧
    Pends (after .lifeUpdate up) .life 0 ∧ Reaches up 1 .life ∧ errOf .life (.lifeSelWrite 1 282) up = 0x0101 ∧
    (let s : State := { up with life := { counts := [(281, 2 ^ 40 + 3)] } }; (after (.lifeSelWrite 1 281) s).groupWord R.lifeVal 1 = 3 ∧
     (after (.lifeSelWrite 1 281) s).groupWord R.lifeVal 2 = 256) := by decide +kernel

/-- The active image, an operation not running, for a LOAD. -/
def loadable (img : CfgImage) : State := withSys { inReset := false, slotA := some img } false

theorem witness_cfg_load : (loadable img0).activeImage = some img0 ∧ (loadable img0).sys.op = none := by decide
theorem witness_load_accepted : (loadImage img0 ((loadable img0).cfgBegin { op := 2, slotB := (loadable img0).sys.active, digest := img0.digest0 })).isSome = true := by decide +kernel
/-- Two slots of one pair. -/
def img1 : CfgImage := { img0 with pairs := [(0, 9), (0, 9)] }
theorem witness_load_refused : (loadImage img1 ((loadable img1).cfgBegin { op := 2, slotB := (loadable img1).sys.active, digest := img1.digest0 })).isSome = false := by decide +kernel

/-! ## Invariants -/

theorem witness_invariants : Memory.wf (up.setWord 0x800000 5).mem = true ∧ (up.setWord 0x800000 5).mem ≠ [] ∧ step up = .next (timeTick up).fin :=
  ⟨by decide, by decide, rfl⟩

end Sys2Proof.Tests
end

namespace Sys2Proof.Machine
open Safety

-- Proofs are elaborated one after another here. The side conditions of the footprint lemmas below are default arguments that `decide`
-- proves; proofs elaborated at the same time wait for one another to evaluate those, and each that waits holds a thread and its stack.
set_option Elab.async false

/-! # What a step may touch

A footprint names the register bits, the parts of the state and the page headers that a step may change. A step within a footprint
leaves every other field, part and header as it was, and no pending bit is lost. Footprints compose, so that each function of the
model is judged once. -/

/-! ## Footprints -/

/-- Bits `lo` to `hi` of the registers `first` to `last`. -/
structure Zone where
  first : Nat
  last : Nat
  hi : Nat
  lo : Nat

/-- A field shares no bit with a zone. -/
def Zone.apart (z : Zone) (f : Fld) : Bool :=
  decide (f.addr < z.first) || decide (z.last < f.addr) || decide (f.hi < z.lo) || decide (z.hi < f.lo)

/-- A zone holds every bit of another. -/
def Zone.holds (z y : Zone) : Bool :=
  decide (z.first ≤ y.first) && decide (y.last ≤ z.last) && decide (z.lo ≤ y.lo) && decide (y.hi ≤ z.hi)

theorem Zone.apart_iff (z : Zone) (f : Fld) : z.apart f = true ↔ f.addr < z.first ∨ z.last < f.addr ∨ f.hi < z.lo ∨ z.hi < f.lo := by
  simp [Zone.apart, or_assoc]

theorem Zone.holds_iff (z y : Zone) : z.holds y = true ↔ z.first ≤ y.first ∧ y.last ≤ z.last ∧ z.lo ≤ y.lo ∧ y.hi ≤ z.hi := by
  simp [Zone.holds, and_assoc]

/-- The registers of a run, whole. -/
abbrev regZone (first last : Nat) : Zone := ⟨first, last, 31, 0⟩

/-- The bits of one field. -/
abbrev Fld.zone (f : Fld) : Zone := ⟨f.addr, f.addr, f.hi, f.lo⟩

/-- The registers of a result group. -/
abbrev Grp.zone (g : Grp) : Zone := regZone g.addr (g.addr + 4 * (g.words - 1))

/-- What a step may change. -/
structure Foot where
  zones : List Zone := []
  parts : List Part := []
  pages : List Page := []

/-- A field lies outside a footprint. -/
def Foot.clear (F : Foot) (f : Fld) : Bool := F.zones.all (fun z => z.apart f)

/-- A footprint holds a zone. -/
def Foot.has (F : Foot) (y : Zone) : Bool := F.zones.any (fun z => z.holds y)

/-- A footprint lies in another. -/
def Foot.le (F G : Foot) : Bool := F.zones.all G.has && F.parts.all (fun p => decide (p ∈ G.parts)) && F.pages.all (fun q => decide (q ∈ G.pages))

/-- `t` differs from `s` within a footprint only, and no pending bit of `s` is lost. -/
structure Foot.Within (F : Foot) (s t : State) : Prop where
  fld : ∀ f : Fld, F.clear f = true → t.get f = s.get f
  part : ∀ p : Part, p ∉ F.parts → p.same s t
  header : ∀ q : Page, q ∉ F.pages → t.hdr q = s.hdr q
  pend : ∀ (q : Page) (i : Nat), Pends s q i → Pends t q i

theorem Part.same_trans {p : Part} {s t u : State} (h : p.same s t) (h' : p.same t u) : p.same s u := by
  cases p
  case mem => exact fun a => (h' a).trans (h a)
  case host =>
    have h : t.host = { s.host with fwdOr := t.host.fwdOr } := h
    have h' : u.host = { t.host with fwdOr := u.host.fwdOr } := h'
    show u.host = { s.host with fwdOr := u.host.fwdOr }
    rw [h', h]
  all_goals exact Eq.trans h' h

theorem Foot.Within.refl (F : Foot) (s : State) : F.Within s s :=
  ⟨fun _ _ => rfl, fun p _ => Part.same_refl p s, fun _ _ => rfl, fun _ _ h => h⟩

theorem Foot.Within.trans {F : Foot} {s t u : State} (h : F.Within s t) (h' : F.Within t u) : F.Within s u :=
  ⟨fun f hf => (h'.fld f hf).trans (h.fld f hf), fun p hp => Part.same_trans (h.part p hp) (h'.part p hp),
    fun q hq => (h'.header q hq).trans (h.header q hq), fun q i hi => h'.pend q i (h.pend q i hi)⟩

theorem Zone.apart_of_holds {z y : Zone} {f : Fld} (h : z.holds y = true) (ha : z.apart f = true) : y.apart f = true := by
  rw [Zone.holds_iff] at h
  rw [Zone.apart_iff] at *
  omega

theorem Foot.apart_of_has {F : Foot} {y : Zone} {f : Fld} (h : F.has y = true) (hf : F.clear f = true) : y.apart f = true := by
  obtain ⟨z, hz, hy⟩ := List.any_eq_true.mp h
  exact Zone.apart_of_holds hy (List.all_eq_true.mp hf z hz)

theorem Foot.Within.mono {F G : Foot} {s t : State} (h : F.Within s t) (hle : F.le G = true) : G.Within s t := by
  simp only [Foot.le, Bool.and_eq_true, List.all_eq_true, decide_eq_true_eq] at hle
  obtain ⟨⟨hz, hp⟩, hq⟩ := hle
  exact ⟨fun f hf => h.fld f (List.all_eq_true.mpr fun z hm => Foot.apart_of_has (hz z hm) hf),
    fun p hp' => h.part p fun hm => hp' (hp p hm), fun q hq' => h.header q fun hm => hq' (hq q hm), h.pend⟩

/-- A footprint lies in one that lists all it lists. -/
theorem Foot.le_of_subset {F G : Foot} (h : ∀ z ∈ F.zones, z ∈ G.zones) (hp : ∀ p ∈ F.parts, p ∈ G.parts) (hq : ∀ q ∈ F.pages, q ∈ G.pages) :
    F.le G = true := by
  simp only [Foot.le, Bool.and_eq_true, List.all_eq_true, decide_eq_true_eq]
  exact ⟨⟨fun z hm => List.any_eq_true.mpr ⟨z, h z hm, (Zone.holds_iff _ _).mpr ⟨Nat.le_refl _, Nat.le_refl _, Nat.le_refl _, Nat.le_refl _⟩⟩, hp⟩, hq⟩

/-! ## What a footprint leaves -/

theorem Fld.of_whole (a : Nat) (w : Word) : (⟨a, 31, 0⟩ : Fld).of w = w.toNat := by
  simp [Fld.of, Fld.width, Nat.mod_eq_of_lt w.isLt]

theorem Fld.of_single (a i : Nat) (w : Word) : ((⟨a, i, i⟩ : Fld).of w).testBit 0 = w.getLsbD i := by
  rw [Fld.of_bit, BitVec.getLsbD]
  simp [Fld.width]

section
variable {F : Foot} {s t : State} (h : F.Within s t)
include h

theorem Foot.Within.get (f : Fld) (hf : F.clear f = true := by decide) : t.get f = s.get f := h.fld f hf

theorem Foot.Within.bit (f : Fld) (hf : F.clear f = true := by decide) : t.bit f = s.bit f := by
  unfold State.bit
  rw [h.fld f hf]

theorem Foot.Within.reg (a : Nat) (ha : F.clear ⟨a, 31, 0⟩ = true := by decide) : t.reg a = s.reg a := by
  have hw := h.fld ⟨a, 31, 0⟩ ha
  unfold State.get at hw
  rw [Fld.of_whole, Fld.of_whole] at hw
  exact BitVec.eq_of_toNat_eq hw

theorem Foot.Within.regBit (a i : Nat) (ha : F.clear ⟨a, i, i⟩ = true := by decide) : t.regBit a i = s.regBit a i := by
  have hw := congrArg (fun x => x.testBit 0) (h.fld ⟨a, i, i⟩ ha)
  unfold State.get at hw
  rwa [Fld.of_single, Fld.of_single] at hw

end

/-! ## Steps that touch one thing -/

section
variable {F : Foot} (s : State)

/-- A step that writes no register and no header. -/
theorem within_of_parts {t : State} (hr : t.regs = s.regs) (hh : t.hdrs = s.hdrs) (hp : ∀ p : Part, p ∉ F.parts → p.same s t) : F.Within s t :=
  ⟨fun f _ => get_congr s t hr f, hp, fun q _ => hdr_congr s t hh q, fun q _ hi => by rw [Pends, hdr_congr s t hh q]; exact hi⟩

/-- A step that writes one field. -/
theorem within_put (f : Fld) (v : Nat) (hf : F.has f.zone = true := by decide) (h : f.lo ≤ f.hi := by decide) (hh : f.hi < 32 := by decide) :
    F.Within s (s.put f v) := by
  refine ⟨fun g hg => get_put_ne s f g v h hh ?_, fun p _ => ?_, fun _ _ => rfl, fun _ _ hi => hi⟩
  · have ha := Foot.apart_of_has hf hg
    simp only [Zone.apart_iff] at ha
    omega
  · cases p
    case mem => exact fun _ => rfl
    all_goals rfl

theorem within_putBit (f : Fld) (b : Bool) (hf : F.has f.zone = true := by decide) (h : f.lo ≤ f.hi := by decide) (hh : f.hi < 32 := by decide) :
    F.Within s (s.putBit f b) := within_put s f _ hf h hh

theorem within_setRegBit (a i : Nat) (b : Bool) (hf : F.has ⟨a, a, i, i⟩ = true := by decide) (hh : i < 32 := by decide) :
    F.Within s (s.setRegBit a i b) := within_put s ⟨a, i, i⟩ _ hf (Nat.le_refl i) hh

theorem Fld.put_whole (a : Nat) (w v : Word) : (⟨a, 31, 0⟩ : Fld).put w v.toNat = v := by
  simp [Fld.put, Fld.of, Fld.width, Nat.mod_eq_of_lt w.isLt, Nat.mod_eq_of_lt v.isLt]

/-- A step that writes one register. -/
theorem within_setReg (a : Nat) (v : Word) (hf : F.has (regZone a a) = true := by decide) : F.Within s (s.setReg a v) := by
  have e : s.setReg a v = s.put ⟨a, 31, 0⟩ v.toNat := by simp only [State.put, Fld.put_whole]
  rw [e]
  exact within_put s _ _ hf (Nat.zero_le _) (Nat.lt_succ_self 31)

/-- A step that changes the header of one page and keeps its pending bits. -/
theorem within_updHdr (p : Page) (f : PageHdr → PageHdr) (hp : p ∈ F.pages)
    (hf : ∀ i, (s.hdr p).irqPend.getLsbD i = true → (f (s.hdr p)).irqPend.getLsbD i = true) : F.Within s (s.updHdr p f) := by
  refine ⟨fun _ _ => rfl, fun p _ => ?_, fun q hq => hdr_updHdr_ne s p q f fun e => hq (e ▸ hp), fun q i hi => ?_⟩
  · cases p
    case mem => exact fun _ => rfl
    all_goals rfl
  · unfold Pends at hi ⊢
    by_cases e : q = p
    · subst e; rw [hdr_updHdr_same]; exact hf i hi
    · rw [hdr_updHdr_ne s p q f e]; exact hi

theorem within_edge (p : Page) (b : Nat) (hp : p ∈ F.pages := by decide) : F.Within s (s.edge p b) :=
  within_updHdr s p _ hp fun i hi => by rw [BitVec.getLsbD_or, hi, Bool.true_or]

theorem within_raise (p : Page) (c m : Nat) (hp : p ∈ F.pages := by decide) : F.Within s (s.raise p c m) :=
  within_updHdr s p _ hp fun i hi => by split <;> exact hi

theorem within_edgeIf (c : Bool) (p : Page) (b : Nat) (hp : p ∈ F.pages := by decide) : F.Within s (s.edgeIf c p b) := by
  unfold State.edgeIf
  split
  · exact within_edge s p b hp
  · exact .refl F s

end

/-! ### One part -/

section
variable {F : Foot} (s : State)

/-- A step that changes one part. -/
theorem within_of_part (q : Part) {t : State} (hq : q ∈ F.parts) (hr : t.regs = s.regs) (hh : t.hdrs = s.hdrs)
    (hp : ∀ p : Part, p = q ∨ p.same s t) : F.Within s t :=
  within_of_parts s hr hh fun p hn => (hp p).resolve_left fun e => hn (e ▸ hq)

theorem within_mem (x : List Host.Cell) (hp : .mem ∈ F.parts := by decide) : F.Within s { s with mem := x } :=
  within_of_part s .mem hp rfl rfl fun p => by cases p <;> first | exact .inl rfl | exact .inr rfl
theorem within_out (x : List Emit) (hp : .out ∈ F.parts := by decide) : F.Within s { s with out := x } :=
  within_of_part s .out hp rfl rfl fun p => by cases p <;> first | exact .inl rfl | exact .inr rfl | exact .inr fun _ => rfl
theorem within_free (x : Nat) (hp : .free ∈ F.parts := by decide) : F.Within s { s with free := x } :=
  within_of_part s .free hp rfl rfl fun p => by cases p <;> first | exact .inl rfl | exact .inr rfl | exact .inr fun _ => rfl
theorem within_host (x : HostState) (hp : .host ∈ F.parts := by decide) : F.Within s { s with host := x } :=
  within_of_part s .host hp rfl rfl fun p => by cases p <;> first | exact .inl rfl | exact .inr rfl | exact .inr fun _ => rfl
theorem within_afe (x : AfeState) (hp : .afe ∈ F.parts := by decide) : F.Within s { s with afe := x } :=
  within_of_part s .afe hp rfl rfl fun p => by cases p <;> first | exact .inl rfl | exact .inr rfl | exact .inr fun _ => rfl
theorem within_dfc (x : DfcState) (hp : .dfc ∈ F.parts := by decide) : F.Within s { s with dfc := x } :=
  within_of_part s .dfc hp rfl rfl fun p => by cases p <;> first | exact .inl rfl | exact .inr rfl | exact .inr fun _ => rfl
theorem within_grid (x : GridState) (hp : .grid ∈ F.parts := by decide) : F.Within s { s with grid := x } :=
  within_of_part s .grid hp rfl rfl fun p => by cases p <;> first | exact .inl rfl | exact .inr rfl | exact .inr fun _ => rfl
theorem within_phe (x : PheState) (hp : .phe ∈ F.parts := by decide) : F.Within s { s with phe := x } :=
  within_of_part s .phe hp rfl rfl fun p => by cases p <;> first | exact .inl rfl | exact .inr rfl | exact .inr fun _ => rfl
theorem within_pea (x : PeaState) (hp : .pea ∈ F.parts := by decide) : F.Within s { s with pea := x } :=
  within_of_part s .pea hp rfl rfl fun p => by cases p <;> first | exact .inl rfl | exact .inr rfl | exact .inr fun _ => rfl
theorem within_trm (x : TrmState) (hp : .trm ∈ F.parts := by decide) : F.Within s { s with trm := x } :=
  within_of_part s .trm hp rfl rfl fun p => by cases p <;> first | exact .inl rfl | exact .inr rfl | exact .inr fun _ => rfl
theorem within_dup (x : DupState) (hp : .dup ∈ F.parts := by decide) : F.Within s { s with dup := x } :=
  within_of_part s .dup hp rfl rfl fun p => by cases p <;> first | exact .inl rfl | exact .inr rfl | exact .inr fun _ => rfl
theorem within_evr (x : EvrState) (hp : .evr ∈ F.parts := by decide) : F.Within s { s with evr := x } :=
  within_of_part s .evr hp rfl rfl fun p => by cases p <;> first | exact .inl rfl | exact .inr rfl | exact .inr fun _ => rfl
theorem within_drc (x : DrcState) (hp : .drc ∈ F.parts := by decide) : F.Within s { s with drc := x } :=
  within_of_part s .drc hp rfl rfl fun p => by cases p <;> first | exact .inl rfl | exact .inr rfl | exact .inr fun _ => rfl
theorem within_jrnl (x : JrnlState) (hp : .jrnl ∈ F.parts := by decide) : F.Within s { s with jrnl := x } :=
  within_of_part s .jrnl hp rfl rfl fun p => by cases p <;> first | exact .inl rfl | exact .inr rfl | exact .inr fun _ => rfl
theorem within_life (x : LifeState) (hp : .life ∈ F.parts := by decide) : F.Within s { s with life := x } :=
  within_of_part s .life hp rfl rfl fun p => by cases p <;> first | exact .inl rfl | exact .inr rfl | exact .inr fun _ => rfl
theorem within_gos (x : GosState) (hp : .gos ∈ F.parts := by decide) : F.Within s { s with gos := x } :=
  within_of_part s .gos hp rfl rfl fun p => by cases p <;> first | exact .inl rfl | exact .inr rfl | exact .inr fun _ => rfl
theorem within_mac (x : MacState) (hp : .mac ∈ F.parts := by decide) : F.Within s { s with mac := x } :=
  within_of_part s .mac hp rfl rfl fun p => by cases p <;> first | exact .inl rfl | exact .inr rfl | exact .inr fun _ => rfl
theorem within_gal (x : GalState) (hp : .gal ∈ F.parts := by decide) : F.Within s { s with gal := x } :=
  within_of_part s .gal hp rfl rfl fun p => by cases p <;> first | exact .inl rfl | exact .inr rfl | exact .inr fun _ => rfl
theorem within_sram (x : SramState) (hp : .sram ∈ F.parts := by decide) : F.Within s { s with sram := x } :=
  within_of_part s .sram hp rfl rfl fun p => by cases p <;> first | exact .inl rfl | exact .inr rfl | exact .inr fun _ => rfl

theorem within_emit (e : Emit) (hp : .out ∈ F.parts := by decide) : F.Within s (s.emit e) := within_out s _ hp
theorem within_fresh (hp : .free ∈ F.parts := by decide) : F.Within s s.fresh.2 := within_free s _ hp
theorem within_setBytes (a : Nat) (bs : List Byte) (hp : .mem ∈ F.parts := by decide) : F.Within s (s.setBytes a bs) := within_mem s _ hp
theorem within_setWord (a : Nat) (w : Word) (hp : .mem ∈ F.parts := by decide) : F.Within s (s.setWord a w) := within_mem s _ hp
theorem within_setWords (a : Nat) (ws : List Word) (hp : .mem ∈ F.parts := by decide) : F.Within s (s.setWords a ws) := within_mem s _ hp

/-! ### Result groups -/

theorem within_setRegs (ws : List Word) : ∀ (a : Nat) (s : State), (∀ i, i < ws.length → F.has (regZone (a + 4 * i) (a + 4 * i)) = true) →
    F.Within s (s.setRegs a ws) := by
  induction ws with
  | nil => exact fun _ s _ => .refl F s
  | cons w ws ih =>
    intro a s h
    refine (within_setReg s a w (h 0 (Nat.succ_pos _))).trans (ih (a + 4) _ fun i hi => ?_)
    have e : a + 4 + 4 * i = a + 4 * (i + 1) := by omega
    rw [e]
    exact h (i + 1) (Nat.succ_lt_succ hi)

theorem Foot.has_mono {z y : Zone} (h : F.has z = true) (hz : z.holds y = true) : F.has y = true := by
  obtain ⟨x, hx, hxz⟩ := List.any_eq_true.mp h
  refine List.any_eq_true.mpr ⟨x, hx, ?_⟩
  rw [Zone.holds_iff] at *
  omega

theorem within_invalidate (g : Grp) (hz : F.has (regZone g.addr g.addr) = true := by decide) : F.Within s (s.invalidate g) :=
  within_setReg s g.addr _ hz

/-- A completion writes its group and counts on its page. -/
theorem within_complete (g : Grp) (ws : List Word) (hz : F.has g.zone = true := by decide)
    (hp : ((pageOf g.addr).all fun p => decide (p ∈ F.pages)) = true := by decide) : F.Within s (s.complete g ws) := by
  have hw : ∀ i, i < (ws.take (g.words - 1)).length → F.has (regZone (g.addr + 4 + 4 * i) (g.addr + 4 + 4 * i)) = true := fun i hi => by
    rw [List.length_take] at hi
    refine Foot.has_mono hz ?_
    simp only [Zone.holds_iff]
    omega
  have ha : F.has (regZone g.addr g.addr) = true := Foot.has_mono hz (by simp [Zone.holds])
  have h : ∀ v, F.Within s ((s.setRegs (g.addr + 4) (ws.take (g.words - 1))).setReg g.addr v) := fun v =>
    (within_setRegs _ _ s hw).trans (within_setReg _ g.addr _ ha)
  unfold State.complete
  dsimp only
  split
  case h_1 p hg =>
    rw [hg] at hp
    exact (h _).trans (within_updHdr _ p _ (of_decide_eq_true hp) fun _ hi => hi)
  case h_2 => exact h _

end

/-- A completion leaves every part as it was. -/
theorem complete_same (s : State) (g : Grp) (ws : List Word) (p : Part) : p.same s (s.complete g ws) :=
  (within_complete (F := { zones := [g.zone], pages := Page.all }) s g ws (by simp [Foot.has, Zone.holds])
    (by cases pageOf g.addr with | none => rfl | some q => cases q <;> rfl)).part p List.not_mem_nil

/-! ## Composition -/

section
variable {F : Foot} {s t u : State}

theorem Foot.Within.ite {c : Prop} [Decidable c] (ht : F.Within s t) (hu : F.Within s u) : F.Within s (if c then t else u) := by
  split
  · exact ht
  · exact hu

theorem Foot.Within.foldl {α : Type} {l : List α} {f : State → α → State} (h : F.Within s t) (hf : ∀ x ∈ l, ∀ u, F.Within u (f u x)) :
    F.Within s (l.foldl f t) :=
  List.foldlRecOn (motive := F.Within s) l f h fun u hu x hx => hu.trans (hf x hx u)

theorem Foot.Within.iterUp {n : Nat} {f : Nat → State → State} (h : F.Within s t) (hf : ∀ i, i < n → ∀ u, F.Within u (f i u)) :
    F.Within s (iterUp n f t) :=
  h.foldl fun i hi u => hf i (List.mem_range.mp hi) u

/-- A step under another footprint that this one holds. -/
theorem Foot.Within.then {G : Foot} (h : F.Within s t) (h' : G.Within t u) (hle : G.le F = true := by decide) : F.Within s u := h.trans (h'.mono hle)

end

/-! ## Frames -/

/-- A step within a footprint of single registers, ended, has the footprint's frame. -/
theorem Foot.Within.frame {F : Foot} {s u : State} (h : F.Within s u) {l : List Nat} {ps : List Part} {pg : List Page}
    (hl : ∀ z ∈ F.zones, z.first ∈ l ∧ z.last = z.first := by decide) (hp : ∀ p ∈ F.parts, p ∈ ps := by decide)
    (hq : ∀ q ∈ F.pages, q ∈ pg := by decide) : Frame l ps pg s u.fin := by
  refine frame_fin (fun a ha => h.reg a (List.all_eq_true.mpr fun z hz => ?_)) (fun p hn => h.part p fun hm => hn (hp p hm))
    fun q hn => h.header q fun hm => hn (hq q hm)
  obtain ⟨hf, he⟩ := hl z hz
  have hne : a ≠ z.first := fun e => ha (e ▸ hf)
  rw [Zone.apart_iff]
  exact (Nat.lt_or_gt_of_ne hne).imp_right fun hgt => .inl (he ▸ hgt)

/-! # Faults and the gates

What a refused access, a change of authority and a member fault may touch (R151, R196, R283, R328, R359). -/

/-! ## Accesses -/

/-- A refused access is recorded on the MEM page. -/
def recordFoot : Foot where
  zones := [R.memFault.zone]
  pages := [.mem]

theorem within_memFault (s : State) (f : MemFail) (m a : Nat) (w : Bool) : recordFoot.Within s (s.memFault f m a w) := by
  have h : ∀ (code bit : Nat) (ws : List Word), recordFoot.Within s (((s.raise .mem code m).edgeIf (bit < 3) .mem bit).complete R.memFault ws) :=
    fun code bit ws => ((within_raise s .mem code m).trans (within_edgeIf _ _ .mem bit)).trans (within_complete _ R.memFault ws)
  cases f <;> first | exact h _ _ _ | exact .refl _ s

/-- An engine's step, or the record of the access that was refused. -/
theorem Foot.Within.engine {F : Foot} {s t : State} (h : F.Within s t) (m : Nat) (acc : List (Nat × Nat × Bool)) (eff : State → State)
    (he : F.Within t (eff t)) (hle : recordFoot.le F = true := by decide) : F.Within s (t.engine m acc eff) := by
  unfold State.engine
  split
  · exact h.then (within_memFault _ _ _ _ _) hle
  · exact h.trans he

theorem within_addLife {F : Foot} (s : State) (i n : Nat) (hp : .life ∈ F.parts := by decide) : F.Within s (s.addLife i n) := within_life s _ hp

/-- A double-bit error is counted and recorded. -/
def eccFoot : Foot where
  zones := [R.memFault.zone, regZone (R.memEccCnt 0) (R.memEccCnt 47)]
  parts := [.life]
  pages := [.mem]

/-! ## Events and the journal -/

theorem within_event {F : Foot} (s : State) (cls code index : Nat) (d0 d1 : Word) (d2 : Nat) (hp : .evr ∈ F.parts := by decide) :
    F.Within s (s.event cls code index d0 d1 d2) := within_evr s _ hp

/-- A flush may start. -/
def flushFoot : Foot where
  zones := [R.evrStat_flushing.zone]
  parts := [.evr]

theorem within_startFlush (s : State) (trip : Bool) : flushFoot.Within s (s.startFlush trip) :=
  .ite (.refl _ s) ((within_evr s _).trans (within_putBit _ R.evrStat_flushing true))

/-- An entry enters the journal's queue or is refused. -/
def journalFoot : Foot where
  parts := [.jrnl]
  pages := [.jrnl]

theorem within_jOffer (s : State) (e : JEntry) : journalFoot.Within s (s.jOffer e) :=
  .ite (within_jrnl s _) (.ite (within_jrnl s _) ((within_jrnl s _).trans (within_edge _ .jrnl 1)))

theorem within_jOpen (s : State) (cls : Nat) (data : List Word) : journalFoot.Within s (s.jOpen cls data) :=
  (within_jOffer s _).trans (within_jrnl _ _)

theorem within_jDone (s : State) (op : OpenOp) (outcome : Nat) (data : List Word) : journalFoot.Within s (s.jDone op outcome data) :=
  (within_jOffer s _).trans (within_jrnl _ _)

theorem within_jDoneAll (s : State) (p : OpenOp → Bool) (outcome : Nat) (data : OpenOp → List Word) :
    journalFoot.Within s (s.jDoneAll p outcome data) :=
  (Foot.Within.refl _ s).foldl fun op _ u => within_jDone u op outcome (data op)

/-! ## Fabric inputs and GOOSE datasets -/

/-- Fabric inputs that this member sources may change. -/
def fabricFoot : Foot where
  zones := [regZone (R.galFbiState 0) (R.galFbiInv 7)]
  parts := [.gal, .out, .trm]

theorem within_setArrBit {F : Foot} (s : State) (a i : Nat) (b : Bool) (hf : F.has (regZone (a + 4 * (i / 32)) (a + 4 * (i / 32))) = true) :
    F.Within s (s.setArrBit a i b) :=
  within_setRegBit s _ _ b (Foot.has_mono hf (by simp [Zone.holds]; omega)) (Nat.mod_lt _ (by decide))

theorem within_requestPass {F : Foot} (s : State) (hp : .trm ∈ F.parts := by decide) : F.Within s s.requestPass := within_trm s _ hp

theorem within_setFbi (s : State) (i : Nat) (hi : i < 256) (r : GinBit × Bool) : fabricFoot.Within s (s.setFbi i r) := by
  have hz : ∀ k, i / 32 = k → fabricFoot.has (regZone (R.galFbiState 0 + 4 * k) (R.galFbiState 0 + 4 * k)) = true ∧
      fabricFoot.has (regZone (R.galFbiInv 0 + 4 * k) (R.galFbiInv 0 + 4 * k)) = true := by
    intro k hk
    simp [Foot.has, fabricFoot, Zone.holds, R.galFbiState, R.galFbiInv]
    omega
  unfold State.setFbi
  extract_lets _ s1 s2
  have h1 : fabricFoot.Within s s1 := within_gal s _
  have h2 : fabricFoot.Within s s2 :=
    (h1.trans (within_setArrBit _ (R.galFbiState 0) i _ (hz _ rfl).1)).trans (within_setArrBit _ (R.galFbiInv 0) i _ (hz _ rfl).2)
  exact .ite (h2.trans (within_requestPass _)) h2

theorem within_fbiRefresh (s : State) (i : Nat) (hi : i < 256) : fabricFoot.Within s (fbiRefresh i s) := by
  unfold fbiRefresh
  dsimp only
  split
  · exact within_setFbi s i hi _
  · split <;> exact within_setFbi s i hi _

theorem within_fabricSend (s : State) : fabricFoot.Within s (fabricSend s) := by
  have hf : ∀ t, fabricFoot.Within t (fbiFrom t.selfId t) := fun t =>
    (Foot.Within.refl _ t).iterUp fun i hi u => .ite (within_fbiRefresh u i hi) (.refl _ u)
  have hg := fun x => within_gal (F := fabricFoot) s x
  refine .ite (.refl _ s) (Foot.Within.trans ?_ (hf _))
  exact .ite ((hg _).trans (within_emit _ _)) (hg _)

/-- Datasets take new states and queue frames. -/
def gooseFoot : Foot where
  zones := [R.memFault.zone]
  parts := [.gos, .mac]
  pages := [.mem, .gos]

theorem within_updMac {F : Foot} (s : State) (p : Nat) (f : MacPort → MacPort) (hp : .mac ∈ F.parts := by decide) : F.Within s (s.updMac p f) :=
  within_mac s _ hp

theorem within_dsQueue (s : State) (d : Nat) (first : Bool) : gooseFoot.Within s (dsQueue d first s) := by
  unfold dsQueue
  extract_lets x ports merged f prp seq _ s1 s2
  have h1 : gooseFoot.Within s s1 := within_gos s _
  have h2 : gooseFoot.Within s s2 := h1.foldl fun p _ u => within_updMac u p _
  exact .ite ((h2.trans (within_gos _ _)).trans (within_edge _ .gos 2)) h2

theorem within_dsNew (s : State) (d st : Nat) : gooseFoot.Within s (dsNew d st s) :=
  (Foot.Within.refl _ s).engine _ _ _ (.ite (((within_gos s _).trans (within_gos _ _)).trans (within_dsQueue _ d true)) (within_gos s _))

theorem within_gosGateOpen (s : State) : gooseFoot.Within s (gosGateOpen s) :=
  .ite (.refl _ s) ((Foot.Within.refl _ s).iterUp fun d _ u => .ite (within_dsNew u d _) (.refl _ u))

theorem within_gosGateClose (s : State) : gooseFoot.Within s (gosGateClose s) :=
  (Foot.Within.refl _ s).iterUp fun p _ u => within_updMac u p _

/-! ## Gates and authority -/

theorem within_shadowSend {F : Foot} (s : State) (hp : .out ∈ F.parts := by decide) : F.Within s (shadowSend s) :=
  .ite (within_emit s _ hp) (.refl F s)

/-- FO_DRV takes a value. -/
def driveFoot : Foot where
  zones := [R.trmFoDrv_drv.zone, R.evrStat_flushing.zone]
  parts := [.evr, .out]

theorem within_setDrv (s : State) (v : Nat) : driveFoot.Within s (s.setDrv v) := by
  unfold State.setDrv
  extract_lets old s1 s2
  have h1 : driveFoot.Within s s1 := within_put s R.trmFoDrv_drv v
  have h2 : driveFoot.Within s s2 := .ite (h1.then (within_startFlush _ true)) h1
  exact .ite (.refl _ s) (h2.trans (within_shadowSend _))

/-- What follows a gate's change. -/
def gateTail : Foot where
  zones := [R.trmFoDrv_drv.zone, R.evrStat_flushing.zone, R.memFault.zone, regZone (R.galFbiState 0) (R.galFbiInv 7)]
  parts := [.evr, .out, .jrnl, .gal, .trm, .gos, .mac]
  pages := [.jrnl, .mem, .gos]

/-- The gates follow their condition. -/
def gateFoot : Foot where
  zones := [R.trmStat_fo_gate.zone, R.trmStat_net_gate.zone, R.gosStat_net_gate.zone] ++ gateTail.zones
  parts := gateTail.parts
  pages := gateTail.pages

/-- Both gates take their condition. -/
def putGates (o : Bool) (s : State) : State := ((s.putBit R.trmStat_fo_gate o).putBit R.trmStat_net_gate o).putBit R.gosStat_net_gate o

/-- What an opened gate starts and a closed one ends. -/
def gateFollow (o : Bool) (s : State) : State :=
  if o then fabricSend (gosGateOpen (s.setDrv (s.get R.trmFoCmd_cmd)))
  else fabricSend (gosGateClose (iterUp 16 (fun k (s : State) => outputDone k 3 0 4 s) ((s.setDrv 0).jDoneAll (fun op => op.cls == 1) 3 (fun op => op.data))))

theorem gateUpdate_eq (s : State) :
    gateUpdate s = if s.gateCond = s.bit R.trmStat_fo_gate then s else gateFollow s.gateCond (putGates s.gateCond s) := rfl

theorem within_gateFollow (o : Bool) (s : State) : gateTail.Within s (gateFollow o s) := by
  have hd := fun v => (Foot.Within.refl gateTail s).then (within_setDrv s v)
  refine .ite ?_ ?_
  · exact ((hd _).then (within_gosGateOpen _)).then (within_fabricSend _)
  · have hj := (hd 0).then (within_jDoneAll _ (fun op => op.cls == 1) 3 (fun op => op.data))
    have ho := hj.iterUp (n := 16) (f := fun k s => outputDone k 3 0 4 s) fun k _ u => (within_jDoneAll u _ _ _).mono rfl
    exact (ho.then (within_gosGateClose _)).then (within_fabricSend _)

theorem within_putGates (o : Bool) (s : State) : gateFoot.Within s (putGates o s) :=
  ((within_putBit s R.trmStat_fo_gate o).trans (within_putBit _ R.trmStat_net_gate o)).trans (within_putBit _ R.gosStat_net_gate o)

theorem within_gateUpdate (s : State) : gateFoot.Within s (gateUpdate s) := by
  rw [gateUpdate_eq]
  exact .ite (.refl _ s) ((within_putGates _ s).then (within_gateFollow _ _))

/-- The FO gate stands as its condition after the gates have followed it (R196). -/
theorem foGate_gateUpdate (s : State) : (gateUpdate s).bit R.trmStat_fo_gate = s.gateCond := by
  rw [gateUpdate_eq]
  split
  case isTrue h => exact h.symm
  case isFalse h =>
    rw [(within_gateFollow _ _).bit R.trmStat_fo_gate]
    unfold putGates
    rw [bit_putBit_ne _ _ _ _ (by decide) (by decide) (by decide), bit_putBit_ne _ _ _ _ (by decide) (by decide) (by decide),
      bit_putBit_same _ _ _ rfl (by decide)]

/-- DUP STAT.AUTH takes a state and the gates follow. -/
def authFoot : Foot where
  zones := R.dupStat_auth.zone :: gateFoot.zones
  parts := .dup :: gateFoot.parts
  pages := .dup :: gateFoot.pages

theorem within_setAuth (s : State) (a : Nat) (out : Bool) : authFoot.Within s (setAuth a out s) := by
  unfold setAuth
  extract_lets _ s1 _ s2
  have h1 : authFoot.Within s s1 := within_dup s _
  have h2 : authFoot.Within s s2 := h1.trans (within_dup _ _)
  have h3 := h2.trans (within_put _ R.dupStat_auth a)
  exact .ite (h1.then (within_gateUpdate _)) (((h3.trans (within_edge _ .dup 0)).trans (within_event _ _ _ _ _ _ _)).then (within_gateUpdate _))

theorem within_healthLoss (s : State) : authFoot.Within s (healthLoss s) :=
  .ite (within_setAuth s _ _) ((within_gateUpdate s).mono rfl)

/-- A member fault keeps the gates' condition false, so the FO gate closes (R151). -/
theorem foGate_healthLoss (s : State) (h : s.bit R.peaStat_fault = true) : (healthLoss s).bit R.trmStat_fo_gate = false := by
  have hc : ∀ u : State, u.bit R.peaStat_fault = true → (gateUpdate u).bit R.trmStat_fo_gate = false := fun u hu => by
    rw [foGate_gateUpdate]
    simp [State.gateCond, hu]
  have hp : ∀ u : State, u.bit R.peaStat_fault = true → ∀ v, (u.put R.dupStat_auth v).bit R.peaStat_fault = true := fun u hu v => by
    rw [(within_put (F := authFoot) u R.dupStat_auth v).bit R.peaStat_fault, hu]
  unfold healthLoss
  split
  · unfold setAuth
    extract_lets _ s1 _ s2
    split
    · exact hc s1 h
    · exact hc _ (hp s2 h _)
  · exact hc s h

/-! ## Member faults -/

/-- A member fault (R150, R151). -/
def faultFoot : Foot where
  zones := [R.peaStat_fault.zone, R.peaStat_fcause.zone, R.peaFaultInfo.zone] ++ authFoot.zones
  parts := [.pea, .life] ++ authFoot.parts
  pages := .pea :: authFoot.pages

theorem within_memberFault (s : State) (p place e cause row : Nat) : faultFoot.Within s (memberFault p place e cause row s) := by
  unfold memberFault
  extract_lets first fs _ s1 least cnt s2 s3
  have h1 : faultFoot.Within s s1 := within_pea s _
  have h2 : faultFoot.Within s s2 :=
    .ite ((h1.trans (within_put _ R.peaStat_fcause _)).trans (within_complete _ R.peaFaultInfo _)) (h1.trans (within_complete _ R.peaFaultInfo _))
  have h3 : faultFoot.Within s s3 := .ite (h2.trans (within_addLife _ 8 1)) h2
  have h4 := (h3.trans (within_putBit _ R.peaStat_fault true)).trans (within_edge _ .pea 1)
  exact (h4.trans (within_event _ _ _ _ _ _ _)).then (within_healthLoss _)

/-! # Evaluating the slots of a pair

What the evaluation of a pair's slots keeps: the running tick, the committed bytes, and every pair but for the counts of tolerated
disagreements and analog misses of its own (R145, R148, R149). -/

/-- What a slot's evaluation may touch. -/
def evalFoot : Foot where
  zones := regZone (R.memEccCnt 0) (R.memEccCnt 47) :: faultFoot.zones
  parts := [.mem, .free] ++ faultFoot.parts
  pages := faultFoot.pages

/-- `t` follows `s` in the evaluation of slots of pair `p`. -/
structure Judged (p : Nat) (s t : State) : Prop where
  within : evalFoot.Within s t
  committed : t.pea.committed = s.pea.committed
  tick : t.pea.tick = s.pea.tick
  others : ∀ q, q ≠ p → t.pairRun q = s.pairRun q
  own : ∃ d a, t.pairRun p = { s.pairRun p with softDec := d, softAna := a }

section
variable {p : Nat} {s t u : State}

theorem Judged.refl (p : Nat) (s : State) : Judged p s s := ⟨.refl _ s, rfl, rfl, fun _ _ => rfl, _, _, rfl⟩

theorem Judged.trans (h : Judged p s t) (h' : Judged p t u) : Judged p s u := by
  obtain ⟨d, a, ho⟩ := h.own
  obtain ⟨d', a', ho'⟩ := h'.own
  exact ⟨h.within.trans h'.within, h'.committed.trans h.committed, h'.tick.trans h.tick,
    fun q hq => (h'.others q hq).trans (h.others q hq), d', a', by rw [ho', ho]⟩

theorem Judged.ite {c : Prop} [Decidable c] (ht : Judged p s t) (hu : Judged p s u) : Judged p s (if c then t else u) := by
  split
  · exact ht
  · exact hu

theorem Judged.foldl {α : Type} {l : List α} {f : State → α → State} (h : Judged p s t) (hf : ∀ x u, Judged p u (f u x)) : Judged p s (l.foldl f t) :=
  List.foldlRecOn (motive := Judged p s) l f h fun u hu x _ => hu.trans (hf x u)

/-- A step that leaves the bytes, the tick and the pairs of the array. -/
theorem Judged.of_kept (h : evalFoot.Within s t) (hc : t.pea.committed = s.pea.committed := by with_reducible rfl) (ht : t.pea.tick = s.pea.tick := by with_reducible rfl)
    (hp : t.pea.pair = s.pea.pair := by with_reducible rfl) : Judged p s t := by
  have hr : ∀ q, t.pairRun q = s.pairRun q := fun q => by unfold State.pairRun; rw [hp]
  exact ⟨h, hc, ht, fun q _ => hr q, _, _, hr p⟩

/-- A step that does not touch the array. -/
theorem Judged.of_apart {F : Foot} (h : F.Within s t) (hle : F.le evalFoot = true := by decide) (hp : Part.pea ∉ F.parts := by decide) : Judged p s t := by
  have e : t.pea = s.pea := h.part .pea hp
  exact .of_kept (h.mono hle) (by rw [e]) (by rw [e]) (by rw [e])

end

@[simp] theorem pairRun_updPair_same (s : State) (p : Nat) (f : PairRun → PairRun) : (s.updPair p f).pairRun p = f (s.pairRun p) := tget_tset_same ..

@[simp] theorem pairRun_updPair_ne (s : State) (p q : Nat) (f : PairRun → PairRun) (h : q ≠ p) : (s.updPair p f).pairRun q = s.pairRun q :=
  tget_tset_ne _ _ _ _ _ h

/-- A count of the pair's own. -/
theorem judged_updPair (s : State) (p : Nat) (f : PairRun → PairRun) (hf : ∀ x, ∃ d a, f x = { x with softDec := d, softAna := a }) :
    Judged p s (s.updPair p f) := by
  refine ⟨within_pea s _, rfl, rfl, fun q hq => pairRun_updPair_ne s p q f hq, ?_⟩
  rw [pairRun_updPair_same]
  exact hf _

/-! ## Member faults -/

/-- A member fault is noted in the array before health is judged. -/
theorem memberFault_pea (s : State) (p place e cause row : Nat) : (memberFault p place e cause row s).pea =
    { s.pea with faults := s.pea.faults ++ [(p, place, e, cause)], faultCount := s.pea.faultCount + 1 } := by
  unfold memberFault
  extract_lets first fs _ s1 least cnt s2 s3
  have h2 : s2.pea = s1.pea := by
    simp only [s2]
    split
    · exact complete_same _ _ _ .pea
    · exact complete_same _ _ _ .pea
  have h3 : s3.pea = s1.pea := by
    simp only [s3]
    split
    · exact h2
    · exact h2
  exact ((within_healthLoss _).part .pea (by decide)).trans h3

theorem judged_memberFault (s : State) (p q place e cause row : Nat) : Judged p s (memberFault q place e cause row s) := by
  have h := memberFault_pea s q place e cause row
  exact .of_kept ((within_memberFault s q place e cause row).mono rfl) (by rw [h]) (by rw [h]) (by rw [h])

/-! ## The words of a slot -/

theorem judged_setWork (s : State) (p e v : Nat) : Judged p s (s.setWork e v) := .of_kept (within_pea s _) rfl rfl rfl

theorem judged_setWord (s : State) (p a : Nat) (w : Word) : Judged p s (s.setWord a w) := .of_kept (within_setWord s a w) rfl rfl rfl

theorem judged_setWords (s : State) (p a : Nat) (ws : List Word) : Judged p s (s.setWords a ws) := .of_kept (within_setWords s a ws) rfl rfl rfl

/-- Words of a form of their own are drawn and stored. -/
def drawFoot : Foot where
  parts := [.mem, .free]

theorem within_bWords (a n : Nat) (s : State) : drawFoot.Within s (bWords a n s) :=
  (Foot.Within.refl _ s).iterUp fun _ _ u => (within_fresh u).trans (within_setWord _ _ _)

theorem judged_bWords (s : State) (p a n : Nat) : Judged p s (bWords a n s) := .of_apart (within_bWords a n s)

theorem judged_putStateB (s : State) (p : Nat) (c : Ctx) (mv : GMove) : Judged p s (putStateB c mv s) := by
  unfold putStateB
  extract_lets e _ s1 f
  have h1 : Judged p s s1 := .ite (.of_kept (within_pea s _)) (.refl p s)
  have hf : Judged p s f.2 := (h1.trans (judged_bWords _ p _ 4)).trans (.of_kept (within_fresh _) rfl rfl rfl)
  exact hf.trans (judged_setWords _ p _ _)

theorem judged_putState (s : State) (p : Nat) (c : Ctx) (o : EOut) : Judged p s (putState c o s) :=
  ((judged_setWords s p _ _).trans (judged_setWords _ p _ _)).trans (judged_putStateB _ p c o.mv)

theorem judged_initState (s : State) (p e : Nat) : Judged p s (initState e s) := by
  unfold initState
  extract_lets c ty th _ s1 s2
  have h1 : Judged p s s1 := .of_kept (within_pea s _)
  have h2 : Judged p s s2 := (h1.trans (judged_setWords _ p _ _)).trans (judged_setWords _ p _ _)
  exact (h2.trans (judged_bWords _ p _ 4)).trans (judged_setWords _ p _ _)

theorem judged_headMemory (s : State) (p : Nat) (c : Ctx) (upd : Bool) : Judged p s (headMemory c upd s) := by
  unfold headMemory
  extract_lets ty m old w s1
  have h1 : Judged p s s1 := .ite (judged_setWords s p _ _) (.refl p s)
  exact .ite (h1.trans (judged_setWord _ p _ _)) (.refl p s)

theorem judged_headOff (s : State) (p : Nat) (c : Ctx) (pol : Nat) : Judged p s (headOff c pol s) :=
  .ite (.refl p s) (.ite (judged_headMemory s p c true) (.ite (judged_setWords s p _ _) (.refl p s)))

theorem judged_clearLoaded (s : State) (p ty e q : Nat) : Judged p s (clearLoaded ty e q s) :=
  .ite (judged_setWord s p _ _) (.refl p s)

/-! ## A slot -/

theorem judged_edgeIf (s : State) (p : Nat) (c : Bool) (b : Nat) : Judged p s (s.edgeIf c .pea b) := by
  unfold State.edgeIf
  exact .ite (.of_kept (within_edge s .pea b) rfl rfl rfl) (.refl p s)

theorem judged_evalLive (s : State) (p place e r status : Nat) (qb : Bool) (v : Option BVerdict) :
    Judged p s (evalLive p place e r status qb v s) := by
  unfold evalLive
  extract_lets ty c a prev sN _ _ _ sQ fl ang rel _
  split
  case h_1 =>
    have hN : Judged p s sN := (judged_putState s p c a).trans (judged_setWork _ p e _)
    exact hN.trans (.of_kept (within_pea sN _))
  case h_2 b =>
    split
    · have hQ : Judged p s sQ := (judged_putState s p c a).trans (.of_kept (within_pea _ _))
      exact .ite ((hQ.trans (judged_setWork _ p e prev)).trans (judged_memberFault _ p p place e 1 r)) (hQ.trans (judged_setWork _ p e _))
    · extract_lets miss again s1 s2 dp dO dd differ inside cp co cd n _ s3 cause s4 s5
      have h1 : Judged p s s1 := .of_kept (within_pea s _)
      have h2 : Judged p s s2 :=
        .ite ((h1.trans (judged_updPair _ p _ fun x => ⟨x.softDec, x.softAna + 1, rfl⟩)).trans (.of_kept (within_edge _ .pea 2) rfl rfl rfl)) h1
      have h3 : Judged p s s3 := h2.trans (.of_kept (within_pea _ _))
      have h4 : Judged p s s4 :=
        .ite ((h3.trans (judged_putState _ p _ _)).trans (judged_updPair _ p _ fun x => ⟨x.softDec + 1, x.softAna, rfl⟩)) (h3.trans (judged_putState _ p c a))
      have h5 : Judged p s s5 := h4.trans (judged_edgeIf _ p _ 2)
      exact .ite (h5.trans (judged_setWork _ p e _)) ((h5.trans (judged_setWork _ p e prev)).trans (judged_memberFault _ p p place e cause r))

theorem judged_evalJudged (s : State) (p place e r : Nat) (v : Option BVerdict) : Judged p s (evalJudged p place e r v s) := by
  unfold evalJudged
  extract_lets ty fl test pol c s1 _ q mask qb qlow blk ib run _ s2 blocked status prev hold reset s3 _ s4 byte
  have h1 : Judged p s s1 := (judged_headOff s p c pol).trans (judged_setWork _ p e test)
  have h2 : Judged p s s2 := .of_kept (within_pea s _)
  have h3 : Judged p s s3 :=
    (h2.trans (.ite (judged_initState _ p e) (judged_headMemory _ p c false))).trans (judged_clearLoaded _ p ty e q)
  have h4 : Judged p s s4 := h3.trans (.of_kept (within_pea _ _))
  refine .ite (h1.trans (.of_kept (within_pea _ _))) (.ite ?_ (.ite ?_ (h4.trans (judged_setWork _ p e byte))))
  · exact (h2.trans (judged_evalLive _ p place e r status qb v)).trans (judged_clearLoaded _ p ty e q)
  · exact (h4.trans (judged_setWork _ p e prev)).trans (judged_memberFault _ p p place e 1 r)

/-! ## The lists of a pair -/

/-- A double-bit error in a bank of SRAM is counted there and recorded (R329). -/
theorem within_eccRead (s : State) (m a : Nat) (h : s.localAddr a < 0x2000000) : eccFoot.Within s (eccRead m a s) := by
  have hb : bankOf (s.localAddr a) < 48 := by unfold bankOf; omega
  have hz : eccFoot.has (R.memEccCnt_uncorr (bankOf (s.localAddr a))).zone = true := by
    refine Foot.has_mono (z := regZone (R.memEccCnt 0) (R.memEccCnt 47)) (by decide) ?_
    simp only [Zone.holds_iff, R.memEccCnt_uncorr, R.memEccCnt]
    omega
  unfold eccRead
  extract_lets b s1
  have h1 : eccFoot.Within s s1 := within_put s (R.memEccCnt_uncorr b) _ hz (by show 16 ≤ 31; decide) (by show 31 < 32; decide)
  exact (h1.trans (within_addLife _ _ 1)).then (within_memFault _ _ _ _ _)

theorem localAddr_sram (s : State) (a : Nat) (h1 : 0x800000 ≤ a) (h2 : a < 0x2000000) : s.localAddr a = a := by
  unfold State.localAddr
  rw [target_sram s a h1 h2]

theorem numSlots_le (s : State) : s.numSlots ≤ 4096 := by
  unfold State.numSlots
  split <;> decide

/-- A poisoned word of a slot lies in the banks of the element array. -/
theorem slotPoison_range {s : State} {e w : Nat} (he : e < s.numSlots) (h : s.slotPoison e = some w) : 0x800000 ≤ w ∧ w < 0x2000000 := by
  have hn := numSlots_le s
  have hw := List.find?_some h
  simp only [slotAddr, bAddr, extAddr, extBAddr, Bool.or_eq_true, beq_iff_eq] at hw
  omega

theorem judged_evalSlot (s : State) (p place e r : Nat) (v : Option BVerdict) : Judged p s (evalSlot p place e r v s) := by
  unfold evalSlot
  split
  · exact judged_setWork s p e 0
  · split
    · exact judged_setWork s p e _
    · split
      case h_1 hlt _ _ w hw =>
        obtain ⟨h1, h2⟩ := slotPoison_range (Nat.lt_of_not_le hlt) hw
        have he : eccFoot.Within s (eccRead 2 w s) := within_eccRead s 2 w (by rw [localAddr_sram s w h1 h2]; exact h2)
        exact ((Judged.of_apart he).trans (judged_setWork _ p e _)).trans (judged_memberFault _ p p place e 5 r)
      case h_2 =>
        unfold State.engine
        split
        · exact .of_apart (within_memFault _ _ _ _ _)
        · exact judged_evalJudged s p place e r v

theorem judged_evalRun (s : State) (p from_ n r : Nat) (vs : List BVerdict) : Judged p s (evalRun p from_ n r vs s) :=
  (Judged.refl p s).foldl fun x u => judged_evalSlot u p x.1 x.2 r _

/-! ## Phase 1 -/

/-- A pair in phase 1: its slots up to the first of phase 2, and where that leaves it (R145). -/
def phase1Pair (r : Nat) (vs : List BVerdict) (p : Nat) (s : State) : State :=
  let s := evalRun p 0 (s.get (R.peaPairPh2_first p)) r vs s
  let n := s.get (R.peaPairList_count p)
  s.updPair p (fun x => { x with ph1 := true, ph2 := s.get (R.peaPairPh2_first p) == n, finished := n == 0 })

theorem phase1_eq (r : Nat) (vs : List BVerdict) (s : State) : phase1 r vs s = iterUp 8 (phase1Pair r vs) s := rfl

/-- A pair that has been through phase 1. -/
def Ph1Done (s : State) (p : Nat) (x : PairRun) : Prop :=
  x.ph1 = true ∧ x.ph2 = (s.get (R.peaPairPh2_first p) == s.get (R.peaPairList_count p)) ∧ x.finished = (s.get (R.peaPairList_count p) == 0)

/-- What pairs below `n` have come to after phase 1 has taken them, and what the others keep. -/
structure Phase1To (n : Nat) (s t : State) : Prop where
  within : evalFoot.Within s t
  committed : t.pea.committed = s.pea.committed
  tick : t.pea.tick = s.pea.tick
  done : ∀ p, p < n → Ph1Done s p (t.pairRun p)

theorem evalFoot_clear_pair (p : Nat) (hp : p < 8) :
    evalFoot.clear (R.peaPairPh2_first p) = true ∧ evalFoot.clear (R.peaPairList_count p) = true := by
  interval_cases p <;> decide

theorem phase1To_succ {n : Nat} {s t : State} (r : Nat) (vs : List BVerdict) (h : Phase1To n s t) (hn : n < 8) :
    Phase1To (n + 1) s (phase1Pair r vs n t) := by
  have hc := evalFoot_clear_pair n hn
  unfold phase1Pair
  extract_lets u c
  have hj : Judged n t u := judged_evalRun t n 0 _ r vs
  have hf : u.get (R.peaPairPh2_first n) = s.get (R.peaPairPh2_first n) := (h.within.trans hj.within).get _ hc.1
  have hk : c = s.get (R.peaPairList_count n) := (h.within.trans hj.within).get _ hc.2
  refine ⟨(h.within.trans hj.within).trans (within_pea _ _), hj.committed.trans h.committed, hj.tick.trans h.tick, fun p hp => ?_⟩
  by_cases e : p = n
  · subst e
    rw [pairRun_updPair_same, hf, hk]
    exact ⟨rfl, rfl, rfl⟩
  · rw [pairRun_updPair_ne _ _ _ _ e, hj.others p e]
    exact h.done p (by omega)

/-- Phase 1 takes every pair through its slots and keeps the tick and the committed bytes (R145). -/
theorem phase1_spec (r : Nat) (vs : List BVerdict) (s : State) : Phase1To 8 s (phase1 r vs s) := by
  have hstep : ∀ n, n ≤ 8 → Phase1To n s (iterUp n (phase1Pair r vs) s) := by
    intro n
    induction n with
    | zero => exact fun _ => ⟨.refl _ s, rfl, rfl, fun p hp => absurd hp (Nat.not_lt_zero p)⟩
    | succ n ih =>
      intro hn
      have e : iterUp (n + 1) (phase1Pair r vs) s = phase1Pair r vs n (iterUp n (phase1Pair r vs) s) := by
        unfold iterUp
        rw [List.range_succ, List.foldl_append]
        rfl
      rw [e]
      exact phase1To_succ r vs (ih (by omega)) (by omega)
  exact hstep 8 (Nat.le_refl 8)

/-! # Reading back

What a completed group, a stored register and the end of a command show. -/

/-! ## Groups -/

theorem reg_setRegs_below (ws : List Word) : ∀ (a b : Nat) (s : State), b < a → (s.setRegs a ws).reg b = s.reg b := by
  induction ws with
  | nil => exact fun _ _ _ _ => rfl
  | cons w ws ih =>
    intro a b s h
    exact (ih (a + 4) b _ (by omega)).trans (reg_setReg_ne s a b w (by omega))

theorem reg_setRegs (ws : List Word) : ∀ (a i : Nat) (s : State) (hi : i < ws.length), (s.setRegs a ws).reg (a + 4 * i) = ws[i] := by
  induction ws with
  | nil => exact fun _ _ _ hi => absurd hi (Nat.not_lt_zero _)
  | cons w ws ih =>
    intro a i s hi
    cases i with
    | zero => exact (reg_setRegs_below ws (a + 4) a _ (by omega)).trans (reg_setReg_same s a w)
    | succ i =>
      have e : a + 4 * (i + 1) = a + 4 + 4 * i := by omega
      rw [e]
      exact ih (a + 4) i _ (by simpa using hi)

/-- The registers of a completed group. -/
theorem reg_complete (s : State) (g : Grp) (ws : List Word) (a : Nat) : (s.complete g ws).reg a =
    ((s.setRegs (g.addr + 4) (ws.take (g.words - 1))).setReg g.addr (BitVec.ofNat 32 (2 ^ 31 + nextSeq ((s.reg g.addr).toNat % 2 ^ 31)))).reg a := by
  unfold State.complete
  dsimp only
  split <;> rfl

/-- A completed group is valid (R51). -/
@[simp] theorem groupValid_complete (s : State) (g : Grp) (ws : List Word) : (s.complete g ws).groupValid g = true := by
  have hq : nextSeq ((s.reg g.addr).toNat % 2 ^ 31) < 2 ^ 31 := by
    unfold nextSeq
    split <;> omega
  unfold State.groupValid State.regBit
  rw [reg_complete, reg_setReg_same, BitVec.getLsbD_ofNat, Nat.testBit_two_pow_add_eq, Nat.testBit_lt_two_pow hq]
  rfl

/-- A completed group shows its data words. -/
theorem groupWord_complete (s : State) (g : Grp) (ws : List Word) (i : Nat) (hi : i < ws.length) (hg : i < g.words - 1) :
    (s.complete g ws).groupWord g (i + 1) = ws[i] := by
  unfold State.groupWord
  have e : g.addr + 4 * (i + 1) = g.addr + 4 + 4 * i := by omega
  rw [reg_complete, reg_setReg_ne _ _ _ _ (by omega), e, reg_setRegs _ _ i s (by rw [List.length_take]; omega), List.getElem_take]

/-- A completed group shows its first data word. -/
theorem groupWord_complete_head (s : State) (g : Grp) (w : Word) (ws : List Word) (hg : 1 < g.words) : (s.complete g (w :: ws)).groupWord g 1 = w :=
  groupWord_complete s g (w :: ws) 0 (Nat.succ_pos _) (by omega)

@[simp] theorem fin_groupValid (s : State) (g : Grp) : s.fin.groupValid g = s.groupValid g := fin_regBit s _ _

@[simp] theorem fin_groupWord (s : State) (g : Grp) (i : Nat) : s.fin.groupWord g i = s.groupWord g i := fin_reg s _

theorem groupValid_invalidate (s : State) (g : Grp) : (s.invalidate g).groupValid g = false := by
  unfold State.groupValid State.regBit State.invalidate
  rw [reg_setReg_same, BitVec.getLsbD_and]
  have e : (0x7FFFFFFF#32).getLsbD 31 = false := by decide
  rw [e, Bool.and_false]

/-- VALID falls and the data words stay (R51). -/
theorem groupWord_invalidate (s : State) (g : Grp) (i : Nat) : (s.invalidate g).groupWord g (i + 1) = s.groupWord g (i + 1) :=
  reg_setReg_ne _ _ _ _ (by omega)

section
variable {F : Foot} {s t : State} (h : F.Within s t)
include h

theorem Foot.Within.groupValid (g : Grp) (hg : F.clear ⟨g.addr, 31, 31⟩ = true := by decide) : t.groupValid g = s.groupValid g := h.regBit g.addr 31 hg

theorem Foot.Within.groupWord (g : Grp) (i : Nat) (hg : F.clear ⟨g.addr + 4 * i, 31, 0⟩ = true := by decide) : t.groupWord g i = s.groupWord g i :=
  h.reg _ hg

/-- What a footprint leaves, the end of a command leaves too. -/
theorem Foot.Within.sameBut_fin : SameBut F.parts s t.fin := fun p hp => Part.same_trans (h.part p hp) ((frame_same [] [] [] t).2.1 p List.not_mem_nil)

end

/-- A command that ends in `u` completes with what `u` shows at its end. -/
theorem completes_of_done {c : Instr} {s u : State} {P : State → Prop} (he : exec c s = done u) (h : P u.fin) : Completes c s P := ⟨u.fin, he, h⟩

/-! ## Pages -/

theorem pageOf_eq {a k : Nat} (h : a / 0x1000 = k) : pageOf a = pageOf (0x1000 * k) := by
  unfold pageOf
  rw [h, Nat.mul_div_cancel_left k (by decide)]

/-- A footprint whose registers lie in one page leaves the other pages. -/
theorem Foot.Within.otherPages {F : Foot} {s t : State} (h : F.Within s t) (p : Page) (k : Nat) (hk : pageOf (0x1000 * k) = some p)
    (hz : F.zones.all (fun z => decide (0x1000 * k ≤ z.first ∧ z.last < 0x1000 * k + 0x1000)) = true) : OtherPages p s t.fin := by
  intro a ha
  rw [fin_reg]
  refine h.reg a (List.all_eq_true.mpr fun z hm => ?_)
  have hz' := of_decide_eq_true (List.all_eq_true.mp hz z hm)
  rw [Zone.apart_iff]
  by_contra hc
  exact ha ((pageOf_eq (k := k) (by simp only [not_or] at hc; omega)).trans hk)

/-! # Pairs, live changes and interval results (R145, R147, R148, R152) -/

/-! ## Phase 2 and the crucible commit -/

theorem exec_elementPhase2_idle (s : State) (p : Fin 8) (vs : List BVerdict)
    (h : s.pea.tick = none ∨ (s.pairRun p.val).ph1 = false ∨ (s.pairRun p.val).ph2 = true ∨ s.totalsBack = false) :
    exec (.elementPhase2 p vs) s = .next s.fin := by
  show execElementPhase2 p vs s = done s
  unfold execElementPhase2
  split
  · rfl
  case h_2 r hr =>
    refine if_pos ?_
    rcases h with h | h | h | h
    · rw [hr] at h; cases h
    all_goals simp [h]

/-- Pair `p` in phase 2. -/
def phase2Pair (r : Nat) (vs : List BVerdict) (p : Nat) (s : State) : State :=
  (evalRun p (s.get (R.peaPairPh2_first p)) (s.get (R.peaPairList_count p) - s.get (R.peaPairPh2_first p)) r vs s).updPair p
    (fun x => { x with ph2 := true })

theorem exec_elementPhase2_run (s : State) (p : Fin 8) (vs : List BVerdict) (r : Nat) (hr : s.pea.tick = some r) (h1 : (s.pairRun p.val).ph1 = true)
    (h2 : (s.pairRun p.val).ph2 = false) (hb : s.totalsBack = true) : exec (.elementPhase2 p vs) s = done (phase2Pair r vs p.val s) := by
  show execElementPhase2 p vs s = _
  simp only [execElementPhase2, hr, h1, h2, hb]
  rfl

@[simp] theorem fin_pairRun (s : State) (q : Nat) : s.fin.pairRun q = s.pairRun q := by
  unfold State.pairRun
  rw [fin_pea]

/-- Phase 2 of a pair runs its slots and leaves every other pair and the committed bytes. -/
theorem elementPhase2_completes (s : State) (p : Fin 8) (vs : List BVerdict) (ht : s.pea.tick ≠ none) (h1 : (s.pairRun p.val).ph1 = true)
    (h2 : (s.pairRun p.val).ph2 = false) (hb : s.totalsBack = true) : Completes (.elementPhase2 p vs) s (fun t =>
      (t.pairRun p.val).ph2 = true ∧ (t.pairRun p.val).finished = (s.pairRun p.val).finished ∧ t.pea.tick = s.pea.tick ∧
      t.pea.committed = s.pea.committed ∧ ∀ q : Fin 8, q ≠ p → t.pairRun q.val = s.pairRun q.val) := by
  obtain ⟨r, hr⟩ := Option.ne_none_iff_exists'.mp ht
  have hj := judged_evalRun s p (s.get (R.peaPairPh2_first p)) (s.get (R.peaPairList_count p) - s.get (R.peaPairPh2_first p)) r vs
  obtain ⟨d, a, ho⟩ := hj.own
  refine completes_of_done (exec_elementPhase2_run s p vs r hr h1 h2 hb) ⟨?_, ?_, ?_, ?_, fun q hq => ?_⟩
  · rw [fin_pairRun, phase2Pair, pairRun_updPair_same]
  · rw [fin_pairRun, phase2Pair, pairRun_updPair_same, ho]
  · rw [fin_pea]; exact hj.tick
  · rw [fin_pea]; exact hj.committed
  · have hv : q.val ≠ p.val := fun e => hq (Fin.ext e)
    rw [fin_pairRun, phase2Pair, pairRun_updPair_ne _ _ _ _ hv, hj.others _ hv]

theorem exec_crucibleCommit_idle (s : State) (p : Fin 8) (c : Nat) (h : s.pea.tick = none ∨ (s.pairRun p.val).ph2 = false) :
    exec (.crucibleCommit p c) s = .next s.fin := by
  show execCrucibleCommit p c s = done s
  refine if_pos ?_
  rcases h with h | h <;> simp [h]

/-- The crucible commit finishes its pair and counts its cycles (R145). -/
theorem crucibleCommit_completes (s : State) (p : Fin 8) (c : Nat) (ht : s.pea.tick ≠ none) (h2 : (s.pairRun p.val).ph2 = true) :
    Completes (.crucibleCommit p c) s (fun t =>
      (t.pairRun p.val).finished = true ∧ (t.pairRun p.val).cycles = c ∧ (t.pairRun p.val).cycMax = Nat.max (s.pairRun p.val).cycMax c ∧
      (∀ q : Fin 8, q ≠ p → t.pairRun q.val = s.pairRun q.val) ∧ t.pea.committed = s.pea.committed ∧ Frame [] [.pea] [] s t) := by
  have he : exec (.crucibleCommit p c) s = done (s.updPair p (fun x => { x with finished := true, cycles := c, cycMax := Nat.max x.cycMax c })) := by
    show execCrucibleCommit p c s = _
    refine if_neg ?_
    simp [h2, ht]
  refine completes_of_done he ⟨?_, ?_, ?_, fun q hq => ?_, ?_, ?_⟩
  · rw [fin_pairRun, pairRun_updPair_same]
  · rw [fin_pairRun, pairRun_updPair_same]
  · rw [fin_pairRun, pairRun_updPair_same]
  · rw [fin_pairRun, pairRun_updPair_ne _ _ _ _ fun e => hq (Fin.ext e)]
  · rw [fin_pea]; rfl
  · exact (within_pea (F := { parts := [.pea] }) s _).frame

/-! ## Live changes -/

/-- The setting words that a live change offers (PEA_LIVE_DATA). -/
def State.liveSet (s : State) : List Word := (List.range 8).map (fun i => s.reg (R.peaLiveData i))

/-- The live change that a GO write asks for (R152). -/
def State.liveAsked (s : State) (v : Word) : LiveChange :=
  ⟨s.get R.peaLiveSlot_slot, s.get R.peaLiveSlot_flags, s.get R.peaLiveSlot_qmask, s.liveSet, R.peaLiveCmd_keep.of v == 1, s.gridNs⟩

/-- A live change becomes pending. -/
def liveAccept (v : Word) (s : State) : State :=
  (({ s with pea := { s.pea with live := some (s.liveAsked v) } }).putBit R.peaStat_live_pend true).invalidate R.peaLiveRes

theorem exec_peaLiveGo (s : State) (m : Master) (v : Word) (h : Reaches s m .pea) : exec (.peaLiveGo m v) s = done (liveGoEffect m.val v s) :=
  congrArg done (guarded_unlocked s m.val .pea _ h.1 h.2)

section
variable {s : State} {m : Nat} {v : Word}

theorem liveGoEffect_noGo (h : R.peaLiveCmd_go.of v = 0) : liveGoEffect m v s = s := if_pos (by omega)

theorem liveGoEffect_go (h : R.peaLiveCmd_go.of v = 1) : liveGoEffect m v s =
    if s.pea.live.isSome then s.raise .pea 0x0101 m
    else if !s.bit R.peaCtrl_en ∨ s.numSlots ≤ s.get R.peaLiveSlot_slot ∨ s.slotType (s.get R.peaLiveSlot_slot) = 0 then s.raise .pea 0x0102 m
    else if !setOk (s.slotType (s.get R.peaLiveSlot_slot)) (s.slotRefs (s.get R.peaLiveSlot_slot)) s.liveSet then s.raise .pea 0x0103 m
    else liveAccept v s := if_neg (by omega)

end

/-- What an accepted live change shows. -/
theorem liveAccept_shows (s : State) (v : Word) :
    (liveAccept v s).fin.bit R.peaStat_live_pend = true ∧ (liveAccept v s).fin.groupValid R.peaLiveRes = false ∧
    (liveAccept v s).fin.pea.live = some (s.liveAsked v) ∧ Frame [R.peaStat, R.peaLiveRes.addr] [.pea] [] s (liveAccept v s).fin := by
  refine ⟨?_, ?_, ?_, ?_⟩
  · rw [fin_bit, liveAccept]
    rw [(within_invalidate (F := { zones := [regZone R.peaLiveRes.addr R.peaLiveRes.addr] }) _ R.peaLiveRes).bit R.peaStat_live_pend]
    exact bit_putBit_same _ _ _ rfl (by decide)
  · rw [fin_groupValid]
    exact groupValid_invalidate _ _
  · rw [fin_pea]; rfl
  · have h : (⟨[R.peaStat_live_pend.zone, regZone R.peaLiveRes.addr R.peaLiveRes.addr], [.pea], []⟩ : Foot).Within s (liveAccept v s) :=
      ((within_pea s _).trans (within_putBit _ R.peaStat_live_pend true)).trans (within_invalidate _ R.peaLiveRes)
    exact h.frame

/-! ## Interval results (R147) -/

theorem iterUp_succ (n : Nat) (f : Nat → State → State) (s : State) : iterUp (n + 1) f s = f n (iterUp n f s) := by
  unfold iterUp
  rw [List.range_succ, List.foldl_append]
  rfl

/-- The result groups of the pairs. -/
def statFoot : Foot where
  zones := [regZone 0xD100 0xD17C]
  parts := [.pea]
  pages := [.pea]

/-- The data words of a pair's interval result. -/
def State.pairStat (s : State) (p : Nat) : List Word :=
  [BitVec.ofNat 32 (Nat.min 0x3FFFF (s.pairLoad p)), BitVec.ofNat 32 (Nat.min 0x3FFFF (s.pairRun p).cycMax),
    BitVec.ofNat 32 (Nat.min 0xFFFF (s.pairRun p).softDec + Nat.min 0xFFFF (s.pairRun p).softAna * 2 ^ 16)]

/-- The interval ends for one pair. -/
def statPair (p : Nat) (s : State) : State :=
  (s.complete (R.peaPairStat p) (s.pairStat p)).updPair p (fun x => { x with cycMax := 0, softDec := 0, softAna := 0 })

theorem exec_peaPairStatInterval (s : State) : exec .peaPairStatInterval s = if !s.bit R.peaCtrl_en then done s else done (iterUp 8 statPair s) := rfl

theorem memBytes_same {s t : State} (h : SameMemory s t) (a n : Nat) : memBytes t.mem a n = memBytes s.mem a n := by
  induction n generalizing a with
  | zero => rfl
  | succ n ih =>
    have hb : memByte t.mem a = memByte s.mem a := h a
    rw [memBytes, memBytes, hb, ih]

theorem word_same {s t : State} (h : SameMemory s t) (a : Nat) : t.word a = s.word a := by
  unfold State.word memWord
  rw [memBytes_same h]

theorem pairLoad_congr {s t : State} (h : statFoot.Within s t) {p : Nat} (hp : p < 8) : t.pairLoad p = s.pairLoad p := by
  have hm : SameMemory s t := h.part .mem (by decide)
  have hc : t.get (R.peaPairList_count p) = s.get (R.peaPairList_count p) := h.get _ (by interval_cases p <;> decide)
  have hs : t.get (R.peaPairList_start p) = s.get (R.peaPairList_start p) := h.get _ (by interval_cases p <;> decide)
  unfold State.pairLoad State.pairSlots State.slotType State.slotWord
  simp only [hc, hs, memBytes_same hm, word_same hm]

/-- What the interval's end for the pairs below `n` has written and what it has left. -/
structure StatTo (n : Nat) (s t : State) : Prop where
  within : statFoot.Within s t
  after : ∀ p, n ≤ p → t.pairRun p = s.pairRun p
  valid : ∀ p, p < n → t.groupValid (R.peaPairStat p) = true
  words : ∀ p, p < n → ∀ (i : Nat) (hi : i < 3), t.groupWord (R.peaPairStat p) (i + 1) = (s.pairStat p)[i]
  cleared : ∀ p, p < n → t.pairRun p = { s.pairRun p with cycMax := 0, softDec := 0, softAna := 0 }

theorem within_statPair (s : State) {p : Nat} (hp : p < 8) : statFoot.Within s (statPair p s) := by
  refine (within_complete s (R.peaPairStat p) _ ?_ ?_).trans (within_pea _ _) <;> interval_cases p <;> decide

/-- The group of one pair is written apart from those of the others. -/
theorem within_statPair_complete (s : State) (p : Nat) (ws : List Word) (hp : p < 8) :
    (⟨[(R.peaPairStat p).zone], [], [.pea]⟩ : Foot).Within s (s.complete (R.peaPairStat p) ws) := by
  refine within_complete s _ _ ?_ ?_ <;> interval_cases p <;> decide

theorem pairStat_congr {s t : State} {n : Nat} (h : StatTo n s t) (hn : n < 8) : t.pairStat n = s.pairStat n := by
  unfold State.pairStat
  rw [pairLoad_congr h.within hn, h.after n (Nat.le_refl n)]

theorem statTo_succ {n : Nat} {s t : State} (h : StatTo n s t) (hn : n < 8) : StatTo (n + 1) s (statPair n t) := by
  have hs := pairStat_congr h hn
  have hc := within_statPair_complete t n (t.pairStat n) hn
  have hpea : ∀ q, (t.complete (R.peaPairStat n) (t.pairStat n)).pairRun q = t.pairRun q := fun q => by
    unfold State.pairRun
    rw [show (t.complete _ _).pea = t.pea from complete_same t _ _ .pea]
  have hapart : ∀ p, p < n → ∀ i, i < 4 → ∀ hi lo, (⟨[(R.peaPairStat n).zone], [], [.pea]⟩ : Foot).clear ⟨(R.peaPairStat p).addr + 4 * i, hi, lo⟩ = true := by
    intro p hp i hi _ _
    simp only [Foot.clear, List.all_cons, List.all_nil, Bool.and_true, Zone.apart_iff, R.peaPairStat]
    omega
  refine ⟨h.within.trans (within_statPair t hn), fun p hp => ?_, fun p hp => ?_, fun p hp i hi => ?_, fun p hp => ?_⟩
  · rw [statPair, pairRun_updPair_ne _ _ _ _ (by omega), hpea, h.after p (by omega)]
  · by_cases e : p = n
    · subst e
      exact groupValid_complete t _ _
    · exact (hc.groupValid _ (hapart p (by omega) 0 (by decide) 31 31)).trans (h.valid p (by omega))
  · by_cases e : p = n
    · subst e
      exact (groupWord_complete t (R.peaPairStat p) (t.pairStat p) i hi hi).trans (List.getElem_of_eq hs hi)
    · exact (hc.groupWord _ (i + 1) (hapart p (by omega) (i + 1) (by omega) 31 0)).trans (h.words p (by omega) i hi)
  · by_cases e : p = n
    · subst e
      rw [statPair, pairRun_updPair_same, hpea, h.after p (Nat.le_refl p)]
    · rw [statPair, pairRun_updPair_ne _ _ _ _ e, hpea, h.cleared p (by omega)]

theorem statTo_iterUp (s : State) : ∀ n, n ≤ 8 → StatTo n s (iterUp n statPair s)
  | 0, _ => ⟨.refl _ s, fun _ _ => rfl, fun p hp => absurd hp (Nat.not_lt_zero p), fun p hp => absurd hp (Nat.not_lt_zero p),
      fun p hp => absurd hp (Nat.not_lt_zero p)⟩
  | n + 1, hn => by
    rw [iterUp_succ]
    exact statTo_succ (statTo_iterUp s n (by omega)) (by omega)

/-- Settles O25: phase 2 and the commit of a pair, the checks of a live change and the interval's results, each by its own lemma. -/
theorem pairsRunAndLiveChangesAreTaken : Obligations.PairsRunAndLiveChangesAreTaken := by
  unfold Obligations.PairsRunAndLiveChangesAreTaken
  refine fun s => ⟨fun p vs => ⟨exec_elementPhase2_idle s p vs, elementPhase2_completes s p vs⟩,
    fun p c => ⟨crucibleCommit_completes s p c, exec_crucibleCommit_idle s p c⟩, fun m v hr => ?_, fun he => ?_, fun he => ?_⟩
  · rw [exec_peaLiveGo s m v hr]
    refine ⟨fun hg => by rw [liveGoEffect_noGo hg]; rfl, fun hg => ?_⟩
    rw [liveGoEffect_go hg]
    refine ⟨fun hl => ?_, fun hl hb => ?_, fun hl he hn ht => ⟨fun hs => ?_, fun hs => ?_⟩⟩
    · rw [if_pos (Option.isSome_iff_ne_none.mpr hl)]; rfl
    · rw [if_neg (by simp [hl]), if_pos (by simpa using hb)]; rfl
    all_goals
      have hk : ¬((!s.bit R.peaCtrl_en) = true ∨ s.numSlots ≤ s.get R.peaLiveSlot_slot ∨ s.slotType (s.get R.peaLiveSlot_slot) = 0) := by
        simp [he, ht]; omega
      have hset : setOk (s.slotType (s.get R.peaLiveSlot_slot)) (s.slotRefs (s.get R.peaLiveSlot_slot)) s.liveSet = _ := hs
    · rw [if_neg (by simp [hl]), if_neg hk, if_pos (by rw [hset]; rfl)]; rfl
    · obtain ⟨h1, h2, h3, h4⟩ := liveAccept_shows s v
      refine completes_of_done (u := liveAccept v s) ?_ ⟨h1, h2, ⟨s.liveAsked v, h3, rfl, rfl, rfl, rfl, rfl, rfl⟩, h4⟩
      rw [exec_peaLiveGo s m v hr, liveGoEffect_go hg, if_neg (by simp [hl]), if_neg hk, if_neg (by rw [hset]; decide)]
  · rw [exec_peaPairStatInterval, he]; rfl
  · have h := statTo_iterUp s 8 (Nat.le_refl 8)
    refine completes_of_done (u := iterUp 8 statPair s) (by rw [exec_peaPairStatInterval, he]; rfl) fun p => ?_
    have hw := h.words p p.isLt
    have hp := h.cleared p p.isLt
    refine ⟨by rw [fin_groupValid]; exact h.valid p p.isLt, by rw [fin_groupWord]; exact hw 0 (by decide),
      by rw [fin_groupWord]; exact hw 1 (by decide), by rw [fin_groupWord]; exact hw 2 (by decide), ?_, ?_, ?_,
      h.within.otherPages .pea 0xD (by decide) (by decide), h.within.sameBut_fin⟩ <;> rw [fin_pairRun, hp]

/-! # Storing a register

A write to a register of the map stores its writable bits (R6). -/

theorem holds_iff (r : RegRow) (o : Nat) : r.holds o = true ↔ r.off ≤ o ∧ (o - r.off) % r.stride = 0 ∧ (o - r.off) / r.stride < r.count := by
  simp [RegRow.holds, and_assoc]

/-- The row of a register, by the page and the rows before it. -/
theorem regRow_eq {a k : Nat} {p : Page} {row : RegRow} (n : Nat) (hk : a / 0x1000 = k) (hp : pageOf (0x1000 * k) = some p)
    (hr : (pageRows p)[n]? = some row) (hh : row.holds (a - pageBase p) = true) (hb : ∀ r ∈ (pageRows p).take n, ¬ r.holds (a - pageBase p) = true) :
    regRow a = some row := by
  unfold regRow
  rw [pageOf_eq hk, hp]
  obtain ⟨hn, he⟩ := List.getElem?_eq_some_iff.mp hr
  refine List.find?_eq_some_iff_append.mpr ⟨hh, (pageRows p).take n, (pageRows p).drop (n + 1), ?_, fun r hm => by simpa using hb r hm⟩
  rw [← he, ← List.drop_eq_getElem_cons hn, List.take_append_drop]

/-- A register without bits that a write clears or sets takes its writable bits from the write. -/
theorem mergeWrite_rw (r : RegRow) (old v : Word) (h : r.w1c = 0 ∧ r.w1s = 0) :
    mergeWrite r old v = (old &&& ~~~ BitVec.ofNat 32 r.rw) ||| (v &&& BitVec.ofNat 32 r.rw) := by
  unfold mergeWrite
  rw [h.1, h.2]
  simp only [BitVec.and_zero, BitVec.or_zero, BitVec.not_zero]
  exact BitVec.and_allOnes

theorem storeReg_eq {a : Nat} {row : RegRow} (s : State) (v : Word) (h : regRow a = some row) : s.storeReg a v = s.setReg a (mergeWrite row (s.reg a) v) := by
  unfold State.storeReg
  rw [h]

/-! # The phasor engine's configuration (R128, R131, R137) -/

/-! ## Its registers -/

theorem regRow_pheQCfg {q : Nat} (hq : q < 576) : regRow (R.pheQCfg q) = some ⟨0x100, 0x4, 576, 0x000FFFF7, 0, 0, 0x20⟩ := by
  refine regRow_eq (p := .phe) 6 (k := 0xC) ?_ rfl rfl ?_ ?_
  · unfold R.pheQCfg; omega
  · rw [holds_iff]; simp only [R.pheQCfg, pageBase]; omega
  · simp only [R.pheQCfg, pageBase, pageRows, pheRows, pheRows0, List.take, List.forall_mem_cons, holds_iff]
    refine ⟨?_, ?_, ?_, ?_, ?_, ?_, List.forall_mem_nil _⟩ <;> omega

theorem regRow_pheGrpCfg {g : Nat} (hg : g < 192) : regRow (R.pheGrpCfg g) = some ⟨0xA00, 0x8, 192, 0xFFFFFFFF, 0, 0, 0⟩ := by
  refine regRow_eq (p := .phe) 7 (k := 0xC) ?_ rfl rfl ?_ ?_
  · unfold R.pheGrpCfg; omega
  · rw [holds_iff]; simp only [R.pheGrpCfg, pageBase]; omega
  · simp only [R.pheGrpCfg, pageBase, pageRows, pheRows, pheRows0, List.take, List.forall_mem_cons, holds_iff]
    refine ⟨?_, ?_, ?_, ?_, ?_, ?_, ?_, List.forall_mem_nil _⟩ <;> omega

theorem regRow_pheFcfg : regRow R.pheFcfg = some ⟨0x040, 0x4, 1, 0x00000FFF, 0, 0, 0xA2⟩ := by decide

/-! ## PHE_COST -/

/-- The cost depends on the configuration words and the groups' enables. -/
theorem pheCost_congr {s t : State} (hq : ∀ q, t.reg (R.pheQCfg q) = s.reg (R.pheQCfg q))
    (hg : ∀ g, t.bit (R.pheGrpCfg_en g) = s.bit (R.pheGrpCfg_en g)) : t.pheCost = s.pheCost := by
  unfold State.pheCost
  simp only [hq, hg]

/-- A configuration write leaves PHE_COST at the cost of the new configuration. -/
theorem get_setPheCost {s u : State} (hu : u.regs = s.setPheCost.regs) : u.fin.get R.pheCost_rowcyc = u.fin.pheCost % 2 ^ 13 := by
  have h : (⟨[R.pheCost_rowcyc.zone], [], []⟩ : Foot).Within s s.setPheCost := within_put s _ _
  have hc : u.fin.pheCost = s.pheCost := by
    refine pheCost_congr (fun q => ?_) fun g => ?_
    · rw [fin_reg, State.reg, hu]
      refine h.reg _ ?_
      simp only [Foot.clear, List.all_cons, List.all_nil, Bool.and_true, Zone.apart_iff, R.pheCost_rowcyc, R.pheCost, R.pheQCfg]
      omega
    · rw [fin_bit, State.bit, State.get, State.reg, hu]
      refine h.bit (R.pheGrpCfg_en g) ?_
      simp only [Foot.clear, List.all_cons, List.all_nil, Bool.and_true, Zone.apart_iff, R.pheCost_rowcyc, R.pheCost, R.pheGrpCfg_en, R.pheGrpCfg]
      omega
  rw [hc, fin_get, get_congr s.setPheCost u hu]
  exact get_put_same _ _ _ (by decide) (by decide)

/-! ## PHE_Qq_CFG -/

/-- A bin that a half window cannot give is enabled (R137). -/
theorem evenBin_iff (v : Word) : ((v.toNat >>> 4) &&& 0x5555 != 0) = true ↔ ∃ h : Fin 8, v.getLsbD (4 + 2 * h.val) = true := by
  rw [bne_iff_ne]
  constructor
  · intro hne
    by_contra hc
    refine hne (Nat.eq_of_testBit_eq fun i => ?_)
    rw [Nat.testBit_and, Nat.testBit_shiftRight, Nat.zero_testBit, Bool.and_eq_false_iff, or_iff_not_imp_left]
    intro hv
    have hodd : ∀ h : Fin 8, 2 * h.val ≠ i := fun h e => hc ⟨h, by rw [BitVec.getLsbD, e]; simpa using hv⟩
    by_cases hi : i < 16
    · have he : i % 2 ≠ 0 := fun e => hodd ⟨i / 2, by omega⟩ (by simp only; omega)
      interval_cases i <;> first | rfl | omega
    · exact Nat.testBit_lt_two_pow (lt_of_lt_of_le (by decide : 0x5555 < 2 ^ 16) (Nat.pow_le_pow_right (by decide) (by omega)))
  · rintro ⟨h, hv⟩ hz
    have hb := congrArg (fun n => n.testBit (2 * h.val)) hz
    rw [Nat.zero_testBit, Nat.testBit_and, Nat.testBit_shiftRight, ← BitVec.getLsbD, hv, Bool.true_and] at hb
    fin_cases h <;> exact absurd hb (by decide)

/-- A configuration register and PHE_COST. -/
def cfgFoot (a : Nat) : Foot where
  zones := [regZone a a, R.pheCost_rowcyc.zone]

theorem within_cfg (s : State) (a : Nat) (v : Word) : (cfgFoot a).Within s (s.setReg a v).setPheCost :=
  (within_setReg s a v (by simp [Foot.has, cfgFoot, Zone.holds])).trans (within_put _ R.pheCost_rowcyc _ (by simp [Foot.has, cfgFoot, Zone.holds]))

/-- PHE_COST stands before the configuration registers. -/
theorem reg_cfg (s : State) (a : Nat) (v : Word) (h : R.pheCost < a) : (s.setReg a v).setPheCost.reg a = v := by
  have hp : (⟨[R.pheCost_rowcyc.zone], [], []⟩ : Foot).Within (s.setReg a v) (s.setReg a v).setPheCost := within_put _ R.pheCost_rowcyc _
  refine (hp.reg a ?_).trans (reg_setReg_same _ _ _)
  simp only [Foot.clear, List.all_cons, List.all_nil, Bool.and_true, Zone.apart_iff, R.pheCost_rowcyc]
  exact .inr (.inl h)

theorem exec_pheQCfgWrite (s : State) (m : Master) (q : Fin 576) (v : Word) (h : Reaches s m .phe) :
    exec (.pheQCfgWrite m q v) s = done (pheQCfgEffect m.val q.val v s) :=
  congrArg done (guarded_unlocked s m.val .phe _ h.1 h.2)

/-- The word of a quantity's configuration after a write. -/
def qCfgWord (old v : Word) : Word := (old &&& 0xFFF00008#32) ||| ((v ||| 0x20#32) &&& 0x000FFFF7#32)

/-- A write that the checks let pass is stored and the cost follows (R131, R137). -/
theorem pheQCfgWrite_stores (s : State) (m : Master) (q : Fin 576) (v : Word) (hr : Reaches s m .phe) (hn : q.val < s.numQ ∨ v.getLsbD 0 = false)
    (hw : v.getLsbD 1 = false ∨ ∀ h : Fin 8, v.getLsbD (4 + 2 * h.val) = false) : Completes (.pheQCfgWrite m q v) s (fun t =>
      t.reg (R.pheQCfg q.val) = qCfgWord (s.reg (R.pheQCfg q.val)) v ∧
      t.get R.pheCost_rowcyc = t.pheCost % 2 ^ 13 ∧ Frame [R.pheQCfg q.val, R.pheCost] [] [] s t) := by
  have hb : ((v.toNat >>> 4) &&& 0x5555 != 0) = true → v.getLsbD 1 = false := fun he => by
    obtain ⟨h, hv⟩ := (evenBin_iff v).mp he
    exact hw.resolve_right fun hall => by rw [hall h] at hv; cases hv
  have he : pheQCfgEffect m.val q.val v s = (s.setReg (R.pheQCfg q.val) (qCfgWord (s.reg (R.pheQCfg q.val)) v)).setPheCost := by
    unfold pheQCfgEffect
    rw [if_neg (by rcases hn with hn | hn <;> simp [hn, -BitVec.getLsbD_eq_getElem]), if_neg (by rw [Bool.and_eq_true]; exact fun hc => by rw [hb hc.2] at hc; cases hc.1),
      storeReg_eq s _ (regRow_pheQCfg q.isLt), mergeWrite_rw _ _ _ ⟨rfl, rfl⟩]
    rfl
  refine completes_of_done ((exec_pheQCfgWrite s m q v hr).trans (congrArg done he)) ⟨?_, get_setPheCost rfl, ?_⟩
  · rw [fin_reg]
    exact reg_cfg s _ _ (by simp only [R.pheCost, R.pheQCfg]; omega)
  · exact (within_cfg s _ _).frame (by simp [cfgFoot, R.pheCost_rowcyc]) (by simp [cfgFoot]) (by simp [cfgFoot])

/-! ## PHE_GRPg_CFG -/

theorem exec_pheGrpCfgWrite (s : State) (m : Master) (g : Fin 192) (v : Word) (h : Reaches s m .phe) :
    exec (.pheGrpCfgWrite m g v) s = done (pheGrpEffect m.val g.val v s) :=
  congrArg done (guarded_unlocked s m.val .phe _ h.1 h.2)

/-- The quantities that a group's word names. -/
def grpQs (g : Nat) (v : Word) : List Nat := [(R.pheGrpCfg_qa g).of v, (R.pheGrpCfg_qb g).of v, (R.pheGrpCfg_qc g).of v]

/-- A group's word that its enable would be refused for (R128). -/
def GrpBad (s : State) (g : Nat) (v : Word) : Prop :=
  (∃ q ∈ grpQs g v, s.numQ ≤ q ∨ (s.reg (R.pheQCfg q)).getLsbD 0 = false) ∨ ¬ (grpQs g v).Nodup ∨
  (∃ q ∈ grpQs g v, (s.reg (R.pheQCfg q)).getLsbD 1 ≠ (s.reg (R.pheQCfg ((R.pheGrpCfg_qa g).of v))).getLsbD 1) ∨
  (s.get R.sysProfile_active = 2 ∧ 96 ≤ g)

theorem nodup_three (a b c : Nat) : [a, b, c].Nodup ↔ [a, b, c].eraseDups.length = 3 := by
  by_cases hab : a = b
  · subst hab
    by_cases hac : c = a <;> simp [List.eraseDups_cons, hac]
  · by_cases hac : a = c
    · subst hac
      simp [List.eraseDups_cons, Ne.symm hab]
    · by_cases hbc : b = c
      · subst hbc
        simp [List.eraseDups_cons, Ne.symm hab]
      · simp [List.eraseDups_cons, hab, hac, hbc, Ne.symm hab, Ne.symm hac, Ne.symm hbc]

theorem not_allSame_iff (f : Nat → Bool) (l : List Nat) (b : Bool) : (!(l.map f).all (· == b)) = true ↔ ∃ q ∈ l, f q ≠ b := by
  simp

/-- The register of a group that is enabled with such a word is not written. -/
theorem pheGrpEffect_bad {s : State} {m g : Nat} {v : Word} (hv : v.getLsbD 31 = true) (hb : GrpBad s g v) :
    pheGrpEffect m g v s = s.raise .phe 0x0102 m := by
  unfold pheGrpEffect
  refine if_pos ?_
  rw [Bool.and_eq_true, Bool.or_eq_true, Bool.or_eq_true, Bool.or_eq_true, not_allSame_iff]
  refine ⟨hv, ?_⟩
  rcases hb with h | h | h | h
  · exact .inl (.inl (.inl (by simpa [grpQs] using h)))
  · exact .inl (.inr (by rw [bne_iff_ne]; exact fun e => h ((nodup_three _ _ _).mpr e)))
  · exact .inl (.inl (.inr h))
  · exact .inr (by simpa using h)

/-- Any other word is stored, and a new word's group has no span yet. -/
theorem pheGrpEffect_stores {s : State} {m : Nat} {g : Nat} {v : Word} (hg : g < 192) (h : v.getLsbD 31 = false ∨ ¬ GrpBad s g v) :
    ∃ x : PheState, pheGrpEffect m g v s = { (s.setReg (R.pheGrpCfg g) v).setPheCost with phe := x } := by
  have hs : s.storeReg (R.pheGrpCfg g) v = s.setReg (R.pheGrpCfg g) v := by
    rw [storeReg_eq s _ (regRow_pheGrpCfg hg), mergeWrite_rw _ _ _ ⟨rfl, rfl⟩]
    congr 1
    show (s.reg _ &&& 0#32) ||| (v &&& BitVec.allOnes 32) = v
    rw [BitVec.and_zero, BitVec.and_allOnes, BitVec.zero_or]
  have hn : ∀ b : Bool, (b = true → GrpBad s g v) → (v.getLsbD 31 && b) = true → False := fun b hb hc => by
    rw [Bool.and_eq_true] at hc
    rcases h with h | h
    · rw [h] at hc; cases hc.1
    · exact h (hb hc.2)
  unfold pheGrpEffect
  rw [hs]
  extract_lets qs cfg bad
  rw [if_neg (hn bad fun hb => ?_)]
  · split
    · exact ⟨_, rfl⟩
    · exact ⟨_, rfl⟩
  · simp only [bad] at hb
    rw [Bool.or_eq_true, Bool.or_eq_true, Bool.or_eq_true, not_allSame_iff, bne_iff_ne, Ne, ← nodup_three] at hb
    rcases hb with ((h | h) | h) | h
    · refine .inl ?_
      simp only [List.any_eq_true, Bool.or_eq_true, decide_eq_true_eq, Bool.not_eq_true'] at h
      exact h
    · exact .inr (.inr (.inl h))
    · exact .inr (.inl h)
    · exact .inr (.inr (.inr (by simpa using h)))

theorem Fld.of_eq_one (a i : Nat) (w : Word) : ((⟨a, i, i⟩ : Fld).of w == 1) = w.getLsbD i := by
  rw [BitVec.getLsbD, Nat.testBit_eq_decide_div_mod_eq]
  simp [Fld.of, Fld.width, Nat.shiftRight_eq_div_pow, beq_eq_decide]

/-- What a stored word of a group shows in its fields and in PHE_COST. -/
theorem pheGrpCfgWrite_stores (s : State) (m : Master) (g : Fin 192) (v : Word) (hr : Reaches s m .phe) (h : v.getLsbD 31 = false ∨ ¬ GrpBad s g v) :
    Completes (.pheGrpCfgWrite m g v) s (fun t => t.bit (R.pheGrpCfg_en g.val) = v.getLsbD 31 ∧
      t.get (R.pheGrpCfg_qa g.val) = (R.pheGrpCfg_qa g.val).of v ∧ t.get (R.pheGrpCfg_qb g.val) = (R.pheGrpCfg_qb g.val).of v ∧
      t.get (R.pheGrpCfg_qc g.val) = (R.pheGrpCfg_qc g.val).of v ∧ t.bit (R.pheGrpCfg_rot g.val) = ((R.pheGrpCfg_rot g.val).of v == 1) ∧
      t.get R.pheCost_rowcyc = t.pheCost % 2 ^ 13 ∧ Frame [R.pheGrpCfg g.val, R.pheCost] [.phe] [] s t) := by
  obtain ⟨x, hx⟩ := pheGrpEffect_stores (m := m.val) g.isLt h
  have hreg := reg_cfg s (R.pheGrpCfg g.val) v (by simp only [R.pheCost, R.pheGrpCfg]; omega)
  have hget : ∀ hi lo, (State.fin { (s.setReg (R.pheGrpCfg g.val) v).setPheCost with phe := x }).get ⟨R.pheGrpCfg g.val, hi, lo⟩ =
      (⟨R.pheGrpCfg g.val, hi, lo⟩ : Fld).of v := fun hi lo => (fin_get _ _).trans (congrArg _ hreg)
  refine completes_of_done ((exec_pheGrpCfgWrite s m g v hr).trans (congrArg done hx)) ⟨?_, hget _ _, hget _ _, hget _ _, ?_, ?_, ?_⟩
  · rw [State.bit, R.pheGrpCfg_en, hget, Fld.of_eq_one]
  · rw [State.bit, R.pheGrpCfg_rot, hget]
  · exact get_setPheCost (s := s.setReg (R.pheGrpCfg g.val) v) rfl
  · have hw : (⟨(cfgFoot (R.pheGrpCfg g.val)).zones, [.phe], []⟩ : Foot).Within s { (s.setReg (R.pheGrpCfg g.val) v).setPheCost with phe := x } :=
      ((within_cfg s _ v).mono (by simp [Foot.le, Foot.has, cfgFoot, Zone.holds])).trans (within_phe _ x (List.mem_singleton_self _))
    exact hw.frame (by simp [cfgFoot, R.pheCost_rowcyc]) (fun _ => id) (fun _ => id)

theorem pheFcfgWrite_stores (s : State) (m : Master) (v : Word) (hr : Reaches s m .phe) : Completes (.pheFcfgWrite m v) s (fun t =>
    t.reg R.pheFcfg = (s.reg R.pheFcfg &&& 0xFFFFF000#32) ||| (v &&& 0x00000FFF#32) ∧ Frame [R.pheFcfg] [] [] s t) := by
  have he : exec (.pheFcfgWrite m v) s = done (s.storeReg R.pheFcfg v) := congrArg done (guarded_unlocked s m.val .phe _ hr.1 hr.2)
  rw [storeReg_eq s v regRow_pheFcfg, mergeWrite_rw _ _ _ ⟨rfl, rfl⟩] at he
  refine completes_of_done he ⟨?_, ?_⟩
  · rw [fin_reg, reg_setReg_same]
    rfl
  · exact (within_setReg (F := ⟨[regZone R.pheFcfg R.pheFcfg], [], []⟩) s _ _).frame

/-! # The phasor engine's end of a tick

What the seal of a PHE buffer and the contributions sent at it may touch (R131, R136, R277). -/

/-- The PHE starts or stops. -/
def runFoot : Foot where
  zones := [R.pheStat_run.zone, regZone R.pheTick.addr R.pheTick.addr]
  parts := [.phe]

theorem within_pheSettle (s : State) : runFoot.Within s (pheSettle s) := by
  unfold pheSettle
  refine .ite (.refl _ s) ?_
  have h : runFoot.Within s (s.putBit R.pheStat_run s.pheLive) := within_putBit s _ _
  exact .ite h ((h.trans (within_phe _ _)).trans (within_invalidate _ R.pheTick))

/-- The seal of a buffer. -/
def sealFoot : Foot where
  zones := [R.memFault.zone, R.pheStat_run.zone, R.pheStat_buf.zone, R.pheTick.zone]
  parts := [.mem, .phe]
  pages := [.mem, .phe]

theorem within_pheSeal (s : State) : sealFoot.Within s (pheSeal s) := by
  unfold pheSeal
  split
  · exact .refl _ s
  · extract_lets buf fw hf fl s1 b cyc s2 _ s3
    have h1 : sealFoot.Within s s1 := (Foot.Within.refl _ s).engine _ _ _ (within_setWords _ _ _)
    have h2 : sealFoot.Within s s2 := (h1.trans (within_put _ R.pheStat_buf b)).trans (within_complete _ R.pheTick _)
    exact ((h2.trans (within_phe s2 _)).then (within_pheSettle _)).trans (within_edge _ .phe 0)

/-- The contributions of a tick and what they complete. -/
def sendFoot : Foot where
  zones := [R.memFault.zone]
  parts := [.dup, .out, .mem, .free]
  pages := [.mem]

theorem within_updCum {F : Foot} (s : State) (k : Nat) (f : CumSet → CumSet) (hp : .dup ∈ F.parts := by decide) : F.Within s (s.updCum k f) :=
  within_dup s _ hp

theorem within_cumSeal (b : Nat) (s : State) : sendFoot.Within s (cumSeal b s) :=
  .ite ((Foot.Within.refl _ s).engine _ _ _ ((within_setWord s _ _).trans (within_setWord _ _ _))) (.refl _ s)

theorem within_cumWrite (k : Nat) (ts : List (Word × Word × Word)) (s : State) : sendFoot.Within s (cumWrite k ts s) := by
  unfold cumWrite
  extract_lets b np s1 fl s2 ret
  have h1 : sendFoot.Within s s1 := (Foot.Within.refl _ s).engine _ _ _ ((Foot.Within.refl _ s).iterUp fun i _ u =>
    .ite (within_setWords u _ _) (within_setWords u _ _))
  have h2 : sendFoot.Within s s2 := .ite ((h1.engine _ _ _ (within_setWord _ _ _))) h1
  exact (h2.trans (within_updCum _ k _)).trans (within_cumSeal b _)

theorem within_cumTotals (s : State) (k : Nat) : sendFoot.Within s (s.cumTotals k).2 := by
  unfold State.cumTotals
  refine List.foldlRecOn (motive := fun a : List (Word × Word × Word) × State => sendFoot.Within s a.2) _ _ (.refl _ s) fun a ha c _ => ?_
  dsimp only
  split
  · exact (ha.trans (within_fresh _)).trans (within_fresh _)
  · exact ha

theorem within_cumForward (k : Nat) (s : State) : sendFoot.Within s (cumForward k s) := by
  unfold cumForward
  extract_lets x s1 t s2 chans np
  have h1 : sendFoot.Within s s1 := within_updCum s k _
  have h2 : sendFoot.Within s s2 := (h1.trans (within_cumTotals s1 k)).trans (within_emit _ _)
  refine .ite (.refl _ s) (.ite (.ite h2 (h2.trans (within_cumWrite k _ _))) (.ite h1 (h1.foldl fun f _ u => ?_)))
  exact .ite (.refl _ u) (within_emit _ _)

theorem within_contribute (r : Nat) (s : State) : sendFoot.Within s (contribute r s) :=
  (Foot.Within.refl _ s).iterUp fun k _ u => by
    refine .ite (.refl _ u) ?_
    have h : sendFoot.Within u (if u.contributes k then cumAdd k 0 (u.contributions k r) u else u) := .ite (within_updCum u k _) (.refl _ u)
    exact .ite (h.trans (within_cumForward k _)) h

/-! # PHE_DONE and PHE_LATE (R131, R132, R137, R145, R150) -/

theorem Foot.Within.pheLive {F : Foot} {s t : State} (h : F.Within s t) (he : F.clear R.pheCtrl_en = true := by decide)
    (hr : F.clear R.gridStat_run = true := by decide) (hm : F.clear R.gridCfg_mode = true := by decide) : t.pheLive = s.pheLive := by
  unfold State.pheLive
  rw [h.bit _ he, h.bit _ hr, h.get _ hm]

theorem Foot.Within.rowsPerTick {F : Foot} {s t : State} (h : F.Within s t) (hm : F.clear R.gridCfg_mode = true := by decide)
    (hn : F.clear R.gridCfg_nsel = true := by decide) : t.rowsPerTick = s.rowsPerTick := by
  unfold State.rowsPerTick State.gridN
  rw [h.get _ hm, h.get _ hn]

/-! ## The seal of the buffer -/

/-- What STAT.RUN and PHE_TICK show once no tick is in the buffer (R137). -/
theorem pheSettle_idle (s : State) (h : s.phe.busy = none) : (pheSettle s).phe.busy = none ∧ (pheSettle s).bit R.pheStat_run = s.pheLive ∧
    (pheSettle s).groupValid R.pheTick = (s.pheLive && s.groupValid R.pheTick) ∧ (pheSettle s).groupWord R.pheTick 1 = s.groupWord R.pheTick 1 := by
  have hp : (⟨[R.pheStat_run.zone], [], []⟩ : Foot).Within s (s.putBit R.pheStat_run s.pheLive) := within_putBit s _ _
  have hrun : (s.putBit R.pheStat_run s.pheLive).bit R.pheStat_run = s.pheLive := bit_putBit_same _ _ _ rfl (by decide)
  unfold pheSettle
  rw [if_neg (by rw [h]; decide)]
  dsimp only
  rw [hp.pheLive]
  split
  case isTrue hl => exact ⟨h, hrun, by rw [hp.groupValid R.pheTick, hl, Bool.true_and], hp.groupWord _ _⟩
  case isFalse hl =>
    refine ⟨h, ?_, ?_, (groupWord_invalidate _ _ 0).trans (hp.groupWord _ _)⟩
    · exact ((within_invalidate (F := ⟨[regZone R.pheTick.addr R.pheTick.addr], [], []⟩) _ R.pheTick).bit R.pheStat_run).trans hrun
    · rw [groupValid_invalidate, (Bool.not_eq_true _).mp hl, Bool.false_and]

/-- The tick in the buffer has ended (R131, R136). -/
structure PheSealed (r : Nat) (s t : State) : Prop where
  busy : t.phe.busy = none
  pending : Pends t .phe 0
  buf : t.get R.pheStat_buf = (r / s.rowsPerTick) % 2
  run : t.bit R.pheStat_run = s.pheLive
  valid : t.groupValid R.pheTick = s.pheLive
  row : t.groupWord R.pheTick 1 = BitVec.ofNat 32 r

theorem pends_edge (s : State) (p : Page) (b : Nat) (h : b < 32) : Pends (s.edge p b) p b := by
  unfold Pends
  rw [edge_hdr, BitVec.getLsbD_or, BitVec.getLsbD_ofNat, Nat.testBit_two_pow_self, decide_eq_true h, Bool.true_and, Bool.or_true]

theorem pheSeal_spec (s : State) (r : Nat) (h : s.phe.busy = some r) : PheSealed r s (pheSeal s) := by
  unfold pheSeal
  split
  case h_1 hn => rw [h] at hn; cases hn
  case h_2 r' hr =>
  obtain rfl : r = r' := Option.some.inj (h.symm.trans hr)
  extract_lets buf fw hf fl s1 b cyc s2 _ s3
  have h1 : sealFoot.Within s s1 := (Foot.Within.refl _ s).engine _ _ _ (within_setWords _ _ _)
  have h2 : sealFoot.Within s s2 := (h1.trans (within_put _ R.pheStat_buf b)).trans (within_complete _ R.pheTick _)
  have h3 : sealFoot.Within s s3 := h2.trans (within_phe s2 _)
  have hl : s3.pheLive = s.pheLive := h3.pheLive
  obtain ⟨hbusy, hrun, hvalid, hword⟩ := pheSettle_idle s3 (by with_reducible rfl)
  have hk : (⟨[], [.phe], []⟩ : Foot).Within s2 s3 := within_phe s2 _
  have hv3 : s3.groupValid R.pheTick = true := (hk.groupValid R.pheTick).trans (groupValid_complete (s1.put R.pheStat_buf b) R.pheTick _)
  have he : (⟨[], [], [.phe]⟩ : Foot).Within (pheSettle s3) ((pheSettle s3).edge .phe 0) := within_edge _ .phe 0
  have hphe : ((pheSettle s3).edge .phe 0).phe = (pheSettle s3).phe := he.part .phe (by decide)
  refine ⟨by rw [hphe, hbusy], pends_edge _ _ _ (by decide), ?_, ?_, ?_, ?_⟩
  · have hb : s2.get R.pheStat_buf = b :=
      ((within_complete (F := ⟨[R.pheTick.zone], [], [.phe]⟩) _ R.pheTick _).get R.pheStat_buf).trans
        ((get_put_same _ _ _ (by decide) (by decide)).trans (Nat.mod_mod _ 2))
    have hr : b = (r / s.rowsPerTick) % 2 := by simp only [b, h1.rowsPerTick]
    rw [he.get R.pheStat_buf, (within_pheSettle s3).get R.pheStat_buf, hk.get R.pheStat_buf, hb, hr]
  · rw [he.bit R.pheStat_run, hrun, hl]
  · rw [he.groupValid R.pheTick, hvalid, hv3, hl, Bool.and_true]
  · rw [he.groupWord R.pheTick 1, hword, hk.groupWord R.pheTick 1]
    exact groupWord_complete_head (s1.put R.pheStat_buf b) R.pheTick _ _ (by decide)

/-- Nothing outside the footprint of a later step is lost. -/
theorem PheSealed.after {F : Foot} {r : Nat} {s t u : State} (h : PheSealed r s t) (hw : F.Within t u) (hp : Part.phe ∉ F.parts := by decide)
    (hb : F.clear R.pheStat_buf = true := by decide) (hr : F.clear R.pheStat_run = true := by decide)
    (hv : F.clear ⟨R.pheTick.addr, 31, 31⟩ = true := by decide) (hg : F.clear ⟨R.pheTick.addr + 4, 31, 0⟩ = true := by decide) : PheSealed r s u := by
  have e : u.phe = t.phe := hw.part .phe hp
  exact ⟨by rw [e, h.busy], hw.pend _ _ h.pending, (hw.get _ hb).trans h.buf, (hw.bit _ hr).trans h.run,
    (hw.groupValid R.pheTick hv).trans h.valid, (hw.groupWord R.pheTick 1 hg).trans h.row⟩

/-! ## PHE_DONE -/

/-- The tick in the buffer ends and its contributions go out. -/
def pheEnd (s : State) : State :=
  match s.phe.busy with
  | some r => contribute r (pheSeal s)
  | none => s

/-- The pairs of a tick that have not started go through phase 1. -/
def startPairs (vs : List BVerdict) (s : State) : State :=
  match s.pea.tick with
  | some r => if (s.pairRun 0).ph1 || (s.pairRun 0).finished then s else phase1 r vs s
  | none => s

theorem exec_pheDone (s : State) (vs : List BVerdict) : exec (.pheDone vs) s = done (startPairs vs (pheEnd s)) := by
  show done (startPairs vs (if s.phe.busy.isSome then (match s.phe.busy with | some r => contribute r (pheSeal s) | none => pheSeal s) else s)) = _
  refine congrArg (fun u => done (startPairs vs u)) ?_
  unfold pheEnd
  cases s.phe.busy with
  | some r => exact if_pos rfl
  | none => exact if_neg Bool.false_ne_true

theorem pheEnd_idle {s : State} (h : s.phe.busy = none) : pheEnd s = s := by
  unfold pheEnd
  rw [h]

theorem startPairs_idle {s : State} (vs : List BVerdict) (h : s.pea.tick = none ∨ (s.pairRun 0).ph1 = true ∨ (s.pairRun 0).finished = true) :
    startPairs vs s = s := by
  unfold startPairs
  split
  case h_1 r hr =>
    refine if_pos ?_
    rcases h with h | h | h
    · rw [hr] at h; cases h
    · rw [h, Bool.true_or]
    · rw [h, Bool.or_true]
  case h_2 => rfl

theorem startPairs_run {s : State} {r : Nat} (vs : List BVerdict) (hr : s.pea.tick = some r) (h1 : (s.pairRun 0).ph1 = false)
    (hf : (s.pairRun 0).finished = false) : startPairs vs s = phase1 r vs s := by
  unfold startPairs
  rw [hr, h1, hf]
  rfl

/-- What ends a tick of the phasor engine. -/
def endFoot : Foot where
  zones := sealFoot.zones
  parts := sealFoot.parts ++ sendFoot.parts
  pages := sealFoot.pages

theorem endFoot_clear_pair (p : Nat) (hp : p < 8) :
    endFoot.clear (R.peaPairPh2_first p) = true ∧ endFoot.clear (R.peaPairList_count p) = true := by
  interval_cases p <;> decide

theorem within_pheEnd (s : State) : endFoot.Within s (pheEnd s) := by
  unfold pheEnd
  split
  · exact ((within_pheSeal s).mono rfl).then (within_contribute _ _)
  · exact .refl _ s

theorem pheEnd_sealed {s : State} {r : Nat} (h : s.phe.busy = some r) : PheSealed r s (pheEnd s) := by
  unfold pheEnd
  rw [h]
  exact (pheSeal_spec s r h).after (within_contribute r _)

/-- Starting the pairs touches what evaluation touches, and keeps the tick and the committed bytes. -/
theorem startPairs_keeps (vs : List BVerdict) (s : State) : evalFoot.Within s (startPairs vs s) ∧ (startPairs vs s).pea.tick = s.pea.tick ∧
    (startPairs vs s).pea.committed = s.pea.committed := by
  unfold startPairs
  split
  case h_1 r hr =>
    split
    · exact ⟨.refl _ s, rfl, rfl⟩
    · obtain ⟨hw, hc, ht, _⟩ := phase1_spec r vs s
      exact ⟨hw, ht, hc⟩
  case h_2 => exact ⟨.refl _ s, rfl, rfl⟩

theorem pheEnd_pea (s : State) : (pheEnd s).pea = s.pea := (within_pheEnd s).part .pea (by decide)

theorem PheSealed.fin {r : Nat} {s t : State} (h : PheSealed r s t) : PheSealed r s t.fin :=
  ⟨by rw [fin_phe, h.busy], fin_pend_keeps _ _ _ h.pending, by rw [fin_get, h.buf], by rw [fin_bit, h.run], by rw [fin_groupValid, h.valid],
    by rw [fin_groupWord, h.row]⟩

/-- Phase 1 of a tick whose pairs had not started. -/
theorem pheDone_starts (s : State) (vs : List BVerdict) (ht : s.pea.tick ≠ none) (h1 : (s.pairRun 0).ph1 = false) (hf : (s.pairRun 0).finished = false) :
    Completes (.pheDone vs) s (fun t => (∀ p : Fin 8, Ph1Done s p.val (t.pairRun p.val)) ∧ t.pea.tick = s.pea.tick ∧ t.pea.committed = s.pea.committed) := by
  obtain ⟨r, hr⟩ := Option.ne_none_iff_exists'.mp ht
  have hpea := pheEnd_pea s
  have hrun : ∀ q, (pheEnd s).pairRun q = s.pairRun q := fun q => by unfold State.pairRun; rw [hpea]
  obtain ⟨-, hc, hk, hd⟩ := phase1_spec r vs (pheEnd s)
  refine completes_of_done (u := phase1 r vs (pheEnd s)) ?_ ⟨fun p => ?_, ?_, ?_⟩
  · rw [exec_pheDone, startPairs_run vs (by rw [hpea, hr]) (by rw [hrun, h1]) (by rw [hrun, hf])]
  · have hcl := endFoot_clear_pair p.val p.isLt
    obtain ⟨g1, g2, g3⟩ := hd p.val p.isLt
    rw [(within_pheEnd s).get _ hcl.1, (within_pheEnd s).get _ hcl.2] at g2
    rw [(within_pheEnd s).get _ hcl.2] at g3
    rw [fin_pairRun]
    exact ⟨g1, g2, g3⟩
  · rw [fin_pea, hk, hpea]
  · rw [fin_pea, hc, hpea]

/-! # What a member fault shows (R150, R151) -/

/-- A member fault sets FAULT, raises its source and closes the FO gate. -/
theorem memberFault_shows (s : State) (p place e cause row : Nat) : (memberFault p place e cause row s).bit R.peaStat_fault = true ∧
    Pends (memberFault p place e cause row s) .pea 1 ∧ (memberFault p place e cause row s).bit R.trmStat_fo_gate = false := by
  unfold memberFault
  extract_lets first fs _ s1 least cnt s2 s3
  have hb : (s3.putBit R.peaStat_fault true).bit R.peaStat_fault = true := bit_putBit_same _ _ _ rfl (by decide)
  have he : (⟨[], [.evr], [.pea]⟩ : Foot).Within (s3.putBit R.peaStat_fault true)
      (((s3.putBit R.peaStat_fault true).edge .pea 1).event 0x20 cause e (BitVec.ofNat 32 row) 0 p) :=
    (within_edge _ .pea 1).trans (within_event _ _ _ _ _ _ _)
  have hev : (⟨[], [.evr], []⟩ : Foot).Within ((s3.putBit R.peaStat_fault true).edge .pea 1)
      (((s3.putBit R.peaStat_fault true).edge .pea 1).event 0x20 cause e (BitVec.ofNat 32 row) 0 p) := within_event _ _ _ _ _ _ _
  have hf := (he.bit R.peaStat_fault).trans hb
  exact ⟨((within_healthLoss _).bit R.peaStat_fault).trans hf, (within_healthLoss _).pend _ _ (hev.pend _ _ (pends_edge _ _ _ (by decide))),
    foGate_healthLoss _ hf⟩

/-- The first member fault is captured with its cause and row. -/
theorem memberFault_captured (s : State) (p place e cause row : Nat) (hc : s.pea.faultCount = s.pea.faults.length) (hf : s.pea.faults = []) :
    (memberFault p place e cause row s).get R.peaStat_fcause = cause % 8 ∧ (memberFault p place e cause row s).groupValid R.peaFaultInfo = true ∧
    (memberFault p place e cause row s).groupWord R.peaFaultInfo 2 = BitVec.ofNat 32 row := by
  unfold memberFault
  extract_lets first fs _ s1 least cnt s2 s3
  have hfirst : first = true := by simp only [first, hc, beq_self_eq_true]
  have hleast : least = (p, place, e, cause) := by simp [least, fs, hf]
  have e2 : s2 = (s1.put R.peaStat_fcause least.2.2.2).complete R.peaFaultInfo
      [BitVec.ofNat 32 (least.2.2.1 + least.1 * 2 ^ 12 + least.2.2.2 * 2 ^ 15 + cnt), BitVec.ofNat 32 row] := by
    simp only [s2, hfirst, if_true]
  have h3 : (⟨[], [.life], []⟩ : Foot).Within s2 s3 := .ite (within_addLife s2 _ _) (.refl _ s2)
  have h4 : (⟨[R.peaStat_fault.zone], [.life, .evr], [.pea]⟩ : Foot).Within s2
      (((s3.putBit R.peaStat_fault true).edge .pea 1).event 0x20 cause e (BitVec.ofNat 32 row) 0 p) :=
    (((h3.mono rfl).trans (within_putBit s3 _ true)).trans (within_edge _ .pea 1)).trans (within_event _ _ _ _ _ _ _)
  have h5 : (⟨R.peaStat_fault.zone :: authFoot.zones, [.life] ++ authFoot.parts, .pea :: authFoot.pages⟩ : Foot).Within s2 (healthLoss
      (((s3.putBit R.peaStat_fault true).edge .pea 1).event 0x20 cause e (BitVec.ofNat 32 row) 0 p)) :=
    (h4.mono rfl).then (within_healthLoss _)
  have hg : s2.get R.peaStat_fcause = cause % 8 := by
    have hk := (within_complete (F := ⟨[R.peaFaultInfo.zone], [], [.pea]⟩) (s1.put R.peaStat_fcause least.2.2.2) R.peaFaultInfo
      [BitVec.ofNat 32 (least.2.2.1 + least.1 * 2 ^ 12 + least.2.2.2 * 2 ^ 15 + cnt), BitVec.ofNat 32 row]).get R.peaStat_fcause
    rw [e2, hk, get_put_same _ _ _ (by decide) (by decide), hleast]
    rfl
  refine ⟨(h5.get R.peaStat_fcause).trans hg, (h5.groupValid R.peaFaultInfo).trans ?_, (h5.groupWord R.peaFaultInfo 2).trans ?_⟩
  · rw [e2, groupValid_complete]
  · rw [e2]
    exact groupWord_complete _ R.peaFaultInfo [_, _] 1 (Nat.lt_succ_self 1) (by decide)

/-! # PHE_LATE (R132, R150) -/

/-- Every pair of the running tick is past. -/
def pairsPast (t : Table PairRun) : Table PairRun :=
  (List.range 8).foldl (fun t p => tupd {} t p (fun x => { x with ph1 := false, ph2 := false, finished := true })) t

/-- An update of every entry below `n` finishes each. -/
theorem finished_foldl (n : Nat) (t : Table PairRun) (p : Nat) (hp : p < n) :
    (tget {} ((List.range n).foldl (fun t p => tupd {} t p (fun x => { x with ph1 := false, ph2 := false, finished := true })) t) p : PairRun).finished = true := by
  induction n with
  | zero => exact absurd hp (Nat.not_lt_zero p)
  | succ n ih =>
    rw [List.range_succ, List.foldl_append]
    by_cases e : p = n
    · subst e
      exact congrArg PairRun.finished (tget_tset_same ..)
    · exact (congrArg PairRun.finished (tget_tset_ne _ _ _ _ _ e)).trans (ih (by omega))

/-- The tick overruns: LATE, the member fault, and every pair past. -/
def lateTick (r : Nat) (s : State) : State := (memberFault 0 0 0 6 r (s.putBit R.pheStat_late true)).edge .phe 1

theorem exec_pheLate_idle (s : State) (h : s.phe.busy = none) : exec .pheLate s = .next s.fin := by
  show execPheLate s = _
  unfold execPheLate
  rw [h]
  rfl

theorem exec_pheLate_busy (s : State) (r : Nat) (h : s.phe.busy = some r) : exec .pheLate s = done { lateTick r s with
    phe := { (lateTick r s).phe with busy := none }, pea := { (lateTick r s).pea with pair := pairsPast (lateTick r s).pea.pair } } := by
  show execPheLate s = _
  unfold execPheLate
  rw [h]
  rfl

theorem lateTick_pea (s : State) (r : Nat) : (lateTick r s).pea =
    { s.pea with faults := s.pea.faults ++ [(0, 0, 0, 6)], faultCount := s.pea.faultCount + 1 } :=
  ((within_edge (F := ⟨[], [], [.phe]⟩) _ .phe 1).part .pea (by decide)).trans (memberFault_pea _ _ _ _ _ _)

/-- What a late tick shows. -/
theorem lateTick_shows (s : State) (r : Nat) : (lateTick r s).bit R.pheStat_late = true ∧ (lateTick r s).bit R.peaStat_fault = true ∧
    (s.pea.faultCount = s.pea.faults.length → s.pea.faults = [] → (lateTick r s).get R.peaStat_fcause = 6 ∧
      (lateTick r s).groupValid R.peaFaultInfo = true ∧ (lateTick r s).groupWord R.peaFaultInfo 2 = BitVec.ofNat 32 r) ∧
    Pends (lateTick r s) .pea 1 ∧ Pends (lateTick r s) .phe 1 ∧ (lateTick r s).bit R.trmStat_fo_gate = false := by
  unfold lateTick
  generalize hu : s.putBit R.pheStat_late true = u
  have hpea : u.pea = s.pea := by rw [← hu]; rfl
  have hl : u.bit R.pheStat_late = true := by rw [← hu]; exact bit_putBit_same _ _ _ rfl (by decide)
  obtain ⟨hf, hp, hg⟩ := memberFault_shows u 0 0 0 6 r
  have he : (⟨[], [], [.phe]⟩ : Foot).Within (memberFault 0 0 0 6 r u) ((memberFault 0 0 0 6 r u).edge .phe 1) := within_edge _ .phe 1
  refine ⟨?_, (he.bit _).trans hf, fun hc hn => ?_, he.pend _ _ hp, pends_edge _ _ _ (by decide), (he.bit _).trans hg⟩
  · exact (he.bit _).trans (((within_memberFault u 0 0 0 6 r).bit R.pheStat_late).trans hl)
  · obtain ⟨h1, h2, h3⟩ := memberFault_captured u 0 0 0 6 r (by rw [hpea, hc]) (by rw [hpea, hn])
    exact ⟨(he.get _).trans h1, (he.groupValid R.peaFaultInfo).trans h2, (he.groupWord R.peaFaultInfo 2).trans h3⟩

theorem pheLate_completes (s : State) (r : Nat) (h : s.phe.busy = some r) : Completes .pheLate s (fun t =>
    t.phe.busy = none ∧ t.bit R.pheStat_late = true ∧ t.bit R.peaStat_fault = true ∧
      (s.pea.faultCount = s.pea.faults.length → s.pea.faults = [] → t.get R.peaStat_fcause = 6 ∧ t.groupValid R.peaFaultInfo = true ∧
        t.groupWord R.peaFaultInfo 2 = BitVec.ofNat 32 r) ∧ Pends t .pea 1 ∧ Pends t .phe 1 ∧ t.pea.tick = s.pea.tick ∧
      t.pea.faultCount = s.pea.faultCount + 1 ∧ (∀ p : Fin 8, (t.pairRun p.val).finished = true) ∧
      t.pea.committed = s.pea.committed ∧ t.bit R.trmStat_fo_gate = false) := by
  have hpea := lateTick_pea s r
  obtain ⟨h1, h2, h3, h4, h5, h6⟩ := lateTick_shows s r
  refine completes_of_done (exec_pheLate_busy s r h) ?_
  generalize lateTick r s = u at *
  have hw : (⟨[], [.phe, .pea], []⟩ : Foot).Within u { u with phe := { u.phe with busy := none }, pea := { u.pea with pair := pairsPast u.pea.pair } } :=
    (within_phe u { u.phe with busy := none }).trans
      (within_pea { u with phe := { u.phe with busy := none } } { u.pea with pair := pairsPast u.pea.pair })
  refine ⟨by rw [fin_phe], by rw [fin_bit, hw.bit _, h1], by rw [fin_bit, hw.bit _, h2], fun hc hn => ?_,
    fin_pend_keeps _ _ _ (hw.pend _ _ h4), fin_pend_keeps _ _ _ (hw.pend _ _ h5), by rw [fin_pea, hpea], by rw [fin_pea, hpea],
    fun p => ?_, by rw [fin_pea, hpea], by rw [fin_bit, hw.bit _, h6]⟩
  · obtain ⟨g1, g2, g3⟩ := h3 hc hn
    exact ⟨by rw [fin_get, hw.get _, g1], by rw [fin_groupValid, hw.groupValid _, g2], by rw [fin_groupWord, hw.groupWord _ _, g3]⟩
  · rw [fin_pairRun]
    exact finished_foldl 8 _ _ p.isLt

/-- Settles O23: each clause is the lemma of its command. -/
theorem phasorCommandsActAsListed : Obligations.PhasorCommandsActAsListed := by
  unfold Obligations.PhasorCommandsActAsListed
  refine fun s => ⟨fun m v hr => ⟨fun q => ⟨fun hq hv => ?_, fun hq => ⟨fun hw hb => ?_, fun hw => pheQCfgWrite_stores s m q v hr hq hw⟩⟩,
    fun g qs hqs => ⟨fun hb => ?_, fun hg => ?_⟩, pheFcfgWrite_stores s m v hr⟩, fun vs => ⟨fun hb ht => ?_, fun r hr => ?_, pheDone_starts s vs⟩,
    exec_pheLate_idle s, pheLate_completes s⟩
  · rw [exec_pheQCfgWrite s m q v hr, pheQCfgEffect, if_pos (by rw [hv, decide_eq_true hq]; rfl)]
    rfl
  · rw [exec_pheQCfgWrite s m q v hr, pheQCfgEffect, if_neg (by rcases hq with hq | hq <;> simp [hq, -BitVec.getLsbD_eq_getElem]),
      if_pos (by rw [hw, (evenBin_iff v).mpr hb]; rfl)]
    rfl
  · subst hqs
    rw [exec_pheGrpCfgWrite s m g v hr, pheGrpEffect_bad hb.1 hb.2]
    rfl
  · subst hqs
    refine pheGrpCfgWrite_stores s m g v hr (hg.imp_right fun ⟨h1, h2, h3, h4⟩ hb => ?_)
    rcases hb with ⟨q, hq, hb⟩ | hb | ⟨q, hq, hb⟩ | hb
    · obtain ⟨h5, h6⟩ := h1 q hq
      rcases hb with hb | hb
      · omega
      · rw [h6] at hb; cases hb
    · exact hb h2
    · exact hb (h3 q hq)
    · omega
  · rw [exec_pheDone, pheEnd_idle hb, startPairs_idle vs ht]
    rfl
  · obtain ⟨hw, ht, hc⟩ := startPairs_keeps vs (pheEnd s)
    obtain ⟨h1, h2, h3, h4, h5, h6⟩ := ((pheEnd_sealed hr).after hw).fin
    refine completes_of_done (exec_pheDone s vs) ⟨h1, h2, h3, h4, h5, h6, ?_, ?_⟩
    · rw [fin_pea, ht, pheEnd_pea]
    · rw [fin_pea, hc, pheEnd_pea]

/-! # The seal of a row

What each step of ROW_SEAL may touch (R18, R66, R94 to R98, R103 to R107). -/

/-! ## Values and the tracker -/

theorem within_setPlane {F : Foot} (s : State) (r q : Nat) (v : Int) (ql : Nat) (hp : .mem ∈ F.parts := by decide) : F.Within s (s.setPlane r q v ql) :=
  (within_setWord s _ _ hp).trans (within_setBytes _ _ _ hp)

theorem within_updAin {F : Foot} (s : State) (n : Nat) (f : AinChan → AinChan) (hp : .afe ∈ F.parts := by decide) : F.Within s (s.updAin n f) :=
  within_afe s _ hp

/-- A follower's missing updates (R98). -/
def missFoot : Foot where
  zones := [R.gridStat_desync.zone]
  parts := [.grid, .out]

/-- The local quantities of a row. -/
def localFoot : Foot where
  parts := [.mem, .afe]

/-- The quantities of a row. -/
def planeFoot : Foot where
  parts := [.grid, .mem]

/-- The tracker. -/
def trackFoot : Foot where
  zones := [R.gridStat_trk.zone, R.gridStat_clamp.zone]
  parts := [.grid, .out]
  pages := [.grid]

/-- What the seal of a row touches before a tick starts there. -/
def rowFoot : Foot where
  zones := [R.memFault.zone, R.gridStat_desync.zone, R.gridStat_trk.zone, R.gridStat_clamp.zone, R.gridNow.zone]
  parts := [.grid, .out, .mem, .afe]
  pages := [.mem, .grid]

theorem within_updateMissing (rec' : RowRec) (s : State) : missFoot.Within s (updateMissing rec' s) := by
  unfold updateMissing
  extract_lets _ n s1
  have h1 : missFoot.Within s s1 := (within_grid s _).trans (within_putBit _ R.gridStat_desync true)
  refine .ite ((within_grid s _).trans (within_putBit _ R.gridStat_desync false)) (.ite (.refl _ s) (.ite (.refl _ s) (.ite (within_grid s _) ?_)))
  exact .ite (h1.trans (within_emit _ _)) h1

theorem within_sealLocal (rec' : RowRec) (n : Nat) (s : State) : localFoot.Within s (sealLocal rec' n s) := by
  unfold sealLocal
  extract_lets r x q s0 s1 open_ add s2
  have h0 : localFoot.Within s s0 := within_setPlane s _ _ _ _
  have h1 : localFoot.Within s s1 := by
    simp only [s1]
    split
    · exact .refl _ s
    · exact .ite (.ite (h0.trans (within_updAin s0 n _)) h0) (.refl _ s)
  have h2 : localFoot.Within s s2 := .ite h1 (h1.trans (within_setPlane _ _ _ _ _))
  exact .ite (h2.trans (within_updAin _ _ _)) h2

theorem within_sealQuantity (r q : Nat) (s : State) : planeFoot.Within s (sealQuantity r q s) := by
  unfold sealQuantity
  extract_lets test ql tq h bad run h' _ s1
  have h1 : planeFoot.Within s s1 := .ite (.refl _ s) (within_grid s _)
  split
  · exact h1.trans (within_setPlane _ _ _ _ _)
  · exact .ite (h1.trans (within_setPlane _ _ _ _ _)) (.ite (h1.trans (within_setPlane _ _ _ _ _)) (h1.trans (within_setPlane _ _ _ _ _)))
  · exact h1.trans (within_setPlane _ _ _ _ _)

theorem within_formInc (slew row : Nat) (fMeas fNow : Int) (s : State) : trackFoot.Within s (formInc slew row fMeas fNow s) := by
  unfold formInc
  extract_lets f row inc _ _ s1
  have h1 : trackFoot.Within s s1 := (within_putBit s R.gridStat_clamp f.2).trans (within_grid _ _)
  exact h1.trans (within_emit _ _)

theorem within_setTrk {F : Foot} (s : State) (t : Nat) (hz : F.has R.gridStat_trk.zone = true := by decide) : F.Within s (s.setTrk t) :=
  within_put s R.gridStat_trk t hz

theorem within_trackerMeasure (rec' : RowRec) (s : State) : trackFoot.Within s (trackerMeasure rec' s) := by
  unfold trackerMeasure
  extract_lets trk v fz now meas _ s1 dev df near freeze update settle slew rel _ g
  clear_value meas
  have h1 : trackFoot.Within s s1 := within_grid s _
  have hf : ∀ u, trackFoot.Within u (freeze u) := fun u => ((within_setTrk u _).trans (within_grid _ _)).trans (within_edge _ .grid 0)
  have hu : ∀ k u, trackFoot.Within u (update k u) := fun k u => by
    simp only [update]
    cases meas with
    | none => exact .refl _ u
    | some m => exact within_formInc _ _ _ _ u
  have hs : ∀ u, trackFoot.Within u (settle u) := fun u => by
    simp only [settle]
    have h : trackFoot.Within u { u with grid := { u.grid with goodCycles := if near then u.grid.goodCycles + 1 else 0 } } := within_grid u _
    exact .ite ((h.trans (within_setTrk _ _)).trans (within_edge _ .grid 1)) h
  refine .ite (.refl _ s) (.ite (.ite (h1.trans (within_grid _ _)) (.ite (h1.trans (within_grid _ _)) ?_)) ?_)
  · exact ((h1.trans (within_setTrk _ _)).trans (within_grid _ _)).trans (hu slew _)
  · refine .ite (.ite (h1.trans (hf _)) ((h1.trans (hu slew _)).trans (hs _))) (.ite (.ite (h1.trans (hf _)) (h1.trans (hu slew _))) (.ite ?_ (h1.trans (within_grid _ _))))
    exact .ite (h1.trans (hf _)) ((h1.trans (hu rel _)).trans (hs _))

/-! ## A tick starts (R19, R131, R145, R152, R276, R280) -/

/-- The commit of a tick and its report. -/
def commitFoot : Foot where
  zones := [R.memFault.zone, R.peaTick.zone, R.peaLiveRes.zone, R.peaStat_run.zone] ++ faultFoot.zones
  parts := [.mem, .trm] ++ faultFoot.parts
  pages := [.mem] ++ faultFoot.pages

/-- The committed bytes are sealed. -/
def bytesFoot : Foot where
  zones := [R.memFault.zone, R.peaTick.zone]
  parts := [.mem]
  pages := [.mem, .pea]

theorem within_committedSeal (r : Nat) (s : State) : bytesFoot.Within s (committedSeal r s) := by
  unfold committedSeal
  extract_lets bytes s1 cyc
  have h1 : bytesFoot.Within s s1 := (Foot.Within.refl _ s).engine _ _ _
    (((within_setWord s _ _).trans (within_setBytes _ _ _)).trans (within_setWords _ _ _))
  exact (h1.trans (within_complete _ R.peaTick _)).trans (within_edge _ .pea 0)

/-- An applied live change is reported. -/
def reportFoot : Foot where
  zones := [R.peaLiveRes.zone]
  parts := [.pea]
  pages := [.pea]

theorem within_liveReport (s : State) : reportFoot.Within s (liveReport s) := by
  unfold liveReport
  split
  · exact .refl _ s
  · exact ((within_pea s _).trans (within_complete _ R.peaLiveRes _)).trans (within_edge _ .pea 3)

/-- The bytes of tick `k` are committed where every pair has finished; else the tick overruns (R20). -/
def commitBytes (k : Nat) (s : State) : State :=
  match (List.range 8).filter (fun p => !(s.pairRun p).finished) with
  | [] => { s with pea := { s.pea with committed := s.pea.work } }
  | p :: _ => memberFault p 0 0 4 k s

/-- No byte is committed while EN = 0. -/
def dropBytes (s : State) : State := if s.bit R.peaCtrl_en then s else { s with pea := { s.pea with committed := [] } }

/-- The running tick `k` commits. -/
def commitTick (k : Nat) (s : State) : State :=
  let s := liveReport (committedSeal k (dropBytes (commitBytes k s)))
  { s with trm := { s.trm with hashRow := some k, hashMask := (List.range 8).map (fun w => s.reg (R.dupHmask w)) } }

/-- The commit of the running tick, where one runs. -/
def commitRunning (s : State) : State :=
  match s.pea.tick with
  | none => if s.bit R.peaCtrl_en then s else if s.pea.committed.isEmpty then s else { s with pea := { s.pea with committed := [] } }
  | some k => commitTick k s

/-- No tick runs any more. -/
def commitEnd (s : State) : State :=
  let s := if s.bit R.peaCtrl_en then s else (s.putBit R.peaStat_run false).invalidate R.peaTick
  { s with pea := { s.pea with tick := none, faults := [] } }.requestPass

theorem outputCommit_eq {s u : State} (hu : u = { s with trm := { s.trm with shadowOr := 0 } }) : outputCommit s = commitEnd (commitRunning u) := by
  unfold outputCommit
  extract_lets +onlyGivenNames _ s1
  have hs : u = s1 := hu
  clear_value s1
  subst hs
  refine congrArg commitEnd ?_
  unfold commitRunning
  cases u.pea.tick with
  | none => rfl
  | some k => rfl

theorem within_commitBytes (k : Nat) (s : State) : faultFoot.Within s (commitBytes k s) := by
  unfold commitBytes
  split
  · exact within_pea s _
  · exact within_memberFault _ _ _ _ _ _

theorem within_dropBytes {F : Foot} (s : State) (hp : .pea ∈ F.parts := by decide) : F.Within s (dropBytes s) := .ite (.refl _ s) (within_pea s _ hp)

theorem within_commitTick (k : Nat) (s : State) : commitFoot.Within s (commitTick k s) := by
  unfold commitTick
  extract_lets s1
  have h1 : commitFoot.Within s s1 :=
    ((((within_commitBytes k s).mono rfl).trans (within_dropBytes _)).then (within_committedSeal _ _)).then (within_liveReport _)
  exact h1.trans (within_trm _ _)

theorem within_commitRunning (s : State) : commitFoot.Within s (commitRunning s) := by
  unfold commitRunning
  split
  · exact .ite (.refl _ s) (.ite (.refl _ s) (within_pea s _))
  · exact within_commitTick _ s

/-- What the end of a commit touches. -/
def endCommitFoot : Foot where
  zones := [R.peaStat_run.zone, regZone R.peaTick.addr R.peaTick.addr]
  parts := [.pea, .trm]

theorem within_commitEnd (s : State) : endCommitFoot.Within s (commitEnd s) := by
  unfold commitEnd
  extract_lets s1
  have h1 : endCommitFoot.Within s s1 := .ite (.refl _ s) ((within_putBit s R.peaStat_run false).trans (within_invalidate _ R.peaTick))
  exact (h1.trans (within_pea _ _)).trans (within_requestPass _)

theorem within_outputCommit (s : State) : commitFoot.Within s (outputCommit s) := by
  have h : commitFoot.Within s { s with trm := { s.trm with shadowOr := 0 } } := within_trm s _
  rw [outputCommit_eq rfl]
  exact (h.trans (within_commitRunning _)).then (within_commitEnd _)

/-- The phasor engine's tick. -/
def pheFoot : Foot where
  zones := [R.memFault.zone, R.pheStat_run.zone]
  parts := [.mem, .phe]
  pages := [.mem]

theorem within_pheTakeCfg (s : State) : pheFoot.Within s (pheTakeCfg s) := by
  unfold pheTakeCfg
  extract_lets _ s1 f
  have h1 : pheFoot.Within s s1 := (Foot.Within.refl _ s).iterUp fun q _ u => .ite (.refl _ u) (within_phe u _)
  exact .ite h1 (h1.trans (within_phe _ _))

theorem within_pheTakeRows (n : Nat) (s : State) : pheFoot.Within s (pheTakeRows n s) := by
  unfold pheTakeRows
  extract_lets _ s1
  have h1 : pheFoot.Within s s1 := (Foot.Within.refl _ s).iterUp fun q _ u => .ite (.refl _ u) (within_phe u _)
  exact h1.trans (within_phe _ _)

theorem within_pheTickRun (r : Nat) (s : State) : pheFoot.Within s (pheTickRun r s) := by
  unfold pheTickRun
  refine .ite (within_phe s _) ?_
  extract_lets s1 s2 buf _ s3
  have h1 : pheFoot.Within s s1 := within_putBit s _ _
  have h2 : pheFoot.Within s s2 := (h1.trans (within_pheTakeCfg _)).trans (within_pheTakeRows _ _)
  have h3 : pheFoot.Within s s3 := h2.trans (within_phe _ _)
  refine h3.engine _ _ _ ?_
  extract_lets u1 u2
  have g1 : pheFoot.Within s3 u1 := within_setWord _ _ _
  have g2 : pheFoot.Within s3 u2 := g1.iterUp fun q _ u => within_setWords u _ _
  refine g2.iterUp fun g _ u => .ite (within_setWords u _ _) ?_
  exact (within_setWords u _ _).trans (within_phe _ _)

/-- A live change takes effect. -/
def liveFoot : Foot where
  zones := [R.peaStat_live_pend.zone]
  parts := [.mem, .free, .pea]

theorem within_initState (s : State) (e : Nat) : liveFoot.Within s (initState e s) := by
  unfold initState
  extract_lets c ty th _ s1 s2
  have h1 : liveFoot.Within s s1 := within_pea s _
  have h2 : liveFoot.Within s s2 := (h1.trans (within_setWords _ _ _)).trans (within_setWords _ _ _)
  exact (h2.then (within_bWords _ 4 _)).trans (within_setWords _ _ _)

theorem within_liveApply (r : Nat) (s : State) : liveFoot.Within s (liveApply r s) := by
  unfold liveApply
  split
  · exact .refl _ s
  · refine .ite (.refl _ s) ?_
    extract_lets e ver s1 s2 s3 s4
    have h1 : liveFoot.Within s s1 := within_setWord s _ _
    have h2 : liveFoot.Within s s2 := h1.trans (within_setWord _ _ _)
    have h3 : liveFoot.Within s s3 := h2.trans (within_setWords _ _ _)
    have h4 : liveFoot.Within s s4 := Foot.Within.then (.ite h3 (h3.trans (within_initState _ _))) (within_bWords _ 8 _)
    exact (h4.trans (within_pea _ _)).trans (within_putBit _ R.peaStat_live_pend false)

/-- Cumulus sums start; `n` bounds the sets that a change may name. -/
def cumFoot (n : Nat) : Foot where
  zones := [R.memFault.zone, regZone (R.cumSetExpLo 0) (R.cumSetExpHi n)]
  parts := [.mem, .dup]
  pages := [.mem]

theorem within_cumChangeApply (r : Nat) (s : State) {n : Nat} (hn : ∀ c ∈ s.dup.changes, c.set ≤ n) : (cumFoot n).Within s (cumChangeApply r s) := by
  have hd : Part.dup ∈ (cumFoot n).parts := by simp [cumFoot]
  have hz : ∀ a, R.cumSetExpLo 0 ≤ a → a ≤ R.cumSetExpHi n → (cumFoot n).has (regZone a a) = true := fun a h1 h2 => by
    simp [Foot.has, cumFoot, Zone.holds, h1, h2]
  unfold cumChangeApply
  extract_lets hit now _ s1
  refine (within_dup s _ hd).foldl fun c hc u => ?_
  have hc := hn c (List.mem_of_mem_filter hc)
  refine ((within_updCum u c.set _ hd).trans (within_setReg _ _ _ (hz (R.cumSetExpLo c.set) ?_ ?_))).trans
    (within_setReg _ _ _ (hz (R.cumSetExpHi c.set) ?_ ?_)) <;> simp only [R.cumSetExpLo, R.cumSetExpHi] <;> omega

theorem within_cumTickStart (r : Nat) (s : State) {n : Nat} (hn : ∀ c ∈ s.dup.changes, c.set ≤ n) : (cumFoot n).Within s (cumTickStart r s) := by
  have hd : Part.dup ∈ (cumFoot n).parts := by simp [cumFoot]
  have hm : Part.mem ∈ (cumFoot n).parts := by simp [cumFoot]
  have hr : recordFoot.le (cumFoot n) = true := by simp [Foot.le, Foot.has, cumFoot, recordFoot, Zone.holds]
  unfold cumTickStart
  extract_lets s1 b s2
  have h2 : (cumFoot n).Within s s2 := by
    refine (within_cumChangeApply r s hn).engine _ _ _ ((within_setWords _ _ _ hm).iterUp fun i _ u => .ite (.refl _ u) ?_) hr
    exact .ite (within_setWords u _ _ hm) (within_setWords u _ _ hm)
  exact h2.iterUp fun k _ u => .ite (within_updCum u k _ hd) (within_updCum u k _ hd)

/-! ## The record row and the end of the grid (R107, R314 to R317) -/

theorem target_sram_lt {s : State} {a x : Nat} (h : s.target a = .sram x) : x < 0x2000000 := by
  unfold State.target at h
  dsimp only at h
  split_ifs at h <;> simp only [MemTarget.sram.injEq] at h <;> omega

theorem addsTo_lt {s : State} {a : Nat} (h : s.addsTo a = true) : s.localAddr a < 0x2000000 := by
  unfold State.addsTo at h
  split at h
  case h_1 x hx =>
    unfold State.localAddr
    rw [hx]
    exact target_sram_lt hx
  case h_2 => cases h

/-- A write by a master of the member. -/
def writeFoot : Foot where
  zones := [R.memFault.zone, regZone (R.memEccCnt 0) (R.memEccCnt 47)]
  parts := [.life, .mem, .sram, .host, .out, .free]
  pages := [.mem]

theorem within_unpoison {F : Foot} (s : State) (a len : Nat) (hp : .sram ∈ F.parts := by decide) : F.Within s (s.unpoison a len) := within_sram s _ hp

theorem within_memStore (s : State) (m a : Nat) (bs : List Byte) : writeFoot.Within s (s.memStore m a bs) := by
  unfold State.memStore
  dsimp only
  split
  · split
    · exact (within_setBytes s _ _).trans (within_unpoison _ _ _)
    · exact within_sram s _
    · exact (within_setBytes s _ _).trans (within_unpoison _ _ _)
  · exact within_setBytes s _ _

theorem within_remoteTry (k o len : Nat) (data : Option (List Byte)) (s : State) : writeFoot.Within s (remoteTry k o len data s).2 := by
  have h : writeFoot.Within s (remoteFrames k o len data s) :=
    (Foot.Within.refl _ s).iterUp fun i _ u => (within_emit u _).trans (within_host _ _)
  unfold remoteTry
  dsimp only
  split
  · exact h.trans (within_fresh _)
  · exact h

theorem within_devWrite (s : State) (m a : Nat) (bs : List Byte) : writeFoot.Within s (s.devWrite m a bs).2 := by
  unfold State.devWrite
  split
  · exact (within_memFault s _ m a true).mono rfl
  · split
    · split
      case isTrue h =>
        exact (within_eccRead s m a (addsTo_lt (Bool.and_eq_true _ _ ▸ h).1)).mono rfl
      case isFalse h => exact within_memStore s m a bs
    · extract_lets r
      have hr : writeFoot.Within s r.2 := within_remoteTry _ _ _ _ _
      split
      · exact hr
      · exact .ite (hr.trans (within_memStore _ _ _ _)) hr

/-- The record row and the end of a record. -/
def drcFoot : Foot where
  zones := writeFoot.zones ++ [R.drcStat_recording.zone, R.drcStat_committing.zone, R.drcStat_open.zone]
  parts := writeFoot.parts ++ [.drc, .evr]
  pages := [.mem, .drc]

theorem within_drcStat (s : State) : drcFoot.Within s s.drcStat :=
  ((within_putBit s R.drcStat_recording _).trans (within_putBit _ R.drcStat_committing _)).trans (within_put _ R.drcStat_open _)

theorem within_drcTrunc (s : State) (id : Nat) : drcFoot.Within s (s.drcTrunc id) := by
  unfold State.drcTrunc
  split
  · exact .refl _ s
  · exact (((within_drc s _).trans (within_event _ _ _ _ _ _ _)).trans (within_edge _ .drc 3)).trans (within_drcStat _)

theorem within_drcRow (r : Nat) (s : State) : drcFoot.Within s (drcRow r s) := by
  unfold drcRow
  refine .ite (.refl _ s) ((Foot.Within.refl _ s).engine _ _ _ ?_)
  unfold drcRowRun
  extract_lets s1 row s2 w cap _ s3 lag _ s4
  have h1 : drcFoot.Within s s1 := within_drc s _
  have h2 : drcFoot.Within s s2 := h1.then (within_devWrite _ _ _ _)
  have h4 : drcFoot.Within s s4 := (h2.trans (within_drc s2 _)).trans (within_drc s3 _)
  exact h4.foldl fun x _ u => within_drcTrunc u x.id

theorem within_drcScales (r : Nat) (s : State) : (⟨[R.memFault.zone], [.drc], [.mem]⟩ : Foot).Within s (drcScales r s) := by
  unfold drcScales
  exact .ite (.refl _ s) ((Foot.Within.refl _ s).engine _ _ _ (.ite (.refl _ s) (within_drc s _)))

/-- The subscriber's status. -/
def svsFoot : Foot where
  zones := [R.svsStat_run.zone, R.svsStat_nact.zone, R.svsStat_nfast.zone, regZone R.svsLostLo R.svsLostLo, regZone R.svsLostHi R.svsLostHi]

theorem within_svsStat (s : State) : svsFoot.Within s s.svsStat := by
  unfold State.svsStat
  extract_lets en lost s1 s2
  have h1 : svsFoot.Within s s1 := within_putBit s R.svsStat_run _
  have h2 : svsFoot.Within s s2 := (h1.trans (within_put _ R.svsStat_nact _)).trans (within_put _ R.svsStat_nfast _)
  exact (h2.trans (within_setReg _ R.svsLostLo _)).trans (within_setReg _ R.svsLostHi _)

/-- What follows the end of RUN when the grid stops. -/
def stopTailFoot : Foot where
  zones := runFoot.zones ++ svsFoot.zones ++ [R.drcStat_recording.zone, R.drcStat_committing.zone, R.drcStat_open.zone]
  parts := [.phe, .drc]

theorem within_drcStop (s : State) : stopTailFoot.Within s s.drcStop := by
  unfold State.drcStop State.drcStat
  exact (((within_drc s _).trans (within_putBit _ R.drcStat_recording _)).trans (within_putBit _ R.drcStat_committing _)).trans (within_put _ R.drcStat_open _)

/-- The grid stops. -/
def stopFoot : Foot where
  zones := [R.gridStat_run.zone, regZone R.gridNow.addr R.gridNow.addr] ++ stopTailFoot.zones
  parts := .grid :: stopTailFoot.parts

theorem within_gridHalt (s : State) : stopFoot.Within s (gridHalt s) := by
  unfold gridHalt gridStopped
  extract_lets s1
  have h1 : stopFoot.Within s s1 := (within_putBit s R.gridStat_run false).trans (within_invalidate _ R.gridNow)
  exact (((h1.trans (within_grid s1 _)).then (within_pheSettle _)).then (within_svsStat _)).then (within_drcStop _)

/-- The record row and the stop of the grid. -/
def haltFoot : Foot where
  zones := drcFoot.zones ++ stopFoot.zones
  parts := drcFoot.parts ++ [.phe, .grid]
  pages := drcFoot.pages

/-! # The stages of ROW_SEAL -/

/-- The oldest row in flight leaves the queue. -/
def sealTake (rest : List RowRec) (s : State) : State :=
  { s with grid := { s.grid with inflight := rest, sealed := s.grid.sealed + b2n (!decide (0 < s.grid.old)) } }

/-- The values of a row are sealed. -/
def sealValues (rec' : RowRec) (s : State) : State := iterUp 576 (sealQuantity rec'.row) (iterUp 64 (sealLocal rec') s)

/-- The header of a row is written and GRID_NOW completes. -/
def sealHeader (rec' : RowRec) (s : State) : State :=
  (s.engine 3 [(headAddr rec'.row, 32, true)] (fun s => s.setWords (headAddr rec'.row) (rowHeader rec' s))).complete R.gridNow
    [BitVec.ofNat 32 rec'.row, rec'.tstamp, freqUnits rec'.freq, BitVec.ofNat 32 rec'.inc, BitVec.ofNat 32 (rec'.inc / 2 ^ 32 % 2 ^ 16)]

/-- A step that a row of a run before a restart leaves out (R107). -/
def unlessOld (old : Bool) (f : State → State) (s : State) : State := if old then s else f s

/-- A row is sealed, up to the tick that starts there. -/
def sealHead (rec' : RowRec) (rest : List RowRec) (s : State) : State :=
  unlessOld (decide (0 < s.grid.old)) (trackerMeasure rec')
    (sealHeader rec' (sealValues rec' (unlessOld (decide (0 < s.grid.old)) (updateMissing rec') (sealTake rest s))))

/-- The tick that starts at a tick row. -/
def sealTick (r : Nat) (s : State) : State :=
  if s.isTickRow r then
    if (tickStart r (drcScales r s)).phe.busy = some r then cumTickStart r (tickStart r (drcScales r s)) else tickStart r (drcScales r s)
  else s

/-- The record row, and the stop of the grid at its last row. -/
def sealEnd (r : Nat) (s : State) : State :=
  let s := drcRow r { s with grid := { s.grid with old := s.grid.old - 1 } }
  if s.grid.stopAt.isSome && s.grid.inflight.isEmpty && !s.rowDue then gridHalt s else s

theorem rowSeal_eq {s : State} {rec' : RowRec} {rest : List RowRec} (h : s.grid.inflight = rec' :: rest) :
    rowSeal s = sealEnd rec'.row (sealTick rec'.row (sealHead rec' rest s)) := by
  unfold rowSeal
  split
  case h_1 hn => rw [h] at hn; cases hn
  case h_2 a b hs =>
    rw [h, List.cons.injEq] at hs
    obtain ⟨rfl, rfl⟩ := hs
    rfl

/-! ## What the stages touch -/

theorem within_sealTake {F : Foot} (rest : List RowRec) (s : State) (hp : .grid ∈ F.parts := by decide) : F.Within s (sealTake rest s) := within_grid s _ hp

/-- The values and qualities of a row. -/
def valueFoot : Foot where
  parts := [.grid, .mem, .afe]

theorem within_sealValues (rec' : RowRec) (s : State) : valueFoot.Within s (sealValues rec' s) :=
  ((Foot.Within.refl _ s).iterUp fun n _ u => (within_sealLocal rec' n u).mono rfl).iterUp fun q _ u => (within_sealQuantity _ q u).mono rfl

/-- The header of a row and GRID_NOW. -/
def headFoot : Foot where
  zones := [R.memFault.zone, R.gridNow.zone]
  parts := [.mem]
  pages := [.mem, .grid]

theorem within_sealHeader (rec' : RowRec) (s : State) : headFoot.Within s (sealHeader rec' s) :=
  ((Foot.Within.refl _ s).engine _ _ _ (within_setWords _ _ _)).trans (within_complete _ R.gridNow _)

theorem Foot.Within.unlessOld {F : Foot} {s t : State} {f : State → State} (h : F.Within s t) (old : Bool) (hf : ∀ u, F.Within u (f u)) :
    F.Within s (unlessOld old f t) := .ite h (h.trans (hf t))

/-- A row is sealed, up to the tracker's measurement. -/
def sealRow (rec' : RowRec) (rest : List RowRec) (s : State) : State :=
  sealHeader rec' (sealValues rec' (unlessOld (decide (0 < s.grid.old)) (updateMissing rec') (sealTake rest s)))

theorem sealHead_eq (rec' : RowRec) (rest : List RowRec) (s : State) :
    sealHead rec' rest s = unlessOld (decide (0 < s.grid.old)) (trackerMeasure rec') (sealRow rec' rest s) := rfl

/-- What a row seal touches before the tracker's measurement. -/
def sealRowFoot : Foot where
  zones := [R.memFault.zone, R.gridStat_desync.zone, R.gridNow.zone]
  parts := [.grid, .out, .mem, .afe]
  pages := [.mem, .grid]

theorem within_sealRow (rec' : RowRec) (rest : List RowRec) (s : State) : sealRowFoot.Within s (sealRow rec' rest s) :=
  (((within_sealTake rest s).unlessOld _ fun u => (within_updateMissing rec' u).mono rfl).then (within_sealValues rec' _)).then (within_sealHeader rec' _)

theorem within_sealHead (rec' : RowRec) (rest : List RowRec) (s : State) : rowFoot.Within s (sealHead rec' rest s) :=
  ((within_sealRow rec' rest s).mono rfl).unlessOld _ fun u => (within_trackerMeasure rec' u).mono rfl

/-- What a tick that starts touches, but for the Cumulus sets. -/
def tickFoot : Foot where
  zones := commitFoot.zones ++ pheFoot.zones ++ liveFoot.zones
  parts := commitFoot.parts ++ [.phe, .free, .drc, .dup]
  pages := commitFoot.pages

theorem within_tickStart (r : Nat) (s : State) : tickFoot.Within s (tickStart r s) := by
  unfold tickStart
  extract_lets s1 now s2 s3 dt s4
  have h1 : tickFoot.Within s s1 := (within_outputCommit s).mono rfl
  have h2 : tickFoot.Within s s2 := h1.then (within_pheTickRun r s1)
  have h3 : tickFoot.Within s s3 := h2.then (within_liveApply r s2)
  have h4 : tickFoot.Within s s4 := h3.trans (within_putBit s3 R.peaStat_run true)
  exact .ite (h4.trans (within_pea s4 _)) h2

/-- What the end of a row seal touches. -/
theorem within_sealEnd (r : Nat) (s : State) : haltFoot.Within s (sealEnd r s) := by
  have h : haltFoot.Within s (drcRow r { s with grid := { s.grid with old := s.grid.old - 1 } }) :=
    (within_grid s _).then (within_drcRow r _)
  exact .ite (h.then (within_gridHalt _)) h

/-- A bound of the sets that waiting changes name. -/
theorem exists_cumTop (s : State) : ∃ n, ∀ c ∈ s.dup.changes, c.set ≤ n :=
  ⟨(s.dup.changes.map CumChange.set).sum, fun _ hc => List.single_le_sum (fun _ _ => Nat.zero_le _) _ (List.mem_map_of_mem hc)⟩

/-- The Cumulus sets' registers lie above those of a field. -/
theorem cumFoot_clear {n : Nat} {f : Fld} (hm : R.memFault.zone.apart f = true) (ha : f.addr < R.cumSetExpLo 0) : (cumFoot n).clear f = true := by
  simp only [Foot.clear, cumFoot, List.all_cons, List.all_nil, Bool.and_true, Bool.and_eq_true]
  exact ⟨hm, (Zone.apart_iff _ _).mpr (.inl ha)⟩

/-! # The commit of a tick (R19, R20, R145, R150, R151, R155) -/

/-! ## What each step does to the array -/

theorem liveReport_pea (s : State) : ∃ d, (liveReport s).pea = { s.pea with liveDone := d } := by
  unfold liveReport
  split
  · exact ⟨s.pea.liveDone, rfl⟩
  case h_2 e ver row _ =>
    refine ⟨none, Eq.trans ?_ (complete_same { s with pea := { s.pea with liveDone := none } } R.peaLiveRes
      [BitVec.ofNat 32 (e + ver * 2 ^ 16), BitVec.ofNat 32 row] .pea)⟩
    exact (within_edge (F := ⟨[], [], [.pea]⟩) _ .pea 3).part .pea (by decide)

theorem commitEnd_pea (s : State) : (commitEnd s).pea = { s.pea with tick := none, faults := [] } := by
  unfold commitEnd
  cases s.bit R.peaCtrl_en <;> rfl

theorem initState_pea (s : State) (e : Nat) : ∃ b, (initState e s).pea = { s.pea with thetaB := b } := by
  unfold initState
  extract_lets c ty th _ s1 s2
  have h : (⟨[], [.mem, .free], []⟩ : Foot).Within s1 ((bWords (bAddr e + 0x20) 4 s2).setWords (extBAddr e) [0, 0, 0, 0]) :=
    (((within_setWords s1 _ _).trans (within_setWords _ _ _)).then (within_bWords _ 4 s2)).trans (within_setWords _ _ _)
  exact ⟨_, h.part .pea (by decide)⟩

/-- A live change keeps the committed bytes and the time of the tick before. -/
theorem liveApply_pea (r : Nat) (s : State) : (liveApply r s).pea.committed = s.pea.committed ∧ (liveApply r s).pea.lastTick = s.pea.lastTick := by
  unfold liveApply
  split
  · exact ⟨rfl, rfl⟩
  case h_2 l _ =>
    split
    · exact ⟨rfl, rfl⟩
    · extract_lets e ver s1 s2 s3 s4
      have h3 : (⟨[], [.mem], []⟩ : Foot).Within s s3 := ((within_setWord s _ _).trans (within_setWord _ _ _)).trans (within_setWords _ _ _)
      have hp3 : s3.pea = s.pea := h3.part .pea (by decide)
      have hk : ∃ b, (if l.keep = true then s3 else initState e s3).pea = { s.pea with thetaB := b } := by
        split
        · exact ⟨s.pea.thetaB, hp3⟩
        · obtain ⟨b, hb⟩ := initState_pea s3 e
          exact ⟨b, by rw [hb, hp3]⟩
      obtain ⟨b, hb⟩ := hk
      have h4 : s4.pea = { s.pea with thetaB := b } := ((within_bWords _ 8 _).part .pea (by decide)).trans hb
      clear_value s4
      show s4.pea.committed = _ ∧ s4.pea.lastTick = _
      rw [h4]
      exact ⟨rfl, rfl⟩

/-! ## The commit -/

/-- What the commit of the tick that ran in `s` has come to in `t`. -/
structure CommitShown (s t : State) : Prop where
  done : ∀ k, s.pea.tick = some k → Pends t .pea 0
  valid : ∀ k, s.pea.tick = some k → s.bit R.peaCtrl_en = true → t.groupValid R.peaTick = true ∧ t.groupWord R.peaTick 1 = BitVec.ofNat 32 k
  bytes : ∀ k, s.pea.tick = some k → s.bit R.peaCtrl_en = true → (∀ p : Fin 8, (s.pairRun p.val).finished = true) → t.pea.committed = s.pea.work
  overrun : ∀ k, s.pea.tick = some k → s.bit R.peaCtrl_en = true → (∃ p : Fin 8, (s.pairRun p.val).finished = false) →
    t.pea.committed = s.pea.committed ∧ t.bit R.peaStat_fault = true ∧ Pends t .pea 1
  idle : s.pea.tick = none → s.bit R.peaCtrl_en = true → t.pea.committed = s.pea.committed
  off : s.bit R.peaCtrl_en = false → t.pea.committed = []

/-- A step that touches neither the commit's results nor the bytes keeps what they show. -/
theorem CommitShown.after {F : Foot} {s t u : State} (h : CommitShown s t) (hw : F.Within t u) (hc : u.pea.committed = t.pea.committed)
    (hv : s.bit R.peaCtrl_en = true → F.clear ⟨R.peaTick.addr, 31, 31⟩ = true)
    (hr : F.clear ⟨R.peaTick.addr + 4, 31, 0⟩ = true := by decide) (hf : F.clear R.peaStat_fault = true := by decide) : CommitShown s u :=
  ⟨fun k hk => hw.pend _ _ (h.done k hk),
   fun k hk he => ⟨(hw.groupValid R.peaTick (hv he)).trans (h.valid k hk he).1, (hw.groupWord R.peaTick 1 hr).trans (h.valid k hk he).2⟩,
   fun k hk he hp => hc.trans (h.bytes k hk he hp),
   fun k hk he hp => ⟨hc.trans (h.overrun k hk he hp).1, (hw.bit _ hf).trans (h.overrun k hk he hp).2.1, hw.pend _ _ (h.overrun k hk he hp).2.2⟩,
   fun hn he => hc.trans (h.idle hn he), fun he => hc.trans (h.off he)⟩

theorem CommitShown.congr {s u t : State} (h : CommitShown u t) (hp : u.pea = s.pea) (he : u.bit R.peaCtrl_en = s.bit R.peaCtrl_en) : CommitShown s t := by
  have hrun : ∀ q, u.pairRun q = s.pairRun q := fun q => by unfold State.pairRun; rw [hp]
  obtain ⟨h1, h2, h3, h4, h5, h6⟩ := h
  simp only [hp, hrun, he] at h1 h2 h3 h4 h5 h6
  exact ⟨h1, h2, h3, h4, h5, h6⟩

theorem unfinished_nil_iff (s : State) : (List.range 8).filter (fun p => !(s.pairRun p).finished) = [] ↔ ∀ p : Fin 8, (s.pairRun p.val).finished = true := by
  rw [List.filter_eq_nil_iff]
  constructor
  · intro h p
    simpa using h p.val (List.mem_range.mpr p.isLt)
  · intro h p hp
    simp [h ⟨p, List.mem_range.mp hp⟩]

/-- The bytes of a tick whose pairs have all finished are committed. -/
theorem commitBytes_finished (k : Nat) (s : State) (h : ∀ p : Fin 8, (s.pairRun p.val).finished = true) :
    commitBytes k s = { s with pea := { s.pea with committed := s.pea.work } } := by
  unfold commitBytes
  rw [(unfinished_nil_iff s).mpr h]

/-- A pair that has not finished is a member fault, and the bytes before stay. -/
theorem commitBytes_overrun (k : Nat) (s : State) (h : ∃ p : Fin 8, (s.pairRun p.val).finished = false) :
    (commitBytes k s).pea.committed = s.pea.committed ∧ (commitBytes k s).bit R.peaStat_fault = true ∧ Pends (commitBytes k s) .pea 1 := by
  unfold commitBytes
  split
  case h_1 hn =>
    obtain ⟨p, hp⟩ := h
    rw [(unfinished_nil_iff s).mp hn p] at hp
    cases hp
  case h_2 p _ _ =>
    obtain ⟨h1, h2, -⟩ := memberFault_shows s p 0 0 4 k
    exact ⟨by rw [memberFault_pea], h1, h2⟩

theorem commitBytes_lastTick (k : Nat) (s : State) : (commitBytes k s).pea.lastTick = s.pea.lastTick := by
  unfold commitBytes
  split
  · rfl
  · rw [memberFault_pea]

theorem dropBytes_en {s : State} (h : s.bit R.peaCtrl_en = true) : dropBytes s = s := if_pos h

theorem dropBytes_off {s : State} (h : s.bit R.peaCtrl_en = false) : dropBytes s = { s with pea := { s.pea with committed := [] } } := by
  unfold dropBytes
  rw [h]
  rfl

theorem dropBytes_lastTick (s : State) : (dropBytes s).pea.lastTick = s.pea.lastTick := by
  unfold dropBytes
  cases s.bit R.peaCtrl_en <;> rfl

/-- What the seal of the committed bytes shows. -/
theorem committedSeal_shows (k : Nat) (s : State) : Pends (committedSeal k s) .pea 0 ∧ (committedSeal k s).groupValid R.peaTick = true ∧
    (committedSeal k s).groupWord R.peaTick 1 = BitVec.ofNat 32 k := by
  unfold committedSeal
  extract_lets bytes s1 cyc
  have he : (⟨[], [], [.pea]⟩ : Foot).Within (s1.complete R.peaTick [BitVec.ofNat 32 k, s1.tstamp, BitVec.ofNat 32 (Nat.min 0x3FFFF cyc)])
      ((s1.complete R.peaTick [BitVec.ofNat 32 k, s1.tstamp, BitVec.ofNat 32 (Nat.min 0x3FFFF cyc)]).edge .pea 0) := within_edge _ .pea 0
  exact ⟨pends_edge _ _ _ (by decide), (he.groupValid R.peaTick).trans (groupValid_complete _ _ _),
    (he.groupWord R.peaTick 1).trans (groupWord_complete_head _ _ _ _ (by decide))⟩

/-- The commit of a running tick. -/
theorem commitTick_shown {k : Nat} {s : State} (hk : s.pea.tick = some k) : CommitShown s (commitTick k s) := by
  have hb := within_commitBytes k s
  have he := hb.bit R.peaCtrl_en
  have hs := committedSeal_shows k (dropBytes (commitBytes k s))
  have hw := within_committedSeal k (dropBytes (commitBytes k s))
  have hpea : (committedSeal k (dropBytes (commitBytes k s))).pea = (dropBytes (commitBytes k s)).pea := hw.part .pea (by decide)
  have h0 : CommitShown s (committedSeal k (dropBytes (commitBytes k s))) := by
    refine ⟨fun _ _ => hs.1, fun k' hk' _ => ?_, fun _ _ h1 hp => ?_, fun _ _ h1 hp => ?_, fun hn => ?_, fun h0 => ?_⟩
    · obtain rfl : k = k' := Option.some.inj (hk.symm.trans hk')
      exact hs.2
    · rw [hpea, dropBytes_en (he.trans h1), commitBytes_finished k s hp]
    · obtain ⟨g1, g2, g3⟩ := commitBytes_overrun k s hp
      rw [dropBytes_en (he.trans h1)] at hpea hw ⊢
      exact ⟨by rw [hpea, g1], (hw.bit R.peaStat_fault).trans g2, hw.pend _ _ g3⟩
    · rw [hk] at hn; cases hn
    · rw [hpea, dropBytes_off (he.trans h0)]
  obtain ⟨d, hd⟩ := liveReport_pea (committedSeal k (dropBytes (commitBytes k s)))
  have h1 : CommitShown s (liveReport (committedSeal k (dropBytes (commitBytes k s)))) :=
    h0.after (within_liveReport _) (by rw [hd]) fun _ => by decide
  unfold commitTick
  exact h1.after (within_trm (F := ⟨[], [.trm], []⟩) _ _) rfl fun _ => by decide

theorem commitRunning_shown (s : State) : CommitShown s (commitRunning s) := by
  unfold commitRunning
  split
  case h_2 k hk => exact commitTick_shown hk
  case h_1 hn =>
    have hno : ∀ k, ¬ s.pea.tick = some k := fun k hk => by rw [hn] at hk; cases hk
    refine ⟨fun k hk => absurd hk (hno k), fun k hk => absurd hk (hno k), fun k hk => absurd hk (hno k), fun k hk => absurd hk (hno k),
      fun _ he => ?_, fun he => ?_⟩
    · rw [if_pos he]
    · rw [he]
      simp only [Bool.false_eq_true, if_false]
      split
      case isTrue hc => exact List.isEmpty_iff.mp hc
      case isFalse => rfl

/-- A commit keeps the time of the tick before. -/
theorem commitRunning_lastTick (s : State) : (commitRunning s).pea.lastTick = s.pea.lastTick := by
  unfold commitRunning
  split
  case h_1 =>
    split
    · rfl
    · split <;> rfl
  case h_2 k _ =>
    have hpea : (committedSeal k (dropBytes (commitBytes k s))).pea = (dropBytes (commitBytes k s)).pea := (within_committedSeal k _).part .pea (by decide)
    obtain ⟨d, hd⟩ := liveReport_pea (committedSeal k (dropBytes (commitBytes k s)))
    show (liveReport (committedSeal k (dropBytes (commitBytes k s)))).pea.lastTick = _
    rw [hd, hpea, dropBytes_lastTick, commitBytes_lastTick]

theorem outputCommit_lastTick (s : State) : (outputCommit s).pea.lastTick = s.pea.lastTick := by
  rw [outputCommit_eq rfl, commitEnd_pea, commitRunning_lastTick]

/-- STAT.RUN and PEA_TICK after the end of a commit with EN = 0. -/
theorem commitEnd_off {s : State} (h : s.bit R.peaCtrl_en = false) : (commitEnd s).bit R.peaStat_run = false ∧ (commitEnd s).groupValid R.peaTick = false := by
  unfold commitEnd
  rw [h]
  simp only [Bool.false_eq_true, if_false]
  have hw : ∀ u : State, (⟨[], [.pea, .trm], []⟩ : Foot).Within u (State.requestPass { u with pea := { u.pea with tick := none, faults := [] } }) :=
    fun u => (within_pea u _).trans (within_requestPass _)
  have hi := within_invalidate (F := ⟨[regZone R.peaTick.addr R.peaTick.addr], [], []⟩) (s.putBit R.peaStat_run false) R.peaTick
  exact ⟨((hw _).bit R.peaStat_run).trans ((hi.bit R.peaStat_run).trans (bit_putBit_same _ _ _ rfl (by decide))),
    ((hw _).groupValid R.peaTick).trans (groupValid_invalidate _ _)⟩

/-- The commit, with the state in which no tick runs. -/
theorem outputCommit_shown (s : State) : CommitShown s (outputCommit s) ∧ (outputCommit s).pea.tick = none ∧
    (s.bit R.peaCtrl_en = false → (outputCommit s).bit R.peaStat_run = false ∧ (outputCommit s).groupValid R.peaTick = false) := by
  generalize hu : ({ s with trm := { s.trm with shadowOr := 0 } } : State) = u
  have hw : (⟨[], [.trm], []⟩ : Foot).Within s u := by rw [← hu]; exact within_trm s _
  have hpea : u.pea = s.pea := hw.part .pea (by decide)
  have hen := hw.bit R.peaCtrl_en
  have hc : CommitShown s (commitRunning u) := (commitRunning_shown u).congr hpea hen
  have he : (commitRunning u).bit R.peaCtrl_en = s.bit R.peaCtrl_en := ((within_commitRunning u).bit _).trans hen
  have hp := commitEnd_pea (commitRunning u)
  rw [outputCommit_eq hu.symm]
  refine ⟨?_, by rw [hp], fun h0 => commitEnd_off (he.trans h0)⟩
  cases hb : s.bit R.peaCtrl_en with
  | true =>
    have hx : (⟨[], [.pea, .trm], []⟩ : Foot).Within (commitRunning u) (commitEnd (commitRunning u)) := by
      unfold commitEnd
      rw [he, hb]
      exact (within_pea _ _).trans (within_requestPass _)
    exact hc.after hx (by rw [hp]) fun _ => by decide
  | false => exact hc.after (within_commitEnd _) (by rw [hp]) fun h1 => by rw [hb] at h1; cases h1

/-! ## The tick that starts -/

/-- No pair of a tick that has just started has run. -/
theorem notStarted_foldl (n : Nat) (t : Table PairRun) (p : Nat) (hp : p < n) :
    (tget {} ((List.range n).foldl (fun t p => tupd {} t p (fun x => { x with ph1 := false, ph2 := false, finished := false, cycles := 0 })) t) p : PairRun) =
      { (tget {} t p : PairRun) with ph1 := false, ph2 := false, finished := false, cycles := 0 } := by
  induction n with
  | zero => exact absurd hp (Nat.not_lt_zero p)
  | succ n ih =>
    rw [List.range_succ, List.foldl_append]
    by_cases e : p = n
    · subst e
      refine (tget_tset_same ..).trans ?_
      have hk : ∀ m, m ≤ p → (tget {} ((List.range m).foldl (fun t p => tupd {} t p (fun x =>
          { x with ph1 := false, ph2 := false, finished := false, cycles := 0 })) t) p : PairRun) = tget {} t p := by
        intro m
        induction m with
        | zero => exact fun _ => rfl
        | succ m ihm =>
          intro hm
          rw [List.range_succ, List.foldl_append]
          exact (tget_tset_ne _ _ _ _ _ (by omega)).trans (ihm (by omega))
      rw [hk p (Nat.le_refl p)]
    · exact (tget_tset_ne _ _ _ _ _ e).trans (ih (by omega))

/-- The tick of row `r` runs, no pair of it started. -/
structure TickRuns (r : Nat) (s t : State) : Prop where
  tick : t.pea.tick = some r
  run : t.bit R.peaStat_run = true
  first : s.pea.lastTick = none → t.pea.dt = 0
  pairs : ∀ p : Fin 8, (t.pairRun p.val).ph1 = false ∧ (t.pairRun p.val).ph2 = false ∧ (t.pairRun p.val).finished = false

theorem tickStart_off {r : Nat} {s : State} (h : s.bit R.peaCtrl_en = false) : tickStart r s = pheTickRun r (outputCommit s) := by
  have he : (pheTickRun r (outputCommit s)).bit R.peaCtrl_en = false :=
    ((within_pheTickRun r _).bit _).trans (((within_outputCommit s).bit _).trans h)
  unfold tickStart
  exact if_neg (by simp [he])

/-- The start of a tick keeps what the commit shows, and runs the next tick outside GALE. -/
theorem tickStart_shown (r : Nat) (s : State) : CommitShown s (tickStart r s) ∧
    (s.bit R.peaCtrl_en = false → (tickStart r s).bit R.peaStat_run = false ∧ (tickStart r s).groupValid R.peaTick = false ∧ (tickStart r s).pea.tick = none) ∧
    (s.bit R.peaCtrl_en = true → s.get R.gridCfg_mode ≠ 1 → TickRuns r s (tickStart r s)) := by
  obtain ⟨hc, ht, ho⟩ := outputCommit_shown s
  have hw := within_pheTickRun r (outputCommit s)
  have hpea : (pheTickRun r (outputCommit s)).pea = (outputCommit s).pea := hw.part .pea (by decide)
  have hc2 : CommitShown s (pheTickRun r (outputCommit s)) := hc.after hw (by rw [hpea]) fun _ => by decide
  have hen := (hw.bit R.peaCtrl_en).trans ((within_outputCommit s).bit _)
  have hmode := (hw.get R.gridCfg_mode).trans ((within_outputCommit s).get _)
  cases he : s.bit R.peaCtrl_en with
  | false =>
    rw [tickStart_off he]
    obtain ⟨h1, h2⟩ := ho he
    exact ⟨hc2, fun _ => ⟨(hw.bit R.peaStat_run).trans h1, (hw.groupValid R.peaTick).trans h2, by rw [hpea, ht]⟩, fun h => by cases h⟩
  | true =>
    have hcond : ((pheTickRun r (outputCommit s)).bit R.peaCtrl_en && (pheTickRun r (outputCommit s)).get R.gridCfg_mode != 1) = (s.get R.gridCfg_mode != 1) := by
      rw [hen, he, hmode, Bool.true_and]
    obtain ⟨hl1, hl2⟩ := liveApply_pea r (pheTickRun r (outputCommit s))
    unfold tickStart
    extract_lets s1 now s2 s3 dt s4
    by_cases hm : s.get R.gridCfg_mode = 1
    · rw [if_neg (by rw [hcond]; simp [hm])]
      exact ⟨hc2, fun h => (by cases h), fun _ h => absurd hm h⟩
    · rw [if_pos (by rw [hcond]; simp [hm])]
      have h3 : CommitShown s s3 := hc2.after (within_liveApply r s2) hl1 fun _ => by decide
      have hrun : s4.bit R.peaStat_run = true := bit_putBit_same _ _ _ rfl (by decide)
      have hx : ∀ x, (⟨[], [.pea], []⟩ : Foot).Within s4 { s4 with pea := x } := fun x => within_pea s4 x
      have h4 : CommitShown s s4 := h3.after (within_putBit (F := ⟨[R.peaStat_run.zone], [], []⟩) s3 R.peaStat_run true) rfl fun _ => by decide
      refine ⟨?_, fun h => (by cases h), fun _ _ => ⟨rfl, ((hx _).bit R.peaStat_run).trans hrun, fun hn => ?_, fun p => ?_⟩⟩
      · exact h4.after (hx _) rfl fun _ => by decide
      · have hz : s3.pea.lastTick = none := by rw [hl2, hpea, outputCommit_lastTick, hn]
        show (match s3.pea.lastTick with | some t => (now - t).toNat | none => 0) = 0
        rw [hz]
      · have hp := notStarted_foldl 8 s4.pea.pair p.val p.isLt
        exact ⟨congrArg PairRun.ph1 hp, congrArg PairRun.ph2 hp, congrArg PairRun.finished hp⟩

/-! ## The row seal of a tick row -/

/-- What follows the start of a tick at a row seal. -/
def afterFoot (n : Nat) : Foot where
  zones := haltFoot.zones ++ (cumFoot n).zones
  parts := haltFoot.parts ++ [.dup]
  pages := haltFoot.pages

theorem afterFoot_clear {n : Nat} {f : Fld} (h : haltFoot.clear f = true) (ha : f.addr < R.cumSetExpLo 0) : (afterFoot n).clear f = true := by
  unfold Foot.clear afterFoot
  rw [List.all_append, Bool.and_eq_true]
  exact ⟨h, cumFoot_clear (Foot.apart_of_has (F := haltFoot) (by decide) h) ha⟩

theorem within_afterTick (r : Nat) (s : State) : ∃ n, (afterFoot n).Within s (sealEnd r (if s.phe.busy = some r then cumTickStart r s else s)) := by
  obtain ⟨n, hn⟩ := exists_cumTop s
  refine ⟨n, Foot.Within.trans (.ite ((within_cumTickStart r s hn).mono ?_) (.refl _ s)) ((within_sealEnd r _).mono ?_)⟩
  · simp [Foot.le, Foot.has, afterFoot, cumFoot, haltFoot, drcFoot, writeFoot, Zone.holds]
  · exact Foot.le_of_subset (fun _ => List.mem_append_left _) (fun _ => List.mem_append_left _) fun _ => id

/-- The row seal of a tick row, its tick apart. -/
theorem rowSeal_tick {s : State} {rec' : RowRec} {rest : List RowRec} (h : s.grid.inflight = rec' :: rest) (ht : s.isTickRow rec'.row = true) :
    ∃ b n, (⟨rowFoot.zones, .drc :: rowFoot.parts, rowFoot.pages⟩ : Foot).Within s b ∧ (afterFoot n).Within (tickStart rec'.row b) (rowSeal s) := by
  have ha : rowFoot.Within s (sealHead rec' rest s) := within_sealHead rec' rest s
  have htick : (sealHead rec' rest s).isTickRow rec'.row = true := by
    unfold State.isTickRow at ht ⊢
    rw [ha.rowsPerTick, ht]
  obtain ⟨n, hn⟩ := within_afterTick rec'.row (tickStart rec'.row (drcScales rec'.row (sealHead rec' rest s)))
  refine ⟨drcScales rec'.row (sealHead rec' rest s), n, (ha.mono rfl).then (within_drcScales _ _), ?_⟩
  rw [rowSeal_eq h, sealTick, if_pos htick]
  exact hn

/-- The end of a row seal keeps the tick that has started. -/
theorem TickRuns.after {r n : Nat} {s t u : State} (h : TickRuns r s t) (hw : (afterFoot n).Within t u) : TickRuns r s u := by
  have hp : u.pea = t.pea := hw.part .pea (by simp [afterFoot, haltFoot, drcFoot, writeFoot])
  obtain ⟨h1, h2, h3, h4⟩ := h
  refine ⟨by rw [hp, h1], (hw.bit _ (afterFoot_clear (by decide) (by decide))).trans h2, fun hn => by rw [hp, h3 hn], fun p => ?_⟩
  rw [State.pairRun, hp]
  exact h4 p

theorem CommitShown.fin {s t : State} (h : CommitShown s t) : CommitShown s t.fin :=
  ⟨fun k hk => fin_pend_keeps _ _ _ (h.done k hk), fun k hk he => by rw [fin_groupValid, fin_groupWord]; exact h.valid k hk he,
    fun k hk he hp => by rw [fin_pea]; exact h.bytes k hk he hp,
    fun k hk he hp => by
      obtain ⟨h1, h2, h3⟩ := h.overrun k hk he hp
      exact ⟨by rw [fin_pea, h1], by rw [fin_bit, h2], fin_pend_keeps _ _ _ h3⟩,
    fun hn he => by rw [fin_pea]; exact h.idle hn he, fun he => by rw [fin_pea]; exact h.off he⟩

/-- Settles O24: the commit is judged where the tick starts, and what the seal does before and after it touches none of it. -/
theorem ticksCommitOrOverrun : Obligations.TicksCommitOrOverrun := by
  unfold Obligations.TicksCommitOrOverrun
  intro s rec' rest hq ht
  obtain ⟨b, n, hb, hw⟩ := rowSeal_tick hq ht
  have hpea : b.pea = s.pea := hb.part .pea (by decide)
  have hen := hb.bit R.peaCtrl_en
  have hmode := hb.get R.gridCfg_mode
  obtain ⟨hc, ho, hr⟩ := tickStart_shown rec'.row b
  have hp : (rowSeal s).pea = (tickStart rec'.row b).pea := hw.part .pea (by simp [afterFoot, haltFoot, drcFoot, writeFoot])
  have hshown : CommitShown s (rowSeal s).fin := ((hc.congr hpea hen).after hw (by rw [hp]) (fun _ => afterFoot_clear (by decide) (by decide))
    (afterFoot_clear (by decide) (by decide)) (afterFoot_clear (by decide) (by decide))).fin
  refine completes_of_done rfl ⟨fun k hk => ⟨hshown.done k hk, fun he => ?_⟩, hshown.idle, fun he => ?_, fun he hm => ?_⟩
  · obtain ⟨h1, h2⟩ := hshown.valid k hk he
    exact ⟨h1, h2, hshown.bytes k hk he, hshown.overrun k hk he⟩
  · obtain ⟨h1, h2, h3⟩ := ho (hen.trans he)
    refine ⟨hshown.off he, ?_, ?_, ?_⟩
    · rw [fin_bit, hw.bit _ (afterFoot_clear (by decide) (by decide)), h1]
    · rw [fin_groupValid, hw.groupValid _ (afterFoot_clear (by decide) (by decide)), h2]
    · rw [fin_pea, hp, h3]
  · obtain ⟨h1, h2, h3, h4⟩ := (hr (hen.trans he) (by rw [hmode]; exact hm)).after hw
    refine ⟨by rw [fin_pea, h1], by rw [fin_bit, h2], fun hn => ?_, fun p => ?_⟩
    · rw [fin_pea]
      exact h3 (by rw [hpea, hn])
    · rw [fin_pairRun]
      exact h4 p

/-! # The chain and the strike comparators (R16, R25, R74, R78, R197) -/

/-- What the chain's run may touch. -/
def chainFoot : Foot where
  zones := [regZone R.dfcSatStickyLo R.dfcSatStickyHi, regZone R.afeOvrSticky R.afeOvrSticky, regZone R.afeBsiOvrSticky R.afeBsiOvrSticky,
    regZone R.afeBsiStat R.afeBsiStat]
  parts := [.dfc, .afe]
  pages := [.dfc, .afe]

theorem within_ovrSticky {F : Foot} (s : State) (reg n : Nat) (hn : n < 32) (hz : F.has (regZone reg reg) = true) (hp : .afe ∈ F.pages := by decide) :
    F.Within s (s.ovrSticky reg n) :=
  (within_edgeIf s _ .afe 1 hp).trans (within_setRegBit _ reg n true (Foot.has_mono hz (by simp [Zone.holds]; omega)) hn)

theorem within_bsiStat {F : Foot} (s : State) (n : Nat) (hn : n < 32) (hz : F.has (regZone R.afeBsiStat R.afeBsiStat) = true := by decide) :
    F.Within s (s.bsiStat n) :=
  .ite (within_setRegBit s R.afeBsiStat n _ (Foot.has_mono hz (by simp [Zone.holds]; omega)) hn) (.refl _ s)

theorem within_storeFeed (c : Nat) (hc : c < 64) (f : Feed) (s : State) : chainFoot.Within s (storeFeed c f s) := by
  have hz : chainFoot.has (regZone (R.dfcSatStickyLo + 4 * (c / 32)) (R.dfcSatStickyLo + 4 * (c / 32))) = true := by
    refine Foot.has_mono (z := regZone R.dfcSatStickyLo R.dfcSatStickyHi) (by decide) ?_
    simp only [Zone.holds_iff, R.dfcSatStickyLo, R.dfcSatStickyHi]
    omega
  unfold storeFeed
  extract_lets _ s1 s2 s3 s4
  have h1 : chainFoot.Within s s1 := .ite (within_dfc s _) (.refl _ s)
  have h2 : chainFoot.Within s s2 := .ite ((h1.trans (within_edgeIf _ _ .dfc 2)).trans (within_setArrBit _ R.dfcSatStickyLo c true hz)) h1
  have h3 : chainFoot.Within s s3 := h2.trans (within_updAin s2 c _)
  split
  · exact .ite (h3.trans (within_ovrSticky s3 _ c (by omega) (by decide))) h3
  · have h4 : chainFoot.Within s s4 := (h2.trans (within_afe s2 _)).trans (within_bsiStat _ (c - 32) (by omega))
    exact .ite (h4.trans (within_ovrSticky s4 _ _ (by omega) (by decide))) h4

theorem within_runChain (clocks : Nat) (ain : List (Nat × List ModBit)) (lines : List (Nat × List Bool)) (s : State) :
    chainFoot.Within s (runChain clocks ain lines s) := by
  unfold runChain
  extract_lets s0 s1
  have h1 : chainFoot.Within s s1 := .ite (.refl _ s) ((Foot.Within.refl _ s).iterUp fun c hc u => within_storeFeed c hc _ u)
  exact h1.trans (within_dfc s1 _)

/-- What the comparators' judgement may touch. -/
def strikeFoot : Foot where
  zones := [regZone R.trmStkLiveLo R.trmStkLiveHi, regZone R.trmStkStickyLo R.trmStkStickyHi]
  parts := [.trm, .evr, .drc]
  pages := [.trm]

theorem within_setStrike {F : Foot} (s : State) (n : Nat) (x : StrikeState) (hp : .trm ∈ F.parts := by decide) : F.Within s (s.setStrike n x) :=
  within_trm s _ hp

theorem within_drcSee {F : Foot} (s : State) (hp : .drc ∈ F.parts := by decide) : F.Within s s.drcSee := within_drc s _ hp

theorem within_strikeOut (n : Nat) (hn : n < 64) (on : Bool) (s : State) : strikeFoot.Within s (strikeOut n on s) := by
  have hl : strikeFoot.has (regZone (R.trmStkLiveLo + 4 * (n / 32)) (R.trmStkLiveLo + 4 * (n / 32))) = true := by
    refine Foot.has_mono (z := regZone R.trmStkLiveLo R.trmStkLiveHi) (by decide) ?_
    simp only [Zone.holds_iff, R.trmStkLiveLo, R.trmStkLiveHi]
    omega
  have hs : strikeFoot.has (regZone (R.trmStkStickyLo + 4 * (n / 32)) (R.trmStkStickyLo + 4 * (n / 32))) = true := by
    refine Foot.has_mono (z := regZone R.trmStkStickyLo R.trmStkStickyHi) (by decide) ?_
    simp only [Zone.holds_iff, R.trmStkStickyLo, R.trmStkStickyHi]
    omega
  unfold strikeOut
  extract_lets _ s1 s2 s3
  have h1 : strikeFoot.Within s s1 := (within_setStrike s n _).trans (within_setArrBit _ R.trmStkLiveLo n on hl)
  have h2 : strikeFoot.Within s s2 := .ite (.ite h1 ((h1.trans (within_setArrBit _ R.trmStkStickyLo n true hs)).trans (within_edge _ .trm 1))) h1
  have h3 : strikeFoot.Within s s3 := .ite (h2.trans (within_event _ _ _ _ _ _ _)) h2
  exact .ite (.refl _ s) ((h3.trans (within_drcSee s3)).trans (within_requestPass _))

theorem within_strikeSample (n : Nat) (hn : n < 64) (x : Tagged) (s : State) : strikeFoot.Within s (strikeSample n x s) := by
  unfold strikeSample
  extract_lets c thr pol byOvr exc k high m
  refine .ite ((within_setStrike s n _).trans (within_strikeOut n hn _ _)) (.ite ?_ ?_)
  · exact .ite (within_strikeOut n hn _ s) (within_setStrike s n _)
  · exact .ite (within_strikeOut n hn _ s) (within_setStrike s n _)

/-- The SINC outputs of every channel have been judged. -/
def sincJudged (s : State) : State :=
  { s with dfc := { s.dfc with chan := (List.range 64).foldl (fun t c => tupd {} t c (fun ch => { ch with sinc := [] })) s.dfc.chan } }

/-- The comparators judge the `j`th oldest output of each channel in `s`, where there is one. -/
def judgeRound (s : State) (j : Nat) (t : State) : State :=
  iterUp 64 (fun c t => match (s.sincOf c).reverse[j]? with | some x => strikeSample c x t | none => t) t

/-- Outputs of the channel that has most. -/
def State.rounds (s : State) : Nat := (List.range 64).foldl (fun a c => Nat.max a (s.sincOf c).length) 0

theorem strikeAll_eq (s : State) : strikeAll s = sincJudged (iterUp s.rounds (judgeRound s) s) := by
  unfold strikeAll
  extract_lets +onlyGivenNames n judged
  have hn : n = s.rounds := by unfold State.rounds; with_reducible rfl
  have hj : judged = iterUp s.rounds (judgeRound s) s := by rw [← hn]; rfl
  rw [← hj]
  rfl

theorem within_judgeRound (s : State) (j : Nat) (t : State) : strikeFoot.Within t (judgeRound s j t) :=
  (Foot.Within.refl _ t).iterUp fun c hc u => by
    split
    · exact within_strikeSample c hc _ u
    · exact .refl _ u

theorem within_judged (s t : State) (n : Nat) : strikeFoot.Within t (iterUp n (judgeRound s) t) :=
  (Foot.Within.refl _ t).iterUp fun j _ u => within_judgeRound s j u

theorem within_sincJudged {F : Foot} (s : State) (hp : .dfc ∈ F.parts := by decide) : F.Within s (sincJudged s) := within_dfc s _ hp

/-- What modulator clocks may touch. -/
def clocksFoot : Foot where
  zones := chainFoot.zones ++ strikeFoot.zones
  parts := chainFoot.parts ++ strikeFoot.parts
  pages := chainFoot.pages ++ strikeFoot.pages

theorem within_chainStep (clocks : Nat) (ain : List (Nat × List ModBit)) (lines : List (Nat × List Bool)) (s : State) :
    clocksFoot.Within s (chainStep clocks ain lines s) := by
  have h : clocksFoot.Within s (runChain clocks ain lines s) := (within_runChain clocks ain lines s).mono rfl
  unfold chainStep
  rw [strikeAll_eq]
  exact (h.then (within_judged _ _ _)).trans (within_sincJudged _)

/-! # Words in memory

What a store leaves of the memory around it, and what it reads back as (R4). -/

/-- `t` holds the bytes of `s` at every address that satisfies `P`. -/
def MemKept (P : Nat → Prop) (s t : State) : Prop := ∀ a, P a → memByte t.mem a = memByte s.mem a

section
variable {P : Nat → Prop} {s t u : State}

theorem MemKept.refl (P : Nat → Prop) (s : State) : MemKept P s s := fun _ _ => rfl

theorem MemKept.trans (h : MemKept P s t) (h' : MemKept P t u) : MemKept P s u := fun a ha => (h' a ha).trans (h a ha)

theorem MemKept.of_eq (h : t.mem = s.mem) : MemKept P s t := fun a _ => by rw [h]

theorem MemKept.ite {c : Prop} [Decidable c] (ht : MemKept P s t) (hu : MemKept P s u) : MemKept P s (if c then t else u) := by
  split
  · exact ht
  · exact hu

theorem MemKept.iterUp {n : Nat} {f : Nat → State → State} (h : MemKept P s t) (hf : ∀ i, i < n → ∀ u, MemKept P u (f i u)) :
    MemKept P s (iterUp n f t) :=
  List.foldlRecOn (motive := MemKept P s) (List.range n) _ h fun u hu i hi => hu.trans (hf i (List.mem_range.mp hi) u)

theorem MemKept.mono {Q : Nat → Prop} (h : MemKept P s t) (hq : ∀ a, Q a → P a) : MemKept Q s t := fun a ha => h a (hq a ha)

/-- A step within a footprint without memory keeps every byte. -/
theorem Foot.Within.memKept {F : Foot} (h : F.Within s t) (hp : Part.mem ∉ F.parts := by decide) : MemKept P s t := fun a _ => h.part .mem hp a

theorem MemKept.word (h : MemKept P s t) {a : Nat} (ha : ∀ i, i < 4 → P (a + i)) : t.word a = s.word a := by
  simp only [State.word, memWord, memBytes, Nat.add_assoc]
  rw [h a (ha 0 (by decide)), h _ (ha 1 (by decide)), h _ (ha 2 (by decide)), h _ (ha 3 (by decide))]

end

section
variable {P : Nat → Prop} (s : State)

theorem memKept_setBytes (a : Nat) (bs : List Byte) (h : ∀ x, P x → x < a ∨ a + bs.length ≤ x) : MemKept P s (s.setBytes a bs) :=
  fun x hx => memByte_memWrite_out _ _ _ _ (h x hx)

theorem leBytes_length (n v : Nat) : (leBytes n v).length = n := by
  induction n generalizing v with
  | zero => rfl
  | succ n ih => rw [leBytes, List.length_cons, ih]

theorem memKept_setWord (a : Nat) (w : Word) (h : ∀ x, P x → x < a ∨ a + 4 ≤ x) : MemKept P s (s.setWord a w) :=
  fun x hx => memByte_memWrite_out _ _ _ _ (h x hx)

theorem wordsBytes_length (ws : List Word) : (ws.flatMap (fun w => leBytes 4 w.toNat)).length = 4 * ws.length := by
  induction ws with
  | nil => rfl
  | cons w ws ih => rw [List.flatMap_cons, List.length_append, ih, leBytes_length, List.length_cons]; omega

theorem memKept_setWords (a : Nat) (ws : List Word) (h : ∀ x, P x → x < a ∨ a + 4 * ws.length ≤ x) : MemKept P s (s.setWords a ws) :=
  fun x hx => memByte_memWrite_out _ _ _ _ (by rw [wordsBytes_length]; exact h x hx)

/-- The word of four bytes in little-endian order. -/
theorem word_of_bytes {t : State} {a : Nat} {w : Word} (h : ∀ i, i < 4 → memByte t.mem (a + i) = (leBytes 4 w.toNat).getD i emptyByte) : t.word a = w := by
  have h0 := h 0 (by decide)
  have h1 := h 1 (by decide)
  have h2 := h 2 (by decide)
  have h3 := h 3 (by decide)
  simp only [leBytes, List.getD_cons_zero, List.getD_cons_succ, Nat.add_zero] at h0 h1 h2 h3
  simp only [State.word, memWord, memBytes, leNat, Nat.add_assoc, h0, h1, h2, h3]
  apply BitVec.eq_of_toNat_eq
  have hw := w.isLt
  simp only [BitVec.toNat_ofNat]
  omega

theorem word_setWord_same (a : Nat) (w : Word) : (s.setWord a w).word a = w :=
  word_of_bytes fun i hi => memByte_memWrite_in _ _ _ _ (by rw [leBytes_length]; exact hi)

theorem wordsBytes_getD (ws : List Word) : ∀ (k i : Nat) (hk : k < ws.length), i < 4 →
    (ws.flatMap (fun w => leBytes 4 w.toNat)).getD (4 * k + i) emptyByte = (leBytes 4 ws[k].toNat).getD i emptyByte := by
  induction ws with
  | nil => exact fun _ _ hk => absurd hk (Nat.not_lt_zero _)
  | cons w ws ih =>
    intro k i hk hi
    rw [List.flatMap_cons]
    cases k with
    | zero => rw [Nat.mul_zero, Nat.zero_add, List.getD_append _ _ _ _ (by rw [leBytes_length]; exact hi)]; rfl
    | succ k =>
      rw [List.getD_append_right _ _ _ _ (by rw [leBytes_length]; omega), leBytes_length, show 4 * (k + 1) + i - 4 = 4 * k + i by omega]
      exact ih k i (by simpa using hk) hi

theorem word_setWords (a : Nat) (ws : List Word) (k : Nat) (hk : k < ws.length) : (s.setWords a ws).word (a + 4 * k) = ws[k] :=
  word_of_bytes fun i hi => by
    rw [Nat.add_assoc]
    exact (memByte_memWrite_in _ _ _ _ (by rw [wordsBytes_length]; omega)).trans (wordsBytes_getD ws k i hk hi)

/-! ## The plane -/

/-- The bytes of quantity `q` in the slot of row `r`. -/
def InPlane (r q a : Nat) : Prop := (valueAddr r q ≤ a ∧ a < valueAddr r q + 4) ∨ a = qualAddr r q

/-- The bytes of the header of row `r`. -/
def InHead (r a : Nat) : Prop := headAddr r ≤ a ∧ a < headAddr r + 32

/-- The bytes outside the slot of row `r`. -/
def OutSlot (r a : Nat) : Prop := (a < headAddr r ∨ headAddr r + 32 ≤ a) ∧ (a < valueAddr r 0 ∨ valueAddr r 576 ≤ a) ∧ (a < qualAddr r 0 ∨ qualAddr r 576 ≤ a)

theorem memKept_setPlane (r q : Nat) (v : Int) (ql : Nat) (h : ∀ x, P x → ¬ InPlane r q x) : MemKept P s (s.setPlane r q v ql) := by
  have hn : ∀ x, P x → (x < valueAddr r q ∨ valueAddr r q + 4 ≤ x) ∧ x ≠ qualAddr r q := fun x hx => by
    have hp := h x hx
    unfold InPlane at hp
    omega
  refine (memKept_setWord s _ _ fun x hx => (hn x hx).1).trans (memKept_setBytes _ _ _ fun x hx => ?_)
  rw [List.length_singleton]
  have hq := (hn x hx).2
  omega

theorem outSlot_plane {r q : Nat} (hq : q < 576) (a : Nat) (h : OutSlot r a) : ¬ InPlane r q a := by
  unfold OutSlot InPlane valueAddr qualAddr headAddr at *
  omega

theorem head_plane {r r' q : Nat} (hq : q < 576) (a : Nat) (h : InHead r' a) : ¬ InPlane r q a := by
  unfold InHead InPlane valueAddr qualAddr headAddr at *
  omega

theorem plane_plane {r q q' : Nat} (hq : q < 576) (hq' : q' < 576) (hne : q' ≠ q) (a : Nat) (h : InPlane r q' a) : ¬ InPlane r q a := by
  unfold InPlane valueAddr qualAddr at *
  omega

/-- The value and quality byte that a plane write leaves. -/
theorem setPlane_shows (r q : Nat) (hq : q < 576) (v : Int) (ql : Nat) : (s.setPlane r q v ql).word (valueAddr r q) = BitVec.ofInt 32 v ∧
    (s.setPlane r q v ql).planeQual r q = ql % 256 := by
  have hk : MemKept (fun x => x < qualAddr r q ∨ qualAddr r q + 1 ≤ x) (s.setWord (valueAddr r q) (BitVec.ofInt 32 v)) (s.setPlane r q v ql) :=
    memKept_setBytes _ _ _ fun x hx => by simpa using hx
  refine ⟨(hk.word fun i hi => ?_).trans (word_setWord_same s _ _), ?_⟩
  · unfold valueAddr qualAddr
    omega
  · unfold State.planeQual
    have hb := memByte_memWrite_in (s.setWord (valueAddr r q) (BitVec.ofInt 32 v)).mem (qualAddr r q) [BitVec.ofNat 8 ql] 0 (Nat.lt_succ_self 0)
    exact (congrArg BitVec.toNat hb).trans (BitVec.toNat_ofNat ..)

theorem MemKept.plane {P : Nat → Prop} {s t : State} (h : MemKept P s t) {r q : Nat} (hp : ∀ a, InPlane r q a → P a) :
    t.word (valueAddr r q) = s.word (valueAddr r q) ∧ t.planeQual r q = s.planeQual r q := by
  refine ⟨h.word fun i hi => hp _ (.inl (by omega)), ?_⟩
  unfold State.planeQual
  rw [h _ (hp _ (.inr rfl))]

end

/-! # Whether GRID may write the plane (R328)

The regions of master 3, the claims and the banks decide; the seal of a row touches none of them. -/

theorem rowFoot_rgn {r w : Nat} (hr : r < 16) (hw : w < 4) : rowFoot.clear ⟨rgnReg 3 r w, 31, 0⟩ = true := by
  simp only [Foot.clear, rowFoot, List.all_cons, List.all_nil, Bool.and_true, Bool.and_eq_true, Zone.apart_iff, rgnReg, R.memFault, R.gridStat_desync, R.gridStat_trk,
    R.gridStat_clamp, R.gridStat, R.gridNow]
  omega

theorem rowFoot_bank {b : Nat} (hb : b < 48) (hi lo : Nat) : rowFoot.clear ⟨R.memBankCfg b, hi, lo⟩ = true := by
  simp only [Foot.clear, rowFoot, List.all_cons, List.all_nil, Bool.and_true, Bool.and_eq_true, Zone.apart_iff, R.memBankCfg, R.memFault, R.gridStat_desync, R.gridStat_trk,
    R.gridStat_clamp, R.gridStat, R.gridNow]
  omega

section
variable {s t : State} (h : rowFoot.Within s t)
include h

theorem regionOk_row (a len : Nat) (w : Bool) : t.regionOk 3 a len w = s.regionOk 3 a len w := by
  have hg : ∀ x, (List.range 16).any (fun r => t.rgnGrants 3 r x w) = (List.range 16).any (fun r => s.rgnGrants 3 r x w) := fun x => by
    rw [Bool.eq_iff_iff, List.any_eq_true, List.any_eq_true]
    refine exists_congr fun r => and_congr_right fun hr => ?_
    have hr := List.mem_range.mp hr
    simp only [State.rgnGrants, h.reg _ (rowFoot_rgn hr (show 0 < 4 by decide)), h.reg _ (rowFoot_rgn hr (show 1 < 4 by decide)),
      h.reg _ (rowFoot_rgn hr (show 2 < 4 by decide)), h.reg _ (rowFoot_rgn hr (show 3 < 4 by decide))]
  simp only [State.regionOk, hg]

theorem claimed_row (b : Nat) : t.claimed b = s.claimed b := by
  simp only [State.claimed, h.bit R.gridCtrl_en, h.bit R.pheCtrl_en, h.bit R.peaCtrl_en, h.bit R.trmCtrl_en, h.bit R.lgeCtrl_en, h.get R.lgeCfg_role,
    h.bit R.dupCtrl_cum_en, h.bit R.gosCtrl_gp_en, h.bit R.gosCtrl_gs_en, h.bit R.gosCtrl_svp_en, h.bit R.evrCtrl_en]

theorem bankReady_row {b : Nat} (hb : b < 48) : t.bankReady b = s.bankReady b := by
  have hs : t.sram = s.sram := h.part .sram (by decide)
  simp only [State.bankReady, State.bankSt, State.bankTest, hs, h.get (R.memBankCfg_state b) (rowFoot_bank hb _ _),
    h.bit (R.memBankCfg_ready b) (rowFoot_bank hb _ _)]

theorem atomWin_row {a : Nat} (ha : a < 0x2000000) : t.atomWin a = s.atomWin a := by
  have hb : bankOf a < 48 := by unfold bankOf; omega
  simp only [State.atomWin, h.get (R.memBankCfg_mode (bankOf a)) (rowFoot_bank hb _ _), claimed_row h]

/-- What the seal of a row does before a check leaves its answer. -/
theorem memCheck_row {a len : Nat} (w : Bool) (ha : 0x800000 ≤ a) (hb : a + len - 1 < 0x2000000) (hl : 0 < len) :
    t.memCheck 3 a len w = s.memCheck 3 a len w := by
  have hbs : ∀ b ∈ (List.range (bankOf (a + len - 1) - bankOf a + 1)).map (fun i => bankOf a + i), b < 48 := fun b hm => by
    obtain ⟨i, hi, rfl⟩ := List.mem_map.mp hm
    have hi := List.mem_range.mp hi
    unfold bankOf at *
    omega
  have hready : ((List.range (bankOf (a + len - 1) - bankOf a + 1)).map (fun i => bankOf a + i)).all t.bankReady =
      ((List.range (bankOf (a + len - 1) - bankOf a + 1)).map (fun i => bankOf a + i)).all s.bankReady := by
    rw [Bool.eq_iff_iff, List.all_eq_true, List.all_eq_true]
    exact forall₂_congr fun b hm => by rw [bankReady_row h (hbs b hm)]
  unfold State.memCheck
  rw [target_sram t a ha (by omega), target_sram t (a + len - 1) (by omega) hb, target_sram s a ha (by omega), target_sram s (a + len - 1) (by omega) hb]
  simp only [regionOk_row h, claimed_row h, hready, atomWin_row h (show a < 0x2000000 by omega)]

end

theorem headAddr_range (r : Nat) : 0x800000 ≤ headAddr r ∧ headAddr r + 32 - 1 < 0x2000000 := by
  unfold headAddr
  omega

/-! # The row seal (R18, R94 to R96, R103 to R107) -/

/-! ## The queue of rows -/

/-- What the grid keeps of its rows in flight, its seals, its stop and its position. -/
def State.queue (s : State) : List RowRec × Nat × Nat × Option Nat × Nat × Nat :=
  (s.grid.inflight, s.grid.old, s.grid.sealed, s.grid.stopAt, s.grid.origin, s.grid.pos)

theorem iterUp_keeps {α : Type} (g : State → α) {n : Nat} {f : Nat → State → State} (hf : ∀ i u, g (f i u) = g u) (s : State) : g (iterUp n f s) = g s :=
  List.foldlRecOn (motive := fun u => g u = g s) (List.range n) _ rfl fun u hu i _ => (hf i u).trans hu

theorem Foot.Within.queue {F : Foot} {s t : State} (h : F.Within s t) (hp : Part.grid ∉ F.parts := by decide) : t.queue = s.queue := by
  have e : t.grid = s.grid := h.part .grid hp
  unfold State.queue
  rw [e]

theorem ite_keeps {α : Type} {g : State → α} {c : Prop} [Decidable c] {s t : State} {x : α} (hs : g s = x) (ht : g t = x) : g (if c then s else t) = x := by
  split
  · exact hs
  · exact ht

theorem updateMissing_queue (rec' : RowRec) (s : State) : (updateMissing rec' s).queue = s.queue := by
  unfold updateMissing
  exact ite_keeps (g := State.queue) rfl (ite_keeps rfl (ite_keeps rfl (ite_keeps rfl (ite_keeps rfl rfl))))

theorem sealQuantity_queue (r q : Nat) (s : State) : (sealQuantity r q s).queue = s.queue := by
  unfold sealQuantity
  extract_lets test ql tq h bad run h' _ s1
  have h1 : s1.queue = s.queue := ite_keeps (g := State.queue) rfl rfl
  have hp : ∀ v k, (s1.setPlane r q v k).queue = s.queue := fun _ _ => h1
  split
  · exact hp _ _
  · exact ite_keeps (g := State.queue) (hp _ _) (ite_keeps (hp _ _) (hp _ _))
  · exact hp _ _

theorem trackerMeasure_queue (rec' : RowRec) (s : State) : (trackerMeasure rec' s).queue = s.queue := by
  unfold trackerMeasure
  extract_lets trk v fz now meas _ s1 dev df near freeze update settle slew rel _ g _
  clear_value meas
  have hf : (freeze s1).queue = s.queue := rfl
  have hu : ∀ k u, (update k u).queue = u.queue := fun k u => by
    simp only [update]
    cases meas <;> rfl
  have hs : ∀ u, (settle u).queue = u.queue := fun u => ite_keeps (g := State.queue) rfl rfl
  refine ite_keeps (g := State.queue) rfl (ite_keeps (ite_keeps rfl (ite_keeps rfl (hu _ _))) (ite_keeps (ite_keeps hf ((hs _).trans (hu _ _)))
    (ite_keeps (ite_keeps hf (hu _ _)) (ite_keeps (ite_keeps hf ((hs _).trans (hu _ _))) rfl))))

theorem unlessOld_keeps {α : Type} (g : State → α) {f : State → State} (hf : ∀ u, g (f u) = g u) (old : Bool) (s : State) : g (unlessOld old f s) = g s := by
  cases old
  · exact hf s
  · rfl

theorem sealValues_queue (rec' : RowRec) (s : State) : (sealValues rec' s).queue = s.queue :=
  (iterUp_keeps State.queue (sealQuantity_queue rec'.row) _).trans (iterUp_keeps State.queue (fun n u => (within_sealLocal rec' n u).queue) s)

theorem sealHead_queue (rec' : RowRec) (rest : List RowRec) (s : State) : (sealHead rec' rest s).queue = (sealTake rest s).queue := by
  unfold sealHead
  rw [unlessOld_keeps State.queue (trackerMeasure_queue rec'), (within_sealHeader rec' _).queue, sealValues_queue,
    unlessOld_keeps State.queue (updateMissing_queue rec')]

/-- What a row seal touches after the row's header: a tick's start, its Cumulus sums, the record row. -/
theorem sealTick_queue (r : Nat) (s : State) : (sealTick r s).queue = s.queue := by
  unfold sealTick
  split
  · have h : (tickStart r (drcScales r s)).queue = s.queue := (within_tickStart r _).queue.trans (within_drcScales r s).queue
    split
    · obtain ⟨n, hn⟩ := exists_cumTop (tickStart r (drcScales r s))
      exact ((within_cumTickStart r _ hn).queue (by simp [cumFoot])).trans h
    · exact h
  · rfl

/-! ## GRID_NOW, the stop of the grid -/

/-- The row and the stamp that a row seal puts into GRID_NOW. -/
def NowShows (rec' : RowRec) (t : State) : Prop :=
  t.groupWord R.gridNow 1 = BitVec.ofNat 32 rec'.row ∧ t.groupWord R.gridNow 2 = rec'.tstamp

theorem NowShows.after {F : Foot} {rec' : RowRec} {s t : State} (h : NowShows rec' s) (hw : F.Within s t)
    (h1 : F.clear ⟨R.gridNow.addr + 4, 31, 0⟩ = true := by decide) (h2 : F.clear ⟨R.gridNow.addr + 8, 31, 0⟩ = true := by decide) : NowShows rec' t :=
  ⟨(hw.groupWord R.gridNow 1 h1).trans h.1, (hw.groupWord R.gridNow 2 h2).trans h.2⟩

theorem sealHeader_now (rec' : RowRec) (s : State) : NowShows rec' (sealHeader rec' s) ∧ (sealHeader rec' s).groupValid R.gridNow = true := by
  unfold sealHeader
  exact ⟨⟨groupWord_complete_head _ _ _ _ (by decide), groupWord_complete _ R.gridNow [_, _, _, _, _] 1 (by rw [List.length_cons]; exact Nat.succ_lt_succ (Nat.succ_pos _)) (by decide)⟩, groupValid_complete _ _ _⟩

theorem sealHead_now (rec' : RowRec) (rest : List RowRec) (s : State) :
    NowShows rec' (sealHead rec' rest s) ∧ (sealHead rec' rest s).groupValid R.gridNow = true := by
  have h := sealHeader_now rec' (sealValues rec' (unlessOld (decide (0 < s.grid.old)) (updateMissing rec') (sealTake rest s)))
  have hw : trackFoot.Within (sealRow rec' rest s) (sealHead rec' rest s) := (Foot.Within.refl _ _).unlessOld _ (within_trackerMeasure rec')
  exact ⟨h.1.after hw, (hw.groupValid R.gridNow).trans h.2⟩

/-- What the start of a tick at a row seal touches; `n` bounds the Cumulus sets. -/
def sealTickFoot (n : Nat) : Foot where
  zones := tickFoot.zones ++ (cumFoot n).zones
  parts := tickFoot.parts
  pages := tickFoot.pages

theorem sealTickFoot_clear {n : Nat} {f : Fld} (h : tickFoot.clear f = true) (ha : f.addr < R.cumSetExpLo 0) : (sealTickFoot n).clear f = true := by
  unfold Foot.clear sealTickFoot
  rw [List.all_append, Bool.and_eq_true]
  exact ⟨h, cumFoot_clear (Foot.apart_of_has (F := tickFoot) (by decide) h) ha⟩

theorem within_sealTick (r : Nat) (s : State) : ∃ n, (sealTickFoot n).Within s (sealTick r s) := by
  obtain ⟨n, hn⟩ := exists_cumTop (tickStart r (drcScales r s))
  have ht : ∀ {u v : State}, tickFoot.Within u v → (sealTickFoot n).Within u v := fun h =>
    h.mono (Foot.le_of_subset (fun _ => List.mem_append_left _) (fun _ => id) fun _ => id)
  have h : (sealTickFoot n).Within s (tickStart r (drcScales r s)) := (ht ((within_drcScales r s).mono rfl)).trans (ht (within_tickStart r _))
  have hc : (sealTickFoot n).Within (tickStart r (drcScales r s)) (cumTickStart r (tickStart r (drcScales r s))) :=
    (within_cumTickStart r _ hn).mono (Foot.le_of_subset (fun _ => List.mem_append_right _)
      (show ∀ p ∈ [Part.mem, Part.dup], p ∈ tickFoot.parts by decide) (show ∀ q ∈ [Page.mem], q ∈ tickFoot.pages by decide))
  exact ⟨n, .ite (.ite (h.trans hc) h) (.refl _ s)⟩

/-! ## The end of a row seal -/

/-- The record row, with the row counted off those of a run before a restart. -/
def sealRecord (r : Nat) (s : State) : State := drcRow r { s with grid := { s.grid with old := s.grid.old - 1 } }

/-- The grid has reached its stop with no row left. -/
def State.gridDone (s : State) : Bool := s.grid.stopAt.isSome && s.grid.inflight.isEmpty && !s.rowDue

theorem sealEnd_eq (r : Nat) (s : State) : sealEnd r s = if (sealRecord r s).gridDone then gridHalt (sealRecord r s) else sealRecord r s := rfl

theorem sealRecord_queue (r : Nat) (s : State) : (sealRecord r s).queue =
    (s.grid.inflight, s.grid.old - 1, s.grid.sealed, s.grid.stopAt, s.grid.origin, s.grid.pos) := (within_drcRow r _).queue

theorem within_sealRecord (r : Nat) (s : State) : (⟨drcFoot.zones, .grid :: drcFoot.parts, drcFoot.pages⟩ : Foot).Within s (sealRecord r s) :=
  (within_grid s _).then (within_drcRow r _)

/-- What the stop of the grid leaves in GRID. -/
theorem gridHalt_shows (s : State) : (gridHalt s).grid = { s.grid with stopAt := none } ∧ (gridHalt s).bit R.gridStat_run = false ∧
    (gridHalt s).groupValid R.gridNow = false := by
  unfold gridHalt gridStopped
  extract_lets s1
  have hi := within_invalidate (F := ⟨[regZone R.gridNow.addr R.gridNow.addr], [], []⟩) (s.putBit R.gridStat_run false) R.gridNow
  have hrun : s1.bit R.gridStat_run = false := (hi.bit R.gridStat_run).trans (bit_putBit_same _ _ _ rfl (by decide))
  have hval : s1.groupValid R.gridNow = false := groupValid_invalidate _ _
  have hgrid : s1.grid = s.grid := rfl
  clear_value s1
  generalize hu : ({ s1 with grid := { s1.grid with stopAt := none } } : State) = u
  have hg : u.grid = { s.grid with stopAt := none } := by rw [← hu, ← hgrid]
  have hw0 : (⟨[], [.grid], []⟩ : Foot).Within s1 u := by rw [← hu]; exact within_grid s1 _
  have hw : stopTailFoot.Within u (pheSettle u).svsStat.drcStop :=
    (((within_pheSettle u).mono rfl).then (within_svsStat _)).trans (within_drcStop _)
  exact ⟨(hw.part .grid (by decide)).trans hg, (hw.bit _).trans ((hw0.bit _).trans hrun), (hw.groupValid R.gridNow).trans ((hw0.groupValid R.gridNow).trans hval)⟩

theorem rowDue_congr {s t : State} (hr : t.bit R.gridStat_run = s.bit R.gridStat_run) (ho : t.grid.stopAt = s.grid.stopAt)
    (hg : t.grid.origin = s.grid.origin) (hp : t.grid.pos = s.grid.pos) : t.rowDue = s.rowDue := by
  unfold State.rowDue
  rw [hr, ho, hg, hp]

/-! ## FORCE_FRZ (R96) -/

/-- FORCE_FRZ freezes a tracker that acquires, is locked or releases (R95, R96). -/
theorem trackerMeasure_forced {rec' : RowRec} {s : State} (ht : s.tracked = true) (hr : rec'.row % s.gridN = 0)
    (hk : s.get R.gridStat_trk ∈ [2, 3, 5]) (hf : s.bit R.gridCtrl_force_frz = true) :
    (trackerMeasure rec' s).get R.gridStat_trk = 4 ∧ Pends (trackerMeasure rec' s) .grid 0 := by
  have hfz : ∀ a b, s.frozenAt rec'.row a b = true := fun a b => by
    unfold State.frozenAt
    extract_lets bad
    rw [hf, Bool.or_true, Bool.true_or]
  unfold trackerMeasure
  extract_lets trk v fz now meas _ s1 dev df near freeze update settle slew rel _ g _
  have hfz1 : fz = true := hfz _ _
  have hfreeze : (freeze s1).get R.gridStat_trk = 4 ∧ Pends (freeze s1) .grid 0 := by
    refine ⟨?_, pends_edge _ _ _ (by decide)⟩
    have hw : ∀ u : State, ∀ x, (⟨[], [.grid], [.grid]⟩ : Foot).Within u (State.edge { u with grid := x } .grid 0) := fun u x =>
      (within_grid u x).trans (within_edge _ .grid 0)
    exact ((hw (s1.setTrk trkFROZEN) _).get R.gridStat_trk).trans (get_put_same _ _ _ (by decide) (by decide))
  have htrk : trk = 2 ∨ trk = 3 ∨ trk = 5 := by simpa using hk
  clear_value trk fz freeze update settle
  rw [if_neg (by rcases htrk with h | h | h <;> simp [ht, hr, h, trkFIXED, trkFOLLOW]), hfz1, Bool.true_or]
  rcases htrk with rfl | rfl | rfl <;> exact hfreeze

/-! ## What a row seal leaves in GRID -/

/-- The state of the queue at the end of a row seal, before the grid's stop is judged. -/
def sealedTo (rec' : RowRec) (rest : List RowRec) (s : State) : State := sealRecord rec'.row (sealTick rec'.row (sealHead rec' rest s))

theorem unlessOld_false (f : State → State) (s : State) : unlessOld false f s = f s := rfl

section
variable {s : State} {rec' : RowRec} {rest : List RowRec}

theorem rowSeal_sealedTo (h : s.grid.inflight = rec' :: rest) :
    rowSeal s = if (sealedTo rec' rest s).gridDone then gridHalt (sealedTo rec' rest s) else sealedTo rec' rest s := by
  rw [rowSeal_eq h, sealEnd_eq]
  rfl

theorem sealedTo_queue : (sealedTo rec' rest s).queue =
    (rest, s.grid.old - 1, s.grid.sealed + b2n (!decide (0 < s.grid.old)), s.grid.stopAt, s.grid.origin, s.grid.pos) := by
  have h : (sealTick rec'.row (sealHead rec' rest s)).queue = (sealTake rest s).queue := (sealTick_queue _ _).trans (sealHead_queue _ _ _)
  simp only [State.queue, Prod.mk.injEq] at h
  obtain ⟨h1, h2, h3, h4, h5, h6⟩ := h
  unfold sealedTo
  rw [sealRecord_queue, h1, h2, h3, h4, h5, h6]
  rfl

theorem within_sealedTo (rec' : RowRec) (rest : List RowRec) (s : State) :
    ∃ t n, rowFoot.Within s (sealHead rec' rest s) ∧ (sealTickFoot n).Within (sealHead rec' rest s) t ∧
      (⟨drcFoot.zones, .grid :: drcFoot.parts, drcFoot.pages⟩ : Foot).Within t (sealedTo rec' rest s) := by
  obtain ⟨n, hn⟩ := within_sealTick rec'.row (sealHead rec' rest s)
  exact ⟨_, n, within_sealHead rec' rest s, hn, within_sealRecord _ _⟩

theorem sealedTo_now : NowShows rec' (sealedTo rec' rest s) ∧ (sealedTo rec' rest s).groupValid R.gridNow = true := by
  obtain ⟨t, n, -, h2, h3⟩ := within_sealedTo rec' rest s
  obtain ⟨hn, hv⟩ := sealHead_now rec' rest s
  refine ⟨(hn.after h2 (sealTickFoot_clear (by decide) (by decide)) (sealTickFoot_clear (by decide) (by decide))).after h3, ?_⟩
  rw [h3.groupValid R.gridNow, h2.groupValid R.gridNow (sealTickFoot_clear (by decide) (by decide)), hv]

theorem sealedTo_run : (sealedTo rec' rest s).bit R.gridStat_run = s.bit R.gridStat_run := by
  obtain ⟨t, n, h1, h2, h3⟩ := within_sealedTo rec' rest s
  rw [h3.bit _, h2.bit _ (sealTickFoot_clear (by decide) (by decide)), h1.bit _]

/-- The grid is judged to have stopped at the last row in flight, where none is due before its stop. -/
theorem sealedTo_done : (sealedTo rec' rest s).gridDone = (s.grid.stopAt.isSome && rest.isEmpty && !s.rowDue) := by
  have h := sealedTo_queue (rec' := rec') (rest := rest) (s := s)
  simp only [State.queue, Prod.mk.injEq] at h
  obtain ⟨h1, h2, h3, h4, h5, h6⟩ := h
  unfold State.gridDone
  rw [h1, h4, rowDue_congr sealedTo_run h4 h5 h6]

/-- The tracker freezes at the first row of a cycle under FORCE_FRZ. -/
theorem sealedTo_frozen (ho : s.grid.old = 0) (ht : s.tracked = true) (hr : rec'.row % s.gridN = 0) (hk : s.get R.gridStat_trk ∈ [2, 3, 5])
    (hf : s.bit R.gridCtrl_force_frz = true) : (sealedTo rec' rest s).get R.gridStat_trk = 4 ∧ Pends (sealedTo rec' rest s) .grid 0 := by
  obtain ⟨t, n, -, h2, h3⟩ := within_sealedTo rec' rest s
  have hw := within_sealRow rec' rest s
  have htr : (sealRow rec' rest s).tracked = true := by unfold State.tracked at *; rw [hw.get _, ht]
  have hN : (sealRow rec' rest s).gridN = s.gridN := by unfold State.gridN; rw [hw.get _]
  have hh : sealHead rec' rest s = trackerMeasure rec' (sealRow rec' rest s) := by
    rw [sealHead_eq, ho, show decide (0 < 0) = false from rfl, unlessOld_false]
  obtain ⟨g1, g2⟩ := trackerMeasure_forced (rec' := rec') htr (by rw [hN, hr]) (by rw [hw.get _]; exact hk) (by rw [hw.bit _, hf])
  rw [← hh] at g1 g2
  exact ⟨by rw [h3.get _, h2.get _ (sealTickFoot_clear (by decide) (by decide)), g1], h3.pend _ _ (h2.pend _ _ g2)⟩

end

/-- What the end of a row seal shows where the grid goes on, and where it has stopped. -/
theorem rowSeal_queue {s : State} {rec' : RowRec} {rest : List RowRec} (h : s.grid.inflight = rec' :: rest) :
    (rowSeal s).grid.inflight = rest ∧ (rowSeal s).grid.old = s.grid.old - 1 ∧ (rowSeal s).grid.sealed = s.grid.sealed + (if s.grid.old = 0 then 1 else 0) ∧
    stopFoot.Within (sealedTo rec' rest s) (rowSeal s) ∧
    ((s.grid.stopAt = none ∨ rest ≠ [] ∨ s.rowDue = true) → rowSeal s = sealedTo rec' rest s) ∧
    (s.grid.stopAt ≠ none → rest = [] → s.rowDue = false → rowSeal s = gridHalt (sealedTo rec' rest s)) := by
  have hq := sealedTo_queue (rec' := rec') (rest := rest) (s := s)
  simp only [State.queue, Prod.mk.injEq] at hq
  obtain ⟨h1, h2, h3, -⟩ := hq
  have hn : s.grid.sealed + b2n (!decide (0 < s.grid.old)) = s.grid.sealed + (if s.grid.old = 0 then 1 else 0) := by
    by_cases ho : s.grid.old = 0 <;> simp [ho, b2n, Nat.pos_iff_ne_zero]
  obtain ⟨hg, -⟩ := gridHalt_shows (sealedTo rec' rest s)
  rw [rowSeal_sealedTo h, sealedTo_done]
  split
  case isTrue hc =>
    simp only [Bool.and_eq_true, Bool.not_eq_true', Option.isSome_iff_ne_none, List.isEmpty_iff] at hc
    obtain ⟨⟨c1, c2⟩, c3⟩ := hc
    refine ⟨by rw [hg]; exact h1, by rw [hg]; exact h2, by rw [hg]; exact h3.trans hn, within_gridHalt _, fun hx => ?_, fun _ _ _ => rfl⟩
    rcases hx with hx | hx | hx
    · exact absurd hx c1
    · exact absurd c2 hx
    · rw [c3] at hx; cases hx
  case isFalse hc =>
    refine ⟨h1, h2, h3.trans hn, .refl _ _, fun _ => rfl, fun g1 g2 g3 => absurd ?_ hc⟩
    rw [Option.isSome_iff_ne_none.mpr g1, g2, g3]
    rfl

/-! ## What a row seal writes (R66, R98, R103 to R105) -/

theorem sealLocal_memKept {P : Nat → Prop} (rec' : RowRec) (n : Nat) (s : State) (h : ∀ x, P x → ¬ InPlane rec'.row n x) : MemKept P s (sealLocal rec' n s) := by
  unfold sealLocal
  extract_lets r x q s0 s1 open_ add s2
  have h0 : MemKept P s s0 := memKept_setPlane s r n _ _ h
  have h1 : MemKept P s s1 := by
    simp only [s1]
    split
    · exact .refl P s
    · exact .ite (.ite (h0.trans (.of_eq rfl)) h0) (.refl P s)
  have h2 : MemKept P s s2 := .ite h1 (h1.trans (memKept_setPlane s1 r n _ _ h))
  exact .ite (h2.trans (.of_eq rfl)) h2

theorem sealQuantity_memKept {P : Nat → Prop} (r q : Nat) (s : State) (h : ∀ x, P x → ¬ InPlane r q x) : MemKept P s (sealQuantity r q s) := by
  unfold sealQuantity
  extract_lets test ql tq hd bad run h' _ s1
  have h1 : MemKept P s s1 := .ite (.refl P s) (.of_eq rfl)
  have hp : ∀ v k, MemKept P s (s1.setPlane r q v k) := fun v k => h1.trans (memKept_setPlane s1 r q v k h)
  split
  · exact hp _ _
  · exact .ite (hp _ _) (.ite (hp _ _) (hp _ _))
  · exact hp _ _

/-- What the seal makes of a quantity of `s` that SUB = HOLD does not govern, while DESYNC reads `d`. -/
structure QSealed (d : Bool) (r q : Nat) (s t : State) : Prop where
  value : s.get (R.gridQCfg_sub q) = 1 → t.word (valueAddr r q) = s.word (substAddr q) ∧
    t.planeQual r q = qSUBST ||| (if s.bit (R.gridQCfg_test q) then qTEST else 0)
  none : s.get (R.gridQCfg_sub q) ≠ 1 → s.get (R.gridQCfg_sub q) ≠ 2 → t.word (valueAddr r q) = s.word (valueAddr r q) ∧
    t.planeQual r q = s.planeQual r q ||| (if s.bit (R.gridQCfg_test q) then qTEST else 0) ||| (if d then qQUEST else 0)

theorem planeQual_lt (s : State) (r q : Nat) : s.planeQual r q < 2 ^ 8 := (memByte s.mem (qualAddr r q)).isLt

theorem sealQuantity_sealed (r q : Nat) (hq : q < 576) (s : State) : QSealed (s.bit R.gridStat_desync) r q s (sealQuantity r q s) := by
  have ht : ∀ b : Bool, (if b then qTEST else 0) < 2 ^ 8 := by decide
  have hd : ∀ b : Bool, (if b then qQUEST else 0) < 2 ^ 8 := by decide
  unfold sealQuantity
  extract_lets test ql tq h bad run h' _ s1
  have hw : planeFoot.Within s s1 := .ite (.refl _ s) (within_grid s _)
  have hm : MemKept (fun _ => True) s s1 := .ite (.refl _ s) (.of_eq rfl)
  have hsub : s1.get (R.gridQCfg_sub q) = s.get (R.gridQCfg_sub q) := hw.get _ rfl
  have hword : ∀ a, s1.word a = s.word a := fun a => hm.word fun _ _ => trivial
  have hv : s1.planeVal r q = (s.word (valueAddr r q)).toInt := by unfold State.planeVal; rw [hword]
  have hshow := fun v k => setPlane_shows s1 r q hq v k
  split
  case h_1 he =>
    refine ⟨fun _ => ?_, fun h1 => absurd (hsub.symm.trans he) h1⟩
    obtain ⟨g1, g2⟩ := hshow (s1.word (substAddr q)).toInt (qSUBST ||| tq)
    rw [g1, g2, BitVec.ofInt_toInt, hword, Nat.mod_eq_of_lt (Nat.or_lt_two_pow (by decide) (ht test))]
    exact ⟨rfl, rfl⟩
  case h_2 he =>
    exact ⟨fun h1 => absurd (h1.symm.trans (hsub.symm.trans he)) (by decide), fun _ h2 => absurd (hsub.symm.trans he) h2⟩
  case h_3 he _ =>
    refine ⟨fun h1 => absurd (hsub.trans h1) he, fun _ _ => ?_⟩
    obtain ⟨g1, g2⟩ := hshow (s1.planeVal r q) ql
    rw [g1, g2, hv, BitVec.ofInt_toInt, Nat.mod_eq_of_lt (Nat.or_lt_two_pow (Nat.or_lt_two_pow (planeQual_lt s r q) (ht test)) (hd _))]
    exact ⟨rfl, rfl⟩

theorem rowFoot_qCfg (q hi lo : Nat) : rowFoot.clear ⟨R.gridQCfg q, hi, lo⟩ = true := by
  simp only [Foot.clear, rowFoot, List.all_cons, List.all_nil, Bool.and_true, Bool.and_eq_true, Zone.apart_iff, R.gridQCfg, R.memFault, R.gridStat_desync,
    R.gridStat_trk, R.gridStat_clamp, R.gridStat, R.gridNow]
  omega

/-- A quantity beyond the local ones and its substitute word are as before until its own seal. -/
theorem QSealed.of_kept {d : Bool} {r q : Nat} {s s' t t' : State} (h : QSealed d r q s' t') (hs : MemKept (fun a => InPlane r q a ∨ OutSlot r a) s s')
    (hw : rowFoot.Within s s') (ht : MemKept (InPlane r q) t' t) : QSealed d r q s t := by
  obtain ⟨p1, p2⟩ := hs.plane (r := r) (q := q) fun a ha => .inl ha
  obtain ⟨p3, p4⟩ := ht.plane (r := r) (q := q) fun a ha => ha
  have hsub : s'.get (R.gridQCfg_sub q) = s.get (R.gridQCfg_sub q) := hw.get _ (rowFoot_qCfg _ _ _)
  have htest : s'.bit (R.gridQCfg_test q) = s.bit (R.gridQCfg_test q) := hw.bit _ (rowFoot_qCfg _ _ _)
  have hst : s'.word (substAddr q) = s.word (substAddr q) := hs.word fun i hi => .inr (by
    unfold OutSlot headAddr valueAddr qualAddr substAddr
    omega)
  obtain ⟨h1, h2⟩ := h
  rw [hsub, hst, htest] at h1
  rw [hsub, htest, p1, p2] at h2
  exact ⟨fun g => by rw [p3, p4]; exact h1 g, fun g g' => by rw [p3, p4]; exact h2 g g'⟩

/-- The seal of the quantities takes each of them once. -/
theorem sealQuantities_sealed (r q : Nat) (s : State) : ∀ n, n ≤ 576 → valueFoot.Within s (iterUp n (sealQuantity r) s) ∧
    MemKept (OutSlot r) s (iterUp n (sealQuantity r) s) ∧
    (q < 576 → n ≤ q → MemKept (InPlane r q) s (iterUp n (sealQuantity r) s)) ∧
    (q < n → QSealed (s.bit R.gridStat_desync) r q s (iterUp n (sealQuantity r) s))
  | 0, _ => ⟨.refl _ s, .refl _ s, fun _ _ => .refl _ s, fun h => absurd h (Nat.not_lt_zero q)⟩
  | n + 1, hn => by
    obtain ⟨h1, h2, h3, h4⟩ := sealQuantities_sealed r q s n (by omega)
    rw [iterUp_succ]
    refine ⟨h1.then (within_sealQuantity r n _), h2.trans (sealQuantity_memKept r n _ (outSlot_plane (by omega))), fun hq hle => ?_, fun hq => ?_⟩
    · exact (h3 hq (by omega)).trans (sealQuantity_memKept r n _ (plane_plane (by omega) hq (by omega)))
    · by_cases e : q = n
      · subst e
        have hs := sealQuantity_sealed r q (by omega) (iterUp q (sealQuantity r) s)
        rw [h1.bit _] at hs
        exact hs.of_kept (fun a ha => ha.elim (h3 (by omega) (Nat.le_refl q) a) (h2 a)) (h1.mono rfl) (.refl _ _)
      · exact (h4 (by omega)).of_kept (.refl _ s) (.refl _ s) (sealQuantity_memKept r n _ (plane_plane (by omega) (by omega) e))

theorem sealHeader_memKept {P : Nat → Prop} (rec' : RowRec) (s : State) (h : ∀ x, P x → ¬ InHead rec'.row x) : MemKept P s (sealHeader rec' s) := by
  have hc : ∀ (u : State) (ws : List Word), MemKept P u (u.complete R.gridNow ws) := fun u ws a _ => complete_same u R.gridNow ws .mem a
  have hw : MemKept P s (s.setWords (headAddr rec'.row) (rowHeader rec' s)) := memKept_setWords s _ _ fun x hx => by
    have hn := h x hx
    unfold InHead at hn
    simp only [rowHeader, List.length_cons, List.length_nil]
    omega
  unfold sealHeader State.engine
  split
  · exact ((within_memFault s _ _ _ _).memKept).trans (hc _ _)
  · exact hw.trans (hc _ _)

/-- The header's flag word carries SEALED. -/
theorem headerFlags_sealed : ∀ a b c d e f g h : Bool, (BitVec.ofNat 32 (b2n a + 2 * b2n b + 4 * b2n c + 8 * b2n d + 16 * b2n e + 32 * b2n f + 64 * b2n g +
    128 * b2n h + 2 ^ 31)).getLsbD 31 = true := by decide

/-- The header that a row seal writes where GRID may write it (R103). -/
theorem sealHeader_writes (rec' : RowRec) (s : State) (h : s.memCheck 3 (headAddr rec'.row) 32 true = none) :
    (sealHeader rec' s).headWord rec'.row 0 = BitVec.ofNat 32 rec'.row ∧ (sealHeader rec' s).headWord rec'.row 1 = rec'.tstamp ∧
    ((sealHeader rec' s).headWord rec'.row 3).getLsbD 31 = true := by
  have hc : ∀ (u : State) (ws : List Word) (a : Nat), (u.complete R.gridNow ws).word a = u.word a := fun u ws a =>
    word_same (complete_same u R.gridNow ws .mem) a
  have hl : (rowHeader rec' s).length = 7 := rfl
  have hw : ∀ k (hk : k < (rowHeader rec' s).length), (sealHeader rec' s).headWord rec'.row k = (rowHeader rec' s)[k] := fun k hk => by
    unfold sealHeader State.engine State.headWord
    simp only [List.findSome?_cons, h, Option.map_none, List.findSome?_nil]
    exact (hc _ _ _).trans (word_setWords s _ _ k hk)
  refine ⟨hw 0 (by rw [hl]; decide), hw 1 (by rw [hl]; decide), ?_⟩
  rw [hw 3 (by rw [hl]; decide)]
  exact headerFlags_sealed _ _ _ _ _ _ _ _

/-- What a row seal leaves of the plane before the tracker's measurement. -/
structure RowSealed (rec' : RowRec) (s t : State) : Prop where
  out : MemKept (OutSlot rec'.row) s t
  quantity : ∀ q, 64 ≤ q → q < 576 → QSealed (t.bit R.gridStat_desync) rec'.row q s t
  header : s.memCheck 3 (headAddr rec'.row) 32 true = none → t.headWord rec'.row 0 = BitVec.ofNat 32 rec'.row ∧ t.headWord rec'.row 1 = rec'.tstamp ∧
    (t.headWord rec'.row 3).getLsbD 31 = true

theorem sealRow_sealed (rec' : RowRec) (rest : List RowRec) (s : State) : RowSealed rec' s (sealRow rec' rest s) := by
  generalize h1 : unlessOld (decide (0 < s.grid.old)) (updateMissing rec') (sealTake rest s) = s1
  generalize h2 : iterUp 64 (sealLocal rec') s1 = s2
  generalize h3 : iterUp 576 (sealQuantity rec'.row) s2 = s3
  have e : sealRow rec' rest s = sealHeader rec' s3 := by rw [← h3, ← h2, ← h1]; rfl
  have w1 : missFoot.Within s s1 := by rw [← h1]; exact (within_sealTake rest s).unlessOld _ (within_updateMissing rec')
  have w2 : localFoot.Within s1 s2 := by rw [← h2]; exact (Foot.Within.refl _ s1).iterUp fun n _ u => within_sealLocal rec' n u
  have w3 : valueFoot.Within s2 s3 := by rw [← h3]; exact (sealQuantities_sealed rec'.row 0 s2 576 (Nat.le_refl _)).1
  have w4 := within_sealHeader rec' s3
  have wrow : rowFoot.Within s s3 := ((w1.mono rfl).then w2).then w3
  have k1 : ∀ P, MemKept P s s1 := fun P => w1.memKept
  have k2 : ∀ P : Nat → Prop, (∀ n, n < 64 → ∀ x, P x → ¬ InPlane rec'.row n x) → MemKept P s1 s2 := fun P hP => by
    rw [← h2]
    exact (MemKept.refl P s1).iterUp fun n hn u => sealLocal_memKept rec' n u (hP n hn)
  rw [e]
  refine ⟨?_, fun q hq hq' => ?_, fun hc => ?_⟩
  · have k3 : MemKept (OutSlot rec'.row) s2 s3 := by rw [← h3]; exact (sealQuantities_sealed rec'.row 0 s2 576 (Nat.le_refl _)).2.1
    refine (((k1 _).trans (k2 _ fun n hn => outSlot_plane (by omega))).trans k3).trans (sealHeader_memKept rec' s3 fun x hx hh => ?_)
    unfold OutSlot InHead at *
    omega
  · have hs : QSealed (s2.bit R.gridStat_desync) rec'.row q s2 s3 := by
      rw [← h3]
      exact (sealQuantities_sealed rec'.row q s2 576 (Nat.le_refl _)).2.2.2 hq'
    have hd : (sealHeader rec' s3).bit R.gridStat_desync = s2.bit R.gridStat_desync := by rw [w4.bit _, w3.bit _]
    rw [hd]
    refine hs.of_kept (((k1 _).trans (k2 _ fun n hn x hx => ?_))) ((w1.mono rfl).then w2) (sealHeader_memKept rec' s3 fun x hx hh => head_plane hq' x hh hx)
    exact hx.elim (fun hp => plane_plane (by omega) hq' (by omega) x hp) (outSlot_plane (by omega) x)
  · exact sealHeader_writes rec' s3 (by rw [memCheck_row wrow true (headAddr_range _).1 (headAddr_range _).2 (by decide), hc])

/-- Steps that leave memory and DESYNC keep what a row seal shows. -/
theorem RowSealed.after {rec' : RowRec} {s t u : State} (h : RowSealed rec' s t) (hm : MemKept (fun _ => True) t u)
    (hd : u.bit R.gridStat_desync = t.bit R.gridStat_desync) : RowSealed rec' s u := by
  have hh : ∀ i, u.headWord rec'.row i = t.headWord rec'.row i := fun i => hm.word fun _ _ => trivial
  refine ⟨h.out.trans (hm.mono fun _ _ => trivial), fun q h1 h2 => ?_, fun hc => ?_⟩
  · rw [hd]
    exact (h.quantity q h1 h2).of_kept (.refl _ s) (.refl _ s) (hm.mono fun _ _ => trivial)
  · rw [hh, hh, hh]
    exact h.header hc

/-- A row seal that starts no tick, with the recorder off, writes its row's slot alone. -/
theorem rowSeal_sealed {s : State} {rec' : RowRec} {rest : List RowRec} (h : s.grid.inflight = rec' :: rest) (ht : s.isTickRow rec'.row = false)
    (hd : s.bit R.drcCtrl_en = false) : RowSealed rec' s (rowSeal s) := by
  have hw := within_sealHead rec' rest s
  have htick : (sealHead rec' rest s).isTickRow rec'.row = false := by
    unfold State.isTickRow at ht ⊢
    rw [hw.rowsPerTick, ht]
  have hto : sealedTo rec' rest s = { sealHead rec' rest s with grid := { (sealHead rec' rest s).grid with old := (sealHead rec' rest s).grid.old - 1 } } := by
    unfold sealedTo sealTick sealRecord
    rw [htick, if_neg Bool.false_ne_true]
    refine if_pos ?_
    have he : (sealHead rec' rest s).bit R.drcCtrl_en = false := (hw.bit _).trans hd
    show (!(sealHead rec' rest s).bit R.drcCtrl_en || _ || _) = true
    rw [he]
    rfl
  have hx : trackFoot.Within (sealRow rec' rest s) (sealHead rec' rest s) := (Foot.Within.refl _ _).unlessOld _ (within_trackerMeasure rec')
  have hy : (⟨[], [.grid], []⟩ : Foot).Within (sealHead rec' rest s) (sealedTo rec' rest s) := by rw [hto]; exact within_grid _ _
  obtain ⟨-, -, -, hz, -⟩ := rowSeal_queue h
  refine (sealRow_sealed rec' rest s).after ((hx.memKept.trans hy.memKept).trans hz.memKept) ?_
  rw [hz.bit _, hy.bit _, hx.bit _]

/-! # Writing a row (R91, R92, R98, R104) -/

/-- What the grid keeps while a row's values are written: all but the rows of over-range. -/
def State.rowGrid (s : State) : GridState := { s.grid with ovrRow := [] }

/-- One quantity of a row is written. -/
def writeQuantity (r t32 q : Nat) (s : State) : State :=
  let v := quantityValue s q t32
  let s := s.setPlane r q v.1 v.2.1
  let s := if q < 32 ∧ qHas v.2.1 qOVR then { s with grid := { s.grid with ovrRow := tset 0 s.grid.ovrRow q (r + 1) } } else s
  if v.2.2 then (s.edgeIf (!s.arrBit R.gridSatStickyLo q) .grid 5).setArrBit R.gridSatStickyLo q true else s

/-- The quantities of a row are written, after SEALED has cleared. -/
def writePlane (r t32 : Nat) (s : State) : State :=
  iterUp 576 (writeQuantity r t32) (s.setWord (headAddr r + 12) (s.headWord r 3 &&& 0x7FFFFFFF#32))

/-- The grid with the increment due at its next row in force. -/
def State.gridStep (s : State) : GridState :=
  if !(s.tracked && s.grid.row % s.gridN == 0) then s.grid
  else match s.grid.next with
    | some (t, inc, f) => if t = s.grid.row then { s.grid with freqPrev := s.grid.freq, inc := inc, freq := f, next := none } else { s.grid with freqPrev := s.grid.freq }
    | none => { s.grid with freqPrev := s.grid.freq }

/-- The next row is an ALIGN point. -/
def State.alignPoint (s : State) : Bool := match s.grid.align with | some (t, _) => t == s.grid.row | none => false

/-- The machine as the values of its next row are formed. -/
def State.rowReady (s : State) : State :=
  { (if s.grid.row % s.rowsPerCycle == 0 then probeCycle s else s) with
    grid := if s.alignPoint then { s.gridStep with align := none, aligned := true } else s.gridStep }

/-- The machine with the values of its next row written. -/
def State.rowValues (s : State) : State :=
  s.rowReady.engine 3 (rowAcc s.grid.row true) (writePlane s.grid.row (s.gridStep.origin * 2 ^ 24 + s.gridStep.pos))

theorem within_probeCycle {F : Foot} (s : State) (hp : .afe ∈ F.parts := by decide) : F.Within s (probeCycle s) := by
  unfold probeCycle
  exact (Foot.Within.refl F s).iterUp fun n _ u => within_updAin u n _ hp

theorem probeCycle_grid (s : State) : (probeCycle s).grid = s.grid :=
  (within_probeCycle (F := { parts := [.afe] }) s).part .grid (by decide)

/-- What the row's values may touch. -/
def valuesFoot : Foot where
  zones := [regZone R.gridSatStickyLo R.gridSatStickyLo, regZone R.gridSatStickyHi R.gridSatStickyHi]
  parts := [.grid, .mem]
  pages := [.grid]

/-- Only a local quantity's resampler saturates. -/
theorem quantityValue_sat {s : State} {q t32 : Nat} (h : (quantityValue s q t32).2.2 = true) : q < 64 := by
  unfold quantityValue at h
  extract_lets _ v inv v' inv' at h
  split at h
  · cases h
  · split at h
    · assumption
    · cases h

theorem within_writeQuantity (r t32 q : Nat) (s : State) : valuesFoot.Within s (writeQuantity r t32 q s) := by
  unfold writeQuantity
  extract_lets v s1 _ s2
  have h1 : valuesFoot.Within s s1 := within_setPlane s _ _ _ _
  have h2 : valuesFoot.Within s s2 := .ite (h1.trans (within_grid s1 _)) h1
  split
  case isFalse => exact h2
  case isTrue hv =>
    have hq : q < 64 := quantityValue_sat hv
    refine (h2.trans (within_edgeIf s2 _ .grid 5)).trans (within_setArrBit _ R.gridSatStickyLo q true ?_)
    simp only [Foot.has, valuesFoot, List.any_cons, List.any_nil, Bool.or_false, Bool.or_eq_true, Zone.holds_iff, R.gridSatStickyLo, R.gridSatStickyHi]
    omega

theorem within_writePlane (r t32 : Nat) (s : State) : valuesFoot.Within s (writePlane r t32 s) :=
  Foot.Within.iterUp (within_setWord s _ _) fun q _ u => within_writeQuantity r t32 q u

theorem writeQuantity_rowGrid (r t32 q : Nat) (s : State) : (writeQuantity r t32 q s).rowGrid = s.rowGrid := by
  unfold writeQuantity
  extract_lets v s1 _ s2
  have h2 : s2.rowGrid = s.rowGrid := ite_keeps (g := State.rowGrid) rfl rfl
  refine ite_keeps (g := State.rowGrid) (Eq.trans ?_ h2) h2
  have h3 : ({ zones := [], parts := [], pages := [.grid] } : Foot).Within s2 (s2.edgeIf (!s2.arrBit R.gridSatStickyLo q) .grid 5) := within_edgeIf s2 _ .grid 5
  have h4 : (s2.edgeIf (!s2.arrBit R.gridSatStickyLo q) .grid 5).grid = s2.grid := h3.part .grid (by decide)
  unfold State.rowGrid
  rw [← h4]
  rfl

theorem writePlane_rowGrid (r t32 : Nat) (s : State) : (writePlane r t32 s).rowGrid = s.rowGrid :=
  iterUp_keeps State.rowGrid (fun q u => writeQuantity_rowGrid r t32 q u) _

/-- A row that is due is written and put in flight. -/
theorem writeRow_due {s : State} (h : s.rowDue = true) : ∃ rec' : RowRec, rec'.row = s.grid.row ∧
    writeRow s = { s.rowValues with grid := { s.rowValues.grid with
      row := (s.grid.row + 1) % rowMod, pos := s.gridStep.pos + s.rowValues.rowStep, inflight := s.gridStep.inflight ++ [rec'] } } := by
  unfold writeRow
  rw [if_neg (by rw [h]; decide)]
  extract_lets r start due point moved s0 g g1 s1 t32 s2 rec'
  have hg : g = s.grid := ite_keeps (g := State.grid) (probeCycle_grid s) rfl
  clear_value g
  subst hg
  have hg1 : g1 = s.gridStep := by unfold State.gridStep; rfl
  clear_value g1
  subst hg1
  have hs1 : s1 = s.rowReady := by unfold State.rowReady; rfl
  clear_value s1
  subst hs1
  have hs2 : s2 = s.rowValues := by unfold State.rowValues; rfl
  clear_value s2
  subst hs2
  exact ⟨rec', by with_reducible rfl, by with_reducible rfl⟩

/-- GRID's refusal of a row, or its values, keep the grid but for the rows of over-range. -/
theorem rowValues_rowGrid (s : State) : s.rowValues.rowGrid = s.rowReady.rowGrid := by
  unfold State.rowValues State.engine
  split
  · next y _ =>
    have h : (s.rowReady.memFault y.1 3 y.2.1 y.2.2).grid = s.rowReady.grid := (within_memFault _ _ _ _ _).part .grid (by decide)
    unfold State.rowGrid
    rw [h]
  · exact writePlane_rowGrid _ _ _

theorem within_rowReady (s : State) : rowFoot.Within s s.rowReady :=
  Foot.Within.trans (.ite (within_probeCycle s) (.refl _ s)) (within_grid _ _)

theorem writeRow_idle {s : State} (h : s.rowDue = false) : writeRow s = s := by
  unfold writeRow
  rw [h]
  rfl

/-! ## What a row write leaves in the plane (R92, R98, R104) -/

/-- A quantity without a source: unused, or local while the chain is off. -/
def State.noSource (s : State) (q : Nat) : Prop := s.numQ ≤ q ∨ (q < 64 ∧ s.bit R.dfcStat_run = false)

/-- Value 0 and INVALID in the slot of row `r`. -/
def State.unused (s : State) (r q : Nat) : Prop := s.planeVal r q = 0 ∧ qHas (s.planeQual r q) qINVALID = true

theorem quantityValue_noSource {s : State} {q : Nat} (h : s.noSource q) (t32 : Nat) :
    (quantityValue s q t32).1 = 0 ∧ qHas ((quantityValue s q t32).2.1 % 256) qINVALID = true := by
  have hb : ∀ a b c : Bool, qHas (((if a || b then qINVALID else 0) ||| (if false then qOVR else 0) ||| (if c then qQUEST else 0)) % 256) qINVALID = (a || b) := by
    decide
  by_cases hn : s.numQ ≤ q
  · unfold quantityValue
    simp only [if_pos hn]
    exact ⟨trivial, rfl⟩
  · obtain ⟨hq, hr⟩ := h.resolve_left hn
    have hl : localValue s q t32 = (0, false, true, false) := by
      unfold localValue
      extract_lets _
      rw [hr]
      rfl
    unfold quantityValue
    simp only [if_neg hn, if_pos hq, hl, Bool.true_or, if_true]
    exact ⟨trivial, hb true true _⟩

theorem writeQuantity_memKept {P : Nat → Prop} (r t32 q : Nat) (s : State) (h : ∀ x, P x → ¬ InPlane r q x) : MemKept P s (writeQuantity r t32 q s) := by
  unfold writeQuantity
  extract_lets v s1 _ s2
  have h2 : MemKept P s s2 := .ite ((memKept_setPlane s r q _ _ h).trans (.of_eq rfl)) (memKept_setPlane s r q _ _ h)
  have he : MemKept P s2 (s2.edgeIf (!s2.arrBit R.gridSatStickyLo q) .grid 5) :=
    (within_edgeIf (F := { pages := [.grid] }) s2 _ .grid 5).memKept
  exact .ite (h2.trans (he.trans (.of_eq rfl))) h2

/-- The value and quality byte of a quantity just written. -/
theorem writeQuantity_shows (r t32 q : Nat) (hq : q < 576) (s : State) :
    (writeQuantity r t32 q s).word (valueAddr r q) = BitVec.ofInt 32 (quantityValue s q t32).1 ∧
    (writeQuantity r t32 q s).planeQual r q = (quantityValue s q t32).2.1 % 256 := by
  obtain ⟨g1, g2⟩ := setPlane_shows s r q hq (quantityValue s q t32).1 (quantityValue s q t32).2.1
  have hk : MemKept (fun _ => True) (s.setPlane r q (quantityValue s q t32).1 (quantityValue s q t32).2.1) (writeQuantity r t32 q s) := by
    unfold writeQuantity
    extract_lets v s1 _ s2
    have h2 : MemKept (fun _ => True) s1 s2 := .ite (.of_eq rfl) (.refl _ s1)
    have he : MemKept (fun _ => True) s2 (s2.edgeIf (!s2.arrBit R.gridSatStickyLo q) .grid 5) :=
      (within_edgeIf (F := { pages := [.grid] }) s2 _ .grid 5).memKept
    exact .ite (h2.trans (he.trans (.of_eq rfl))) h2
  obtain ⟨k1, k2⟩ := hk.plane (r := r) (q := q) fun _ _ => trivial
  exact ⟨k1.trans g1, k2.trans g2⟩

theorem Foot.Within.noSource {s t : State} (h : valuesFoot.Within s t) {q : Nat} (hn : s.noSource q) : t.noSource q := by
  unfold State.noSource State.numQ at *
  rwa [h.get _, h.bit _]

theorem State.unused_of_kept {r q : Nat} {s t : State} (hk : MemKept (InPlane r q) s t) (h : s.unused r q) : t.unused r q := by
  obtain ⟨k1, k2⟩ := hk.plane (r := r) (q := q) fun _ ha => ha
  unfold State.unused State.planeVal at *
  rwa [k1, k2]

/-- Each quantity without a source is written unused, and the rest of memory stays. -/
theorem writeQuantities_show (r t32 : Nat) (s : State) : ∀ n, n ≤ 576 → valuesFoot.Within s (iterUp n (writeQuantity r t32) s) ∧
    MemKept (fun a => OutSlot r a ∨ InHead r a) s (iterUp n (writeQuantity r t32) s) ∧
    ∀ q, q < n → s.noSource q → (iterUp n (writeQuantity r t32) s).unused r q
  | 0, _ => ⟨.refl _ s, .refl _ s, fun q hq => absurd hq (Nat.not_lt_zero q)⟩
  | n + 1, hn => by
    obtain ⟨h1, h2, h3⟩ := writeQuantities_show r t32 s n (by omega)
    rw [iterUp_succ]
    refine ⟨h1.trans (within_writeQuantity r t32 n _), h2.trans (writeQuantity_memKept r t32 n _ fun x hx => ?_), fun q hq hs => ?_⟩
    · exact hx.elim (outSlot_plane (by omega) x) (head_plane (by omega) x)
    · by_cases e : q = n
      · subst e
        obtain ⟨v1, v2⟩ := quantityValue_noSource (h1.noSource hs) t32
        obtain ⟨g1, g2⟩ := writeQuantity_shows r t32 q (by omega) (iterUp q (writeQuantity r t32) s)
        refine ⟨?_, ?_⟩
        · rw [State.planeVal, g1, v1]; rfl
        · rw [g2, v2]
      · exact State.unused_of_kept (writeQuantity_memKept r t32 n _ (plane_plane (by omega) (by omega) e)) (h3 q (by omega) hs)

/-- What a row write leaves in memory where GRID may write the plane. -/
structure RowWritten (r : Nat) (s t : State) : Prop where
  unsealed : (t.headWord r 3).getLsbD 31 = false
  unused : ∀ q, q < 576 → s.noSource q → t.unused r q
  out : MemKept (OutSlot r) s t

theorem writePlane_written (r t32 : Nat) (s : State) : RowWritten r s (writePlane r t32 s) := by
  have h0 : valuesFoot.Within s (s.setWord (headAddr r + 12) (s.headWord r 3 &&& 0x7FFFFFFF#32)) := within_setWord s _ _
  have k0 : MemKept (OutSlot r) s (s.setWord (headAddr r + 12) (s.headWord r 3 &&& 0x7FFFFFFF#32)) := memKept_setWord s _ _ fun x hx => by
    unfold OutSlot at hx
    omega
  obtain ⟨-, h2, h3⟩ := writeQuantities_show r t32 (s.setWord (headAddr r + 12) (s.headWord r 3 &&& 0x7FFFFFFF#32)) 576 (Nat.le_refl _)
  refine ⟨?_, fun q hq hn => h3 q hq (h0.noSource hn), k0.trans (h2.mono fun _ hx => .inl hx)⟩
  have hw : (writePlane r t32 s).headWord r 3 = s.headWord r 3 &&& 0x7FFFFFFF#32 :=
    (h2.word fun i hi => .inr (by unfold InHead; omega)).trans (word_setWord_same s _ _)
  rw [hw, BitVec.getLsbD_and]
  simp

theorem memCheck_rowAcc {s t : State} (h : rowFoot.Within s t) (r : Nat) : ∀ x ∈ rowAcc r true, t.memCheck 3 x.1 x.2.1 x.2.2 = s.memCheck 3 x.1 x.2.1 x.2.2 := by
  intro x hx
  simp only [rowAcc, List.mem_cons, List.not_mem_nil, or_false] at hx
  rcases hx with rfl | rfl | rfl <;>
    exact memCheck_row h _ (by simp only [valueAddr, qualAddr, headAddr]; omega) (by simp only [valueAddr, qualAddr, headAddr]; omega) (Nat.succ_pos _)

theorem engine_passes {s : State} {m : Nat} {acc : List (Nat × Nat × Bool)} (eff : State → State)
    (h : ∀ x ∈ acc, s.memCheck m x.1 x.2.1 x.2.2 = none) : s.engine m acc eff = eff s := by
  have e : acc.findSome? (fun x => (s.memCheck m x.1 x.2.1 x.2.2).map (fun f => (f, x.1, x.2.2))) = none :=
    List.findSome?_eq_none_iff.mpr fun x hx => by rw [h x hx]; rfl
  unfold State.engine
  rw [e]

/-- The values of a row are written where GRID may write the plane. -/
theorem rowValues_written {s : State} (h : ∀ x ∈ rowAcc s.grid.row true, s.memCheck 3 x.1 x.2.1 x.2.2 = none) :
    RowWritten s.grid.row s s.rowValues ∧ valuesFoot.Within s.rowReady s.rowValues := by
  have hr := within_rowReady s
  have e : s.rowValues = writePlane s.grid.row (s.gridStep.origin * 2 ^ 24 + s.gridStep.pos) s.rowReady :=
    engine_passes _ fun x hx => (memCheck_rowAcc hr _ x hx).trans (h x hx)
  have hn : ∀ q, s.noSource q → s.rowReady.noSource q := fun q hq => by
    unfold State.noSource State.numQ at *
    rwa [hr.get _, hr.bit _]
  have hp : ({ parts := [.afe, .grid] } : Foot).Within s s.rowReady := Foot.Within.trans (.ite (within_probeCycle s) (.refl _ s)) (within_grid _ _)
  obtain ⟨g1, g2, g3⟩ := writePlane_written s.grid.row (s.gridStep.origin * 2 ^ 24 + s.gridStep.pos) s.rowReady
  rw [e]
  exact ⟨⟨g1, fun q hq hs => g2 q hq (hn q hs), hp.memKept.trans g3⟩, within_writePlane _ _ _⟩

/-- The grid's position and increment after a row. -/
structure RowStepped (s t : State) : Prop where
  row : t.grid.row = (s.grid.row + 1) % rowMod
  inc : t.grid.inc = (match s.grid.next with
    | some (r, inc, _) => if s.tracked = true ∧ s.grid.row % s.gridN = 0 ∧ r = s.grid.row then inc else s.grid.inc
    | none => s.grid.inc)
  pos : t.grid.pos = s.grid.pos + (if s.tracked then t.grid.inc else 96000 / s.presetRate * 2 ^ 32)
  inflight : t.grid.inflight.map (fun r => r.row) = s.grid.inflight.map (fun r => r.row) ++ [s.grid.row]
  sealed : t.grid.sealed = s.grid.sealed

theorem gridStep_shows (s : State) : s.gridStep.pos = s.grid.pos ∧ s.gridStep.inflight = s.grid.inflight ∧ s.gridStep.sealed = s.grid.sealed ∧
    s.gridStep.inc = (match s.grid.next with
      | some (r, inc, _) => if s.tracked = true ∧ s.grid.row % s.gridN = 0 ∧ r = s.grid.row then inc else s.grid.inc
      | none => s.grid.inc) := by
  unfold State.gridStep
  cases hn : s.grid.next with
  | none => split <;> exact ⟨rfl, rfl, rfl, rfl⟩
  | some x =>
    obtain ⟨r, inc, f⟩ := x
    by_cases ht : s.tracked = true ∧ s.grid.row % s.gridN = 0
    · obtain ⟨h1, h2⟩ := ht
      by_cases hr : r = s.grid.row <;> simp [h1, h2, hr]
    · have h1 : (!(s.tracked && s.grid.row % s.gridN == 0)) = true := by
        rw [Bool.not_eq_true', ← Bool.not_eq_true]
        simpa using ht
      have h2 : ¬ (s.tracked = true ∧ s.grid.row % s.gridN = 0 ∧ r = s.grid.row) := fun h => ht ⟨h.1, h.2.1⟩
      simp [h1, h2]

/-- The fields that a row's values leave of the grid. -/
theorem rowValues_grid (s : State) : s.rowValues.grid.inc = s.gridStep.inc ∧ s.rowValues.grid.sealed = s.gridStep.sealed := by
  have h := rowValues_rowGrid s
  unfold State.rowGrid at h
  have e : ∀ b : Bool, (if b then { s.gridStep with align := none, aligned := true } else s.gridStep).inc = s.gridStep.inc ∧
      (if b then { s.gridStep with align := none, aligned := true } else s.gridStep).sealed = s.gridStep.sealed := by
    intro b
    cases b <;> exact ⟨rfl, rfl⟩
  exact ⟨(congrArg GridState.inc h).trans (e _).1, (congrArg GridState.sealed h).trans (e _).2⟩

/-- GRID_CFG stands while a row is written. -/
theorem rowValues_mode (s : State) : s.rowValues.get R.gridCfg_mode = s.get R.gridCfg_mode := by
  have hr := within_rowReady s
  refine Eq.trans ?_ (hr.get _)
  unfold State.rowValues State.engine
  split
  · exact (within_memFault _ _ _ _ _).get _
  · exact (within_writePlane _ _ _).get _

theorem writeRow_steps {s : State} (h : s.rowDue = true) : RowStepped s (writeRow s) := by
  obtain ⟨rec', hr, he⟩ := writeRow_due h
  obtain ⟨p1, p2, p3, p4⟩ := gridStep_shows s
  obtain ⟨g1, g2⟩ := rowValues_grid s
  have hm : s.rowValues.get R.gridCfg_mode = s.get R.gridCfg_mode := rowValues_mode s
  have ht : s.rowValues.tracked = s.tracked := by unfold State.tracked; rw [hm]
  have hp : s.rowValues.presetRate = s.presetRate := by unfold State.presetRate; rw [hm]
  rw [he]
  refine ⟨rfl, g1.trans p4, ?_, ?_, g2.trans p3⟩
  · show s.gridStep.pos + s.rowValues.rowStep = s.grid.pos + (if s.tracked then s.rowValues.grid.inc else 96000 / s.presetRate * 2 ^ 32)
    unfold State.rowStep
    rw [p1, ht, hp]
  · show (s.gridStep.inflight ++ [rec']).map (fun r => r.row) = _
    rw [p2, List.map_append, List.map_singleton, hr]

/-! # O18 -/

/-- What a row write may touch where GRID may write the plane. -/
def rowWriteFoot : Foot := { valuesFoot with parts := [.grid, .afe, .mem] }

/-- A row that is due, with GRID free to write the plane. -/
theorem writeRow_written {s : State} (h : s.rowDue = true) (hc : ∀ x ∈ rowAcc s.grid.row true, s.memCheck 3 x.1 x.2.1 x.2.2 = none) :
    RowWritten s.grid.row s (writeRow s) ∧ rowWriteFoot.Within s (writeRow s) := by
  obtain ⟨rec', -, he⟩ := writeRow_due h
  obtain ⟨⟨g1, g2, g3⟩, hw⟩ := rowValues_written hc
  have hr : rowWriteFoot.Within s s.rowReady := Foot.Within.trans (.ite (within_probeCycle s) (.refl _ s)) (within_grid _ _)
  rw [he]
  exact ⟨⟨g1, g2, g3⟩, (hr.then hw rfl).trans (within_grid _ _)⟩

/-- The end of a command keeps what a row write left. -/
theorem RowWritten.fin {r : Nat} {s t : State} (h : RowWritten r s t) : RowWritten r s t.fin := by
  obtain ⟨h1, h2, h3⟩ := h
  have hm : MemKept (fun _ => True) t t.fin := .of_eq (fin_mem t)
  have hh : t.fin.headWord r 3 = t.headWord r 3 := hm.word fun _ _ => trivial
  exact ⟨by rw [hh, h1], fun q hq hn => State.unused_of_kept (hm.mono fun _ _ => trivial) (h2 q hq hn), h3.trans (hm.mono fun _ _ => trivial)⟩

/-- Modulator clocks leave the grid's rows and its configuration as they are. -/
structure ClocksKeep (s u : State) : Prop where
  grid : u.grid = s.grid
  mem : MemKept (fun _ => True) s u
  tracked : u.tracked = s.tracked
  gridN : u.gridN = s.gridN
  presetRate : u.presetRate = s.presetRate
  rowDue : u.rowDue = s.rowDue
  noSource : ∀ q, s.noSource q → u.noSource q

theorem chainStep_keeps (clocks : Nat) (ain : List (Nat × List ModBit)) (lines : List (Nat × List Bool)) (s : State) :
    ClocksKeep s (chainStep clocks ain lines s) := by
  have h := within_chainStep clocks ain lines s
  have hg : (chainStep clocks ain lines s).grid = s.grid := h.part .grid (by decide)
  refine ⟨hg, h.memKept, ?_, ?_, ?_, rowDue_congr (h.bit _) (by rw [hg]) (by rw [hg]) (by rw [hg]), fun q hq => ?_⟩
  · unfold State.tracked; rw [h.get _]
  · unfold State.gridN; rw [h.get _]
  · unfold State.presetRate; rw [h.get _]
  · unfold State.noSource State.numQ at *
    rwa [h.get _, h.bit _]

/-- Settles O18, from `writeRow_steps` and `writeRow_written` for ROW_WRITE and, for ROW_SEAL, from what its stages leave: the queue
(`rowSeal_queue`), GRID_NOW, the tracker and the plane (`rowSeal_sealed`). -/
theorem rowsAreWrittenAndSealed : Obligations.RowsAreWrittenAndSealed := by
  unfold Obligations.RowsAreWrittenAndSealed
  intro s
  refine ⟨fun clocks ain lines => ?_, fun h => ?_, fun rec' rest h => ?_⟩
  · obtain ⟨hg, hm, ht, hN, hp, hd, hs⟩ := chainStep_keeps clocks ain lines s
    have he : exec (.rowWrite clocks ain lines) s = done (writeRow (chainStep clocks ain lines s)) := rfl
    generalize hu : chainStep clocks ain lines s = u at *
    refine ⟨fun h => ?_, fun h => completes_of_done he ?_⟩
    · rw [he, writeRow_idle (hd.trans h)]
      rfl
    · have hdu := hd.trans h
      obtain ⟨g1, g2, g3, g4, g5⟩ := writeRow_steps hdu
      rw [hg, ht, hN] at g2
      rw [hg, ht, hp] at g3
      rw [hg] at g1 g4 g5
      rw [fin_grid]
      refine ⟨g1, g2, g3, g4, g5, fun u' hu' hc => ?_⟩
      subst hu'
      obtain ⟨hw, hf⟩ := writeRow_written hdu (by rw [hg]; exact hc)
      obtain ⟨w1, w2, w3⟩ := hw.fin
      rw [hg] at w1 w2 w3
      exact ⟨w1, fun q hq hn => w2 q hq (hs q hn), fun a h1 h2 h3 => (w3 a ⟨h1, h2, h3⟩).trans (hm a trivial), hf.frame⟩
  · have e : rowSeal s = s := by
      unfold rowSeal
      rw [h]
    show done (rowSeal s) = _
    rw [e]
    rfl
  · obtain ⟨q1, q2, q3, hw, hgo, hstop⟩ := rowSeal_queue h
    obtain ⟨hn, hv⟩ := sealedTo_now (s := s) (rec' := rec') (rest := rest)
    obtain ⟨n1, n2⟩ := hn.after hw
    refine completes_of_done (u := rowSeal s) rfl ?_
    simp only [fin_grid, fin_groupWord, fin_groupValid, fin_bit, fin_get]
    refine ⟨q1, q2, q3, n1, n2, fun hc => ?_, fun h1 h2 h3 => ?_, fun h1 h2 h3 h4 h5 => ?_, fun h1 h2 => ?_⟩
    · rw [hgo hc]
      exact ⟨hv, sealedTo_run⟩
    · obtain ⟨g1, g2, g3⟩ := gridHalt_shows (sealedTo rec' rest s)
      rw [hstop h1 h2 h3]
      exact ⟨g3, g2, congrArg GridState.stopAt g1⟩
    · obtain ⟨g1, g2⟩ := sealedTo_frozen (rec' := rec') (rest := rest) h1 h2 h3 h4 h5
      exact ⟨(hw.get _).trans g1, fin_pend_keeps _ _ _ (hw.pend _ _ g2)⟩
    · obtain ⟨w1, w2, w3⟩ := (rowSeal_sealed h h1 h2).after (.of_eq (fin_mem _)) (fin_bit _ _)
      rw [fin_bit] at w2
      exact ⟨fun q hq hq' => ⟨(w2 q hq hq').value, (w2 q hq hq').none⟩, w3, fun a h1 h2 h3 => w1 a ⟨h1, h2, h3⟩⟩

/-! # One strike comparator (R197 to R199)

What LCn's comparator shows is its state, LIVE and STICKY; the judgement of another channel leaves them. -/

/-! ## Bits of a run of registers -/

theorem arrBit_setArrBit_same (s : State) (a i : Nat) (b : Bool) : (s.setArrBit a i b).arrBit a i = b :=
  regBit_setRegBit_same s _ _ b (Nat.mod_lt i (by decide))

theorem arrBit_setArrBit_ne (s : State) (a i a' i' : Nat) (b : Bool) (h : a' + 4 * (i' / 32) ≠ a + 4 * (i / 32) ∨ i' % 32 ≠ i % 32) :
    (s.setArrBit a i b).arrBit a' i' = s.arrBit a' i' := by
  have hz : (⟨[⟨a + 4 * (i / 32), a + 4 * (i / 32), i % 32, i % 32⟩], [], []⟩ : Foot).Within s (s.setArrBit a i b) :=
    within_setRegBit s _ _ b (by simp [Foot.has, Zone.holds]) (Nat.mod_lt i (by decide))
  refine hz.regBit _ _ ?_
  simp only [Foot.clear, List.all_cons, List.all_nil, Bool.and_true, Zone.apart_iff]
  omega

/-! ## The view of a comparator -/

/-- The comparator's state, LIVE and STICKY. -/
def State.comparator (s : State) (n : Nat) : StrikeState × Bool × Bool := (s.strike n, s.strikeLive n, s.arrBit R.trmStkStickyLo n)

section
variable (s : State) (n : Nat)

theorem comparator_setStrike_same (x : StrikeState) : (s.setStrike n x).comparator n = (x, (s.comparator n).2) :=
  Prod.ext (tget_tset_same ..) rfl

theorem comparator_setStrike_ne (x : StrikeState) {m : Nat} (h : m ≠ n) : (s.setStrike n x).comparator m = s.comparator m :=
  Prod.ext (tget_tset_ne _ _ _ _ _ h) rfl

theorem comparator_setLive_same (b : Bool) :
    (s.setArrBit R.trmStkLiveLo n b).comparator n = (s.strike n, b, s.arrBit R.trmStkStickyLo n) :=
  Prod.ext rfl (Prod.ext (arrBit_setArrBit_same ..) (arrBit_setArrBit_ne _ _ _ _ _ _ (by simp only [R.trmStkLiveLo, R.trmStkStickyLo]; omega)))

theorem comparator_setLive_ne (hn : n < 64) (b : Bool) {m : Nat} (hm : m < 64) (h : m ≠ n) :
    (s.setArrBit R.trmStkLiveLo n b).comparator m = s.comparator m :=
  Prod.ext rfl (Prod.ext (arrBit_setArrBit_ne _ _ _ _ _ _ (by omega))
    (arrBit_setArrBit_ne _ _ _ _ _ _ (by simp only [R.trmStkLiveLo, R.trmStkStickyLo]; omega)))

theorem comparator_setSticky_same (b : Bool) :
    (s.setArrBit R.trmStkStickyLo n b).comparator n = (s.strike n, s.strikeLive n, b) :=
  Prod.ext rfl (Prod.ext (arrBit_setArrBit_ne _ _ _ _ _ _ (by simp only [R.trmStkLiveLo, R.trmStkStickyLo]; omega)) (arrBit_setArrBit_same ..))

theorem comparator_setSticky_ne (hn : n < 64) (b : Bool) {m : Nat} (hm : m < 64) (h : m ≠ n) :
    (s.setArrBit R.trmStkStickyLo n b).comparator m = s.comparator m :=
  Prod.ext rfl (Prod.ext (arrBit_setArrBit_ne _ _ _ _ _ _ (by simp only [R.trmStkLiveLo, R.trmStkStickyLo]; omega))
    (arrBit_setArrBit_ne _ _ _ _ _ _ (by omega)))

end

/-- A step that leaves TRM and its comparator registers leaves every comparator. -/
theorem Foot.Within.comparator {F : Foot} {s t : State} (h : F.Within s t) {n : Nat} (hn : n < 64) (hp : Part.trm ∉ F.parts := by decide)
    (hz : F.zones.all (fun z => decide (R.trmStkStickyHi < z.first) || decide (z.last < R.trmStkLiveLo)) = true := by decide) :
    t.comparator n = s.comparator n := by
  have hc : ∀ a, R.trmStkLiveLo ≤ a → a ≤ R.trmStkStickyHi → t.reg a = s.reg a := fun a h1 h2 =>
    h.reg a (List.all_eq_true.mpr fun z hm => by
      have hz' := List.all_eq_true.mp hz z hm
      rw [Bool.or_eq_true, decide_eq_true_eq, decide_eq_true_eq] at hz'
      rw [Zone.apart_iff]
      show a < _ ∨ _ < a ∨ _
      omega)
  have ht : t.trm = s.trm := h.part .trm hp
  unfold State.comparator State.strike State.strikeLive State.arrBit State.regBit
  rw [ht, hc _ (by simp only [R.trmStkLiveLo]; omega) (by simp only [R.trmStkLiveLo, R.trmStkStickyHi]; omega),
    hc _ (by simp only [R.trmStkLiveLo, R.trmStkStickyLo]; omega) (by simp only [R.trmStkStickyLo, R.trmStkStickyHi]; omega)]

/-! ## A comparator's output -/

section
variable (s : State) (n : Nat)

/-- STICKY follows LIVE up. -/
def stickyOut (n : Nat) (on : Bool) (s : State) : State :=
  if on then (if s.arrBit R.trmStkStickyLo n then s else (s.setArrBit R.trmStkStickyLo n true).edge .trm 1) else s

/-- What an output's change tells: its event, the recorder, the pass. -/
def tellOut (n : Nat) (on : Bool) (s : State) : State :=
  (if s.bit (R.trmStkCfg_evt n) then s.event 0x11 (if on then 0 else 1) n 0 0 0 else s).drcSee.requestPass

theorem strikeOut_eq (on : Bool) : strikeOut n on s = if s.strikeLive n = on then s else
    tellOut n on (stickyOut n on ((s.setStrike n { s.strike n with on := on, cnt := 0, dcnt := 0 }).setArrBit R.trmStkLiveLo n on)) := rfl

theorem tellOut_shows (on : Bool) : (∀ m, m < 64 → (tellOut n on s).comparator m = s.comparator m) ∧ (tellOut n on s).trm = { s.trm with request := true } := by
  unfold tellOut
  generalize hu : (if s.bit (R.trmStkCfg_evt n) then s.event 0x11 (if on then 0 else 1) n 0 0 0 else s).drcSee = u
  have hw : (⟨[], [.evr, .drc], []⟩ : Foot).Within s u := by
    rw [← hu]
    exact Foot.Within.trans (.ite (within_event _ _ _ _ _ _ _) (.refl _ s)) (within_drcSee _)
  have ht : u.trm = s.trm := hw.part .trm (by decide)
  refine ⟨fun m hm => hw.comparator hm, ?_⟩
  rw [← ht]
  rfl

theorem stickyOut_shows (hn : n < 64) (on : Bool) : (stickyOut n on s).comparator n = (s.strike n, s.strikeLive n, on || s.arrBit R.trmStkStickyLo n) ∧
    (∀ m, m < 64 → m ≠ n → (stickyOut n on s).comparator m = s.comparator m) ∧ (stickyOut n on s).trm = s.trm := by
  unfold stickyOut
  cases on
  · exact ⟨rfl, fun _ _ _ => rfl, rfl⟩
  · rw [if_pos rfl, Bool.true_or]
    split
    case isTrue h => exact ⟨by rw [← h]; rfl, fun _ _ _ => rfl, rfl⟩
    case isFalse h =>
      have hw : (⟨[], [], [.trm]⟩ : Foot).Within (s.setArrBit R.trmStkStickyLo n true) ((s.setArrBit R.trmStkStickyLo n true).edge .trm 1) := within_edge _ .trm 1
      exact ⟨(hw.comparator hn).trans (comparator_setSticky_same s n true),
        fun m hm hne => (hw.comparator hm).trans (comparator_setSticky_ne s n hn true hm hne), rfl⟩

/-- What a comparator's output shows when it takes a value that it does not have. -/
theorem strikeOut_changes (hn : n < 64) {on : Bool} (h : s.strikeLive n ≠ on) :
    (strikeOut n on s).comparator n = ({ s.strike n with on := on, cnt := 0, dcnt := 0 }, on, on || s.arrBit R.trmStkStickyLo n) ∧
    (strikeOut n on s).trm.request = true := by
  rw [strikeOut_eq, if_neg h]
  generalize hu : (s.setStrike n { s.strike n with on := on, cnt := 0, dcnt := 0 }).setArrBit R.trmStkLiveLo n on = u
  have hc : u.comparator n = ({ s.strike n with on := on, cnt := 0, dcnt := 0 }, on, s.arrBit R.trmStkStickyLo n) := by
    rw [← hu, comparator_setLive_same _ n]
    exact Prod.ext (tget_tset_same ..) rfl
  obtain ⟨h1, -, -⟩ := stickyOut_shows u n hn on
  obtain ⟨h2, h3⟩ := tellOut_shows (stickyOut n on u) n on
  simp only [State.comparator, Prod.mk.injEq] at hc
  obtain ⟨c1, c2, c3⟩ := hc
  refine ⟨(h2 n hn).trans (h1.trans ?_), by rw [h3]⟩
  rw [c1, c2, c3]

theorem strikeOut_same {on : Bool} (h : s.strikeLive n = on) : strikeOut n on s = s := by rw [strikeOut_eq, if_pos h]

/-- A comparator's output leaves the other comparators and the lines, and takes back no pass. -/
theorem strikeOut_beside (hn : n < 64) (on : Bool) : (∀ m, m < 64 → m ≠ n → (strikeOut n on s).comparator m = s.comparator m) ∧
    (strikeOut n on s).trm.lines = s.trm.lines ∧ (s.trm.request = true → (strikeOut n on s).trm.request = true) := by
  by_cases h : s.strikeLive n = on
  · rw [strikeOut_same s n h]
    exact ⟨fun _ _ _ => rfl, rfl, id⟩
  · refine ⟨fun m hm hne => ?_, ?_, fun _ => (strikeOut_changes s n hn h).2⟩
    all_goals rw [strikeOut_eq, if_neg h]
    · generalize hu : (s.setStrike n { s.strike n with on := on, cnt := 0, dcnt := 0 }).setArrBit R.trmStkLiveLo n on = u
      have hc : u.comparator m = s.comparator m := by
        rw [← hu, comparator_setLive_ne _ n hn on hm hne, comparator_setStrike_ne s n _ hne]
      exact ((tellOut_shows _ n on).1 m hm).trans (((stickyOut_shows u n hn on).2.1 m hm hne).trans hc)
    · rw [(tellOut_shows _ n on).2, (stickyOut_shows _ n hn on).2.2]
      rfl

end

/-! # The samples of one channel (R74, R197)

The comparators judge round by round; of what a round does, comparator `n` sees its own channel's sample alone. -/

/-- What a judgement of another channel leaves to comparator `n`. -/
structure Beside (n : Nat) (s t : State) : Prop where
  comparator : t.comparator n = s.comparator n
  request : s.trm.request = true → t.trm.request = true
  cfg : ∀ f : Fld, strikeFoot.clear f = true → t.get f = s.get f

theorem Beside.refl (n : Nat) (s : State) : Beside n s s := ⟨rfl, id, fun _ _ => rfl⟩

theorem Beside.trans {n : Nat} {s t u : State} (h : Beside n s t) (h' : Beside n t u) : Beside n s u :=
  ⟨h'.comparator.trans h.comparator, h'.request ∘ h.request, fun f hf => (h'.cfg f hf).trans (h.cfg f hf)⟩

/-- A sample moves the counts of its comparator, its output, or both. -/
theorem strikeSample_cases (c : Nat) (x : Tagged) (s : State) : ∃ (k : StrikeState) (on : Bool),
    strikeSample c x s = strikeOut c on (s.setStrike c k) ∨ strikeSample c x s = s.setStrike c k ∨ strikeSample c x s = strikeOut c on s := by
  unfold strikeSample
  extract_lets k thr pol byOvr exc up high down
  split
  · exact ⟨_, false, .inl rfl⟩
  · split <;> split
    · exact ⟨k, true, .inr (.inr rfl)⟩
    · exact ⟨_, false, .inr (.inl rfl)⟩
    · exact ⟨k, false, .inr (.inr rfl)⟩
    · exact ⟨_, false, .inr (.inl rfl)⟩

theorem strikeSample_beside {c n : Nat} (hc : c < 64) (hn : n < 64) (hne : n ≠ c) (x : Tagged) (s : State) : Beside n s (strikeSample c x s) := by
  have hs : ∀ k, (s.setStrike c k).comparator n = s.comparator n := fun k => comparator_setStrike_ne s c k hne
  have ho : ∀ (u : State) on, (strikeOut c on u).comparator n = u.comparator n := fun u on => (strikeOut_beside u c hc on).1 n hn hne
  have hr : ∀ (u : State) on, u.trm.request = true → (strikeOut c on u).trm.request = true := fun u on => (strikeOut_beside u c hc on).2.2
  have hcfg : ∀ f : Fld, strikeFoot.clear f = true → (strikeSample c x s).get f = s.get f := fun f hf => (within_strikeSample c hc x s).fld f hf
  obtain ⟨k, on, h | h | h⟩ := strikeSample_cases c x s <;> refine ⟨?_, ?_, hcfg⟩ <;> rw [h]
  · exact (ho _ _).trans (hs k)
  · exact hr (s.setStrike c k) on
  · exact hs k
  · exact id
  · exact ho _ _
  · exact hr _ _

theorem strikeSample_lines {c : Nat} (hc : c < 64) (x : Tagged) (s : State) : (strikeSample c x s).trm.lines = s.trm.lines := by
  have ho : ∀ (u : State) on, (strikeOut c on u).trm.lines = u.trm.lines := fun u on => (strikeOut_beside u c hc on).2.1
  obtain ⟨k, on, h | h | h⟩ := strikeSample_cases c x s <;> rw [h]
  · exact ho _ _
  · rfl
  · exact ho _ _

/-! ## Rounds -/

/-- Channel `c` has its `j`th oldest output of `s` judged, where there is one. -/
def judgeChannel (s : State) (j c : Nat) (t : State) : State :=
  match (s.sincOf c).reverse[j]? with | some x => strikeSample c x t | none => t

theorem judgeRound_eq (s : State) (j : Nat) (t : State) : judgeRound s j t = iterUp 64 (judgeChannel s j) t := rfl

theorem judgeChannel_beside {s : State} {j c n : Nat} (hc : c < 64) (hn : n < 64) (hne : n ≠ c) (t : State) : Beside n t (judgeChannel s j c t) := by
  unfold judgeChannel
  split
  · exact strikeSample_beside hc hn hne _ t
  · exact .refl n t

/-- A round is its own channel's judgement, between those of the others. -/
theorem judgeRound_splits (s : State) (j : Nat) {n : Nat} (hn : n < 64) (t : State) :
    ∃ t', Beside n t t' ∧ Beside n (judgeChannel s j n t') (judgeRound s j t) := by
  have h : ∀ k, k ≤ 64 → (k ≤ n → Beside n t (iterUp k (judgeChannel s j) t)) ∧
      (n < k → ∃ t', Beside n t t' ∧ Beside n (judgeChannel s j n t') (iterUp k (judgeChannel s j) t)) := by
    intro k
    induction k with
    | zero => exact fun _ => ⟨fun _ => .refl n t, fun h => absurd h (Nat.not_lt_zero n)⟩
    | succ k ih =>
      intro hk
      obtain ⟨h1, h2⟩ := ih (by omega)
      rw [iterUp_succ]
      refine ⟨fun hle => (h1 (by omega)).trans (judgeChannel_beside hk hn (by omega) _), fun hlt => ?_⟩
      by_cases e : n = k
      · subst e
        exact ⟨_, h1 (Nat.le_refl n), .refl n _⟩
      · obtain ⟨t', g1, g2⟩ := h2 (by omega)
        exact ⟨t', g1, g2.trans (judgeChannel_beside hk hn e _)⟩
  rw [judgeRound_eq]
  exact (h 64 (Nat.le_refl _)).2 hn

theorem le_rounds (s : State) {n : Nat} (hn : n < 64) : (s.sincOf n).length ≤ s.rounds := by
  have h : ∀ k, n < k → (s.sincOf n).length ≤ (List.range k).foldl (fun a c => Nat.max a (s.sincOf c).length) 0 := by
    intro k
    induction k with
    | zero => exact fun h => absurd h (Nat.not_lt_zero n)
    | succ k ih =>
      intro hk
      rw [List.range_succ, List.foldl_append, List.foldl_cons, List.foldl_nil]
      by_cases e : n = k
      · subst e
        exact Nat.le_max_right _ _
      · exact (ih (by omega)).trans (Nat.le_max_left _ _)
  exact h 64 hn

/-- What holds before channel `n`'s outputs are judged and is kept by each sample and beside them holds when all are judged. -/
theorem strikeAll_induct {n : Nat} (hn : n < 64) {s : State} (P : Nat → State → Prop) (h0 : P 0 s) (hb : ∀ j t t', Beside n t t' → P j t → P j t')
    (hs : ∀ j x t, (s.sincOf n).reverse[j]? = some x → P j t → P (j + 1) (strikeSample n x t)) : P (s.sincOf n).length (strikeAll s) := by
  have h : ∀ k, P (min k (s.sincOf n).length) (iterUp k (judgeRound s) s) := by
    intro k
    induction k with
    | zero => rwa [Nat.zero_min]
    | succ k ih =>
      rw [iterUp_succ]
      obtain ⟨t', h1, h2⟩ := judgeRound_splits s k hn (iterUp k (judgeRound s) s)
      refine hb _ _ _ h2 ?_
      have ht := hb _ _ _ h1 ih
      unfold judgeChannel
      by_cases hk : k < (s.sincOf n).length
      · rw [List.getElem?_eq_getElem (by rwa [List.length_reverse])]
        rw [Nat.min_eq_left (Nat.le_of_lt hk)] at ht
        rw [Nat.min_eq_left hk]
        exact hs k _ t' (List.getElem?_eq_getElem (by rwa [List.length_reverse])) ht
      · rw [List.getElem?_eq_none (by rw [List.length_reverse]; omega), Nat.min_eq_right (by omega)]
        rwa [Nat.min_eq_right (by omega)] at ht
  have hr := h s.rounds
  rw [Nat.min_eq_right (le_rounds s hn)] at hr
  rw [strikeAll_eq]
  generalize iterUp s.rounds (judgeRound s) s = u at hr ⊢
  have hw : (⟨[], [.dfc], []⟩ : Foot).Within u (sincJudged u) := within_sincJudged u
  exact hb _ _ _ ⟨hw.comparator hn, fun h => h, fun f _ => hw.fld f rfl⟩ hr

theorem strikeAll_lines (s : State) : (strikeAll s).trm.lines = s.trm.lines := by
  rw [strikeAll_eq]
  have h : ∀ j t, (judgeRound s j t).trm.lines = t.trm.lines := fun j t => by
    rw [judgeRound_eq]
    refine List.foldlRecOn (motive := fun u : State => u.trm.lines = t.trm.lines) (List.range 64) _ rfl fun u hu c hc => Eq.trans ?_ hu
    unfold judgeChannel
    split
    · exact strikeSample_lines (List.mem_range.mp hc) _ u
    · rfl
  have hj : (iterUp s.rounds (judgeRound s) s).trm.lines = s.trm.lines := iterUp_keeps (fun u : State => u.trm.lines) h s
  generalize iterUp s.rounds (judgeRound s) s = u at hj ⊢
  exact hj

/-! # Counting samples (R197 to R199) -/

/-- A valid sample at or beyond comparator `n`'s threshold, or over-range where that counts. -/
def State.exceeds (s : State) (n : Nat) (x : Tagged) : Prop :=
  x.invalid = false ∧ ((x.ovr = true ∧ s.bit (R.trmStkCfg_ovr_exc n) = true) ∨
    strikeBeyond (s.get (R.trmStkCfg_pol n)) x.val (16 * Nat.max 1 (s.get (R.trmStkThr_thr n)) : Nat) = true)

/-- A sample that is invalid, or inside comparator `n`'s drop-off level. -/
def State.recedes (s : State) (n : Nat) (x : Tagged) : Prop :=
  x.invalid = true ∨ (¬ (x.ovr = true ∧ s.bit (R.trmStkCfg_ovr_exc n) = true) ∧
    strikeBeyond (s.get (R.trmStkCfg_pol n)) x.val (Nat.max 1 (s.get (R.trmStkThr_thr n)) * Nat.max 8 (s.get (R.trmStkCfg_dr n)) : Nat) = false)

/-- A sample that counts towards turning comparator `n` while LIVE is `on`. -/
def State.turns (s : State) (n : Nat) (on : Bool) (x : Tagged) : Prop := if on then s.recedes n x else s.exceeds n x

/-- Samples in a row that turn comparator `n` while LIVE is `on`. -/
def State.run (s : State) (n : Nat) (on : Bool) : Nat := Nat.max 1 (s.get (if on then R.trmStkCfg_dcnt n else R.trmStkCfg_cnt n))

/-- The count that runs while LIVE is `on`. -/
def StrikeState.count (k : StrikeState) (on : Bool) : Nat := if on then k.dcnt else k.cnt

/-- The comparator with that count at `c`. -/
def StrikeState.counted (k : StrikeState) (on : Bool) (c : Nat) : StrikeState := if on then { k with dcnt := c } else { k with cnt := c }

theorem StrikeState.counted_shows (k : StrikeState) (on : Bool) (c d : Nat) : (k.counted on c).count on = c ∧ (k.counted on c).blk = k.blk ∧
    (k.counted on c).counted on d = k.counted on d ∧ k.counted on (k.count on) = k := by
  cases on <;> exact ⟨rfl, rfl, rfl, rfl⟩

section
variable {s : State} {n : Nat} {x : Tagged}

theorem strikeSample_up (he : s.bit (R.trmStkCfg_en n) = true) (hb : (s.strike n).blk = false) (hl : s.strikeLive n = false) (hx : s.exceeds n x) :
    strikeSample n x s = if s.run n false ≤ (s.strike n).cnt + 1 then strikeOut n true s else s.setStrike n { s.strike n with cnt := (s.strike n).cnt + 1 } := by
  obtain ⟨hv, hx⟩ := hx
  unfold strikeSample
  extract_lets k thr pol byOvr exc up high down
  have hexc : exc = true := by
    simp only [exc, byOvr, hv, Bool.not_false, Bool.true_and, Bool.or_eq_true, Bool.and_eq_true]
    exact hx
  have hup : up = (s.strike n).cnt + 1 := if_pos hexc
  have hoff : (!s.bit (R.trmStkCfg_en n) || k.blk) = false := by rw [he, show k.blk = false from hb]; rfl
  rw [hoff, if_neg Bool.false_ne_true, hl, hup]
  rfl

theorem strikeSample_down (he : s.bit (R.trmStkCfg_en n) = true) (hb : (s.strike n).blk = false) (hl : s.strikeLive n = true) (hx : s.recedes n x) :
    strikeSample n x s = if s.run n true ≤ (s.strike n).dcnt + 1 then strikeOut n false s else s.setStrike n { s.strike n with dcnt := (s.strike n).dcnt + 1 } := by
  unfold strikeSample
  extract_lets k thr pol byOvr exc up high down
  have hhigh : high = false := by
    rcases hx with hv | ⟨ho, hi⟩
    · simp only [high, hv, Bool.not_true, Bool.false_and]
    · have hby : byOvr = false := by rw [← Bool.not_eq_true]; simpa only [byOvr, Bool.and_eq_true] using ho
      simp only [high, hby, Bool.false_or]
      exact (congrArg (!x.invalid && ·) hi).trans (Bool.and_false _)
  have hdown : down = (s.strike n).dcnt + 1 := if_neg (by rw [hhigh]; exact Bool.false_ne_true)
  have hoff : (!s.bit (R.trmStkCfg_en n) || k.blk) = false := by rw [he, show k.blk = false from hb]; rfl
  rw [hoff, if_neg Bool.false_ne_true, hl, hdown]
  rfl

/-- A sample that counts moves the count, or turns the output. -/
theorem strikeSample_turns {on : Bool} (he : s.bit (R.trmStkCfg_en n) = true) (hb : (s.strike n).blk = false) (hl : s.strikeLive n = on) (hx : s.turns n on x) :
    strikeSample n x s = if s.run n on ≤ (s.strike n).count on + 1 then strikeOut n (!on) s
      else s.setStrike n ((s.strike n).counted on ((s.strike n).count on + 1)) := by
  cases on
  · exact strikeSample_up he hb hl hx
  · exact strikeSample_down he hb hl hx

theorem strikeSample_off (h : s.bit (R.trmStkCfg_en n) = false ∨ (s.strike n).blk = true) (hl : s.strikeLive n = false) :
    strikeSample n x s = s.setStrike n { s.strike n with cnt := 0, dcnt := 0 } := by
  unfold strikeSample
  extract_lets k
  have hoff : (!s.bit (R.trmStkCfg_en n) || k.blk) = true := by
    rcases h with h | h
    · rw [h]; rfl
    · rw [show k.blk = true from h, Bool.or_true]
  rw [hoff, if_pos rfl]
  exact strikeOut_same _ n hl

end

/-! ## The run of a channel's samples -/

theorem strikeFoot_cfg (n hi lo : Nat) : strikeFoot.clear ⟨R.trmStkCfg n, hi, lo⟩ = true ∧ strikeFoot.clear ⟨R.trmStkThr n, hi, lo⟩ = true := by
  simp only [Foot.clear, strikeFoot, List.all_cons, List.all_nil, Bool.and_true, Bool.and_eq_true, Zone.apart_iff, R.trmStkCfg, R.trmStkThr, R.trmStkLiveLo,
    R.trmStkLiveHi, R.trmStkStickyLo, R.trmStkStickyHi]
  omega

/-- Comparator `n` is configured in `t` as in `s`. -/
structure SameSetting (n : Nat) (s t : State) : Prop where
  cfg : ∀ hi lo, t.get ⟨R.trmStkCfg n, hi, lo⟩ = s.get ⟨R.trmStkCfg n, hi, lo⟩
  thr : ∀ hi lo, t.get ⟨R.trmStkThr n, hi, lo⟩ = s.get ⟨R.trmStkThr n, hi, lo⟩

theorem SameSetting.of_cfg {n : Nat} {s t u : State} (h : SameSetting n s t) (hf : ∀ f : Fld, strikeFoot.clear f = true → u.get f = t.get f) : SameSetting n s u :=
  ⟨fun hi lo => (hf _ (strikeFoot_cfg n hi lo).1).trans (h.cfg hi lo), fun hi lo => (hf _ (strikeFoot_cfg n hi lo).2).trans (h.thr hi lo)⟩

theorem SameSetting.en {n : Nat} {s t : State} (h : SameSetting n s t) : t.bit (R.trmStkCfg_en n) = s.bit (R.trmStkCfg_en n) := by
  unfold State.bit R.trmStkCfg_en
  rw [h.cfg]

theorem SameSetting.turns {n : Nat} {s t : State} (h : SameSetting n s t) {on : Bool} {x : Tagged} (hx : s.turns n on x) : t.turns n on x := by
  unfold State.turns State.exceeds State.recedes State.bit R.trmStkCfg_ovr_exc R.trmStkCfg_pol R.trmStkThr_thr R.trmStkCfg_dr at *
  simpa only [h.cfg, h.thr] using hx

theorem SameSetting.run {n : Nat} {s t : State} (h : SameSetting n s t) (on : Bool) : t.run n on = s.run n on := by
  unfold State.run R.trmStkCfg_cnt R.trmStkCfg_dcnt
  cases on
  · exact congrArg (Nat.max 1) (h.cfg _ _)
  · exact congrArg (Nat.max 1) (h.cfg _ _)

/-- After `j` samples that count, LIVE `on` before: counted, or turned with a pass due. -/
def Counted (n : Nat) (s : State) (on : Bool) (j : Nat) (t : State) : Prop :=
  SameSetting n s t ∧ if (s.strike n).count on + j < s.run n on
    then t.comparator n = ((s.strike n).counted on ((s.strike n).count on + j), on, s.arrBit R.trmStkStickyLo n)
    else t.strikeLive n = (!on) ∧ t.arrBit R.trmStkStickyLo n = (!on || s.arrBit R.trmStkStickyLo n) ∧ t.trm.request = true

theorem comparator_eq {s : State} {n : Nat} {k : StrikeState} {a b : Bool} (h : s.comparator n = (k, a, b)) :
    s.strike n = k ∧ s.strikeLive n = a ∧ s.arrBit R.trmStkStickyLo n = b := by
  simpa only [State.comparator, Prod.mk.injEq] using h

section
variable {n : Nat} {s : State} {on : Bool} {j : Nat} {t u : State}

theorem Counted.beside (hb : Beside n t u) (h : Counted n s on j t) : Counted n s on j u := by
  obtain ⟨hs, h⟩ := h
  obtain ⟨-, hl, hk⟩ := comparator_eq hb.comparator
  refine ⟨hs.of_cfg hb.cfg, ?_⟩
  split at h
  · rw [if_pos ‹_›]
    exact hb.comparator.trans h
  · rw [if_neg ‹_›, hl, hk]
    exact ⟨h.1, h.2.1, hb.request h.2.2⟩

theorem Counted.next {x : Tagged} (hn : n < 64) (he : s.bit (R.trmStkCfg_en n) = true) (hb : (s.strike n).blk = false)
    (hj : (s.strike n).count on + j < s.run n on) (hx : s.turns n on x) (h : Counted n s on j t) : Counted n s on (j + 1) (strikeSample n x t) := by
  obtain ⟨hs, h⟩ := h
  rw [if_pos hj] at h
  obtain ⟨h1, h2, h3⟩ := comparator_eq h
  obtain ⟨k1, k2, k3, -⟩ := (s.strike n).counted_shows on ((s.strike n).count on + j) ((s.strike n).count on + j + 1)
  refine ⟨hs.of_cfg fun f hf => (within_strikeSample n hn x t).fld f hf, ?_⟩
  rw [strikeSample_turns (hs.en.trans he) (by rw [h1, k2, hb]) h2 (hs.turns hx), hs.run, h1, k1, k3, ← Nat.add_assoc]
  by_cases hd : (s.strike n).count on + j + 1 < s.run n on
  · rw [if_pos hd, if_neg (Nat.not_le.mpr hd), comparator_setStrike_same, h]
  · rw [if_neg hd, if_pos (Nat.not_lt.mp hd)]
    obtain ⟨g1, g2⟩ := strikeOut_changes t n hn (on := !on) (by rw [h2]; exact (Bool.not_ne_self on).symm)
    obtain ⟨-, g3, g4⟩ := comparator_eq g1
    exact ⟨g3, by rw [g4, h3], g2⟩

end

/-! ## All the samples -/

section
variable {n : Nat} {s u : State}

/-- The chain has run from `s` to `u`. -/
structure ChainRan (n : Nat) (s u : State) : Prop where
  setting : SameSetting n s u
  comparator : u.comparator n = s.comparator n

/-- Samples that count are counted up to the run, and the one that completes it turns the output (R197). -/
theorem strikeAll_counted {on : Bool} (hn : n < 64) (hu : ChainRan n s u) (he : s.bit (R.trmStkCfg_en n) = true) (hb : (s.strike n).blk = false)
    (hl : s.strikeLive n = on) (hx : ∀ x ∈ (u.sincOf n).reverse, s.turns n on x) (h0 : (s.strike n).count on < s.run n on)
    (hle : (s.strike n).count on + (u.sincOf n).length ≤ s.run n on) : Counted n s on (u.sincOf n).length (strikeAll u) := by
  -- Every sample but the last leaves the count below the run.
  refine strikeAll_induct hn (Counted n s on) ⟨hu.setting, ?_⟩ (fun _ _ _ hbs => Counted.beside hbs) fun j x t hj h => ?_
  · rw [if_pos (by rwa [Nat.add_zero]), hu.comparator, Nat.add_zero, ((s.strike n).counted_shows on 0 0).2.2.2]
    exact Prod.ext rfl (Prod.ext hl rfl)
  · obtain ⟨hlt, rfl⟩ := List.getElem?_eq_some_iff.mp hj
    have hlen := hlt
    rw [List.length_reverse] at hlen
    exact h.next hn he hb (by omega) (hx _ (List.getElem_mem hlt))

/-- A comparator that is off or blocked stays clear (R198, R199). -/
theorem strikeAll_off (hn : n < 64) (hu : ChainRan n s u) (ho : s.bit (R.trmStkCfg_en n) = false ∨ (s.strike n).blk = true) (hl : s.strikeLive n = false) :
    (strikeAll u).strikeLive n = false ∧ (strikeAll u).arrBit R.trmStkStickyLo n = s.arrBit R.trmStkStickyLo n := by
  have h := strikeAll_induct hn (s := u) (fun _ t => SameSetting n s t ∧ (t.strike n).blk = (s.strike n).blk ∧ t.strikeLive n = false ∧
    t.arrBit R.trmStkStickyLo n = s.arrBit R.trmStkStickyLo n) ?_ ?_ ?_
  · exact h.2.2
  · obtain ⟨h1, h2, h3⟩ := comparator_eq hu.comparator
    exact ⟨hu.setting, by rw [h1], h2.trans hl, h3⟩
  · rintro j t t' hb ⟨h1, h2, h3, h4⟩
    obtain ⟨g1, g2, g3⟩ := comparator_eq hb.comparator
    exact ⟨h1.of_cfg hb.cfg, by rw [g1, h2], g2.trans h3, g3.trans h4⟩
  · rintro j x t - ⟨h1, h2, h3, h4⟩
    refine ⟨h1.of_cfg fun f hf => (within_strikeSample n hn x t).fld f hf, ?_⟩
    rw [strikeSample_off (by rw [h1.en, h2]; exact ho) h3]
    obtain ⟨g1, g2, g3⟩ := comparator_eq (comparator_setStrike_same t n { t.strike n with cnt := 0, dcnt := 0 })
    exact ⟨by rw [g1, ← h2], g2.trans h3, g3.trans h4⟩

end

/-! # What modulator clocks leave, and the comparators' commands -/

/-! ## The chain's run -/

theorem storeFeed_clk (c : Nat) (f : Feed) (s : State) : (storeFeed c f s).dfc.clk = s.dfc.clk := by
  unfold storeFeed
  extract_lets _ s1 s2 s3 s4
  have h1 : s1.dfc.clk = s.dfc.clk := ite_keeps (g := fun u : State => u.dfc.clk) rfl rfl
  have h2 : s2.dfc.clk = s.dfc.clk := ite_keeps (g := fun u : State => u.dfc.clk) (by rw [setArrBit_dfc, edgeIf_dfc]; exact h1) h1
  have ho : ∀ (u : State) (r n : Nat), (u.ovrSticky r n).dfc = u.dfc := fun u r n => edgeIf_dfc u _ _ _
  have h3 : s3.dfc.clk = s.dfc.clk := h2
  have h4 : s4.dfc.clk = s.dfc.clk := ite_keeps (g := fun u : State => u.dfc.clk) h2 h2
  split
  · exact ite_keeps (g := fun u : State => u.dfc.clk) (by rw [ho]; exact h3) h3
  · exact ite_keeps (g := fun u : State => u.dfc.clk) (by rw [ho]; exact h4) h4

theorem runChain_clk (clocks : Nat) (ain : List (Nat × List ModBit)) (lines : List (Nat × List Bool)) (s : State) :
    (runChain clocks ain lines s).dfc.clk = s.dfc.clk + clocks := by
  unfold runChain
  extract_lets s0 s1
  have h : s1.dfc.clk = s.dfc.clk :=
    ite_keeps (g := fun u : State => u.dfc.clk) rfl (iterUp_keeps (fun u : State => u.dfc.clk) (fun c u => storeFeed_clk c _ u) s)
  clear_value s1
  exact congrArg (· + clocks) h

theorem chainRan (n : Fin 64) (clocks : Nat) (ain : List (Nat × List ModBit)) (lines : List (Nat × List Bool)) (s : State) :
    ChainRan n.val s (runChain clocks ain lines s) := by
  have h := within_runChain clocks ain lines s
  have hc : ∀ a, R.trmStkCfg 0 ≤ a → ∀ hi lo, chainFoot.clear ⟨a, hi, lo⟩ = true := fun a ha hi lo => by
    simp only [R.trmStkCfg] at ha
    simp only [Foot.clear, chainFoot, List.all_cons, List.all_nil, Bool.and_true, Bool.and_eq_true, Zone.apart_iff, R.dfcSatStickyLo, R.dfcSatStickyHi,
      R.afeOvrSticky, R.afeBsiOvrSticky, R.afeBsiStat]
    omega
  refine ⟨⟨fun hi lo => h.get _ (hc _ ?_ hi lo), fun hi lo => h.get _ (hc _ ?_ hi lo)⟩, h.comparator n.isLt⟩
  · simp only [R.trmStkCfg]; omega
  · simp only [R.trmStkCfg, R.trmStkThr]; omega

theorem sincOf_sincJudged (n : Fin 64) (s : State) : (sincJudged s).sincOf n.val = [] := by
  have h : ∀ k, n.val < k → (tget {} ((List.range k).foldl (fun t c => tupd {} t c (fun ch => { ch with sinc := [] })) s.dfc.chan) n.val : ChainChan).sinc = [] := by
    intro k
    induction k with
    | zero => exact fun h => absurd h (Nat.not_lt_zero _)
    | succ k ih =>
      intro hk
      rw [List.range_succ, List.foldl_append, List.foldl_cons, List.foldl_nil, tupd]
      by_cases e : n.val = k
      · rw [← e, tget_tset_same]
      · rw [tget_tset_ne _ _ _ _ _ e]
        exact ih (by omega)
  exact h 64 n.isLt

theorem clocksFoot_clear {a : Nat} (h1 : pageOf a ≠ some .trm) (h2 : pageOf a ≠ some .afe) (h3 : pageOf a ≠ some .dfc) : clocksFoot.clear ⟨a, 31, 0⟩ = true := by
  have hp : ∀ k p, pageOf (0x1000 * k) = some p → pageOf a ≠ some p → a / 0x1000 ≠ k := fun k p hk hn e => hn ((pageOf_eq e).trans hk)
  have g1 := hp 0xE .trm rfl h1
  have g2 := hp 0x8 .afe rfl h2
  have g3 := hp 0x9 .dfc rfl h3
  simp only [Foot.clear, clocksFoot, chainFoot, strikeFoot, List.cons_append, List.nil_append, List.all_cons, List.all_nil, Bool.and_true, Bool.and_eq_true,
    Zone.apart_iff, R.dfcSatStickyLo, R.dfcSatStickyHi, R.afeOvrSticky, R.afeBsiOvrSticky, R.afeBsiStat, R.trmStkLiveLo, R.trmStkLiveHi, R.trmStkStickyLo,
    R.trmStkStickyHi]
  omega

/-- What modulator clocks show once the comparators have judged (R16, R74). -/
theorem chainStep_shows (n : Fin 64) (clocks : Nat) (ain : List (Nat × List ModBit)) (lines : List (Nat × List Bool)) (s : State) :
    (chainStep clocks ain lines s).sincOf n.val = [] ∧ (chainStep clocks ain lines s).dfc.clk = s.dfc.clk + clocks ∧
    (chainStep clocks ain lines s).trm.lines = s.trm.lines := by
  unfold chainStep
  have ht : (runChain clocks ain lines s).trm = s.trm := (within_runChain clocks ain lines s).part .trm (by decide)
  refine ⟨?_, ?_, (strikeAll_lines _).trans (by rw [ht])⟩
  · rw [strikeAll_eq]
    exact sincOf_sincJudged n _
  · rw [← runChain_clk clocks ain lines s, strikeAll_eq]
    generalize runChain clocks ain lines s = u
    have hd : (iterUp u.rounds (judgeRound u) u).dfc = u.dfc := (within_judged u u _).part .dfc (by decide)
    have hj : ∀ v : State, (sincJudged v).dfc.clk = v.dfc.clk := fun v => by unfold sincJudged; with_reducible rfl
    rw [hj, hd]

/-! ## The block bit, the latches and MINON -/

theorem regRow_trmStkBlk {n : Nat} (hn : n < 64) : regRow (R.trmStkBlk n) = some ⟨0x408, 0x10, 64, 0xFFFFFFFF, 0, 0, 0⟩ := by
  refine regRow_eq (p := .trm) 18 (k := 0xE) ?_ rfl rfl ?_ ?_
  · unfold R.trmStkBlk; omega
  · rw [holds_iff]; simp only [R.trmStkBlk, pageBase]; omega
  · simp only [R.trmStkBlk, pageBase, pageRows, trmRows, trmRows0, List.take, List.forall_mem_cons, holds_iff]
    refine ⟨?_, ?_, ?_, ?_, ?_, ?_, ?_, ?_, ?_, ?_, ?_, ?_, ?_, ?_, ?_, ?_, ?_, ?_, List.forall_mem_nil _⟩ <;> omega

theorem storeReg_trmStkBlk (s : State) {n : Nat} (hn : n < 64) (v : Word) : s.storeReg (R.trmStkBlk n) v = s.setReg (R.trmStkBlk n) v := by
  rw [storeReg_eq s v (regRow_trmStkBlk hn), mergeWrite_rw _ _ _ ⟨rfl, rfl⟩]
  have e : BitVec.ofNat 32 0xFFFFFFFF = BitVec.allOnes 32 := by decide
  rw [e, BitVec.and_allOnes, BitVec.not_allOnes, BitVec.and_zero, BitVec.zero_or]

/-- The comparator as it takes up its block bit. -/
def takeBlock (n : Nat) (b : Bool) (s : State) : State :=
  s.setStrike n (if b || (s.strike n).blk then { s.strike n with blk := b, cnt := 0, dcnt := 0 } else s.strike n)

/-- A blocked comparator is clear with its counts at 0 (R198). -/
theorem takeBlock_blocked (n : Fin 64) (s : State) : (strikeOut n.val false (takeBlock n.val true s)).strikeLive n.val = false ∧
    ((strikeOut n.val false (takeBlock n.val true s)).strike n.val).blk = true ∧ ((strikeOut n.val false (takeBlock n.val true s)).strike n.val).cnt = 0 ∧
    ((strikeOut n.val false (takeBlock n.val true s)).strike n.val).dcnt = 0 := by
  have h1 : (takeBlock n.val true s).strike n.val = { s.strike n.val with blk := true, cnt := 0, dcnt := 0 } := tget_tset_same ..
  by_cases hl : (takeBlock n.val true s).strikeLive n.val = false
  · rw [strikeOut_same _ _ hl, h1]
    exact ⟨hl, rfl, rfl, rfl⟩
  · obtain ⟨g, -⟩ := strikeOut_changes (takeBlock n.val true s) n.val n.isLt hl
    obtain ⟨g1, g2, -⟩ := comparator_eq g
    rw [g1, h1]
    exact ⟨g2, rfl, rfl, rfl⟩

/-! # O28 -/

/-- What the end of a command shows of a comparator. -/
theorem fin_comparator (s : State) (n : Nat) : s.fin.strike n = s.strike n ∧ s.fin.strikeLive n = s.strikeLive n ∧
    s.fin.arrBit R.trmStkStickyLo n = s.arrBit R.trmStkStickyLo n := by
  unfold State.strike State.strikeLive State.arrBit
  simp only [fin_trm, fin_regBit]
  exact ⟨trivial, trivial, trivial⟩

section
variable (n : Fin 64) (s : State) (clocks : Nat) (ain : List (Nat × List ModBit)) (lines : List (Nat × List Bool))

/-- STRIKE_ASSERT and STRIKE_CLEAR both end in the clocks' state (R25, R197). -/
theorem exec_strike : exec (.strikeAssert n clocks ain lines) s = done (chainStep clocks ain lines s) ∧
    exec (.strikeClear n clocks ain lines) s = done (chainStep clocks ain lines s) := ⟨rfl, rfl⟩

/-- The outputs judged count, and complete the run or do not. -/
theorem chainStep_counted {on : Bool} (he : s.bit (R.trmStkCfg_en n.val) = true) (hb : (s.strike n.val).blk = false) (hl : s.strikeLive n.val = on)
    (hx : ∀ x ∈ ((runChain clocks ain lines s).sincOf n.val).reverse, s.turns n.val on x) :
    (((runChain clocks ain lines s).sincOf n.val).reverse ≠ [] →
      (s.strike n.val).count on + ((runChain clocks ain lines s).sincOf n.val).reverse.length = s.run n.val on →
      (chainStep clocks ain lines s).strikeLive n.val = (!on) ∧
      (chainStep clocks ain lines s).arrBit R.trmStkStickyLo n.val = (!on || s.arrBit R.trmStkStickyLo n.val) ∧ (chainStep clocks ain lines s).trm.request = true) ∧
    ((s.strike n.val).count on + ((runChain clocks ain lines s).sincOf n.val).reverse.length < s.run n.val on →
      (chainStep clocks ain lines s).comparator n.val = ((s.strike n.val).counted on
        ((s.strike n.val).count on + ((runChain clocks ain lines s).sincOf n.val).reverse.length), on, s.arrBit R.trmStkStickyLo n.val)) := by
  have hu := chainRan n clocks ain lines s
  rw [List.length_reverse]
  refine ⟨fun hne hlen => ?_, fun hlen => ?_⟩
  · have hpos : 0 < ((runChain clocks ain lines s).sincOf n.val).length := List.length_pos_iff.mpr fun e => hne (by rw [e]; rfl)
    obtain ⟨-, h⟩ := strikeAll_counted n.isLt hu he hb hl hx (by omega) (Nat.le_of_eq hlen)
    rwa [if_neg (by omega)] at h
  · obtain ⟨-, h⟩ := strikeAll_counted n.isLt hu he hb hl hx (by omega) (Nat.le_of_lt hlen)
    rwa [if_pos hlen] at h

/-- A literal that reads 0 takes the block off (R198). -/
theorem takeBlock_open : ((takeBlock n.val false s).strike n.val).blk = false ∧
    ((takeBlock n.val false s).strike n.val).cnt = if (s.strike n.val).blk then 0 else (s.strike n.val).cnt := by
  have h : (takeBlock n.val false s).strike n.val =
      if (s.strike n.val).blk then { s.strike n.val with blk := false, cnt := 0, dcnt := 0 } else s.strike n.val := tget_tset_same ..
  rw [h]
  cases hb : (s.strike n.val).blk
  · exact ⟨hb, rfl⟩
  · exact ⟨rfl, rfl⟩

end

/-- A block literal's write by a master that reaches TRM (R198). -/
theorem exec_trmStkBlkWrite {m : Master} {s : State} (h : Reaches s m .trm) (n : Fin 64) (v : Word) : exec (.trmStkBlkWrite m n v) s =
    done (if litKind v.toNat = 2 ∨ 8 ≤ litKind v.toNat then s.raise .trm 0x0101 m.val else s.setReg (R.trmStkBlk n.val) v) := by
  show done (s.guarded m.val .trm _) = _
  rw [guarded_unlocked s m.val .trm _ h.1 h.2, ← storeReg_trmStkBlk s n.isLt]
  rfl

theorem exec_trmLatchRst {m : Master} {s : State} (h : Reaches s m .trm) (v : Word) : exec (.trmLatchRst m v) s = done (latchRstEffect v s) := by
  show done (s.guarded m.val .trm _) = _
  rw [guarded_unlocked s m.val .trm _ h.1 h.2]

/-- The least on-time of FOk is over, and a pass is due. -/
def endMinon (k : Nat) (s : State) : State := { s with trm := { s.trm with minon := tset none s.trm.minon k none, request := true } }

theorem exec_minonExpiry (k : Fin 16) (s : State) : exec (.minonExpiry k) s = if (tget none s.trm.minon k.val).isNone then done s else done (endMinon k.val s) := rfl

theorem exec_strikeBlockChange (n : Fin 64) (s : State) : exec (.strikeBlockChange n) s =
    done (if s.stkBlock n.val then strikeOut n.val false (takeBlock n.val (s.stkBlock n.val) s) else takeBlock n.val (s.stkBlock n.val) s) := rfl

/-- Settles O28, by counting the outputs that the comparator judges (`strikeAll_counted`) among those of the other channels. -/
theorem strikesCountSamples : Obligations.StrikesCountSamples := by
  unfold Obligations.StrikesCountSamples
  intro n s
  refine ⟨fun clocks ain lines u xs hu hxs => ?_, fun h => ?_, fun h => ?_, fun m v hr => ⟨fun h => ?_, fun h1 h2 => ?_, ?_⟩, fun k => ⟨fun h => ?_, fun h => ?_⟩⟩
  · subst hu hxs
    obtain ⟨ea, ec⟩ := exec_strike n s clocks ain lines
    obtain ⟨f1, f2, f3⟩ := fin_comparator (chainStep clocks ain lines s) n.val
    refine ⟨ec.trans ea.symm, completes_of_done ea ?_, fun he hb hl hx => ?_, fun he hb hl hx => ?_, fun ho hl => completes_of_done ea ?_⟩
    · obtain ⟨g1, g2, g3⟩ := chainStep_shows n clocks ain lines s
      have hw := within_chainStep clocks ain lines s
      refine ⟨?_, by rw [fin_dfc, g2], fun a => ?_, fun a h1 h2 h3 => ?_, by rw [fin_trm, g3]⟩
      · unfold State.sincOf at *
        rw [fin_dfc, g1]
      · rw [fin_mem]
        exact hw.part .mem (by decide) a
      · rw [fin_reg]
        exact hw.reg a (clocksFoot_clear h1 h2 h3)
    · obtain ⟨g1, g2⟩ := chainStep_counted n s clocks ain lines he hb hl hx
      refine ⟨fun h1 h2 => completes_of_done ea ?_, fun h => completes_of_done ea ?_⟩
      · obtain ⟨k1, k2, k3⟩ := g1 h1 h2
        rw [f2, f3, fin_trm]
        exact ⟨k1, k2, k3⟩
      · obtain ⟨k1, k2, k3⟩ := comparator_eq (g2 h)
        rw [f1, f2, f3, k1]
        exact ⟨k2, rfl, k3⟩
    · obtain ⟨g1, g2⟩ := chainStep_counted n s clocks ain lines he hb hl hx
      refine ⟨fun h1 h2 => completes_of_done ec ?_, fun h => completes_of_done ec ?_⟩
      · obtain ⟨k1, k2, k3⟩ := g1 h1 h2
        rw [f2, f3, fin_trm]
        exact ⟨k1, k2, k3⟩
      · obtain ⟨k1, k2, -⟩ := comparator_eq (g2 h)
        rw [f1, f2, k1]
        exact ⟨k2, rfl⟩
    · rw [f2, f3]
      exact strikeAll_off n.isLt (chainRan n clocks ain lines s) ho hl
  · have he : exec (.strikeBlockChange n) s = done (strikeOut n.val false (takeBlock n.val true s)) := by
      rw [exec_strikeBlockChange, h, if_pos rfl]
    have hw : strikeFoot.Within s (strikeOut n.val false (takeBlock n.val true s)) := (within_setStrike s n.val _).trans (within_strikeOut n.val n.isLt _ _)
    obtain ⟨g1, g2, g3, g4⟩ := takeBlock_blocked n s
    obtain ⟨f1, f2, -⟩ := fin_comparator (strikeOut n.val false (takeBlock n.val true s)) n.val
    refine completes_of_done he ?_
    rw [f1, f2]
    exact ⟨g1, g2, g3, g4, fun a => by rw [fin_mem]; exact hw.part .mem (by decide) a, hw.otherPages .trm 0xE rfl rfl⟩
  · have he : exec (.strikeBlockChange n) s = done (takeBlock n.val false s) := by
      rw [exec_strikeBlockChange, h, if_neg Bool.false_ne_true]
    have hw : (⟨[], [.trm], []⟩ : Foot).Within s (takeBlock n.val false s) := within_setStrike s n.val _
    obtain ⟨g1, g2⟩ := takeBlock_open n s
    obtain ⟨f1, f2, -⟩ := fin_comparator (takeBlock n.val false s) n.val
    refine completes_of_done he ?_
    rw [f1, f2]
    exact ⟨rfl, g1, g2, hw.frame⟩
  · rw [exec_trmStkBlkWrite hr, if_pos h]
    rfl
  · have he := exec_trmStkBlkWrite hr n v
    rw [if_neg (by omega)] at he
    have hw : (⟨[regZone (R.trmStkBlk n.val) (R.trmStkBlk n.val)], [], []⟩ : Foot).Within s (s.setReg (R.trmStkBlk n.val) v) :=
      within_setReg s _ v (by simp [Foot.has, Zone.holds])
    exact completes_of_done he ⟨by rw [fin_reg, reg_setReg_same], hw.frame (by simp) (by simp) (by simp)⟩
  · have hw : (⟨[], [.trm], []⟩ : Foot).Within s (latchRstEffect v s) := within_trm s _
    refine completes_of_done (exec_trmLatchRst hr v) ?_
    rw [fin_trm]
    exact ⟨rfl, rfl, rfl, hw.frame⟩
  · have he := exec_minonExpiry k s
    rw [if_neg (by rwa [Option.isNone_iff_eq_none])] at he
    have hw : (⟨[], [.trm], []⟩ : Foot).Within s (endMinon k.val s) := within_trm s _
    refine completes_of_done he ?_
    rw [fin_trm]
    exact ⟨tget_tset_same .., rfl, fun j hj => tget_tset_ne _ _ _ _ _ hj, rfl, hw.frame⟩
  · rw [exec_minonExpiry, if_pos (by rwa [Option.isNone_iff_eq_none])]
    rfl

end Sys2Proof.Machine

/-! # The queue of waiting commands

No function of the model but a step itself writes `pending`. One lemma per function says so, in the order in which the model
defines them; `simp` builds each from those before it, and where a body is long the proof names its stages and cites the
lemma of each. -/

namespace Sys2Proof.Machine
open Safety

/-! ## The means: choices, loops, the shared operations -/

/-- A state built with its fields listed has the queue it lists. Cited where a state is updated field by field, so that no field is unfolded. -/
theorem pending_mk (pending : List Instr) (regs : Table Word) (hdrs : Table PageHdr) (latches : Table Word) (mem : List Host.Cell) (out : List Emit) (free : Nat) (host : HostState) (time : TimeState) (afe : AfeState) (dfc : DfcState) (grid : GridState) (svs : SvsState) (phe : PheState) (pea : PeaState) (trm : TrmState) (dup : DupState) (evr : EvrState) (drc : DrcState) (sto : StoState) (jrnl : JrnlState) (life : LifeState) (lge : LgeState) (gos : GosState) (mac : MacState) (gal : GalState) (fio : FioState) (hka : HkaState) (sram : SramState) (dma : DmaState) (sys : SysState) :
    (State.mk pending regs hdrs latches mem out free host time afe dfc grid svs phe pea trm dup evr drc sto jrnl life lge gos mac gal fio hka sram dma sys).pending = pending := rfl

@[simp] theorem pending_ite {c : Prop} [Decidable c] (s t : State) : (if c then s else t).pending = if c then s.pending else t.pending :=
  apply_ite State.pending c s t

@[simp] theorem pending_snd_ite {α : Type} {c : Prop} [Decidable c] (x y : α × State) :
    (if c then x else y).2.pending = if c then x.2.pending else y.2.pending := apply_ite (fun z : α × State => z.2.pending) c x y

@[simp] theorem iterUp_pending {n : Nat} {f : Nat → State → State} (hf : ∀ i t, (f i t).pending = t.pending) (s : State) : (iterUp n f s).pending = s.pending :=
  iterUp_keeps State.pending hf s

@[simp] theorem foldl_pending {α : Type} {f : State → α → State} (hf : ∀ t x, (f t x).pending = t.pending) (l : List α) (s : State) :
    (l.foldl f s).pending = s.pending :=
  List.foldlRecOn (motive := fun u => u.pending = s.pending) l _ rfl fun u hu x _ => (hf u x).trans hu

@[simp] theorem guarded_pending {f : State → State} (hf : ∀ t, (f t).pending = t.pending) (s : State) (m : Nat) (p : Page) :
    (s.guarded m p f).pending = s.pending := by simp [State.guarded, hf]

@[simp] theorem ungated_pending {f : State → State} (hf : ∀ t, (f t).pending = t.pending) (s : State) (m : Nat) (p : Page) :
    (s.ungated m p f).pending = s.pending := by simp [State.ungated, hf]

@[simp] theorem setRegs_pending (ws : List Word) (a : Nat) (s : State) : (s.setRegs a ws).pending = s.pending := by
  induction ws generalizing a s with
  | nil => rfl
  | cons w ws ih => exact ih ..

@[simp] theorem complete_pending (s : State) (g : Grp) (ws : List Word) : (s.complete g ws).pending = s.pending := by
  unfold State.complete
  dsimp only
  split <;> simp

@[simp] theorem memFault_pending (s : State) (f : MemFail) (m a : Nat) (w : Bool) : (s.memFault f m a w).pending = s.pending := by
  cases f <;> simp [State.memFault]

@[simp] theorem engine_pending {f : State → State} (hf : ∀ t, (f t).pending = t.pending) (s : State) (m : Nat) (acc : List (Nat × Nat × Bool)) :
    (s.engine m acc f).pending = s.pending := by
  unfold State.engine
  split <;> simp [hf]

/-- `t` holds the queue of waiting commands that `s` holds. The structure keeps the comparison of two states from
unfolding them field by field, which an equation between their queues does not. -/
structure SameQueue (s t : State) : Prop where
  eq : t.pending = s.pending

namespace SameQueue
variable {s t u : State}

theorem refl (s : State) : SameQueue s s := ⟨rfl⟩

theorem step (e : u.pending = t.pending) (h : SameQueue s t) : SameQueue s u := ⟨e.trans h.eq⟩

theorem ite {c : Prop} [Decidable c] (ht : SameQueue s t) (hu : SameQueue s u) : SameQueue s (if c then t else u) := by
  split <;> assumption

/-- A choice between two pairs, given by a name for it. -/
theorem ite_snd {α : Type} {c : Prop} [Decidable c] {f x y : α × State} (hf : f = if c then x else y) (hx : SameQueue s x.2) (hy : SameQueue s y.2) :
    SameQueue s f.2 := by
  rw [hf]
  split <;> assumption

end SameQueue

/-- A proof that is not unfolded where it is used. After `generalize` and `revert` it keeps a function of the model
opaque in the proof term, where the kernel would else put the function back and evaluate it. -/
theorem kept {p : Prop} (h : p) : p := h

/-- What a structural recursion on a number keeps, said of its functional. -/
theorem brecOn_all {C : Nat → Type} (P : ∀ n, C n → Prop) {F : ∀ n, Nat.below (motive := C) n → C n}
    (h : ∀ n (b : Nat.below (motive := C) n), (∀ m (e : n = m + 1), P m (e ▸ b : Nat.below (motive := C) (m + 1)).1) → P n (F n b)) (n : Nat) :
    P n (Nat.brecOn n F) := by
  unfold Nat.brecOn
  induction n with
  | zero => exact h 0 _ (fun m e => nomatch e)
  | succ n ih => exact h (n + 1) _ fun m e => by cases e; exact ih

@[simp] theorem widthFault_pending (m a : ℕ) (s : State) : (widthFault m a s).pending = s.pending := by
  unfold widthFault
  split
  · exact ungated_pending (fun _ => by rfl) ..
  · exact ite_keeps rfl rfl

@[simp] theorem irqEnEffect_pending (p : Page) (v : Word) (s : State) : (irqEnEffect p v s).pending = s.pending := rfl

@[simp] theorem pendEffect_pending (p : Page) (v : Word) (s : State) : (pendEffect p v s).pending = s.pending := rfl

@[simp] theorem lockEffect_pending (p : Page) (v : Word) (s : State) : (lockEffect p v s).pending = s.pending := rfl

@[simp] theorem errEffect_pending (p : Page) (s : State) : (errEffect p s).pending = s.pending := rfl

@[simp] theorem updSys_pending (s : State) (f : SysState → SysState) : (State.updSys s f).pending = s.pending := rfl

@[simp] theorem profileEffect_pending (v : Word) (s : State) : (profileEffect v s).pending = s.pending := rfl

@[simp] theorem memberReset_pending (cause : ℕ) (s : State) : (memberReset cause s).pending = s.pending := rfl

@[simp] theorem rstCmdEffect_pending (m : ℕ) (v : Word) (s : State) : (rstCmdEffect m v s).pending = s.pending := by simp [rstCmdEffect]

@[simp] theorem cfgBegin_pending (s : State) (o : CfgOp) : (State.cfgBegin s o).pending = s.pending := rfl

@[simp] theorem addEv_pending (s : State) (e : Event) : (State.addEv s e).pending = s.pending := rfl

@[simp] theorem event_pending (s : State) (cls : ℕ) (code : ℕ) (index : ℕ) (d0 : Word) (d1 : Word) (d2 : ℕ) : (State.event s cls code index d0 d1 d2).pending = s.pending := rfl

@[simp] theorem rcResult_pending (outcome : ℕ) (w : LSwap) (s : State) : (rcResult outcome w s).pending = s.pending := by simp [rcResult]

@[simp] theorem jOffer_pending (s : State) (e : JEntry) : (State.jOffer s e).pending = s.pending := by simp [State.jOffer]

@[simp] theorem jDone_pending (s : State) (op : OpenOp) (outcome : ℕ) (data : List Word) : (State.jDone s op outcome data).pending = s.pending := by simp [State.jDone]

@[simp] theorem recastDone_pending (outcome : ℕ) (s : State) : (recastDone outcome s).pending = s.pending := by
  unfold recastDone
  split <;> simp

@[simp] theorem updLge_pending (s : State) (f : LgeState → LgeState) : (State.updLge s f).pending = s.pending := rfl

@[simp] theorem recastStop_pending (cause : ℕ) (s : State) : (recastStop cause s).pending = s.pending := by
  unfold recastStop
  dsimp only
  split <;> simp

@[simp] theorem requestPass_pending (s : State) : (State.requestPass s).pending = s.pending := rfl

@[simp] theorem setDs_pending (s : State) (d : ℕ) (x : DsPub) : (State.setDs s d x).pending = s.pending := rfl

@[simp] theorem updMac_pending (s : State) (p : ℕ) (f : MacPort → MacPort) : (State.updMac s p f).pending = s.pending := rfl

@[simp] theorem dsQueue_pending (d : ℕ) (first : Bool) (s : State) : (dsQueue d first s).pending = s.pending :=
  (within_dsQueue s d first).part .pending (by decide)

@[simp] theorem dsNew_pending (d : ℕ) (st : ℕ) (s : State) : (dsNew d st s).pending = s.pending := by simp [dsNew]

@[simp] theorem gosPass_pending (s : State) : (gosPass s).pending = s.pending := by simp [gosPass]

@[simp] theorem applySlice_pending (bs : List Byte) {enter : State → State} (he : ∀ t, (enter t).pending = t.pending) (s : State) :
    (applySlice bs enter s).pending = s.pending := by
  have h := (he _).trans (engine_pending (f := fun t => t.setBytes ownSlice (padSlice bs)) (fun _ => rfl) s 4 [(ownSlice, 192, true)])
  exact (gosPass_pending _).trans (ite_keeps h ((requestPass_pending _).trans h))

@[simp] theorem setLe_pending (s : State) (x : ℕ) : (State.setLe s x).pending = s.pending := rfl

@[simp] theorem lgeHalt_pending (state cause inst : ℕ) (s : State) : (lgeHalt state cause inst s).pending = s.pending := by
  unfold lgeHalt
  simp [applySlice_pending _ (fun t => (put_pending ..).trans (setLe_pending t state))]

@[simp] theorem lgeSafe_pending (cause : ℕ) (s : State) : (lgeSafe cause s).pending = s.pending := by simp [lgeSafe]

@[simp] theorem addLife_pending (s : State) (i : ℕ) (n : ℕ) : (State.addLife s i n).pending = s.pending := rfl

@[simp] theorem lgeStop_pending (cause : ℕ) (inst : ℕ) (s : State) : (lgeStop cause inst s).pending = s.pending := by simp [lgeStop]

@[simp] theorem prepResult_pending (status : ℕ) (p : LPrep) (s : State) : (prepResult status p s).pending = s.pending := by simp [prepResult]

@[simp] theorem setPhase_pending (s : State) (p : ℕ) : (State.setPhase s p).pending = s.pending := rfl

@[simp] theorem recastCancel_pending (s : State) : (recastCancel s).pending = s.pending := by
  unfold recastCancel
  dsimp only
  repeat' split
  all_goals simp

@[simp] theorem setFbi_pending (s : State) (i : ℕ) (r : GinBit × Bool) : (State.setFbi s i r).pending = s.pending := by simp [State.setFbi]

@[simp] theorem fbiRefresh_pending (i : ℕ) (s : State) : (fbiRefresh i s).pending = s.pending := by
  unfold fbiRefresh
  split
  · simp
  · split <;> simp

@[simp] theorem fbiFrom_pending (m : ℕ) (s : State) : (fbiFrom m s).pending = s.pending := by simp [fbiFrom]

@[simp] theorem fabricSend_pending (s : State) : (fabricSend s).pending = s.pending := by simp [fabricSend]

@[simp] theorem gosGateOpen_pending (s : State) : (gosGateOpen s).pending = s.pending := by simp [gosGateOpen]

@[simp] theorem startFlush_pending (s : State) (trip : Bool) : (State.startFlush s trip).pending = s.pending := by simp [State.startFlush]

@[simp] theorem shadowSend_pending (s : State) : (shadowSend s).pending = s.pending := by simp [shadowSend]

@[simp] theorem setDrv_pending (s : State) (v : ℕ) : (State.setDrv s v).pending = s.pending := by simp [State.setDrv]

@[simp] theorem jDoneAll_pending (s : State) (p : OpenOp → Bool) (outcome : ℕ) (data : OpenOp → List Word) : (State.jDoneAll s p outcome data).pending = s.pending := by simp [State.jDoneAll]

@[simp] theorem outputDone_pending (k : ℕ) (outcome : ℕ) (energy : ℕ) (cause : ℕ) (s : State) : (outputDone k outcome energy cause s).pending = s.pending := by simp [outputDone]

@[simp] theorem gosGateClose_pending (s : State) : (gosGateClose s).pending = s.pending :=
  (within_gosGateClose s).part .pending (by decide)

@[simp] theorem gateUpdate_pending (s : State) : (gateUpdate s).pending = s.pending := by simp [gateUpdate]

@[simp] theorem setAuth_pending (a : ℕ) (out : Bool) (s : State) : (setAuth a out s).pending = s.pending := by simp [setAuth]

@[simp] theorem toGuard_pending (relinquished : Bool) (s : State) : (toGuard relinquished s).pending = s.pending := by simp [toGuard]

@[simp] theorem relinquish_pending (s : State) : (relinquish s).pending = s.pending := by simp [relinquish]

@[simp] theorem latchSend_pending (old : ℕ) (s : State) : (latchSend old s).pending = s.pending := by simp [latchSend]

@[simp] theorem latchClear_pending (s : State) : (latchClear s).pending = s.pending := by simp [latchClear]

@[simp] theorem lineEvents_pending (old : ℕ) (s : State) : (lineEvents old s).pending = s.pending := by simp [lineEvents]

@[simp] theorem trmClear_pending (s : State) : (trmClear s).pending = s.pending :=
  (fabricSend_pending _).trans <| (gosPass_pending _).trans <| (setDrv_pending ..).trans <| (put_pending ..).trans <|
    (lineEvents_pending ..).trans <| (pending_mk ..).trans (latchClear_pending s)

@[simp] theorem fbRefresh_pending (s : State) : (fbRefresh s).pending = s.pending := by simp [fbRefresh]

@[simp] theorem trmCtrlEffect_pending (v : Word) (s : State) : (trmCtrlEffect v s).pending = s.pending := by
  refine ite_keeps ?_ (ite_keeps ?_ ?_)
  · exact (invalidate_pending ..).trans <| (trmClear_pending _).trans <| (putBit_pending ..).trans (storeReg_pending ..)
  · exact (requestPass_pending _).trans <| (latchClear_pending _).trans <| (putBit_pending ..).trans (storeReg_pending ..)
  · exact (fbRefresh_pending _).trans <| (putBit_pending ..).trans (storeReg_pending ..)

@[simp] theorem peaCtrlEffect_pending (v : Word) (s : State) : (peaCtrlEffect v s).pending = s.pending := by simp [peaCtrlEffect]

@[simp] theorem pheSettle_pending (s : State) : (pheSettle s).pending = s.pending := by simp [pheSettle]

@[simp] theorem pheCtrlEffect_pending (v : Word) (s : State) : (pheCtrlEffect v s).pending = s.pending := by simp [pheCtrlEffect]

@[simp] theorem setTrk_pending (s : State) (t : ℕ) : (State.setTrk s t).pending = s.pending := rfl

@[simp] theorem svsStat_pending (s : State) : (State.svsStat s).pending = s.pending := by simp [State.svsStat]

@[simp] theorem pheRestart_pending (s : State) : (pheRestart s).pending = s.pending := rfl

@[simp] theorem gridStart_pending (s : State) : (gridStart s).pending = s.pending := by simp [gridStart]

@[simp] theorem drcStat_pending (s : State) : (State.drcStat s).pending = s.pending := rfl

@[simp] theorem drcStop_pending (s : State) : (State.drcStop s).pending = s.pending := by simp [State.drcStop]

@[simp] theorem gridStopped_pending (s : State) : (gridStopped s).pending = s.pending := by simp [gridStopped]

@[simp] theorem gridHalt_pending (s : State) : (gridHalt s).pending = s.pending := by simp [gridHalt]

@[simp] theorem gridCtrlEffect_pending (v : Word) (s : State) : (gridCtrlEffect v s).pending = s.pending := by simp [gridCtrlEffect]

@[simp] theorem syncAlign_pending (s : State) : (syncAlign s).pending = s.pending := by
  unfold syncAlign
  split
  · rfl
  · have h (ph mv clk : _) (chan : _) : ((({ s with dfc := { s.dfc with phase := ph, origin := mv, syncAt := none, startPend := false, chan := chan, clk := clk } } : State).putBit
        R.dfcStat_run (s.bit R.dfcCtrl_en)).putBit R.dfcStat_synced (s.bit R.dfcCtrl_en)).pending = s.pending :=
      (putBit_pending ..).trans <| (putBit_pending ..).trans (pending_mk ..)
    exact ite_keeps (h ..) <| (pending_mk ..).trans <| (edge_pending ..).trans <| (putBit_pending ..).trans <| (complete_pending ..).trans (h ..)

@[simp] theorem dfcCtrlEffect_pending (v : Word) (s : State) : (dfcCtrlEffect v s).pending = s.pending := by simp [dfcCtrlEffect]

@[simp] theorem drcCtrlEffect_pending (m : ℕ) (v : Word) (s : State) : (drcCtrlEffect m v s).pending = s.pending := by simp [drcCtrlEffect]

@[simp] theorem drcTrunc_pending (s : State) (id : ℕ) : (State.drcTrunc s id).pending = s.pending := by
  unfold State.drcTrunc
  split <;> simp

@[simp] theorem drcTruncAll_pending (s : State) : (State.drcTruncAll s).pending = s.pending := by simp [State.drcTruncAll]

@[simp] theorem stopBlocks_pending (s : State) : (stopBlocks s).pending = s.pending := by simp [stopBlocks]

@[simp] theorem lifeSelEffect_pending (m : ℕ) (v : Word) (s : State) : (lifeSelEffect m v s).pending = s.pending := by simp [lifeSelEffect]

@[simp] theorem jCursorEffect_pending (v : Word) (s : State) : (jCursorEffect v s).pending = s.pending := rfl

@[simp] theorem jOpenGroup_pending (s : State) : (State.jOpenGroup s).pending = s.pending := by simp [State.jOpenGroup]

@[simp] theorem jResolveEffect_pending (m : ℕ) (v : Word) (s : State) : (jResolveEffect m v s).pending = s.pending := by
  unfold jResolveEffect
  split <;> simp

@[simp] theorem marchEffect_pending (m : ℕ) (v : Word) (s : State) : (marchEffect m v s).pending = s.pending := by simp [marchEffect]

@[simp] theorem bankCfgEffect_pending (m : ℕ) (b : ℕ) (v : Word) (s : State) : (bankCfgEffect m b v s).pending = s.pending := by simp [bankCfgEffect]

@[simp] theorem memFx_pending (m : ℕ) (o : ℕ) (v : Word) (s : State) : (memFx m o v s).pending = s.pending := by simp [memFx]

@[simp] theorem eccRead_pending (m : ℕ) (a : ℕ) (s : State) : (eccRead m a s).pending = s.pending := rfl

@[simp] theorem unpoison_pending (s : State) (a : ℕ) (len : ℕ) : (State.unpoison s a len).pending = s.pending := rfl

@[simp] theorem memStore_pending (s : State) (m : ℕ) (a : ℕ) (bs : List Byte) : (State.memStore s m a bs).pending = s.pending := by
  unfold State.memStore
  dsimp only
  split
  · split <;> simp
  · simp

@[simp] theorem remoteFrames_pending (k : ℕ) (o : ℕ) (len : ℕ) (data : Option (List Byte)) (s : State) : (remoteFrames k o len data s).pending = s.pending := by simp [remoteFrames]

@[simp] theorem fresh_pending (s : State) : (State.fresh s).2.pending = s.pending := rfl

@[simp] theorem remoteTry_pending (k : ℕ) (o : ℕ) (len : ℕ) (data : Option (List Byte)) (s : State) : (remoteTry k o len data s).2.pending = s.pending := by simp [remoteTry]

@[simp] theorem devWrite_pending (s : State) (m : ℕ) (a : ℕ) (bs : List Byte) : (State.devWrite s m a bs).2.pending = s.pending := by
  unfold State.devWrite
  split
  · simp
  · split <;> simp

@[simp] theorem chCur_pending (n : ℕ) (s : State) : (chCur n s).pending = s.pending := by simp [chCur]

@[simp] theorem chIrq_pending (s : State) (n : ℕ) (b : ℕ) : (State.chIrq s n b).pending = s.pending := rfl

@[simp] theorem chWriteBack_pending (n : ℕ) (code : ℕ) (s : State) : (chWriteBack n code s).pending = s.pending := by
  unfold chWriteBack
  split <;> simp

@[simp] theorem setChSt_pending (s : State) (n : ℕ) (x : ℕ) : (State.setChSt s n x).pending = s.pending := by simp [State.setChSt]

@[simp] theorem setChan_pending (s : State) (n : ℕ) (x : DmaChan) : (State.setChan s n x).pending = s.pending := rfl

@[simp] theorem chAbort_pending (n : ℕ) (s : State) : (chAbort n s).pending = s.pending := by simp [chAbort]

@[simp] theorem dmaCtrlEffect_pending (v : Word) (s : State) : (dmaCtrlEffect v s).pending = s.pending := by simp [dmaCtrlEffect]

@[simp] theorem chCtrlEffect_pending (n : ℕ) (v : Word) (s : State) : (chCtrlEffect n v s).pending = s.pending := by simp [chCtrlEffect]

@[simp] theorem chHeadEffect_pending (m : ℕ) (n : ℕ) (w : ℕ) (v : Word) (s : State) : (chHeadEffect m n w v s).pending = s.pending := by simp [chHeadEffect]

@[simp] theorem chNext_pending (n : ℕ) (a : ℕ) (s : State) : (chNext n a s).pending = s.pending := rfl

@[simp] theorem memLoad_pending (s : State) (m : ℕ) (a : ℕ) (n : ℕ) : (State.memLoad s m a n).2.pending = s.pending := by
  unfold State.memLoad
  dsimp only
  split
  · split <;> simp
  · simp

@[simp] theorem freshBytes_pending (n : ℕ) (s : State) : (freshBytes n s).2.pending = s.pending :=
  List.foldlRecOn (motive := fun r : List Byte × State => r.2.pending = s.pending) _ _ rfl fun _ h _ _ => h

@[simp] theorem devRead_pending (s : State) (m : ℕ) (a : ℕ) (n : ℕ) : (State.devRead s m a n).2.2.pending = s.pending := by
  unfold State.devRead
  dsimp only
  repeat' split
  all_goals simp

@[simp] theorem chLink_pending (n : ℕ) (s : State) : (chLink n s).2.2.2.pending = s.pending := by
  unfold chLink
  dsimp only
  split
  · simp
  · split <;> simp

@[simp] theorem setLast_pending (s : State) (n : ℕ) (a : ℕ) : (State.setLast s n a).pending = s.pending := rfl

@[simp] theorem chFail_pending (n : ℕ) (code : ℕ) (s : State) : (chFail n code s).pending = s.pending := by simp [chFail]

@[simp] theorem chKickEffect_pending (m : ℕ) (n : ℕ) (v : Word) (s : State) : (chKickEffect m n v s).pending = s.pending := by
  unfold chKickEffect
  split
  · simp
  · split <;> simp

@[simp] theorem dmaFx_pending (m : ℕ) (o : ℕ) (v : Word) (s : State) : (dmaFx m o v s).pending = s.pending := by simp [dmaFx]

@[simp] theorem updAin_pending (s : State) (n : ℕ) (f : AinChan → AinChan) : (State.updAin s n f).pending = s.pending := rfl

@[simp] theorem owEnd_pending (s : State) (n : ℕ) : (State.owEnd s n).pending = s.pending := rfl

@[simp] theorem modReady_pending (s : State) : (State.modReady s).pending = s.pending := by simp [State.modReady]

@[simp] theorem afeCtrlEffect_pending (m : ℕ) (v : Word) (s : State) : (afeCtrlEffect m v s).pending = s.pending := by simp [afeCtrlEffect]

@[simp] theorem afeAinCfgEffect_pending (m : ℕ) (n : ℕ) (v : Word) (s : State) : (afeAinCfgEffect m n v s).pending = s.pending := by simp [afeAinCfgEffect]

@[simp] theorem bsiStat_pending (s : State) (n : ℕ) : (State.bsiStat s n).pending = s.pending := by simp [State.bsiStat]

@[simp] theorem afeBsiCfgEffect_pending (m : ℕ) (n : ℕ) (v : Word) (s : State) : (afeBsiCfgEffect m n v s).pending = s.pending := by simp [afeBsiCfgEffect]

@[simp] theorem afeFx_pending (m : ℕ) (o : ℕ) (v : Word) (s : State) : (afeFx m o v s).pending = s.pending := by simp [afeFx]

@[simp] theorem swapPend_pending (s : State) : (State.swapPend s).pending = s.pending := rfl

@[simp] theorem hbSwapEffect_pending (v : Word) (s : State) : (hbSwapEffect v s).pending = s.pending := rfl

@[simp] theorem syncRequest_pending (s : State) (cross : ℕ) : (State.syncRequest s cross).pending = s.pending := by simp [State.syncRequest]

@[simp] theorem syncCmdEffect_pending (m : ℕ) (v : Word) (s : State) : (syncCmdEffect m v s).pending = s.pending := by simp [syncCmdEffect]

@[simp] theorem dfcIntEffect_pending (m : ℕ) (n : ℕ) (v : Word) (s : State) : (dfcIntEffect m n v s).pending = s.pending := by simp [dfcIntEffect]

@[simp] theorem coefEffect_pending (m : ℕ) (bank : ℕ) (k : ℕ) (v : Word) (s : State) : (coefEffect m bank k v s).pending = s.pending := by simp [coefEffect]

@[simp] theorem dfcFx_pending (m o : ℕ) (v : Word) (s : State) : (dfcFx m o v s).pending = s.pending := by
  unfold dfcFx
  refine ite_keeps (dfcCtrlEffect_pending ..) (ite_keeps (hbSwapEffect_pending ..) (ite_keeps (syncCmdEffect_pending ..) (ite_keeps (dfcIntEffect_pending ..) ?_)))
  split
  · exact coefEffect_pending ..
  · exact storeReg_pending ..

@[simp] theorem gridTrkEffect_pending (m : ℕ) (v : Word) (s : State) : (gridTrkEffect m v s).pending = s.pending := by simp [gridTrkEffect]

@[simp] theorem gridAlignEffect_pending (m : ℕ) (v : Word) (s : State) : (gridAlignEffect m v s).pending = s.pending := by simp [gridAlignEffect]

@[simp] theorem gridFx_pending (m : ℕ) (o : ℕ) (v : Word) (s : State) : (gridFx m o v s).pending = s.pending := by simp [gridFx]

@[simp] theorem svsCtrlEffect_pending (v : Word) (s : State) : (svsCtrlEffect v s).pending = s.pending := by simp [svsCtrlEffect]

@[simp] theorem updSlot_pending (s : State) (k : ℕ) (f : SvSlot → SvSlot) : (State.updSlot s k f).pending = s.pending := rfl

@[simp] theorem slotCfgEffect_pending (m k w : ℕ) (v : Word) (s : State) : (slotCfgEffect m k w v s).pending = s.pending := by
  refine ite_keeps (raise_pending ..) (ite_keeps (setReg_pending ..) (ite_keeps (raise_pending ..) (ite_keeps (raise_pending ..) (ite_keeps (raise_pending ..) ((svsStat_pending _).trans ?_)))))
  exact ite_keeps ((engine_pending (fun _ => by rfl) ..).trans <| (updSlot_pending ..).trans (setReg_pending ..))
    (ite_keeps ((invalidate_pending ..).trans <| (updSlot_pending ..).trans (setReg_pending ..)) (setReg_pending ..))

@[simp] theorem svsFx_pending (m : ℕ) (o : ℕ) (v : Word) (s : State) : (svsFx m o v s).pending = s.pending := by simp [svsFx]

@[simp] theorem setPheCost_pending (s : State) : (State.setPheCost s).pending = s.pending := rfl

@[simp] theorem pheQCfgEffect_pending (m : ℕ) (q : ℕ) (v : Word) (s : State) : (pheQCfgEffect m q v s).pending = s.pending := by simp [pheQCfgEffect]

@[simp] theorem pheGrpEffect_pending (m : ℕ) (g : ℕ) (v : Word) (s : State) : (pheGrpEffect m g v s).pending = s.pending := by simp [pheGrpEffect]

@[simp] theorem pheFx_pending (m : ℕ) (o : ℕ) (v : Word) (s : State) : (pheFx m o v s).pending = s.pending := by simp [pheFx]

@[simp] theorem liveGoEffect_pending (m : ℕ) (v : Word) (s : State) : (liveGoEffect m v s).pending = s.pending := by simp [liveGoEffect]

@[simp] theorem peaFx_pending (m : ℕ) (o : ℕ) (v : Word) (s : State) : (peaFx m o v s).pending = s.pending := by simp [peaFx]

@[simp] theorem latchRstEffect_pending (v : Word) (s : State) : (latchRstEffect v s).pending = s.pending := rfl

@[simp] theorem fbCfgEffect_pending (a : ℕ) (v : Word) (s : State) : (fbCfgEffect a v s).pending = s.pending := by simp [fbCfgEffect]

@[simp] theorem foStep_pending (k : ℕ) (s : State) : (foStep k s).pending = s.pending := by
  refine SameQueue.eq ?_
  unfold foStep
  refine .ite (.step (setRegBit_pending ..) <| .step (pending_mk ..) (.refl s)) ?_
  extract_lets f sel t latch on was m minon
  have ht : SameQueue s t := .ite_snd (f := f) rfl (.refl s) (.step (fresh_pending s) (.refl s))
  exact .step (setRegBit_pending ..) <| .step (pending_mk ..) ht

@[simp] theorem foCfgEffect_pending (k : ℕ) (v : Word) (s : State) : (foCfgEffect k v s).pending = s.pending := by simp [foCfgEffect]

@[simp] theorem setStrike_pending (s : State) (n : ℕ) (x : StrikeState) : (State.setStrike s n x).pending = s.pending := rfl

@[simp] theorem drcSee_pending (s : State) : (State.drcSee s).pending = s.pending := rfl

@[simp] theorem strikeOut_pending (n : ℕ) (on : Bool) (s : State) : (strikeOut n on s).pending = s.pending := by simp [strikeOut]

@[simp] theorem stkCfgEffect_pending (n : ℕ) (v : Word) (s : State) : (stkCfgEffect n v s).pending = s.pending := by simp [stkCfgEffect]

@[simp] theorem stkBlkEffect_pending (m : ℕ) (n : ℕ) (v : Word) (s : State) : (stkBlkEffect m n v s).pending = s.pending := by simp [stkBlkEffect]

@[simp] theorem trmFx_pending (m : ℕ) (o : ℕ) (v : Word) (s : State) : (trmFx m o v s).pending = s.pending := by simp [trmFx]

@[simp] theorem fiState_pending (n : ℕ) (v : Bool) (s : State) : (fiState n v s).pending = s.pending := by simp [fiState]

@[simp] theorem updFo_pending (s : State) (k : ℕ) (f : FoChan → FoChan) : (State.updFo s k f).pending = s.pending := rfl

@[simp] theorem setFo_pending (s : State) (k : ℕ) (st : ℕ) : (State.setFo s k st).pending = s.pending := rfl

@[simp] theorem healthLoss_pending (s : State) : (healthLoss s).pending = s.pending := by simp [healthLoss]

@[simp] theorem dieLost_pending (d : ℕ) (s : State) : (dieLost d s).pending = s.pending := by simp [dieLost]

@[simp] theorem ovlEnter_pending (k : ℕ) (s : State) : (ovlEnter k s).pending = s.pending := by simp [ovlEnter]

@[simp] theorem jOpen_pending (s : State) (cls : ℕ) (data : List Word) : (State.jOpen s cls data).pending = s.pending := by simp [State.jOpen]

@[simp] theorem outputOpen_pending (k : ℕ) (s : State) : (outputOpen k s).pending = s.pending := by simp [outputOpen]

@[simp] theorem foRest_pending (k : ℕ) (s : State) : (foRest k s).pending = s.pending := by simp [foRest]

@[simp] theorem uvloClear_pending (g : ℕ) (s : State) : (uvloClear g s).pending = s.pending := by simp [uvloClear]

@[simp] theorem fioCtrlEffect_pending (v : Word) (s : State) : (fioCtrlEffect v s).pending = s.pending := by
  refine (iterUp_pending (fun g t => ?_) _).trans (ite_keeps ?_ (ite_keeps ?_ (storeReg_pending ..)))
  · exact ite_keeps (uvloClear_pending ..) rfl
  · exact (iterUp_pending (fun _ _ => fiState_pending ..) _).trans <| (pending_mk ..).trans (storeReg_pending ..)
  · refine (iterUp_pending (fun _ _ => by rfl) _).trans <| (iterUp_pending (fun _ _ => by rfl) _).trans <|
      (dieLost_pending ..).trans <| (dieLost_pending ..).trans (storeReg_pending ..)

@[simp] theorem rearmOne_pending (m : ℕ) (g : ℕ) (s : State) : (rearmOne m g s).pending = s.pending := by simp [rearmOne]

@[simp] theorem rearmEffect_pending (m : ℕ) (v : Word) (s : State) : (rearmEffect m v s).pending = s.pending := by simp [rearmEffect]

@[simp] theorem fiFltEffect_pending (m : ℕ) (n : ℕ) (v : Word) (s : State) : (fiFltEffect m n v s).pending = s.pending := by simp [fiFltEffect]

@[simp] theorem tcsSet_pending (k : ℕ) (v : Bool) (s : State) : (tcsSet k v s).pending = s.pending := rfl

@[simp] theorem foCfgWriteEffect_pending (k : ℕ) (v : Word) (s : State) : (foCfgWriteEffect k v s).pending = s.pending := by simp [foCfgWriteEffect]

@[simp] theorem fioFx_pending (m : ℕ) (o : ℕ) (v : Word) (s : State) : (fioFx m o v s).pending = s.pending := by simp [fioFx]

@[simp] theorem hkaBegin_pending (r : HkaRun) (s : State) : (hkaBegin r s).pending = s.pending := by simp [hkaBegin]

@[simp] theorem hkaNext_pending (s : State) : (hkaNext s).pending = s.pending := by
  unfold hkaNext
  split
  · simp
  · split <;> simp

@[simp] theorem hkaPass_pending (s : State) : (hkaPass s).pending = s.pending := by
  unfold hkaPass
  dsimp only
  split <;> simp

@[simp] theorem hkaCtrlEffect_pending (m : ℕ) (v : Word) (s : State) : (hkaCtrlEffect m v s).pending = s.pending := by simp [hkaCtrlEffect]

@[simp] theorem hkaUrgEffect_pending (m : ℕ) (v : Word) (s : State) : (hkaUrgEffect m v s).pending = s.pending := by
  unfold hkaUrgEffect
  dsimp only
  repeat' split
  all_goals simp

@[simp] theorem hkaFx_pending (m : ℕ) (o : ℕ) (v : Word) (s : State) : (hkaFx m o v s).pending = s.pending := by simp [hkaFx]

@[simp] theorem lgeCtrlEffect_pending (v : Word) (s : State) : (lgeCtrlEffect v s).pending = s.pending := by simp [lgeCtrlEffect]

@[simp] theorem lgeWdtEffect_pending (m : ℕ) (v : Word) (s : State) : (lgeWdtEffect m v s).pending = s.pending := by simp [lgeWdtEffect]

@[simp] theorem writeHeaders_pending (base : ℕ) (p : LProg) (cells : List LCell) (forced : ℕ → Bool) (s : State) :
    (writeHeaders base p cells forced s).pending = s.pending :=
  foldl_pending (fun t k => by split <;> rfl) _ s

@[simp] theorem ownHeaders_pending (s : State) : (State.ownHeaders s).pending = s.pending := by
  unfold State.ownHeaders
  split <;> simp

@[simp] theorem forceStat_pending (s : State) : (State.forceStat s).pending = s.pending := by simp [State.forceStat]

@[simp] theorem forceApply_pending (c : LForceCmd) (s : State) : (forceApply c s).pending = s.pending := by
  refine ite_keeps ?_ ?_
  · simp
  · exact (foldl_pending (fun _ _ => by rfl) ..).trans (by simp)

@[simp] theorem lgeBegin_pending (cold : Bool) (p : LProg) (s : State) : (lgeBegin cold p s).pending = s.pending := by simp [lgeBegin]

@[simp] theorem lgeCmdEffect_pending (m : ℕ) (v : Word) (s : State) : (lgeCmdEffect m v s).pending = s.pending := by
  refine ite_keeps (lgeStop_pending ..) (ite_keeps rfl (ite_keeps rfl ?_))
  split
  · exact ite_keeps rfl (ite_keeps (lgeBegin_pending ..) rfl)
  · rfl

@[simp] theorem forceWaiting_pending (s : State) : (forceWaiting s).pending = s.pending := by simp [forceWaiting]

@[simp] theorem forceResult_pending (sym : Word) (s : State) : (forceResult sym s).pending = s.pending := rfl

@[simp] theorem forceCmdEffect_pending (m : ℕ) (v : Word) (s : State) : (forceCmdEffect m v s).pending = s.pending := by
  unfold forceCmdEffect
  extract_lets op y after accept
  have hacc (c : LForceCmd) (t : State) : (accept c t).pending = t.pending := by
    simp only [accept]
    split <;> simp
  refine ite_keeps rfl (ite_keeps rfl (ite_keeps (ite_keeps rfl (ite_keeps rfl (hacc ..))) (ite_keeps (ite_keeps (hacc ..) rfl) (hacc ..))))

@[simp] theorem prepRun_pending (status : ℕ) (new : LProg) (s : State) : (prepRun status new s).pending = s.pending :=
  (foldl_pending (fun _ _ => by rfl) _ _).trans <| (invalidate_pending ..).trans <| (setPhase_pending ..).trans (updLge_pending ..)

@[simp] theorem swapSets_pending (s : State) : (State.swapSets s).pending = s.pending := rfl

@[simp] theorem roleSwitch_pending (s : State) : (roleSwitch s).pending = s.pending :=
  (putBit_pending ..).trans <| (put_pending ..).trans <| (ownHeaders_pending _).trans <|
    (foldl_pending (fun _ _ => engine_pending (fun _ => by rfl) ..) _ _).trans <|
      (updLge_pending ..).trans <| (swapSets_pending _).trans (updLge_pending ..)

@[simp] theorem stoppedSwitch_pending (rollback : Bool) (s : State) : (stoppedSwitch rollback s).pending = s.pending :=
  (rcResult_pending ..).trans <| (applySlice_pending _ (fun _ => by rfl) _).trans <| (setPhase_pending ..).trans (roleSwitch_pending s)

@[simp] theorem recastAbort_pending (m : ℕ) (s : State) : (recastAbort m s).pending = s.pending := by
  unfold recastAbort
  split <;> simp

@[simp] theorem rcCmdEffect_pending (m : ℕ) (v : Word) (img : LImage) (s : State) : (rcCmdEffect m v img s).pending = s.pending := by simp [rcCmdEffect]

@[simp] theorem lgeFx_pending (m : ℕ) (o : ℕ) (v : Word) (s : State) : (lgeFx m o v s).pending = s.pending := by simp [lgeFx]

@[simp] theorem evrCtrlEffect_pending (v : Word) (s : State) : (evrCtrlEffect v s).pending = s.pending := rfl

@[simp] theorem evrSqEffect_pending (m : ℕ) (v : Word) (s : State) : (evrSqEffect m v s).pending = s.pending := by simp [evrSqEffect]

@[simp] theorem evrCursorEffect_pending (v : Word) (s : State) : (evrCursorEffect v s).pending = s.pending := rfl

@[simp] theorem evWrite_pending (s : State) (e : Event) : (s.evWrite e).pending = s.pending :=
  have h := engine_pending (f := fun t => t.setWords (evAddr s.evr.next) (e.words s.evr.next)) (fun _ => by rfl) s 7 [(evAddr s.evr.next, 32, true)]
  ite_keeps ((startFlush_pending ..).trans <| (pending_mk ..).trans h) ((pending_mk ..).trans h)

@[simp] theorem evrClear_pending (m : ℕ) (s : State) : (evrClear m s).pending = s.pending := by simp [evrClear]

@[simp] theorem evrDisarm_pending (s : State) : (evrDisarm s).pending = s.pending := rfl

@[simp] theorem evrClrEffect_pending (m : ℕ) (v : Word) (s : State) : (evrClrEffect m v s).pending = s.pending := by simp [evrClrEffect]

@[simp] theorem evrUserEffect_pending (m : ℕ) (v : Word) (s : State) : (evrUserEffect m v s).pending = s.pending := rfl

@[simp] theorem evrFx_pending (m : ℕ) (o : ℕ) (v : Word) (s : State) : (evrFx m o v s).pending = s.pending := by simp [evrFx]

@[simp] theorem drcRingEffect_pending (m : ℕ) (a : ℕ) (v : Word) (s : State) : (drcRingEffect m a v s).pending = s.pending := by simp [drcRingEffect]

theorem stoFind_pending (n p : ℕ) (j : Bool) (s : State) : ∀ x ∈ stoFind n s p j, x.1.pending = s.pending := by
  induction n generalizing s p j with
  | zero => simp [stoFind]
  | succ n ih =>
    unfold stoFind
    dsimp only
    split
    · split <;> simp
    · split
      · exact ih _ _ _
      · split
        · exact ih _ _ { s with sto := _ }
        · simp

@[simp] theorem stoUpd_pending (s : State) (id : ℕ) (f : StoRec → StoRec) : (State.stoUpd s id f).pending = s.pending := by simp [State.stoUpd]

theorem stoTake_pending (id : ℕ) (s : State) : ∀ u ∈ s.stoTake id, u.pending = s.pending := by
  intro u hu
  unfold State.stoTake at hu
  split at hu
  · simp at hu
  · next s' p j h =>
    have hs := stoFind_pending _ _ _ _ _ h
    split at hu
    · simp at hu
    · extract_lets runs at hu
      simp only [Option.mem_def, Option.ite_none_left_eq_some, Option.some.injEq] at hu
      obtain ⟨-, rfl⟩ := hu
      exact (stoUpd_pending ..).trans <| (pending_mk ..).trans hs

@[simp] theorem stoDir_pending (s : State) : (State.stoDir s).pending = s.pending := by simp [State.stoDir]

@[simp] theorem drcTrigger_pending (cause lines : ℕ) (s : State) : (drcTrigger cause lines s).pending = s.pending := by
  refine SameQueue.eq ?_
  unfold drcTrigger
  refine .ite (.refl s) ?_
  extract_lets +onlyGivenNames row t0 last live s1
  have h1 : SameQueue s s1 := .step (edge_pending ..) <| .step (startFlush_pending ..) (.refl s)
  have hl (t : State) (a b : ℕ) (h : SameQueue s t) : SameQueue s (last t a b) := .step (complete_pending ..) h
  clear_value last s1
  split
  · exact hl _ _ _ <| .step (event_pending ..) <| .step (pending_mk ..) h1
  · refine .ite (hl _ _ _ <| .step (edge_pending ..) <| .step (event_pending ..) <| .step (pending_mk ..) h1) ?_
    refine hl _ _ _ <| .step (stoDir_pending _) <| .step (drcStat_pending _) ?_
    have hn (t : State) (h : SameQueue s t) : SameQueue s (t.drcTrunc (s1.sto.newest + 1)) := .step (drcTrunc_pending ..) h
    split
    · next h => exact .step (stoTake_pending _ _ _ h) <| .step (event_pending ..) <| .step (pending_mk ..) <| .step (jOpen_pending ..) h1
    · refine hn _ (.ite (.step (putBit_pending ..) ?_) ?_)
      all_goals exact .step (event_pending ..) <| .step (pending_mk ..) <| .step (jOpen_pending ..) h1

@[simp] theorem drcCmdEffect_pending (v : Word) (s : State) : (drcCmdEffect v s).pending = s.pending := by simp [drcCmdEffect]

@[simp] theorem drcFx_pending (m : ℕ) (o : ℕ) (v : Word) (s : State) : (drcFx m o v s).pending = s.pending := by simp [drcFx]

@[simp] theorem stoCtrlEffect_pending (v : Word) (s : State) : (stoCtrlEffect v s).pending = s.pending := by simp [stoCtrlEffect]

@[simp] theorem freeBytes_pending (s : State) (n : ℕ) : (State.freeBytes s n).2.pending = s.pending := by simp [State.freeBytes]

@[simp] theorem stoBegin_pending (s : State) (op : ℕ) (status : ℕ) (bytes : ℕ) : (State.stoBegin s op status bytes).pending = s.pending := rfl

@[simp] theorem stoOp_pending {eff : State → State} (he : ∀ t, (eff t).pending = t.pending) (m op : ℕ) (s : State) :
    (stoOp m op eff s).pending = s.pending :=
  ite_keeps rfl (ite_keeps (stoBegin_pending ..) (he s))

@[simp] theorem stoCopy_pending (s : State) (op : ℕ) (bs : List Byte) : (s.stoCopy op bs).pending = s.pending := by
  have hw := devWrite_pending
  unfold State.stoCopy
  generalize State.devWrite = write at hw ⊢
  revert write
  refine kept fun write hw => ?_
  exact ite_keeps (stoBegin_pending ..) <| ite_keeps ((stoBegin_pending ..).trans (hw ..)) ((stoBegin_pending ..).trans <| (fresh_pending _).trans (hw ..))

@[simp] theorem stoReadEff_pending (data : List Byte) (s : State) : (stoReadEff data s).pending = s.pending := by
  unfold stoReadEff
  split <;> simp

@[simp] theorem stoRecEff_pending (op : ℕ) (s : State) : (stoRecEff op s).pending = s.pending := by
  refine SameQueue.eq ?_
  unfold stoRecEff
  split
  · exact .step (stoBegin_pending ..) (.refl s)
  · refine .ite (.step (stoBegin_pending ..) (.refl s)) (.step (stoBegin_pending ..) <| .step (stoDir_pending _) ?_)
    have h (t : State) (ht : SameQueue s t) : SameQueue s (if t.bit R.stoStat_full then t.putBit R.stoStat_full false else t) :=
      .ite (.step (putBit_pending ..) ht) ht
    refine h _ ?_
    split
    · exact .step (pending_mk ..) (.refl s)
    all_goals exact .step (stoUpd_pending ..) (.refl s)

@[simp] theorem stoFormatEff_pending (m : ℕ) (v : Word) (s : State) : (stoFormatEff m v s).pending = s.pending := by simp [stoFormatEff]

@[simp] theorem stoDirentEff_pending (data : List Byte) (s : State) : (stoDirentEff data s).pending = s.pending := by
  unfold stoDirentEff
  split
  · exact stoBegin_pending ..
  · exact stoCopy_pending ..

@[simp] theorem stoCmdEffect_pending (m : ℕ) (v : Word) (data : List Byte) (s : State) : (stoCmdEffect m v data s).pending = s.pending := by
  unfold stoCmdEffect
  split <;> simp

@[simp] theorem stoCmdFree_pending (m : ℕ) (v : Word) (s : State) : (stoCmdFree m v s).pending = s.pending := by
  unfold stoCmdFree
  split <;> simp

@[simp] theorem stoFx_pending (m : ℕ) (o : ℕ) (v : Word) (s : State) : (stoFx m o v s).pending = s.pending := by simp [stoFx]

@[simp] theorem updTime_pending (s : State) (f : TimeState → TimeState) : (State.updTime s f).pending = s.pending := rfl

@[simp] theorem wallLeave_pending (x : ℕ) (s : State) : (wallLeave x s).pending = s.pending := rfl

@[simp] theorem gridShow_pending (s : State) : (gridShow s).pending = s.pending := by simp [gridShow]

@[simp] theorem gopAnswer_pending (origin : ℕ) (seq : ℕ) (late : Bool) (s : State) : (gopAnswer origin seq late s).pending = s.pending := by simp [gopAnswer]

@[simp] theorem gopDiscard_pending (s : State) : (gopDiscard s).pending = s.pending := by simp [gopDiscard]

@[simp] theorem svsGridSet_pending (s : State) : (svsGridSet s).pending = s.pending :=
  iterUp_pending (fun _ _ => by rfl) s

@[simp] theorem gridSetNow_pending (s : State) : (gridSetNow s).pending = s.pending := by simp [gridSetNow]

@[simp] theorem overcastRate_pending (s : State) : (overcastRate s).pending = s.pending := by simp [overcastRate]

@[simp] theorem refuse_pending (s : State) : (refuse s).pending = s.pending := by simp [refuse]

@[simp] theorem trackRate_pending (s : State) : (trackRate s).pending = s.pending := by simp [trackRate]

@[simp] theorem gridUpdate_pending (s : State) : (gridUpdate s).pending = s.pending := by simp [gridUpdate]

@[simp] theorem blendStat_pending (s : State) : (State.blendStat s).pending = s.pending := rfl

@[simp] theorem wallStep_pending (delta : ℤ) (s : State) : (wallStep delta s).pending = s.pending := rfl

@[simp] theorem wallFollow_pending (d : ℕ) (s : State) : (wallFollow d s).pending = s.pending := by simp [wallFollow]

@[simp] theorem wallUpdate_pending (s : State) : (wallUpdate s).pending = s.pending := by simp [wallUpdate]

@[simp] theorem sourceUpdate_pending (s : State) : (sourceUpdate s).pending = s.pending := by simp [sourceUpdate]

@[simp] theorem timCtrlEffect_pending (v : Word) (s : State) : (timCtrlEffect v s).pending = s.pending := by simp [timCtrlEffect]

@[simp] theorem setDom_pending (s : State) (d : ℕ) (x : ℕ) : (State.setDom s d x).pending = s.pending := rfl

@[simp] theorem updDom_pending (s : State) (d : ℕ) (f : PtpDom → PtpDom) : (State.updDom s d f).pending = s.pending := rfl

@[simp] theorem domCfgEffect_pending (m : ℕ) (d : ℕ) (v : Word) (s : State) : (domCfgEffect m d v s).pending = s.pending := by simp [domCfgEffect]

@[simp] theorem gridCmdEffect_pending (m : ℕ) (v : Word) (s : State) : (gridCmdEffect m v s).pending = s.pending := by simp [gridCmdEffect]

@[simp] theorem wallSetEffect_pending (m : ℕ) (v : Word) (s : State) : (wallSetEffect m v s).pending = s.pending := by simp [wallSetEffect]

@[simp] theorem snapCmdEffect_pending (v : Word) (s : State) : (snapCmdEffect v s).pending = s.pending := by simp [snapCmdEffect]

@[simp] theorem timFx_pending (m : ℕ) (o : ℕ) (v : Word) (s : State) : (timFx m o v s).pending = s.pending := by simp [timFx]

@[simp] theorem macCtrlEffect_pending (p : ℕ) (v : Word) (s : State) : (macCtrlEffect p v s).pending = s.pending := by simp [macCtrlEffect]

@[simp] theorem maxlenEffect_pending (m : ℕ) (p : ℕ) (v : Word) (s : State) : (maxlenEffect m p v s).pending = s.pending := by simp [maxlenEffect]

@[simp] theorem tailEffect_pending (p : ℕ) (q : ℕ) (v : Word) (s : State) : (tailEffect p q v s).pending = s.pending := by simp [tailEffect]

@[simp] theorem ringCfgEffect_pending (m : ℕ) (p : ℕ) (q : ℕ) (w : ℕ) (v : Word) (s : State) : (ringCfgEffect m p q w v s).pending = s.pending := by simp [ringCfgEffect]

@[simp] theorem macFx_pending (m : ℕ) (p : ℕ) (o : ℕ) (v : Word) (s : State) : (macFx m p o v s).pending = s.pending := by simp [macFx]

@[simp] theorem gosEnable_pending (s : State) : (gosEnable s).pending = s.pending := by simp [gosEnable]

@[simp] theorem gosDisable_pending (s : State) : (gosDisable s).pending = s.pending :=
  iterUp_pending (fun _ _ => by rfl) _

@[simp] theorem setGin_pending (s : State) (i : ℕ) (r : GinBit × Bool) : (State.setGin s i r).pending = s.pending := by simp [State.setGin]

@[simp] theorem ginRefresh_pending (k : Option ℕ) (s : State) : (ginRefresh k s).pending = s.pending := by simp [ginRefresh]

@[simp] theorem gosStat_pending (s : State) : (gosStat s).pending = s.pending :=
  (put_pending ..).trans (iterUp_pending (fun _ _ => by rfl) s)

@[simp] theorem gsStart_pending (on : Bool) (s : State) : (gsStart on s).pending = s.pending :=
  (ginRefresh_pending ..).trans <| (gosStat_pending _).trans <|
    iterUp_pending (fun _ _ => ite_keeps rfl ((engine_pending (fun _ => by rfl) ..).trans (pending_mk ..))) s

@[simp] theorem setSvp_pending (s : State) (p : ℕ) (x : SvpState) : (State.setSvp s p x).pending = s.pending := rfl

@[simp] theorem gosCtrlEffect_pending (v : Word) (s : State) : (gosCtrlEffect v s).pending = s.pending := by simp [gosCtrlEffect]

@[simp] theorem svpCfgEffect_pending (m p w : ℕ) (v : Word) (s : State) : (svpCfgEffect m p w v s).pending = s.pending := by
  refine ite_keeps (raise_pending ..) <| ite_keeps ?_ <| ite_keeps ((setSvp_pending ..).trans (storeReg_pending ..)) (storeReg_pending ..)
  exact (engine_pending (fun _ => by rfl) ..).trans <| (setSvp_pending ..).trans (storeReg_pending ..)

@[simp] theorem gosFx_pending (m : ℕ) (o : ℕ) (v : Word) (s : State) : (gosFx m o v s).pending = s.pending := by simp [gosFx]

@[simp] theorem updPort_pending (s : State) (p : ℕ) (f : GalPort → GalPort) : (State.updPort s p f).pending = s.pending := rfl

@[simp] theorem putLinks_pending (s : State) (l : LinkState) : (State.putLinks s l).pending = s.pending := rfl

@[simp] theorem announce_pending (s : State) : (announce s).pending = s.pending := by simp [announce]

@[simp] theorem portState_pending (p : ℕ) (x : PortRun) (s : State) : (portState p x s).pending = s.pending := by simp [portState]

@[simp] theorem galCtrlEffect_pending (m : ℕ) (v : Word) (s : State) : (galCtrlEffect m v s).pending = s.pending := by simp [galCtrlEffect]

@[simp] theorem cumCmdIn_pending (origin : ℕ) (seq : ℕ) (at_ : ℕ) (w : Word) (s : State) : (cumCmdIn origin seq at_ w s).pending = s.pending := by simp [cumCmdIn]

@[simp] theorem broadcastIn_pending (origin : ℕ) (data : List Word) (s : State) : (broadcastIn origin data s).pending = s.pending := by simp [broadcastIn]

@[simp] theorem barrierArrived_pending (origin : ℕ) (seq : ℕ) (s : State) : (barrierArrived origin seq s).pending = s.pending := by simp [barrierArrived]

@[simp] theorem gopDeliver_pending (origin : ℕ) (seq : ℕ) (op : ℕ) (tgt : ℕ) (atMode : ℕ) (at_ : ℕ) (data : List Word) (s : State) : (gopDeliver origin seq op tgt atMode at_ data s).pending = s.pending := by
  unfold gopDeliver
  dsimp only
  repeat' split
  all_goals simp

@[simp] theorem gopEffect_pending (m : ℕ) (v : Word) (s : State) : (gopEffect m v s).pending = s.pending := by
  refine SameQueue.eq ?_
  unfold gopEffect
  refine .ite (.refl s) <| .ite (.step (raise_pending ..) (.refl s)) <| .ite (.step (raise_pending ..) (.refl s)) <| .ite (.step (raise_pending ..) (.refl s)) ?_
  exact .ite (.step (gopDeliver_pending ..) <| .step (emit_pending ..) <| .step (invalidate_pending ..) <| .step (pending_mk ..) (.refl s))
    (.step (emit_pending ..) <| .step (invalidate_pending ..) <| .step (pending_mk ..) (.refl s))

@[simp] theorem barArriveEffect_pending (v : Word) (s : State) : (barArriveEffect v s).pending = s.pending := by
  unfold barArriveEffect
  split
  · simp
  · split <;> simp

@[simp] theorem galFbiEffect_pending (i : ℕ) (v : Word) (s : State) : (galFbiEffect i v s).pending = s.pending := by simp [galFbiEffect]

@[simp] theorem galFx_pending (m : ℕ) (o : ℕ) (v : Word) (s : State) : (galFx m o v s).pending = s.pending := by simp [galFx]

@[simp] theorem updCum_pending (s : State) (k : ℕ) (f : CumSet → CumSet) : (State.updCum s k f).pending = s.pending := rfl

@[simp] theorem cumChanFlag_pending (b : ℕ) (i : ℕ) (st : ℕ) (s : State) : (cumChanFlag b i st s).pending = s.pending := by simp [cumChanFlag]

@[simp] theorem cumNoset_pending (b : ℕ) (s : State) : (cumNoset b s).pending = s.pending := by simp [cumNoset]

@[simp] theorem dupCtrlEffect_pending (v : Word) (s : State) : (dupCtrlEffect v s).pending = s.pending := by
  refine ite_keeps (storeReg_pending ..) <| (cumNoset_pending ..).trans <| (cumNoset_pending ..).trans ?_
  exact (iterUp_pending (fun _ _ => by rfl) _).trans (storeReg_pending ..)

@[simp] theorem handoverEffect_pending (m : ℕ) (s : State) : (handoverEffect m s).pending = s.pending := by simp [handoverEffect]

@[simp] theorem clearUnfitEffect_pending (s : State) : (clearUnfitEffect s).pending = s.pending := by simp [clearUnfitEffect]

@[simp] theorem dupCmdEffect_pending (m : ℕ) (v : Word) (s : State) : (dupCmdEffect m v s).pending = s.pending := by simp [dupCmdEffect]

@[simp] theorem cumCmdEffect_pending (m : ℕ) (v : Word) (s : State) : (cumCmdEffect m v s).pending = s.pending := by simp [cumCmdEffect]

@[simp] theorem dupFx_pending (m : ℕ) (o : ℕ) (v : Word) (s : State) : (dupFx m o v s).pending = s.pending := by simp [dupFx]

@[simp] theorem blockFx_pending (m : ℕ) (p : Page) (o : ℕ) (v : Word) (s : State) : (blockFx m p o v s).pending = s.pending := by
  unfold blockFx
  split <;> simp

@[simp] theorem takeDown_pending (x : ℕ × Word) (s : State) : (takeDown x s).pending = s.pending := by
  unfold takeDown
  split <;> simp

@[simp] theorem applyReg_pending (a : ℕ) (v : Word) (s : State) : (applyReg a v s).pending = s.pending := by
  unfold applyReg
  split <;> simp

@[simp] theorem clearRange_pending (s : State) (a : ℕ) (n : ℕ) : (State.clearRange s a n).pending = s.pending := rfl

@[simp] theorem writeLists_pending (pairs : List (ℕ × ℕ)) (s : State) : (writeLists pairs s).pending = s.pending :=
  List.foldlRecOn (motive := fun r : State × ℕ => r.1.pending = s.pending) _ _ rfl fun _ h _ _ =>
    (put_pending ..).trans <| (put_pending ..).trans <| (put_pending ..).trans h

@[simp] theorem bWords_pending (a n : ℕ) (s : State) : (bWords a n s).pending = s.pending :=
  iterUp_pending (fun _ _ => by rfl) s

@[simp] theorem bImage_pending (e : ℕ) (s : State) : (bImage e s).pending = s.pending := by simp [bImage]

@[simp] theorem initState_pending (e : ℕ) (s : State) : (initState e s).pending = s.pending := by simp [initState]

@[simp] theorem setGated_pending (s : State) : (setGated s).pending = s.pending := by simp [setGated]

@[simp] theorem applyCtrl_pending (p : Page) (v : Word) (s : State) : (applyCtrl p v s).pending = s.pending := by simp [applyCtrl]

@[simp] theorem writeProg_pending (instAt : ℕ) (codeAt : ℕ) (p : LProg) (s : State) : (writeProg instAt codeAt p s).pending = s.pending := by simp [writeProg]

@[simp] theorem applyLogic_pending (self : ℕ) (img : CfgImage) (s : State) : (applyLogic self img s).pending = s.pending := by
  refine SameQueue.eq ?_
  unfold applyLogic
  refine .step (applySlice_pending _ (fun _ => setLe_pending ..) _) <| .ite (.step (foldl_pending (fun _ _ => by rfl) ..) <| .step (writeProg_pending ..) ?_) ?_
  all_goals
    exact .step (updLge_pending ..) <| .step (put_pending ..) <| .step (put_pending ..) <| .step (put_pending ..) <| .step (put_pending ..) <|
      .step (setReg_pending ..) <| .step (setReg_pending ..) <| .step (put_pending ..) <| .step (put_pending ..) (.refl s)

@[simp] theorem applyImage_pending (img : CfgImage) (s : State) : (applyImage img s).pending = s.pending := by
  refine SameQueue.eq ?_
  have hfold {α : Type} {f : State → α → State} (hf : ∀ t x, (f t x).pending = t.pending) (l : List α) (t : State) (h : SameQueue s t) :
      SameQueue s (l.foldl f t) := .step (foldl_pending hf l t) h
  unfold applyImage
  extract_lets +onlyGivenNames down s1 _ s2 first s3 s4 s5 s6 s7 used s8 s9 s10 rest s11 s12 s13 s14 s15 _ s16 self s17 _ _ s18 s19 s20
  have h1 : SameQueue s s1 := hfold (fun _ _ => takeDown_pending ..) _ _ (.refl s)
  have h3 : SameQueue s s3 := hfold (fun _ _ => applyReg_pending ..) _ _ <| .step (put_pending ..) h1
  have h5 : SameQueue s s5 := .ite (.step (put_pending ..) <| .step (put_pending ..) h3) <| .step (put_pending ..) h3
  have h7 : SameQueue s s7 := hfold (fun _ _ => setBytes_pending ..) _ _ <| hfold (fun _ _ => clearRange_pending ..) _ _ h5
  have h8 : SameQueue s s8 := .step (writeLists_pending ..) h7
  have h9 : SameQueue s s9 := hfold (fun _ _ => (bImage_pending ..).trans <| (initState_pending ..).trans <| (setWord_pending ..).trans (setWord_pending ..)) _ _ h8
  have h11 : SameQueue s s11 := hfold (fun _ _ => applyReg_pending ..) _ _ <| .step (setGated_pending _) h9
  have h13 : SameQueue s s13 := .step (put_pending ..) <| .step (applyCtrl_pending ..) h11
  have h15 : SameQueue s s15 := .step (put_pending ..) <| hfold (fun _ _ => applyReg_pending ..) _ _ h13
  have h17 : SameQueue s s17 := .step (applyLogic_pending ..) <| .step (pending_mk ..) h15
  have h19 : SameQueue s s19 := .step (put_pending ..) <| .step (pending_mk ..) h17
  exact .step (setRegs_pending ..) <| .step (setPheCost_pending _) <| .step (iterUp_pending (fun _ _ => by rfl) _) h19

@[simp] theorem noErr_pending (s : State) : s.noErr.pending = s.pending :=
  foldl_pending (fun _ _ => by rfl) _ s

@[simp] theorem setFormed_pending (f : Bool) (s : State) : (setFormed f s).pending = s.pending := by simp [setFormed]

@[simp] theorem formedFix_pending (s : State) : (formedFix s).pending = s.pending := by simp [formedFix]

@[simp] theorem healthRecovery_pending (s : State) : (healthRecovery s).pending = s.pending := by simp [healthRecovery]

@[simp] theorem authFix_pending (s : State) : (authFix s).pending = s.pending := by simp [authFix]

@[simp] theorem gosReload_pending (s : State) : (gosReload s).pending = s.pending := by simp [gosReload]

@[simp] theorem coolPorts_pending (s : State) : (coolPorts s).pending = s.pending := by simp [coolPorts]

@[simp] theorem startBlocks_pending (img : CfgImage) (old : State) (s : State) : (startBlocks img old s).pending = s.pending := by simp [startBlocks]

theorem loadImage_pending (img : CfgImage) (s : State) : ∀ t ∈ loadImage img s, t.pending = s.pending := by
  intro t ht
  unfold loadImage at ht
  obtain ⟨-, h⟩ := Option.ite_none_right_eq_some.mp ht
  obtain rfl := Option.some.inj h
  exact (formedFix_pending _).trans <| (authFix_pending _).trans <| (gosReload_pending _).trans <| (startBlocks_pending ..).trans <|
    (pending_mk ..).trans <| (applyImage_pending ..).trans <| (noErr_pending _).trans (stopBlocks_pending s)

@[simp] theorem sysEvent_pending (s : State) (code : ℕ) (d0 : Word) (d2 : ℕ) : (State.sysEvent s code d0 d2).pending = s.pending := rfl

@[simp] theorem cfgLoad_pending (m : ℕ) (s : State) : (cfgLoad m s).2.pending = s.pending := by
  unfold cfgLoad
  split
  · exact raise_pending ..
  · split
    · next h => exact (sysEvent_pending ..).trans <| (put_pending ..).trans <| (putBit_pending ..).trans <| (putBit_pending ..).trans (loadImage_pending _ _ _ h)
    · exact (sysEvent_pending ..).trans (raise_pending ..)

@[simp] theorem cfgCmdEffect_pending (m : ℕ) (v : Word) (img : CfgImage) (s : State) : (cfgCmdEffect m v img s).pending = s.pending := by
  unfold cfgCmdEffect
  dsimp only
  repeat' split
  all_goals simp

@[simp] theorem vecSend_pending (v : ℕ) (s : State) : (vecSend v s).pending = s.pending := rfl

@[simp] theorem vecMessage_pending (v : ℕ) (s : State) : (vecMessage v s).pending = s.pending := by simp [vecMessage]

@[simp] theorem irqAckEffect_pending (v : Word) (s : State) : (irqAckEffect v s).pending = s.pending := by simp [irqAckEffect]

@[simp] theorem sysFx_pending (m : ℕ) (o : ℕ) (v : Word) (s : State) : (sysFx m o v s).pending = s.pending := by simp [sysFx]

@[simp] theorem vecTry_pending (v : ℕ) (s : State) : (vecTry v s).pending = s.pending := by simp [vecTry]

@[simp] theorem vecUnmask_pending (v : ℕ) (s : State) : (vecUnmask v s).pending = s.pending := by simp [vecUnmask]

@[simp] theorem pciFx_pending (o : ℕ) (v : Word) (s : State) : (pciFx o v s).pending = s.pending := by simp [pciFx]

@[simp] theorem pageFx_pending (m : ℕ) (p : Page) (o : ℕ) (v : Word) (s : State) : (pageFx m p o v s).pending = s.pending := by
  unfold pageFx
  split <;> simp

@[simp] theorem pageWrite_pending (m : ℕ) (p : Page) (o : ℕ) (v : Word) (s : State) : (pageWrite m p o v s).pending = s.pending := by
  unfold pageWrite
  refine ite_keeps (ungated_pending (irqEnEffect_pending p v) ..) <| ite_keeps (ungated_pending (pendEffect_pending p v) ..) <|
    ite_keeps (ungated_pending (lockEffect_pending p v) ..) <| ite_keeps (ungated_pending (errEffect_pending p) ..) <|
    ite_keeps (ungated_pending (fun _ => raise_pending ..) ..) <| ite_keeps rfl <| guarded_pending (fun t => ?_) ..
  exact ite_keeps (pageFx_pending ..) (raise_pending ..)

@[simp] theorem regWrite_pending (m : ℕ) (a : ℕ) (v : Word) (s : State) : (regWrite m a v s).pending = s.pending := by
  unfold regWrite
  split <;> simp

@[simp] theorem busWrite_pending (m : ℕ) (a : ℕ) (bytes : ℕ) (v : BitVec 64) (s : State) : (busWrite m a bytes v s).pending = s.pending := by simp [busWrite]

@[simp] theorem latchHigh_pending (s : State) (m : ℕ) (a : ℕ) : (State.latchHigh s m a).pending = s.pending := by simp [State.latchHigh]

@[simp] theorem dropReads_pending (s : State) : (dropReads s).pending = s.pending := rfl

@[simp] theorem setLink_pending (s : State) (speed : ℕ) (width : ℕ) (up : Bool) : (State.setLink s speed width up).pending = s.pending := rfl

@[simp] theorem vecClear_pending (s : State) : (vecClear s).pending = s.pending :=
  iterUp_pending (fun _ _ => by rfl) s

@[simp] theorem pciPageReset_pending (s : State) : (pciPageReset s).pending = s.pending := rfl

@[simp] theorem sendHeld_pending (s : State) : (sendHeld s).pending = s.pending := by simp [sendHeld]

@[simp] theorem hostAnswer_pending (a len : ℕ) (data : Option (List Byte)) (r : Option (List Byte) × State) :
    (hostAnswer a len data r).pending = r.2.pending :=
  ite_keeps rfl (emit_pending ..)

@[simp] theorem hkaFifo_pending (l : List Word) (s : State) : (hkaFifo l s).pending = s.pending := rfl

@[simp] theorem hkaPop_pending (s : State) : (hkaPop s).pending = s.pending := by simp [hkaPop]

@[simp] theorem regReadFx_pending (m : ℕ) (a : ℕ) (s : State) : (regReadFx m a s).pending = s.pending := by
  unfold regReadFx
  split <;> simp

@[simp] theorem busLoad_pending (m : ℕ) (a : ℕ) (bytes : ℕ) (s : State) : (busLoad m a bytes s).2.pending = s.pending := by simp [busLoad]

@[simp] theorem localAccess_pending (m : ℕ) (a : ℕ) (len : ℕ) (data : Option (List Byte)) (s : State) : (localAccess m a len data s).2.pending = s.pending := by
  unfold localAccess
  dsimp only
  repeat' split
  all_goals simp

@[simp] theorem eccFound_pending (m : ℕ) (e : ℕ × Bool) (s : State) : (eccFound m e s).pending = s.pending := by simp [eccFound]

@[simp] theorem hostSend_pending (n off len : ℕ) (data ans : Option (List Byte)) (s : State) : (hostSend n off len data ans s).pending = s.pending := by
  unfold hostSend
  refine ite_keeps ((hostAnswer_pending ..).trans (memFault_pending ..)) ?_
  dsimp only
  split
  · exact (hostAnswer_pending ..).trans (remoteFrames_pending ..)
  · exact (pending_mk ..).trans (remoteFrames_pending ..)

@[simp] theorem forwardRise_pending (s : State) : (forwardRise s).pending = s.pending := by simp [forwardRise]

@[simp] theorem entryUnmask_pending (v : ℕ) (s : State) : (entryUnmask v s).pending = s.pending := by simp [entryUnmask]

@[simp] theorem ovrSticky_pending (s : State) (reg : ℕ) (n : ℕ) : (State.ovrSticky s reg n).pending = s.pending := by simp [State.ovrSticky]

@[simp] theorem owMeasure_pending (n : ℕ) (s : State) : (owMeasure n s).pending = s.pending := by
  unfold owMeasure
  split <;> simp

@[simp] theorem probePulse_pending (n : ℕ) (s : State) : (probePulse n s).pending = s.pending := by simp [probePulse]

@[simp] theorem groupStat_pending (s : State) (g : ℕ) : (State.groupStat s g).pending = s.pending := by simp [State.groupStat]

@[simp] theorem updBsi_pending (s : State) (n : ℕ) (f : BsiChan → BsiChan) : (State.updBsi s n f).pending = s.pending := rfl

@[simp] theorem setLost_pending (s : State) (n : ℕ) (b : Bool) : (State.setLost s n b).pending = s.pending := by simp [State.setLost]

@[simp] theorem updBits_pending (s : State) (n : ℕ) (f : List ModBit → List ModBit) : (State.updBits s n f).pending = s.pending := rfl

@[simp] theorem ignoreEdge_pending (s : State) : (State.ignoreEdge s).pending = s.pending := rfl

@[simp] theorem syncBall_pending (s : State) : (syncBall s).pending = s.pending := by simp [syncBall]

@[simp] theorem probeCycle_pending (s : State) : (probeCycle s).pending = s.pending :=
  iterUp_pending (fun _ _ => by rfl) s

@[simp] theorem setPlane_pending (s : State) (r : ℕ) (q : ℕ) (v : ℤ) (ql : ℕ) : (State.setPlane s r q v ql).pending = s.pending := rfl

theorem rowValues_pending (s : State) : s.rowValues.pending = s.pending := by
  have hr : s.rowReady.pending = s.pending := (within_rowReady s).part .pending (by decide)
  have hw (r t32 : ℕ) (t : State) : (writePlane r t32 t).pending = t.pending := (within_writePlane r t32 t).part .pending (by decide)
  unfold State.rowValues
  generalize writePlane = write at hw ⊢
  generalize s.rowReady = t at hr ⊢
  revert write t
  refine kept fun write hw t ht => ?_
  exact (engine_pending (hw _ _) ..).trans ht

@[simp] theorem writeRow_pending (s : State) : (writeRow s).pending = s.pending := by
  rcases hd : s.rowDue
  · rw [writeRow_idle hd]
  · obtain ⟨_, -, h⟩ := writeRow_due hd
    rw [h]
    exact (pending_mk ..).trans (rowValues_pending s)

@[simp] theorem strikeSample_pending (n : ℕ) (x : Tagged) (s : State) : (strikeSample n x s).pending = s.pending := by simp [strikeSample]

@[simp] theorem strikeAll_pending (s : State) : (strikeAll s).pending = s.pending := by
  rw [strikeAll_eq, sincJudged]
  exact (pending_mk ..).trans ((within_judged _ _ _).part .pending (by decide))

@[simp] theorem storeFeed_pending (c : ℕ) (f : Feed) (s : State) : (storeFeed c f s).pending = s.pending := by simp [storeFeed]

@[simp] theorem runChain_pending (clocks : ℕ) (ain : List (ℕ × List ModBit)) (lines : List (ℕ × List Bool)) (s : State) : (runChain clocks ain lines s).pending = s.pending := by simp [runChain]

@[simp] theorem chainStep_pending (clocks : ℕ) (ain : List (ℕ × List ModBit)) (lines : List (ℕ × List Bool)) (s : State) : (chainStep clocks ain lines s).pending = s.pending := by simp [chainStep]

@[simp] theorem updateMissing_pending (rec' : RowRec) (s : State) : (updateMissing rec' s).pending = s.pending := by simp [updateMissing]

@[simp] theorem sealLocal_pending (rec' : RowRec) (n : ℕ) (s : State) : (sealLocal rec' n s).pending = s.pending := by
  unfold sealLocal
  split <;> simp

@[simp] theorem sealQuantity_pending (r : ℕ) (q : ℕ) (s : State) : (sealQuantity r q s).pending = s.pending := by
  unfold sealQuantity
  dsimp only
  split <;> simp

@[simp] theorem formInc_pending (slew : ℕ) (row : ℕ) (fMeas : ℤ) (fNow : ℤ) (s : State) : (formInc slew row fMeas fNow s).pending = s.pending := rfl

@[simp] theorem trackerMeasure_pending (rec' : RowRec) (s : State) : (trackerMeasure rec' s).pending = s.pending :=
  (within_trackerMeasure rec' s).part .pending (by decide)

@[simp] theorem memberFault_pending (p : ℕ) (place : ℕ) (e : ℕ) (cause : ℕ) (row : ℕ) (s : State) : (memberFault p place e cause row s).pending = s.pending := by simp [memberFault]

@[simp] theorem liveReport_pending (s : State) : (liveReport s).pending = s.pending := by
  unfold liveReport
  split <;> simp

@[simp] theorem committedSeal_pending (r : ℕ) (s : State) : (committedSeal r s).pending = s.pending :=
  (within_committedSeal r s).part .pending (by decide)

@[simp] theorem outputCommit_pending (s : State) : (outputCommit s).pending = s.pending :=
  (within_outputCommit s).part .pending (by decide)

@[simp] theorem pheTakeRows_pending (n : ℕ) (s : State) : (pheTakeRows n s).pending = s.pending := by simp [pheTakeRows]

@[simp] theorem pheTakeCfg_pending (s : State) : (pheTakeCfg s).pending = s.pending := by simp [pheTakeCfg]

@[simp] theorem pheTickRun_pending (r : ℕ) (s : State) : (pheTickRun r s).pending = s.pending :=
  (within_pheTickRun r s).part .pending (by decide)

@[simp] theorem liveApply_pending (r : ℕ) (s : State) : (liveApply r s).pending = s.pending := by
  unfold liveApply
  split <;> simp

@[simp] theorem tickStart_pending (r : ℕ) (s : State) : (tickStart r s).pending = s.pending := by simp [tickStart]

@[simp] theorem drcScales_pending (r : ℕ) (s : State) : (drcScales r s).pending = s.pending := by simp [drcScales]

@[simp] theorem cumChangeApply_pending (r : ℕ) (s : State) : (cumChangeApply r s).pending = s.pending :=
  (foldl_pending (fun _ _ => by rfl) _ _).trans (pending_mk ..)

@[simp] theorem cumTickStart_pending (r : ℕ) (s : State) : (cumTickStart r s).pending = s.pending := by simp [cumTickStart]

@[simp] theorem drcRow_pending (r : ℕ) (s : State) : (drcRow r s).pending = s.pending :=
  (within_drcRow r s).part .pending (by decide)

@[simp] theorem rowSeal_pending (s : State) : (rowSeal s).pending = s.pending := by
  rcases h : s.grid.inflight with _ | ⟨rec', rest⟩
  · unfold rowSeal
    rw [h]
  · obtain ⟨-, -, -, hw, -⟩ := rowSeal_queue h
    obtain ⟨t, n, h1, h2, h3⟩ := within_sealedTo rec' rest s
    calc (rowSeal s).pending = (sealedTo rec' rest s).pending := hw.part .pending (by decide)
      _ = t.pending := h3.part .pending (by decide)
      _ = (sealHead rec' rest s).pending := h2.part .pending (by simp [sealTickFoot]; decide)
      _ = s.pending := h1.part .pending (by decide)

@[simp] theorem alignGrid_pending (row : ℕ) (inc : ℕ) (instant : ℕ) (s : State) : (alignGrid row inc instant s).pending = s.pending := by simp [alignGrid]

@[simp] theorem alignSend_pending (s : State) : (alignSend s).pending = s.pending := by simp [alignSend]

@[simp] theorem slotFlag_pending (s : State) (k : ℕ) (b : ℕ) : (State.slotFlag s k b).pending = s.pending := rfl

@[simp] theorem placeSample_pending (k : ℕ) (rate : ℕ) (arrival : ℕ) (smp : SvSample) (s : State) : (placeSample k rate arrival smp s).pending = s.pending := by simp [placeSample]

@[simp] theorem receiveAsdu_pending (f : SvFrame) (a : SvAsdu) (s : State) : (receiveAsdu f a s).pending = s.pending := by
  refine SameQueue.eq ?_
  have hp (k rate ns : ℕ) (x : SvSample) (t : State) (h : SameQueue s t) : SameQueue s (placeSample k rate ns x t) := .step (placeSample_pending ..) h
  unfold receiveAsdu
  split
  · exact .step (pending_mk ..) (.refl s)
  · refine .ite (.step (slotFlag_pending ..) (.refl s)) <| .ite (.step (slotFlag_pending ..) (.refl s)) ?_
    split
    · exact .step (slotFlag_pending ..) (.refl s)
    · refine .ite (.step (slotFlag_pending ..) (.refl s)) <| .ite (.step (slotFlag_pending ..) (.refl s)) ?_
      refine hp _ _ _ _ _ ?_
      exact .step (pending_mk ..) <| .ite (.refl s) (.step (slotFlag_pending ..) (.refl s))

@[simp] theorem receiveSv_pending (f : SvFrame) (s : State) : (receiveSv f s).pending = s.pending := by
  unfold receiveSv
  dsimp only
  repeat' split
  all_goals simp

@[simp] theorem putSample_pending (k : ℕ) (smp : SvSample) (received : Bool) (pred : Bool) (missing : ℕ) (s : State) : (putSample k smp received pred missing s).pending = s.pending := by simp [putSample]

@[simp] theorem releaseSample_pending (k : ℕ) (s : State) : (releaseSample k s).pending = s.pending := by
  unfold releaseSample
  dsimp only
  repeat' split
  all_goals simp

@[simp] theorem svsInterval_pending (s : State) : (svsInterval s).pending = s.pending := by simp [svsInterval]

@[simp] theorem svpEntry_pending (p : ℕ) (rate : ℕ) (n : ℕ) (e : ℕ) (s : State) : (svpEntry p rate n e s).2.pending = s.pending := by
  unfold svpEntry
  dsimp only
  split <;> simp

@[simp] theorem svpEntries_pending (p rate n : ℕ) (s : State) : (svpEntries p rate n s).2.pending = s.pending :=
  List.foldlRecOn (motive := fun r : List (Int × Word) × State => r.2.pending = s.pending) _ _ rfl fun _ h _ _ => (svpEntry_pending ..).trans h

@[simp] theorem svpAsdus_pending (p rate k n : ℕ) (s : State) : (svpAsdus p rate k n s).2.pending = s.pending := by
  induction k generalizing n s with
  | zero => rfl
  | succ k ih => exact (ih ..).trans (svpEntries_pending ..)

@[simp] theorem svDrop_pending (p : ℕ) (s : State) : (svDrop p s).pending = s.pending := by simp [svDrop]

@[simp] theorem svPublish_pending (p n : ℕ) (s : State) : (svPublish p n s).pending = s.pending := by
  unfold svPublish
  refine (foldl_pending (fun t q => (svDrop_pending ..).trans (updMac_pending ..)) _ _).trans <| (pending_mk ..).trans <|
    (setSvp_pending ..).trans (svpAsdus_pending ..)

@[simp] theorem pheSeal_pending (s : State) : (pheSeal s).pending = s.pending :=
  (within_pheSeal s).part .pending (by decide)

@[simp] theorem setWork_pending (s : State) (e : ℕ) (v : ℕ) : (State.setWork s e v).pending = s.pending := rfl

@[simp] theorem headMemory_pending (c : Ctx) (upd : Bool) (s : State) : (headMemory c upd s).pending = s.pending := by simp [headMemory]

@[simp] theorem headOff_pending (c : Ctx) (pol : ℕ) (s : State) : (headOff c pol s).pending = s.pending := by simp [headOff]

@[simp] theorem clearMemBit_pending (s : State) (a : ℕ) (b : ℕ) : (State.clearMemBit s a b).pending = s.pending := rfl

@[simp] theorem clearLoaded_pending (ty : ℕ) (e : ℕ) (q : ℕ) (s : State) : (clearLoaded ty e q s).pending = s.pending := by simp [clearLoaded]

@[simp] theorem putStateB_pending (c : Ctx) (mv : GMove) (s : State) : (putStateB c mv s).pending = s.pending := by simp [putStateB]

@[simp] theorem putState_pending (c : Ctx) (o : EOut) (s : State) : (putState c o s).pending = s.pending := by simp [putState]

@[simp] theorem updPair_pending (s : State) (p : ℕ) (f : PairRun → PairRun) : (State.updPair s p f).pending = s.pending := rfl

@[simp] theorem evalLive_pending (p : ℕ) (place : ℕ) (e : ℕ) (r : ℕ) (status : ℕ) (qb : Bool) (v : Option BVerdict) (s : State) : (evalLive p place e r status qb v s).pending = s.pending := by
  unfold evalLive
  dsimp only
  split <;> simp

@[simp] theorem evalJudged_pending (p : ℕ) (place : ℕ) (e : ℕ) (r : ℕ) (v : Option BVerdict) (s : State) : (evalJudged p place e r v s).pending = s.pending := by simp [evalJudged]

@[simp] theorem evalSlot_pending (p place e r : ℕ) (v : Option BVerdict) (s : State) : (evalSlot p place e r v s).pending = s.pending := by
  refine SameQueue.eq ?_
  unfold evalSlot
  refine .ite (.step (setWork_pending ..) (.refl s)) <| .ite (.step (setWork_pending ..) (.refl s)) ?_
  split
  · exact .step (memberFault_pending ..) <| .step (setWork_pending ..) <| .step (eccRead_pending ..) (.refl s)
  · exact .step (engine_pending (fun _ => evalJudged_pending ..) ..) (.refl s)

@[simp] theorem evalRun_pending (p : ℕ) (from_ : ℕ) (n : ℕ) (r : ℕ) (vs : List BVerdict) (s : State) : (evalRun p from_ n r vs s).pending = s.pending := by simp [evalRun]

@[simp] theorem phase1_pending (r : ℕ) (vs : List BVerdict) (s : State) : (phase1 r vs s).pending = s.pending := by simp [phase1]

@[simp] theorem pheDone_pending {contribute : State → State} (hc : ∀ t, (contribute t).pending = t.pending) (vs : List BVerdict) (s : State) :
    (pheDone contribute vs s).pending = s.pending := by
  refine SameQueue.eq ?_
  unfold pheDone
  extract_lets t
  have ht : SameQueue s t := .ite (.step (hc _) <| .step (pheSeal_pending s) (.refl s)) (.refl s)
  clear_value t
  split
  · exact .ite ht (.step (phase1_pending ..) ht)
  · exact ht

@[simp] theorem cumAdd_pending (k : ℕ) (first : ℕ) (cs : List CumChan) (s : State) : (cumAdd k first cs s).pending = s.pending := by simp [cumAdd]

@[simp] theorem cumTotals_pending (s : State) (k : ℕ) : (s.cumTotals k).2.pending = s.pending :=
  (within_cumTotals s k).part .pending (by decide)

@[simp] theorem cumSeal_pending (b : ℕ) (s : State) : (cumSeal b s).pending = s.pending :=
  (within_cumSeal b s).part .pending (by decide)

@[simp] theorem cumWrite_pending (k : ℕ) (ts : List (Word × Word × Word)) (s : State) : (cumWrite k ts s).pending = s.pending :=
  (within_cumWrite k ts s).part .pending (by decide)

@[simp] theorem cumForward_pending (k : ℕ) (s : State) : (cumForward k s).pending = s.pending := by simp [cumForward]

@[simp] theorem contribute_pending (r : ℕ) (s : State) : (contribute r s).pending = s.pending := by simp [contribute]

@[simp] theorem evalLines_pending (s : State) : (evalLines s).2.pending = s.pending :=
  List.foldlRecOn (motive := fun r : LineVals × State => r.2.pending = s.pending) _ _ rfl fun r h l _ => by
    rw [← h]
    split <;> rfl

@[simp] theorem drvAtPass_pending (s : State) : (drvAtPass s).pending = s.pending := by simp [drvAtPass]

@[simp] theorem tlSnap_pending (s : State) : (tlSnap s).pending = s.pending := by simp [tlSnap]

@[simp] theorem passTrigger_pending (old : ℕ) (s : State) : (passTrigger old s).pending = s.pending := by simp [passTrigger]

@[simp] theorem applyPolicy_pending (s : State) : (applyPolicy s).pending = s.pending := by
  unfold applyPolicy
  split <;> simp

@[simp] theorem hashCompared_pending (row : ℕ) (own : Word) (partner : Word) (s : State) : (hashCompared row own partner s).pending = s.pending := by simp [hashCompared]

@[simp] theorem hashTry_pending (row : ℕ) (s : State) : (hashTry row s).pending = s.pending := by
  unfold hashTry
  split <;> simp

@[simp] theorem hashOwn_pending (row : ℕ) (h : Word) (s : State) : (hashOwn row h s).pending = s.pending := by simp [hashOwn]

@[simp] theorem passHash_pending (s : State) : (passHash s).pending = s.pending := by
  unfold passHash
  split <;> simp

@[simp] theorem trmPass_pending (s : State) : (trmPass s).pending = s.pending := by
  refine SameQueue.eq ?_
  have he := evalLines_pending
  have hchain (old latch : ℕ) (t : State) (h : SameQueue s t) :
      SameQueue s (passTrigger old (passHash (fabricSend (gosPass (tlSnap (lineEvents old (latchSend latch (drvAtPass t)))))).drcSee)) :=
    .step (passTrigger_pending ..) <| .step (passHash_pending _) <| .step (drcSee_pending _) <| .step (fabricSend_pending _) <|
      .step (gosPass_pending _) <| .step (tlSnap_pending _) <| .step (lineEvents_pending ..) <| .step (latchSend_pending ..) <| .step (drvAtPass_pending _) h
  have hloop (t : State) (h : SameQueue s t) : SameQueue s (iterUp 16 foStep t) := .step (iterUp_pending foStep_pending _) h
  have hreq (t : State) (c : Bool) (h : SameQueue s t) : SameQueue s (if c then t.requestPass else t) := .ite (.step (requestPass_pending _) h) h
  unfold trmPass
  generalize evalLines = eval at he ⊢
  revert eval
  refine kept fun eval he => .ite (.refl s) ?_
  refine hreq _ _ <| hchain _ _ _ <| .step (pending_mk ..) <| hloop _ <| .step (pending_mk ..) <| .step (he s) (.refl s)

@[simp] theorem foTurnOn_pending (k : ℕ) (s : State) : (foTurnOn k s).pending = s.pending := by simp [foTurnOn]

@[simp] theorem foToOff_pending (k : ℕ) (s : State) : (foToOff k s).pending = s.pending := by simp [foToOff]

@[simp] theorem foTurnOff_pending (k : ℕ) (s : State) : (foTurnOff k s).pending = s.pending := by simp [foTurnOff]

@[simp] theorem foFollow_pending (k : ℕ) (s : State) : (foFollow k s).pending = s.pending := by simp [foFollow]

@[simp] theorem outputFrame_pending (d : ℕ) (ok : Bool) (s : State) : (outputFrame d ok s).pending = s.pending := by simp [outputFrame]

@[simp] theorem jMark_pending (s : State) (op : OpenOp) (data : List Word) : (State.jMark s op data).pending = s.pending := by simp [State.jMark]

@[simp] theorem pinMark_pending (k : ℕ) (s : State) : (pinMark k s).pending = s.pending := by
  unfold pinMark
  dsimp only
  split
  · simp
  · split <;> simp

@[simp] theorem clampAvg_pending (g : ℕ) (s : State) : (clampAvg g s).pending = s.pending := by simp [clampAvg]

@[simp] theorem hkaPush_pending (w : Word) (s : State) : (hkaPush w s).pending = s.pending := by simp [hkaPush]

@[simp] theorem hkaPassEnd_pending (s : State) : (hkaPassEnd s).pending = s.pending := by simp [hkaPassEnd]

@[simp] theorem ginWords_pending (s : State) : (ginWords s).2.pending = s.pending :=
  List.foldlRecOn (motive := fun r : List Word × State => r.2.pending = s.pending) _ _ rfl fun r h w _ => by
    rw [← h]
    dsimp only
    split <;> rfl

@[simp] theorem inputImage_pending (s : State) : (inputImage s).2.pending = s.pending := by simp [inputImage]

@[simp] theorem snapLogic_pending (s : State) : (snapLogic s).1.pending = s.pending := by
  have hi := inputImage_pending s
  unfold snapLogic
  generalize inputImage s = im at hi ⊢
  revert im
  refine kept fun im hi => ?_
  have h (f : LgeState → LgeState) : ((im.2.engine 4 [(ownImage, 512, true)] (fun s => s.setWords ownImage im.1)).updLge f).pending = s.pending :=
    (updLge_pending ..).trans <| (engine_pending (fun _ => by rfl) ..).trans hi
  exact ite_keeps ((complete_pending ..).trans (h _)) (h _)

@[simp] theorem shadowCopy_pending (p : LProg) (s : State) : (shadowCopy p s).pending = s.pending :=
  (updLge_pending ..).trans (engine_pending (fun _ => by rfl) ..)

@[simp] theorem saveStart_pending (s : State) : (saveStart s).pending = s.pending := by
  unfold saveStart
  split <;> simp

@[simp] theorem outEnd_pending (s : State) : (outEnd s).pending = s.pending := by
  unfold outEnd
  dsimp only
  split <;> simp

@[simp] theorem retainSeal_pending (c : RetainCopy) (s : State) : (retainSeal c s).pending = s.pending := by simp [retainSeal]

@[simp] theorem prepEnd_pending (status : ℕ) (s : State) : (prepEnd status s).pending = s.pending := by
  unfold prepEnd
  split <;> simp

@[simp] theorem announceIn_pending (d : ℕ) (p : ℕ) (a : PtpAnnounce) (s : State) : (announceIn d p a s).pending = s.pending := by simp [announceIn]

@[simp] theorem domStat_pending (d : ℕ) (off : ℤ) (s : State) : (domStat d off s).pending = s.pending := by simp [domStat]

@[simp] theorem syncIn_pending (d : ℕ) (p : ℕ) (sender : ℕ) (t1 : ℕ) (lag : ℕ) (s : State) : (syncIn d p sender t1 lag s).pending = s.pending := by simp [syncIn]

@[simp] theorem domLost_pending (d : ℕ) (x : ℕ) (s : State) : (domLost d x s).pending = s.pending := by simp [domLost]

@[simp] theorem routeUpdate_pending (s : State) : (routeUpdate s).pending = s.pending := by
  refine SameQueue.eq ?_
  unfold routeUpdate
  extract_lets +onlyGivenNames d here reach old mask _ s1 s2 s3 depth diam s4 lost s5
  have h1 : SameQueue s s1 := .step (pending_mk ..) (.refl s)
  have h2 : SameQueue s s2 := .step (iterUp_pending (by intro m t; exact put_pending ..) _) h1
  have h3 : SameQueue s s3 := .step (setReg_pending ..) <| .step (setReg_pending ..) h2
  have h4 : SameQueue s s4 := .step (setReg_pending ..) h3
  have h5 (b : Bool) : SameQueue s ((s4.edge .gal 1).edgeIf b .gal 2) := .step (edgeIf_pending ..) <| .step (edge_pending ..) h4
  have hl (l : ℕ) (t : State) (h : SameQueue s t) : SameQueue s (iterUp 64 (fun m (u : State) =>
      if l.testBit m then fbiFrom m { u with gal := { u.gal with src := tset none u.gal.src m none } } else u) t) :=
    .step (iterUp_pending (fun m u => ite_keeps ((fbiFrom_pending ..).trans (pending_mk ..)) rfl) _) h
  exact hl _ _ (h5 _)

@[simp] theorem discovery_pending (l : List Found) (s : State) : (discovery l s).pending = s.pending := by
  unfold discovery
  dsimp only
  split <;> simp

@[simp] theorem snapLatch_pending (time : Word) (s : State) : (snapLatch time s).pending = s.pending := by simp [snapLatch]

@[simp] theorem resetTargets_pending (tgt : ℕ) (s : State) : (resetTargets tgt s).pending = s.pending := by simp [resetTargets]

@[simp] theorem gopFinish_pending (status : ℕ) (miss : ℕ) (s : State) : (gopFinish status miss s).pending = s.pending := by
  unfold gopFinish
  split <;> simp

@[simp] theorem cumCmdFinish_pending (c : CumCmd) (acked : ℕ) (late : ℕ) (s : State) : (cumCmdFinish c acked late s).pending = s.pending := by simp [cumCmdFinish]

@[simp] theorem toContend_pending (fromActive : Bool) (s : State) : (toContend fromActive s).pending = s.pending := by simp [toContend]

@[simp] theorem shadowMerge_pending (s : State) : (shadowMerge s).pending = s.pending := by
  unfold shadowMerge
  split <;> simp

@[simp] theorem toActive_pending (s : State) : (toActive s).pending = s.pending := by simp [toActive]

@[simp] theorem authInChange_pending (level : Bool) (s : State) : (authInChange level s).pending = s.pending := by
  unfold authInChange
  dsimp only
  repeat' split
  all_goals simp

@[simp] theorem macCount_pending (s : State) (p : ℕ) (c : ℕ) (n : ℕ) : (State.macCount s p c n).pending = s.pending := rfl

@[simp] theorem descRead_pending (a : ℕ) (words : ℕ) (s : State) : (descRead a words s).2.pending = s.pending := by simp [descRead]

@[simp] theorem rxStore_pending (p q : ℕ) (bs : List Byte) (frag : Bool) (pcp csum total n k : ℕ) (s : State) :
    (rxStore p q bs frag pcp csum total n k s).2.pending = s.pending := by
  have hr := descRead_pending
  have hw := devWrite_pending
  delta rxStore rxStore._f
  generalize descRead = read at hr ⊢
  generalize State.devWrite = write at hw ⊢
  revert read write
  refine kept fun read hr write hw => ?_
  revert k s
  refine brecOn_all (C := fun _ => ℕ → State → Bool × State) (fun n f => ∀ k s, (f k s).2.pending = s.pending) (fun n b ih k s => ?_) n
  rcases n with _ | n
  · rfl
  · have ih := ih n rfl
    dsimp only at ih ⊢
    split
    · exact hr ..
    · simp only [pending_snd_ite, hw, hr, ih, ite_self]

@[simp] theorem ringFail_pending (p : ℕ) (q : ℕ) (s : State) : (ringFail p q s).pending = s.pending := rfl

@[simp] theorem ringMove_pending (s : State) (p : ℕ) (q : ℕ) (k : ℕ) : (State.ringMove s p q k).pending = s.pending := rfl

@[simp] theorem toRing_pending (p q : ℕ) (bs : List Byte) (full : Bool) (s : State) : (toRing p q bs full s).pending = s.pending := by
  refine SameQueue.eq ?_
  unfold toRing
  extract_lets +onlyGivenNames total owned nobuf
  have hn (t : State) (h : SameQueue s t) : SameQueue s (nobuf t) := .step (edge_pending ..) <| .step (macCount_pending ..) h
  clear_value nobuf
  refine .ite (.step (macCount_pending ..) (.refl s)) <| .ite (hn _ (.refl s)) ?_
  extract_lets +onlyGivenNames frag n r
  have hr : SameQueue s r.2 := .step (rxStore_pending ..) (.refl s)
  clear_value r
  have hs : SameQueue s ((r.2.ringMove p q n).edge (macPage p) (1 + q)) := .step (edge_pending ..) <| .step (ringMove_pending ..) hr
  exact .ite (.step (ringFail_pending ..) hr) <| .ite (hn _ hs) (.step (macCount_pending ..) hs)

@[simp] theorem pauseEnd_pending (p : ℕ) (s : State) : (pauseEnd p s).pending = s.pending := by simp [pauseEnd]

@[simp] theorem pauseIn_pending (p : ℕ) (quanta : ℕ) (s : State) : (pauseIn p quanta s).pending = s.pending := by simp [pauseIn]

@[simp] theorem txSend_pending (p : ℕ) (h : HostTx) (s : State) : (txSend p h s).pending = s.pending := rfl

@[simp] theorem txDescs_pending (p r n k : ℕ) (s : State) : (txDescs p r n k s).2.2.2.pending = s.pending := by
  have hr := descRead_pending
  delta txDescs txDescs._f
  generalize descRead = read at hr ⊢
  revert read
  refine kept fun read hr => ?_
  revert k s
  refine brecOn_all (C := fun _ => ℕ → State → List (ℕ × List ℕ) × Bool × Bool × State) (fun n f => ∀ k s, (f k s).2.2.2.pending = s.pending) (fun n b ih k s => ?_) n
  rcases n with _ | n
  · rfl
  · have ih := ih n rfl
    dsimp only at ih ⊢
    split
    · exact hr ..
    · split
      · exact hr ..
      · simp only [hr, ih]

@[simp] theorem txReject_pending (p : ℕ) (r : ℕ) (ds : List (ℕ × List ℕ)) (status : ℕ) (s : State) : (txReject p r ds status s).pending = s.pending := rfl

@[simp] theorem txBytes_pending (ds : List (ℕ × List ℕ)) (s : State) : (txBytes ds s).2.pending = s.pending := by
  induction ds generalizing s with
  | nil => rfl
  | cons d ds ih =>
    unfold txBytes
    extract_lets len r x
    have hr : r.2.2.pending = s.pending := by
      unfold r
      split
      · rfl
      · exact devRead_pending ..
    clear_value r
    split
    · exact hr
    · exact (ih _).trans hr

theorem txRing_pending (p r : ℕ) (s : State) : ∀ u ∈ txRing p r s, u.pending = s.pending := by
  intro u hu
  unfold txRing at hu
  split at hu
  · obtain rfl := Option.some.inj hu
    exact txSend_pending ..
  · obtain ⟨-, h⟩ := Option.ite_none_left_eq_some.mp hu
    have hd := txDescs_pending p r (s.ringOwned p (4 + r)) 0 s
    generalize txDescs p r (s.ringOwned p (4 + r)) 0 s = d at hd h
    dsimp only at h
    split at h
    · obtain rfl := Option.some.inj h
      exact (txReject_pending ..).trans hd
    · split at h
      · cases h
      · have hb := (txBytes_pending d.1 d.2.2.2).trans hd
        generalize txBytes d.1 d.2.2.2 = b at hb h
        split at h
        · obtain rfl := Option.some.inj h
          exact (txReject_pending ..).trans hb
        · split at h
          · obtain rfl := Option.some.inj h
            exact (txReject_pending ..).trans hb
          · obtain rfl := Option.some.inj h
            exact (txSend_pending ..).trans hb

theorem txRings_pending (p : ℕ) (s : State) : ((((txRing p 3 s).or (txRing p 2 s)).or ((txRing p 1 s).or (txRing p 0 s))).getD s).pending = s.pending := by
  have h (r : ℕ) := txRing_pending p r s
  generalize txRing p = ring at h ⊢
  rcases h3 : ring 3 s with _ | t
  · rcases h2 : ring 2 s with _ | t
    · rcases h1 : ring 1 s with _ | t
      · rcases h0 : ring 0 s with _ | t
        · rfl
        · exact h 0 t h0
      · exact h 1 t h1
    · exact h 2 t h2
  · exact h 3 t h3

@[simp] theorem txNext_pending (p : ℕ) (s : State) : (txNext p s).pending = s.pending := by
  unfold txNext
  extract_lets m
  split
  · exact (emit_pending ..).trans (updMac_pending ..)
  · split
    · exact (emit_pending ..).trans <| (pending_mk ..).trans (updMac_pending ..)
    · split
      · exact (emit_pending ..).trans (updMac_pending ..)
      · exact txRings_pending p s

@[simp] theorem txBack_pending (p : ℕ) (h : HostTx) (i : ℕ) (s : State) : (txBack p h i s).pending = s.pending := by
  have hw := devWrite_pending
  generalize e : txBack = back
  delta txBack at e
  generalize State.devWrite = write at hw e
  subst e
  revert write
  exact kept fun write hw => (hw ..).trans <| (fresh_pending _).trans (fresh_pending s)

@[simp] theorem txFinish_pending (p : ℕ) (h : HostTx) (s : State) : (txFinish p h s).pending = s.pending := by
  have hb := txBack_pending
  unfold txFinish
  generalize txBack = back at hb ⊢
  revert back
  refine kept fun back hb => ?_
  have ht (t : State) : (h.idx.foldl (fun (s : State) i => back p h i s) t).pending = t.pending := foldl_pending (fun t i => hb p h i t) _ _
  simp [ht]

@[simp] theorem gooseHeard_pending (f : GooseRx) (s : State) : (gooseHeard f s).pending = s.pending := by simp [gooseHeard]

@[simp] theorem setSub_pending (k : ℕ) (x : GSub) (s : State) : (setSub k x s).pending = s.pending :=
  (ginRefresh_pending ..).trans <| (gosStat_pending _).trans <| (engine_pending (fun _ => by rfl) ..).trans (pending_mk ..)

@[simp] theorem judgeGoose_pending (f : GooseRx) (k : ℕ) (s : State) : (judgeGoose f k s).pending = s.pending := by simp [judgeGoose]

@[simp] theorem evCount_pending (s : State) (q : ℕ) (e : Event) : (s.evCount q e).pending = s.pending :=
  engine_pending (fun _ => by rfl) ..

@[simp] theorem squallOn_pending (s : State) : (State.squallOn s).pending = s.pending := by simp [State.squallOn]

@[simp] theorem evAccept_pending (s : State) (e : Event) : (s.evAccept e).pending = s.pending := by
  have hw := evWrite_pending
  unfold State.evAccept
  generalize State.evWrite = write at hw ⊢
  revert write
  refine kept fun write hw => ?_
  refine ite_keeps rfl <| ite_keeps rfl <| ite_keeps rfl <| (squallOn_pending _).trans <| ite_keeps ?_ ?_
  · simp [hw]
  · split <;> simp [hw]

@[simp] theorem evCopy_pending (s : State) (n : ℕ) (ladle : Bool) (restored : Bool) : (State.evCopy s n ladle restored).pending = s.pending := by simp [State.evCopy]

@[simp] theorem squallOff_pending (s : State) : (State.squallOff s).pending = s.pending := by simp [State.squallOff]

@[simp] theorem evPos_pending (s : State) : (State.evPos s).pending = s.pending := by simp [State.evPos]

@[simp] theorem stoCard_pending (s : State) (id : ℕ) (f : StoRec → StoRec) : (State.stoCard s id f).pending = s.pending := by simp [State.stoCard]

@[simp] theorem clearBank_pending (s : State) (b : ℕ) : (State.clearBank s b).pending = s.pending := rfl

@[simp] theorem marchBank_pending (transparent : Bool) (failed : Bool) (b : ℕ) (s : State) : (marchBank transparent failed b s).pending = s.pending := by simp [marchBank]

@[simp] theorem memAccess_pending (m : ℕ) (a : ℕ) (len : ℕ) (data : Option (BitVec 64)) (s : State) : (memAccess m a len data s).pending = s.pending := by
  unfold memAccess
  split
  · simp
  · split <;> simp

@[simp] theorem elemRead_pending (a : ℕ) (n : ℕ) (ans : Answers) (s : State) : (elemRead a n ans s).2.2.2.pending = s.pending := by
  unfold elemRead
  dsimp only
  repeat' split
  all_goals simp

@[simp] theorem elemWrite_pending (a : ℕ) (bs : List Byte) (ans : Answers) (s : State) : (elemWrite a bs ans s).2.2.pending = s.pending := by
  unfold elemWrite
  dsimp only
  repeat' split
  all_goals simp

@[simp] theorem elemMove_pending (n : ℕ) (ans : Answers) (s : State) : (elemMove n ans s).2.2.pending = s.pending := by
  unfold elemMove
  dsimp only
  repeat' split
  all_goals simp

@[simp] theorem elemMoves_pending (n k : ℕ) (ans : Answers) (s : State) : (elemMoves n k ans s).2.pending = s.pending := by
  induction k generalizing ans s with
  | zero => rfl
  | succ k ih =>
    unfold elemMoves
    dsimp only
    split
    · rfl
    · split
      · exact elemMove_pending ..
      · exact (ih ..).trans (elemMove_pending ..)

@[simp] theorem abortEffect_pending (n k : ℕ) (ans : Answers) (v : Word) (s : State) : (abortEffect n k ans v s).pending = s.pending :=
  ite_keeps ((chCtrlEffect_pending ..).trans <| (chFail_pending ..).trans (elemMoves_pending ..)) ((chCtrlEffect_pending ..).trans (elemMoves_pending ..))

@[simp] theorem chEnd_pending (n : ℕ) (s : State) : (chEnd n s).pending = s.pending := by simp [chEnd]

@[simp] theorem chComplete_pending (n : ℕ) (s : State) : (chComplete n s).pending = s.pending := by simp [chComplete]

@[simp] theorem ladleCut_pending (s : State) : (ladleCut s).pending = s.pending := by
  unfold ladleCut
  split <;> simp

@[simp] theorem powerOnReset_pending (s : State) : (powerOnReset s).pending = s.pending := by simp [powerOnReset]

@[simp] theorem railFault_pending (rail : ℕ) (high : Bool) (s : State) : (railFault rail high s).pending = s.pending := by simp [railFault]

@[simp] theorem evTakeAll_pending (s : State) : (evTakeAll s).pending = s.pending := by simp [evTakeAll]

@[simp] theorem lgePowerFail_pending (s : State) : (lgePowerFail s).pending = s.pending := by simp [lgePowerFail]

@[simp] theorem ladleStart_pending (trig : ℕ) (s : State) : (ladleStart trig s).pending = s.pending := by
  refine SameQueue.eq ?_
  unfold ladleStart
  refine .ite (.refl s) ?_
  exact .step (lgePowerFail_pending _) <| .step (putBit_pending ..) <| .step (putBit_pending ..) <| .step (updSys_pending ..) <| .step (pending_mk ..) <|
    .step (addLife_pending ..) <| .step (evAccept_pending ..) <| .step (evTakeAll_pending s) (.refl s)

@[simp] theorem ladleThenReset_pending (trig : ℕ) (cause : ℕ) (s : State) : (ladleThenReset trig cause s).pending = s.pending := by simp [ladleThenReset]

@[simp] theorem bootJournal_pending (f : BootFinds) (s : State) : (bootJournal f s).pending = s.pending := by simp [bootJournal]

@[simp] theorem bootMarch_pending (f : BootFinds) (s : State) : (bootMarch f s).pending = s.pending := by simp [bootMarch]

@[simp] theorem bootLife_pending (f : BootFinds) (s : State) : (bootLife f s).pending = s.pending := by simp [bootLife]

theorem bootSlot_pending (bad b : Bool) (s : State) : ∀ r ∈ s.bootSlot bad b, r.2.pending = s.pending := by
  intro r hr
  unfold State.bootSlot at hr
  split at hr
  · cases hr
  · obtain ⟨-, h⟩ := Option.ite_none_left_eq_some.mp hr
    obtain ⟨t, ht, rfl⟩ := Option.map_eq_some_iff.mp h
    exact (pending_mk ..).trans (loadImage_pending _ _ _ ht)

@[simp] theorem bootReject_pending (s : State) (bad : Bool) (b : Bool) : (State.bootReject s bad b).pending = s.pending := by
  unfold State.bootReject
  split
  · simp
  · split <;> simp

@[simp] theorem bootImage_pending (f : BootFinds) (s : State) : (bootImage f s).1.pending = s.pending := by
  unfold bootImage
  extract_lets +onlyGivenNames act bad take
  have ht (r : CfgImage × State) (b fb : Bool) : (take r b fb).1.pending = r.2.pending := by
    unfold take
    exact (putBit_pending ..).trans <| (putBit_pending ..).trans (ite_keeps (put_pending ..) rfl)
  split
  · next h => exact (ht ..).trans (bootSlot_pending _ _ _ _ h)
  · dsimp only
    split
    · next h => exact (ht ..).trans <| (bootSlot_pending _ _ _ _ h).trans (bootReject_pending ..)
    · exact (putBit_pending ..).trans <| (bootReject_pending ..).trans (bootReject_pending ..)

@[simp] theorem bootEvents_pending (retain : ℕ → Bool) (s : State) : (bootEvents retain s).pending = s.pending := by
  refine SameQueue.eq ?_
  have hw := evWrite_pending
  have hc := evCopy_pending
  unfold bootEvents
  generalize State.evWrite = write at hw ⊢
  generalize State.evCopy = copy at hc ⊢
  revert write copy
  refine kept fun write hw copy hc => ?_
  extract_lets +onlyGivenNames n _ s1
  have h1 : SameQueue s s1 := .step (pending_mk ..) (.refl s)
  refine .ite h1 ?_
  have hg (l : List ℕ) : SameQueue s (l.foldl (fun (t : State) q => copy { t with evr := { t.evr with unfl := q } } 1 false true) s1) :=
    .step (foldl_pending (fun t q => (hc ..).trans (pending_mk ..)) _ _) h1
  extract_lets +onlyGivenNames qs ok held good t0 _ t1 lost first last t3 mk _ t2
  have h0 : SameQueue s t0 := hg _
  have ht : SameQueue s t1 := .step (pending_mk ..) h0
  have h3 : SameQueue s t3 := .step (fresh_pending _) <| .step (fresh_pending _) ht
  have h2 : SameQueue s t2 := .ite ht <| .step (hw ..) <| .step (pending_mk ..) h3
  have hr (t : State) (e : Event) (h : SameQueue s t) : SameQueue s ((write t e).putBit R.evrStat_restored true) := .step (putBit_pending ..) <| .step (hw ..) h
  exact .ite h2 (hr _ _ h2)

@[simp] theorem bootLogic_pending (s : State) : (bootLogic s).pending = s.pending := by
  unfold bootLogic
  split <;> simp

@[simp] theorem jWrite_pending (s : State) (e : JEntry) : (State.jWrite s e).pending = s.pending := rfl

@[simp] theorem jCarry_pending (n : ℕ) (s : State) : (jCarry n s).pending = s.pending := by
  induction n generalizing s with
  | zero => rfl
  | succ n ih =>
    unfold jCarry
    split
    · rfl
    · exact (ih _).trans <| (pending_mk ..).trans (jWrite_pending ..)

@[simp] theorem jDrain_pending (s : State) : (jDrain s).pending = s.pending := by
  have hc := jCarry_pending
  unfold jDrain
  generalize jCarry = carry at hc ⊢
  revert carry
  refine kept fun carry hc => ?_
  split
  · rfl
  · dsimp only
    split
    · simp [hc]
    · simp [hc]

@[simp] theorem drainAll_pending (s : State) : (drainAll s).pending = s.pending := by simp [drainAll]

@[simp] theorem lifeWrite_pending (s : State) : (lifeWrite s).pending = s.pending := by simp [lifeWrite]

@[simp] theorem ladleRetain_pending (r : LadleRun) (s : State) : (ladleRetain r s).pending = s.pending := by
  unfold ladleRetain
  split <;> simp

@[simp] theorem ladleEvents_pending (r : LadleRun) (s : State) : (ladleEvents r s).pending = s.pending := by simp [ladleEvents]

@[simp] theorem ladleSeal_pending (s : State) : (ladleSeal s).pending = s.pending := by
  unfold ladleSeal
  dsimp only
  split
  · simp
  · split <;> simp

@[simp] theorem cfgWritten_pending (o : CfgOp) (img : CfgImage) (ok : Bool) (s : State) : (cfgWritten o img ok s).2.pending = s.pending := by simp [cfgWritten]

@[simp] theorem portQueue_pending (e : Emit) (s : State) : (portQueue e s).pending = s.pending := by simp [portQueue]

@[simp] theorem portTick_pending (s : State) : (portTick s).pending = s.pending :=
  (iterUp_pending (fun _ _ => updPort_pending ..) _).trans <| (foldl_pending (fun _ _ => portQueue_pending ..) _ _).trans (pending_mk ..)

@[simp] theorem fabricMs_pending (s : State) : (fabricMs s).pending = s.pending := by simp [fabricMs]

@[simp] theorem timeTick_pending (s : State) : (timeTick s).pending = s.pending := by
  unfold timeTick
  dsimp only
  repeat' split
  all_goals simp

/-! ## What a command answers -/

/-- A command's answer: a next state, reached from one that holds the queue of waiting commands `s` holds. -/
def Ends (s : State) (o : Host.Outcome State Fault Refusal) : Prop := ∃ u, o = done u ∧ u.pending = s.pending

namespace Ends
variable {s u : State} {o o' : Host.Outcome State Fault Refusal}

@[simp] theorem of_done (h : u.pending = s.pending) : Ends s (done u) := ⟨u, rfl, h⟩

theorem ite {c : Prop} [Decidable c] (h : Ends s o) (h' : Ends s o') : Ends s (if c then o else o') := by
  split <;> assumption

end Ends

theorem execLockWrite_ends (m : Master) (p : Page) (v : Word) (s : State) : Ends s (execLockWrite m p v s) :=
  .of_done (ungated_pending (lockEffect_pending p v) ..)

theorem execErrWrite_ends (m : Master) (p : Page) (v : Word) (s : State) : Ends s (execErrWrite m p v s) :=
  .of_done (ungated_pending (errEffect_pending p) ..)

theorem execIrqPendClear_ends (m : Master) (p : Page) (v : Word) (s : State) : Ends s (execIrqPendClear m p v s) :=
  .of_done (ungated_pending (pendEffect_pending p v) ..)

theorem execIrqEnWrite_ends (m : Master) (p : Page) (v : Word) (s : State) : Ends s (execIrqEnWrite m p v s) :=
  .of_done (ungated_pending (irqEnEffect_pending p v) ..)

theorem execResultLowWordRead_ends (m : Master) (addr : Nat) (s : State) : Ends s (execResultLowWordRead m addr s) := by
  unfold execResultLowWordRead
  split
  · exact .ite (.of_done rfl) <| .ite (.of_done (emit_pending ..)) (.of_done ((emit_pending ..).trans (latchHigh_pending ..)))
  · exact .ite (.of_done rfl) (.of_done (emit_pending ..))

theorem execJrnlCursorWrite_ends (m : Master) (v : Word) (s : State) : Ends s (execJrnlCursorWrite m v s) :=
  .of_done (guarded_pending (jCursorEffect_pending v) ..)

theorem execJrnlWindowLoadDone_ends (s : State) : Ends s (execJrnlWindowLoadDone s) := by
  have hw (f : ℕ → Option JEntry) : SameQueue s (iterUp 8 (fun e (s : State) => s.setRegs (R.jrnlWin (16 * e))
      (match f e with | some x => x.words | none => List.replicate 16 0)) s) := .step (iterUp_pending (fun _ _ => setRegs_pending ..) _) (.refl s)
  unfold execJrnlWindowLoadDone
  split
  · exact .of_done rfl
  · refine .of_done (SameQueue.eq ?_)
    exact .step (complete_pending ..) <| .step (pending_mk ..) (hw _)

theorem execLifeUpdate_ends (s : State) : Ends s (execLifeUpdate s) := by
  unfold execLifeUpdate
  dsimp only
  split
  · simp
  · split <;> simp

theorem execEventArrival_ends (s : State) : Ends s (execEventArrival s) := by
  unfold execEventArrival
  split <;> simp

theorem execEventFlushPeriod_ends (s : State) : Ends s (execEventFlushPeriod s) := by
  unfold execEventFlushPeriod
  split <;> simp

theorem execEventFlushDone_ends (s : State) : Ends s (execEventFlushDone s) := by
  refine .ite (.of_done rfl) (.of_done ?_)
  exact (evPos_pending _).trans <| (putBit_pending ..).trans <| (pending_mk ..).trans <| (edgeIf_pending ..).trans <| (evCopy_pending ..).trans <|
    (squallOff_pending _).trans (evCopy_pending ..)

theorem execEvrCursorWrite_ends (m : Master) (v : Word) (s : State) : Ends s (execEvrCursorWrite m v s) :=
  .of_done (guarded_pending (evrCursorEffect_pending v) ..)

theorem execWindowLoadDone_ends (s : State) : Ends s (execWindowLoadDone s) := by
  have hw (f : ℕ → List Word) : SameQueue s (iterUp 8 (fun e (s : State) => s.setRegs (R.evrWin (8 * e)) (f e)) s) :=
    .step (iterUp_pending (fun _ _ => setRegs_pending ..) _) (.refl s)
  unfold execWindowLoadDone
  split
  · exact .of_done rfl
  · refine .of_done (SameQueue.eq ?_)
    exact .step (edge_pending ..) <| .step (complete_pending ..) <| .step (pending_mk ..) (hw _)

theorem execEvrUserEvent_ends (m : Master) (v : Word) (s : State) : Ends s (execEvrUserEvent m v s) :=
  .of_done (guarded_pending (evrUserEffect_pending m.val v) ..)

theorem execMarchComplete_ends (fails : BitVec 48) (s : State) : Ends s (execMarchComplete fails s) := by
  unfold execMarchComplete
  split <;> simp

theorem execDmaDescriptorFetch_ends (n : Fin 16) (errs : List (Nat × Bool)) (s : State) : Ends s (execDmaDescriptorFetch n errs s) := by
  unfold execDmaDescriptorFetch
  extract_lets +onlyGivenNames n c
  refine .ite (.of_done rfl) ?_
  extract_lets +onlyGivenNames t r
  have hr : r.2.2.pending = s.pending := (devRead_pending ..).trans (foldl_pending (fun _ _ => eccFound_pending ..) ..)
  clear_value r t
  split
  · exact .of_done ((chFail_pending ..).trans hr)
  · exact .ite (.of_done ((chFail_pending ..).trans <| (setChan_pending ..).trans hr)) <|
      .ite (.of_done ((jOpen_pending ..).trans <| (setChan_pending ..).trans hr)) (.of_done ((setChan_pending ..).trans hr))

theorem execHbPulseSend_ends (s : State) : Ends s (execHbPulseSend s) := by
  unfold execHbPulseSend
  split <;> simp

theorem execClaimWindowExpiry_ends (s : State) : Ends s (execClaimWindowExpiry s) := by
  unfold execClaimWindowExpiry
  split <;> simp

theorem execClaimConfirm_ends (s : State) : Ends s (execClaimConfirm s) := by
  unfold execClaimConfirm
  split <;> simp

theorem execBackoffRetry_ends (s : State) : Ends s (execBackoffRetry s) := by
  unfold execBackoffRetry
  split <;> simp

theorem execPairingFrame_ends (digest : List Word) (profile : Fin 4) (auth : Fin 16) (s : State) : Ends s (execPairingFrame digest profile auth s) := by
  unfold execPairingFrame
  split <;> simp

theorem execPairingFrameSend_ends (s : State) : Ends s (execPairingFrameSend s) := .ite (.of_done (emit_pending ..)) (.of_done rfl)

theorem execShadowFrame_ends (drv latch : BitVec 16) (minon : List Byte) (s : State) : Ends s (execShadowFrame drv latch minon s) := by
  unfold execShadowFrame
  split <;> simp

theorem execTripVectorHash_ends (row : BitVec 32) (hash : Word) (s : State) : Ends s (execTripVectorHash row hash s) := by
  unfold execTripVectorHash
  split <;> simp

theorem execHbSwapRequest_ends (m : Master) (v : Word) (s : State) : Ends s (execHbSwapRequest m v s) :=
  .of_done (guarded_pending (hbSwapEffect_pending v) ..)

theorem execDrcPostEnd_ends (s : State) : Ends s (execDrcPostEnd s) := by
  unfold execDrcPostEnd
  split
  · exact .of_done rfl
  · exact .of_done ((drcStat_pending _).trans (pending_mk ..))

theorem execRecordExtentWritten_ends (s : State) : Ends s (execRecordExtentWritten s) := by
  unfold execRecordExtentWritten
  split
  · exact .of_done rfl
  · split
    · exact .of_done ((drcTrunc_pending ..).trans (ite_keeps (putBit_pending ..) rfl))
    · next h =>
      have h := stoTake_pending _ _ _ h
      exact .of_done ((pending_mk ..).trans <| (stoCard_pending ..).trans (ite_keeps ((stoDir_pending _).trans h) h))

theorem execRecordSeal_ends (s : State) : Ends s (execRecordSeal s) := by
  unfold execRecordSeal
  dsimp only
  split
  · simp
  · split <;> simp

theorem execDrcStatInterval_ends (s : State) : Ends s (execDrcStatInterval s) := by
  unfold execDrcStatInterval
  split <;> simp

theorem execStoInit_ends (sectors : Word) (eol lifeA lifeB : Byte) (mode : Fin 4) (s : State) : Ends s (execStoInit sectors eol lifeA lifeB mode s) := by
  unfold execStoInit
  split <;> simp

theorem execStoCommandDone_ends (s : State) : Ends s (execStoCommandDone s) := by
  unfold execStoCommandDone
  split <;> simp

theorem execCardTimeout_ends (s : State) : Ends s (execCardTimeout s) := by
  unfold execCardTimeout
  dsimp only
  split
  · simp
  · split <;> simp

theorem execTrmLatchRst_ends (m : Master) (v : Word) (s : State) : Ends s (execTrmLatchRst m v s) :=
  .of_done (guarded_pending (latchRstEffect_pending v) ..)

theorem execMinonExpiry_ends (k : Fin 16) (s : State) : Ends s (execMinonExpiry k s) := by
  unfold execMinonExpiry
  split <;> simp

theorem execTripIssueTimeout_ends (s : State) : Ends s (execTripIssueTimeout s) := by
  unfold execTripIssueTimeout
  split <;> simp

theorem execStatusFrame_ends (die : Fin 2) (raw : BitVec 16) (pins : BitVec 8) (foh : Bool) (load : BitVec 8) (s : State) : Ends s (execStatusFrame die raw pins foh load s) := by
  unfold execStatusFrame
  dsimp only
  split <;> simp

theorem execInputFilterStep_ends (n : Fin 32) (s : State) : Ends s (execInputFilterStep n s) := by
  unfold execInputFilterStep
  split <;> simp

theorem execOvlRetry_ends (k : Fin 16) (s : State) : Ends s (execOvlRetry k s) := .ite (.of_done (setFo_pending ..)) (.of_done rfl)

theorem execClampEventEnd_ends (k : Fin 16) (energy : BitVec 24) (s : State) : Ends s (execClampEventEnd k energy s) := by
  unfold execClampEventEnd
  dsimp only
  split <;> simp

theorem execTcsTimer_ends (k : Fin 16) (low : Bool) (s : State) : Ends s (execTcsTimer k low s) :=
  .ite (.of_done rfl) (.of_done ((event_pending ..).trans (tcsSet_pending ..)))

theorem execVfLow_ends (g : Fin 2) (s : State) : Ends s (execVfLow g s) :=
  .ite (.of_done rfl) (.of_done ((addLife_pending ..).trans <| (putBit_pending ..).trans (pending_mk ..)))

theorem execUvlo_ends (g : Fin 2) (s : State) : Ends s (execUvlo g s) := by
  unfold execUvlo
  extract_lets +onlyGivenNames _ s1 s2
  have h1 : s1.pending = s.pending := rfl
  have h2 : s2.pending = s.pending := ite_keeps ((putBit_pending ..).trans h1) h1
  clear_value s2
  refine .ite (.of_done h2) (.of_done ((iterUp_pending (fun i t => ?_) _).trans <| (addLife_pending ..).trans <| (putBit_pending ..).trans <| (putBit_pending ..).trans h2))
  simp

theorem execVfRecoveryTimer_ends (g : Fin 2) (s : State) : Ends s (execVfRecoveryTimer g s) := by
  unfold execVfRecoveryTimer
  split <;> simp

theorem execTrackerRelease_ends (s : State) : Ends s (execTrackerRelease s) := by
  refine .of_done (ite_keeps ?_ rfl)
  have h : ({ (s.setTrk trkRELEASE).putBit R.gridStat_stale false with
      grid := { ((s.setTrk trkRELEASE).putBit R.gridStat_stale false).grid with goodCycles := 0, relMeas := none } } : State).pending = s.pending :=
    (pending_mk ..).trans <| (putBit_pending ..).trans (setTrk_pending ..)
  dsimp only
  split
  · exact (formInc_pending ..).trans h
  · exact h

theorem execElementPhase2_ends (p : Fin 8) (vs : List Sys2Proof.BVerdict) (s : State) : Ends s (execElementPhase2 p vs s) := by
  unfold execElementPhase2
  dsimp only
  split
  · simp
  · split <;> simp

theorem execCrucibleCommit_ends (p : Fin 8) (cycles : Nat) (s : State) : Ends s (execCrucibleCommit p cycles s) :=
  .ite (.of_done rfl) (.of_done (updPair_pending ..))

theorem execPheLate_ends (s : State) : Ends s (execPheLate s) := by
  unfold execPheLate
  split <;> simp

theorem execPeaPairStatInterval_ends (s : State) : Ends s (execPeaPairStatInterval s) := by
  unfold execPeaPairStatInterval
  split <;> simp

theorem execElementTimerExpiry_ends (e : Fin 4096) (s : State) : Ends s (execElementTimerExpiry e s) := by
  unfold execElementTimerExpiry
  split <;> simp

theorem execResetTimerExpiry_ends (e : Fin 4096) (s : State) : Ends s (execResetTimerExpiry e s) := by
  unfold execResetTimerExpiry
  split <;> simp

theorem execOperateHoldExpiry_ends (e : Fin 4096) (s : State) : Ends s (execOperateHoldExpiry e s) := by
  unfold execOperateHoldExpiry
  split <;> simp

theorem execPortSignalDetect_ends (p : Fin 6) (s : State) : Ends s (execPortSignalDetect p s) := by
  unfold execPortSignalDetect
  split <;> simp

theorem execHelloReceived_ends (p : Fin 6) (serial : BitVec 64) (id : Option (Fin 64)) (port : Fin 6) (s : State) :
    Ends s (execHelloReceived p serial id port s) :=
  .ite (.ite (.of_done ((portState_pending ..).trans <| (updPort_pending ..).trans (updPort_pending ..)))
    (.of_done (ite_keeps ((announce_pending _).trans (updPort_pending ..)) (updPort_pending ..)))) (.of_done rfl)

theorem execPortFaultRetry_ends (p : Fin 6) (s : State) : Ends s (execPortFaultRetry p s) := by
  unfold execPortFaultRetry
  dsimp only
  split <;> simp

theorem execFrameCrcError_ends (p : Fin 6) (s : State) : Ends s (execFrameCrcError p s) := by
  unfold execFrameCrcError
  split <;> simp

theorem execGalPortStatInterval_ends (s : State) : Ends s (execGalPortStatInterval s) := by
  unfold execGalPortStatInterval
  split <;> simp

theorem execLinkStateFlood_ends (origin : Fin 64) (seq : Nat) (links : List (Nat × Nat)) (s : State) : Ends s (execLinkStateFlood origin seq links s) :=
  .ite (.of_done rfl) (.of_done ((emit_pending ..).trans (putLinks_pending ..)))

theorem execFabricBitsFrame_ends (m : Fin 64) (bits : BitVec 64) (s : State) : Ends s (execFabricBitsFrame m bits s) := by
  unfold execFabricBitsFrame
  split <;> simp

theorem execFabricBitsRefresh_ends (s : State) : Ends s (execFabricBitsRefresh s) := .ite (.of_done (emit_pending ..)) (.of_done rfl)

theorem execGopDelivery_ends (origin : Fin 64) (seq : Nat) (op : Fin 6) (tgt : Fin 8) (atMode : Fin 4) (at_ : BitVec 32) (data : List Word) (s : State) : Ends s (execGopDelivery origin seq op tgt atMode at_ data s) := by
  unfold execGopDelivery
  split <;> simp

theorem execBroadcastReceived_ends (origin : Fin 64) (seq : Nat) (data : List Word) (s : State) : Ends s (execBroadcastReceived origin seq data s) := by
  unfold execBroadcastReceived
  split <;> simp

theorem execBarrierRelease_ends (origin : Fin 64) (seq : Nat) (s : State) : Ends s (execBarrierRelease origin seq s) := by
  unfold execBarrierRelease
  extract_lets +onlyGivenNames here arr
  refine .ite (.of_done rfl) ?_
  extract_lets +onlyGivenNames _ t
  have ht : t.pending = s.pending := ite_keeps ((edge_pending ..).trans (pending_mk ..)) rfl
  clear_value t
  split
  · exact .ite (.of_done ((emit_pending ..).trans <| (gopFinish_pending ..).trans ht)) (.of_done ht)
  · exact .of_done ht

theorem execBarrierTimeout_ends (arrived : BitVec 64) (s : State) : Ends s (execBarrierTimeout arrived s) := by
  unfold execBarrierTimeout
  split
  · exact .ite (.of_done rfl) (.of_done ((gopFinish_pending ..).trans (pending_mk ..)))
  · exact .of_done rfl

theorem execGopComplete_ends (seq : Nat) (acked late : BitVec 64) (s : State) : Ends s (execGopComplete seq acked late s) := by
  unfold execGopComplete
  split
  · exact .of_done (cumCmdFinish_pending ..)
  · split
    · exact .ite (.of_done rfl) (.of_done (gopFinish_pending ..))
    · exact .of_done rfl

theorem execTxFrameComplete_ends (p : Fin 4) (s : State) : Ends s (execTxFrameComplete p s) := by
  unfold execTxFrameComplete
  dsimp only
  split
  · exact .of_done rfl
  · exact .ite (.of_done ((macCount_pending ..).trans <| (updMac_pending ..).trans (updMac_pending ..))) (.of_done ((txFinish_pending ..).trans (updMac_pending ..)))

theorem execGooseRetransmit_ends (d : Fin 128) (s : State) : Ends s (execGooseRetransmit d s) := by
  unfold execGooseRetransmit
  dsimp only
  split <;> simp

theorem execGooseFrameReceived_ends (f : GooseRx) (s : State) : Ends s (execGooseFrameReceived f s) := by
  unfold execGooseFrameReceived
  dsimp only
  split <;> simp

theorem execSvPublishFrame_ends (p : Fin 8) (s : State) : Ends s (execSvPublishFrame p s) := by
  unfold execSvPublishFrame
  split <;> simp

theorem execPheDone_ends (vs : List Sys2Proof.BVerdict) (s : State) : Ends s (execPheDone vs s) := by
  unfold execPheDone
  split <;> simp

theorem execCumulusFrameReceived_ends (k : Fin 8) (row : BitVec 32) (first : Nat) (chans : List (BitVec 64 × BitVec 64 × BitVec 8 × BitVec 64)) (s : State) :
    Ends s (execCumulusFrameReceived k row first chans s) :=
  .ite (.of_done rfl) <| .ite (.of_done (updCum_pending ..)) <| .ite (.of_done rfl) <| .of_done <|
    ite_keeps ((cumForward_pending ..).trans (cumAdd_pending ..)) (cumAdd_pending ..)

theorem execCumulusTotalsReceived_ends (k : Fin 8) (origin : Fin 64) (row : BitVec 32) (totals : List (Word × Word × Word)) (s : State) :
    Ends s (execCumulusTotalsReceived k origin row totals s) := by
  refine .ite (.of_done rfl) <| .ite (.of_done (updCum_pending ..)) <| .of_done ?_
  have h (f : CumSet → CumSet) (e : Emit) : ((if s.selfId = s.cumOrigin k ∨ s.selfId = s.cumAlt k then s else s.updCum k f).emit e).pending = s.pending :=
    (emit_pending ..).trans (ite_keeps rfl (updCum_pending ..))
  exact ite_keeps (h ..) ((cumWrite_pending ..).trans (h ..))

theorem execCumulusReturnBound_ends (k : Fin 8) (s : State) : Ends s (execCumulusReturnBound k s) := by
  unfold execCumulusReturnBound
  split <;> simp

theorem execCumulusJoin_ends (k : Fin 8) (echo : Word) (s : State) : Ends s (execCumulusJoin k echo s) :=
  .ite (.of_done rfl) (.of_done ((setRegBit_pending ..).trans (emit_pending ..)))

theorem execHkaPassPeriod_ends (s : State) : Ends s (execHkaPassPeriod s) := by
  unfold execHkaPassPeriod
  split <;> simp

theorem execHkaWarmupDone_ends (s : State) : Ends s (execHkaWarmupDone s) := .ite (.of_done ((putBit_pending ..).trans (pending_mk ..))) (.of_done rfl)

theorem execHkaConversionDone_ends (code : BitVec 12) (ovr : Bool) (s : State) : Ends s (execHkaConversionDone code ovr s) := by
  unfold execHkaConversionDone
  dsimp only
  split
  · simp
  · split <;> simp

theorem execHkaTemperatureSample_ends (sensor : Fin 8) (code : BitVec 12) (ovr : Bool) (s : State) : Ends s (execHkaTemperatureSample sensor code ovr s) := by
  unfold execHkaTemperatureSample
  dsimp only
  split <;> simp

theorem execLogicCycleLead_ends (s : State) : Ends s (execLogicCycleLead s) := by
  unfold execLogicCycleLead
  dsimp only
  split
  · simp
  · split <;> simp

theorem execLogicSnapshot_ends (gen : BitVec 16) (s : State) : Ends s (execLogicSnapshot gen s) := by
  refine .ite (.of_done rfl) <| .ite (.ite (.of_done rfl) (.of_done ?_)) <| .ite (.of_done ?_) (.of_done rfl)
  · exact (updLge_pending ..).trans <| (engine_pending (fun _ => by rfl) ..).trans (snapLogic_pending s)
  · refine (emit_pending ..).trans <| (snapLogic_pending _).trans ?_
    split
    · exact ite_keeps (updLge_pending ..) rfl
    · rfl

theorem execInputImageReceived_ends (m : Fin 64) (image : List Byte) (s : State) : Ends s (execInputImageReceived m image s) :=
  .ite (.of_done rfl) (.of_done ((updLge_pending ..).trans (engine_pending (fun _ => by rfl) ..)))

theorem execLogicExec_ends (memErr : Option (Fin 8192)) (s : State) : Ends s (execLogicExec memErr s) := by
  have hforce (t : State) (fl : List (LLoc × Word)) (h : SameQueue s t) : SameQueue s (fl.foldl (fun (s : State) (f : LLoc × Word) => match f.1 with
      | .image m w => s.engine 4 [(imgAddr m + 4 * w, 4, true)] (fun s => s.setWord (imgAddr m + 4 * w) f.2)
      | _ => s) t) := by
    refine .step (foldl_pending (fun t f => ?_) _ _) h
    split
    · exact engine_pending (fun _ => by rfl) ..
    · rfl
  have hslice (l : List ℕ) (f : State → ℕ → List Byte) (t : State) (h : SameQueue s t) : SameQueue s (l.foldl (fun (s : State) m =>
      s.engine 4 [(sliceAddr m, 192, true)] (fun s => s.setBytes (sliceAddr m) (f s m))) t) :=
    .step (foldl_pending (fun _ _ => engine_pending (fun _ => by rfl) ..) _ _) h
  unfold execLogicExec
  generalize runInstances = run
  generalize State.lgePoison = poison
  revert run poison
  refine kept fun run poison => ?_
  split
  · exact .of_done rfl
  · refine .ite (.of_done rfl) ?_
    extract_lets +onlyGivenNames v s1 ws s2 s3 hit
    have h2 (c : Bool) : SameQueue s (s2.edgeIf c .lge 2) :=
      .step (edgeIf_pending ..) <| .step (engine_pending (fun _ => by rfl) ..) <| .step (setReg_pending ..) <| .step (setReg_pending ..) (.refl s)
    have h3 : SameQueue s s3 := h2 _
    clear_value hit
    split
    · exact .of_done (SameQueue.step (lgeStop_pending ..) <| .step (eccRead_pending ..) h3).eq
    · exact .of_done (SameQueue.step (lgeStop_pending ..) h3).eq
    · refine .of_done (SameQueue.eq (hslice _ _ _ <| .step (ownHeaders_pending _) <| .step (updLge_pending ..) ?_))
      exact .ite (.step (putBit_pending ..) <| .step (edgeIf_pending ..) <| .step (pending_mk ..) (hforce _ _ h3)) (.step (pending_mk ..) (hforce _ _ h3))

theorem execRetainSaveDone_ends (s : State) : Ends s (execRetainSaveDone s) := by
  unfold execRetainSaveDone
  split <;> simp

theorem execLogicOut_ends (s : State) : Ends s (execLogicOut s) := by
  unfold execLogicOut
  split
  · exact .of_done rfl
  · refine .ite (.of_done rfl) ?_
    have hout (f : State → ℕ → List Byte) (t : State) (h : SameQueue s t) : SameQueue s (t.domList.foldl (fun (s : State) m =>
        if m = s.selfId then s else s.emit (.logicSlice m (f s m) (!s.lge.forces.isEmpty))) t) :=
      .step (foldl_pending (fun _ _ => ite_keeps rfl (emit_pending ..)) _ _) h
    have hcopy (p : LProg) (t : State) (h : SameQueue s t) : SameQueue s (if t.lge.saving.isSome || t.lge.frozen then t else shadowCopy p t) :=
      .ite h (.step (shadowCopy_pending ..) h)
    have h1 : SameQueue s (if s.lge.swap.isSome then recastDone 0 s else s) := .ite (.step (recastDone_pending ..) (.refl s)) (.refl s)
    have h3 := hcopy ‹_› _ (hout (fun s m => memBytes s.mem (sliceAddr m) 192) _ h1)
    exact .ite (.of_done (SameQueue.step (updLge_pending ..) h3).eq) (.of_done (SameQueue.step (applySlice_pending _ outEnd_pending _) h3).eq)

theorem execSliceReceived_ends (slice : List Byte) (s : State) : Ends s (execSliceReceived slice s) :=
  .ite (.of_done rfl) <| .ite (.of_done (updLge_pending ..)) <| .of_done ((applySlice_pending _ (fun t => setLe_pending t leREMOTE) _).trans (updLge_pending ..))

theorem execSliceApplyOutsync_ends (s : State) : Ends s (execSliceApplyOutsync s) := by
  unfold execSliceApplyOutsync
  split
  · exact .of_done rfl
  · exact .ite (.ite (.of_done ((applySlice_pending _ outEnd_pending _).trans (updLge_pending ..))) (.of_done (updLge_pending ..))) <|
      .ite (.of_done ((applySlice_pending _ (fun t => setLe_pending t leREMOTE) _).trans (updLge_pending ..))) (.of_done (updLge_pending ..))

theorem execRecastPrepareDone_ends (s : State) : Ends s (execRecastPrepareDone s) := by
  unfold execRecastPrepareDone
  split
  · exact .of_done rfl
  · exact .ite (.of_done (prepEnd_pending ..)) <| .ite (.of_done rfl) (.of_done (prepEnd_pending ..))

theorem execNoack_ends (s : State) : Ends s (execNoack s) := by
  unfold execNoack
  split <;> simp

theorem execIomapAck_ends (m : Fin 64) (gen : BitVec 16) (map : LIomap) (safe : List Byte) (s : State) : Ends s (execIomapAck m gen map safe s) := by
  refine .ite (.of_done ((emit_pending ..).trans (updLge_pending ..))) ?_
  split
  · exact .of_done (updLge_pending ..)
  · exact .of_done rfl

theorem execSwapStart_ends (cycles : BitVec 20) (s : State) : Ends s (execSwapStart cycles s) := by
  refine .ite (.of_done rfl) (.of_done ?_)
  exact (shadowCopy_pending ..).trans <| (updLge_pending ..).trans <| (roleSwitch_pending _).trans <| (foldl_pending (fun _ _ => event_pending ..) _ _).trans <|
    (forceStat_pending _).trans <| (engine_pending (fun _ => by rfl) ..).trans <| (updLge_pending ..).trans <| (setPhase_pending ..).trans (jOpen_pending ..)

theorem execPdelayReqReceived_ends (p : Fin 4) (num : BitVec 8) (seq : BitVec 16) (s : State) : Ends s (execPdelayReqReceived p num seq s) := by
  refine .of_done ?_
  split
  · rfl
  · exact updMac_pending ..

theorem execBlendComplete_ends (s : State) : Ends s (execBlendComplete s) := by
  unfold execBlendComplete
  split <;> simp

theorem execPpsInEdge_ends (dev : Int) (s : State) : Ends s (execPpsInEdge dev s) := by
  unfold execPpsInEdge
  refine .ite (.of_done rfl) ?_
  extract_lets +onlyGivenNames w perr t
  have ht : t.pending = s.pending := (edge_pending ..).trans (complete_pending ..)
  clear_value t
  refine .ite (.of_done ((gridUpdate_pending _).trans <| ite_keeps ?_ ?_)) (.of_done ht)
  · exact (updTime_pending ..).trans <| (put_pending ..).trans <| (updTime_pending ..).trans ht
  · exact (updTime_pending ..).trans ht

theorem execFabricTimeMessage_ends (m : Fin 64) (wall grid : Nat) (wallAdj gridAdj : Int) (wallSt gridSt : Fin 3) (s : State) : Ends s (execFabricTimeMessage m wall grid wallAdj gridAdj wallSt gridSt s) := by
  unfold execFabricTimeMessage
  split <;> simp

theorem execFabricTimeTimeout_ends (s : State) : Ends s (execFabricTimeTimeout s) := by
  unfold execFabricTimeTimeout
  split <;> simp

theorem execRailUndervoltage_ends (rail : Fin 8) (s : State) : Ends s (execRailUndervoltage rail s) := by
  unfold execRailUndervoltage
  dsimp only
  split <;> simp

theorem execThermalTrip_ends (s : State) : Ends s (execThermalTrip s) := by
  unfold execThermalTrip
  split <;> simp

theorem execConfigOperationEnd_ends (ok : Bool) (s : State) : Ends s (execConfigOperationEnd ok s) := by
  unfold execConfigOperationEnd
  dsimp only
  split
  · simp
  · split <;> simp

theorem execSysProfileWrite_ends (m : Master) (v : Word) (s : State) : Ends s (execSysProfileWrite m v s) :=
  .of_done (guarded_pending (profileEffect_pending v) ..)

theorem execBoot_ends (f : BootFinds) (s : State) : Ends s (execBoot f s) := by
  have hi := bootImage_pending f
  have hj (t : State) (h : SameQueue s t) : SameQueue s (bootJournal f t) := .step (bootJournal_pending ..) h
  have hm (t : State) (h : SameQueue s t) : SameQueue s (bootMarch f (bootLife f t)) := .step (bootMarch_pending ..) <| .step (bootLife_pending ..) h
  have he (retain : ℕ → Bool) (t : State) (h : SameQueue s t) : SameQueue s (bootEvents retain t) := .step (bootEvents_pending ..) h
  have hl (t : State) (h : SameQueue s t) : SameQueue s (bootLogic t) := .step (bootLogic_pending ..) h
  have hb (c : ℕ) (x : Word) (y : ℕ) (e : JEntry) (t : State) (h : SameQueue s t) :
      SameQueue s ((((t.sysEvent c x y).jOffer e).putBit R.sysStat_booted true).putBit R.sysStat_supply_ok true) :=
    .step (putBit_pending ..) <| .step (putBit_pending ..) <| .step (jOffer_pending ..) <| .step (sysEvent_pending ..) h
  have hu (f : SysState → SysState) (t : State) (h : SameQueue s t) : SameQueue s (t.updSys f) := .step (updSys_pending ..) h
  unfold execBoot
  generalize bootImage f = image at hi ⊢
  revert image
  refine kept fun image hi => .ite (.of_done rfl) ?_
  extract_lets +onlyGivenNames retain _ s1 s2 s3 unw s4 r s5 s6 s7 s8 s9 s10
  have h1 : SameQueue s s1 := .step (pending_mk ..) (.refl s)
  have h3 : SameQueue s s3 := hj _ (hu _ _ h1)
  have h4 : SameQueue s s4 := hm _ h3
  have hr : SameQueue s r.1 := .step (hi _) h4
  have h5 : SameQueue s s5 := he _ _ hr
  have h8 : SameQueue s s8 := hb _ _ _ _ _ h5
  have h9 : SameQueue s s9 := hu _ _ (hl _ h8)
  have h10 : SameQueue s s10 := .ite h9 (.step (authFix_pending _) h9)
  exact .of_done (SameQueue.step (complete_pending ..) h10).eq

theorem execMsixUnmask_ends (v : Option (Fin 64)) (s : State) : Ends s (execMsixUnmask v s) := by
  unfold execMsixUnmask
  split <;> simp

theorem execHostRemoteAccess_ends (bar0 : Bool) (off : BitVec 31) (len : Nat) (data : Option (List Byte)) (errs : List (Nat × Bool))
    (ans : Option (List Byte)) (s : State) : Ends s (execHostRemoteAccess bar0 off len data errs ans s) := by
  refine .ite (.of_done rfl) <| .ite (.of_done ((hostAnswer_pending ..).trans (raise_pending ..))) <| .ite (.of_done ?_) (.of_done (hostSend_pending ..))
  exact (hostAnswer_pending ..).trans <| (localAccess_pending ..).trans (foldl_pending (fun _ _ => eccFound_pending ..) ..)

theorem execRemoteAccessTimeout_ends (tag : Nat) (s : State) : Ends s (execRemoteAccessTimeout tag s) := by
  unfold execRemoteAccessTimeout
  split <;> simp

theorem execRemoteAccessFrame_ends (src : Fin 64) (off : BitVec 25) (len : Nat) (data : Option (List Byte)) (errs : List (Nat × Bool)) (s : State) :
    Ends s (execRemoteAccessFrame src off len data errs s) := by
  have ha := localAccess_pending
  unfold execRemoteAccessFrame
  generalize localAccess = access at ha ⊢
  revert access
  refine kept fun access ha => .ite (.of_done rfl) ?_
  have ht : (errs.foldl (fun (s : State) e => eccFound 6 e s) s).pending = s.pending := foldl_pending (fun _ _ => eccFound_pending ..) ..
  refine .ite (.of_done ?_) (.of_done ((memFault_pending ..).trans ht))
  split
  · exact (emit_pending ..).trans ((ha ..).trans ht)
  · exact (ha ..).trans ht

theorem execDmaCurInterval_ends (n : Fin 16) (k : Nat) (ans : List (Option (List Byte))) (s : State) : Ends s (execDmaCurInterval n k ans s) := by
  unfold execDmaCurInterval
  dsimp only
  split <;> simp

theorem execDmaHkaRequest_ends (n : Fin 16) (ans : List (Option (List Byte))) (s : State) : Ends s (execDmaHkaRequest n ans s) := by
  unfold execDmaHkaRequest
  dsimp only
  split <;> simp

theorem execDmaDescriptorDone_ends (n : Fin 16) (ans : List (Option (List Byte))) (s : State) : Ends s (execDmaDescriptorDone n ans s) := by
  unfold execDmaDescriptorDone
  extract_lets +onlyGivenNames n c
  refine .ite (.of_done rfl) ?_
  extract_lets +onlyGivenNames total r
  have hr : r.2.pending = s.pending := elemMoves_pending ..
  clear_value r
  exact .ite (.of_done ((chFail_pending ..).trans hr)) <| .ite (.of_done hr) (.of_done ((chComplete_pending ..).trans hr))

/-- Every command is answered by `done`, on a state that holds the same queue: the commands that branch by their own lemma,
the others by the state their definition names. -/
theorem exec_ends (c : Instr) (s : State) : Ends s (exec c s) := by
  cases c with
  | lockWrite => exact execLockWrite_ends ..
  | errWrite m p v => exact execErrWrite_ends m p v s
  | irqPendClear => exact execIrqPendClear_ends ..
  | irqEnWrite => exact execIrqEnWrite_ends ..
  | resultLowWordRead => exact execResultLowWordRead_ends ..
  | hostRemoteAccess => exact execHostRemoteAccess_ends ..
  | remoteAccessTimeout => exact execRemoteAccessTimeout_ends ..
  | msixUnmask => exact execMsixUnmask_ends ..
  | hbSwapRequest => exact execHbSwapRequest_ends ..
  | trackerRelease => exact execTrackerRelease_ends ..
  | svPublishFrame => exact execSvPublishFrame_ends ..
  | pheDone => exact execPheDone_ends ..
  | pheLate => exact execPheLate_ends ..
  | elementPhase2 => exact execElementPhase2_ends ..
  | crucibleCommit => exact execCrucibleCommit_ends ..
  | peaPairStatInterval => exact execPeaPairStatInterval_ends ..
  | elementTimerExpiry => exact execElementTimerExpiry_ends ..
  | resetTimerExpiry => exact execResetTimerExpiry_ends ..
  | operateHoldExpiry => exact execOperateHoldExpiry_ends ..
  | minonExpiry => exact execMinonExpiry_ends ..
  | trmLatchRst => exact execTrmLatchRst_ends ..
  | statusFrame => exact execStatusFrame_ends ..
  | inputFilterStep => exact execInputFilterStep_ends ..
  | ovlRetry => exact execOvlRetry_ends ..
  | clampEventEnd => exact execClampEventEnd_ends ..
  | tcsTimer => exact execTcsTimer_ends ..
  | vfLow => exact execVfLow_ends ..
  | uvlo => exact execUvlo_ends ..
  | vfRecoveryTimer => exact execVfRecoveryTimer_ends ..
  | hkaPassPeriod => exact execHkaPassPeriod_ends ..
  | hkaWarmupDone => exact execHkaWarmupDone_ends ..
  | hkaConversionDone => exact execHkaConversionDone_ends ..
  | hkaTemperatureSample => exact execHkaTemperatureSample_ends ..
  | logicCycleLead => exact execLogicCycleLead_ends ..
  | logicSnapshot => exact execLogicSnapshot_ends ..
  | inputImageReceived => exact execInputImageReceived_ends ..
  | logicExec => exact execLogicExec_ends ..
  | logicOut => exact execLogicOut_ends ..
  | sliceReceived => exact execSliceReceived_ends ..
  | sliceApplyOutsync => exact execSliceApplyOutsync_ends ..
  | retainSaveDone => exact execRetainSaveDone_ends ..
  | iomapAck => exact execIomapAck_ends ..
  | noack => exact execNoack_ends ..
  | recastPrepareDone => exact execRecastPrepareDone_ends ..
  | swapStart => exact execSwapStart_ends ..
  | pdelayReqReceived => exact execPdelayReqReceived_ends ..
  | ppsInEdge => exact execPpsInEdge_ends ..
  | fabricTimeMessage => exact execFabricTimeMessage_ends ..
  | fabricTimeTimeout => exact execFabricTimeTimeout_ends ..
  | portSignalDetect => exact execPortSignalDetect_ends ..
  | helloReceived => exact execHelloReceived_ends ..
  | frameCrcError => exact execFrameCrcError_ends ..
  | portFaultRetry => exact execPortFaultRetry_ends ..
  | linkStateFlood => exact execLinkStateFlood_ends ..
  | remoteAccessFrame => exact execRemoteAccessFrame_ends ..
  | fabricBitsFrame => exact execFabricBitsFrame_ends ..
  | fabricBitsRefresh => exact execFabricBitsRefresh_ends ..
  | gopDelivery => exact execGopDelivery_ends ..
  | broadcastReceived => exact execBroadcastReceived_ends ..
  | barrierRelease => exact execBarrierRelease_ends ..
  | barrierTimeout => exact execBarrierTimeout_ends ..
  | gopComplete => exact execGopComplete_ends ..
  | cumulusFrameReceived => exact execCumulusFrameReceived_ends ..
  | cumulusTotalsReceived => exact execCumulusTotalsReceived_ends ..
  | cumulusReturnBound => exact execCumulusReturnBound_ends ..
  | cumulusJoin => exact execCumulusJoin_ends ..
  | pairingFrame => exact execPairingFrame_ends ..
  | pairingFrameSend => exact execPairingFrameSend_ends ..
  | hbPulseSend => exact execHbPulseSend_ends ..
  | claimWindowExpiry => exact execClaimWindowExpiry_ends ..
  | claimConfirm => exact execClaimConfirm_ends ..
  | backoffRetry => exact execBackoffRetry_ends ..
  | shadowFrame => exact execShadowFrame_ends ..
  | tripVectorHash => exact execTripVectorHash_ends ..
  | txFrameComplete => exact execTxFrameComplete_ends ..
  | gooseRetransmit => exact execGooseRetransmit_ends ..
  | gooseFrameReceived => exact execGooseFrameReceived_ends ..
  | eventArrival => exact execEventArrival_ends ..
  | eventFlushPeriod => exact execEventFlushPeriod_ends ..
  | eventFlushDone => exact execEventFlushDone_ends ..
  | evrCursorWrite => exact execEvrCursorWrite_ends ..
  | windowLoadDone => exact execWindowLoadDone_ends ..
  | evrUserEvent => exact execEvrUserEvent_ends ..
  | drcPostEnd => exact execDrcPostEnd_ends ..
  | recordExtentWritten => exact execRecordExtentWritten_ends ..
  | recordSeal => exact execRecordSeal_ends ..
  | stoInit => exact execStoInit_ends ..
  | stoCommandDone => exact execStoCommandDone_ends ..
  | cardTimeout => exact execCardTimeout_ends ..
  | marchComplete => exact execMarchComplete_ends ..
  | dmaDescriptorFetch => exact execDmaDescriptorFetch_ends ..
  | dmaHkaRequest => exact execDmaHkaRequest_ends ..
  | dmaDescriptorDone => exact execDmaDescriptorDone_ends ..
  | railUndervoltage => exact execRailUndervoltage_ends ..
  | thermalTrip => exact execThermalTrip_ends ..
  | boot => exact execBoot_ends ..
  | sysProfileWrite => exact execSysProfileWrite_ends ..
  | tripIssueTimeout => exact execTripIssueTimeout_ends ..
  | jrnlCursorWrite => exact execJrnlCursorWrite_ends ..
  | lifeUpdate => exact execLifeUpdate_ends ..
  | configOperationEnd => exact execConfigOperationEnd_ends ..
  | jrnlWindowLoadDone => exact execJrnlWindowLoadDone_ends ..
  | blendComplete => exact execBlendComplete_ends ..
  | drcStatInterval => exact execDrcStatInterval_ends ..
  | galPortStatInterval => exact execGalPortStatInterval_ends ..
  | dmaCurInterval => exact execDmaCurInterval_ends ..
  | _ => exact .of_done (by simp)

/-- Settles O2: every command is answered by `done` (`exec_ends`), and what ends every command leaves the queue alone. -/
theorem everyCommandEndsInANextState : Obligations.EveryCommandEndsInANextState := by
  intro c s
  obtain ⟨u, hu, hq⟩ := exec_ends c s
  exact ⟨u.fin, hu, (fin_pending u).trans hq⟩

theorem fin_forwardOrHolds (s : State) : ForwardOrHolds s.fin := by
  unfold ForwardOrHolds State.fin
  dsimp only
  split
  · next h => exact fun _ => h
  · exact nofun

/-- What ends every command leaves the interrupt registers covering their sources (R44, R45, R56). -/
theorem fin_consistent (s : State) : PendCovers s.fin ∧ ForwardOrHolds s.fin ∧ InterruptInv s.fin :=
  ⟨fin_covers s, fin_forwardOrHolds s, fun _ => fin_covers s, fin_forwardOrHolds s⟩

/-- Whatever a step answers is the end of a command or of a clock of TIME. -/
theorem step_fin (s : State) : ∃ u : State, step s = .next u.fin := by
  unfold step
  split
  · exact ⟨_, rfl⟩
  · next c rest _ =>
    obtain ⟨u, hu, -⟩ := exec_ends c { s with pending := rest }
    exact ⟨u, hu⟩

/-- Settles O59: every step ends in `State.fin` (`step_fin`), which leaves the interrupt registers consistent. -/
theorem everyStepLeavesInterruptsConsistent : Obligations.EveryStepLeavesInterruptsConsistent := by
  intro s t h
  obtain ⟨u, hu⟩ := step_fin s
  obtain rfl := Host.Outcome.next.inj (hu.symm.trans h)
  exact fin_consistent u

/-- Settles O1: by the cases of the queue. -/
theorem stepRunsFrontCommand : Obligations.StepRunsFrontCommand := by
  refine fun c rest s => ⟨fun h => ?_, fun h => ?_⟩
  · unfold step
    rw [h]
  · unfold step
    rw [h]

/-- Settles O60: at reset no register, header or memory is listed, so every field holds its reset value. -/
theorem invariantsHoldAtReset : Obligations.InvariantsHoldAtReset := by
  have hb : State.reset.bit R.sysStat_booted = false := by decide
  refine ⟨reset_mem_wf, ⟨fun h => ?_, nofun⟩, rfl, hb, fun p => ?_⟩
  · rw [hb] at h
    cases h
  · cases p <;> decide

end Sys2Proof.Machine

namespace Sys2Proof.Machine
open Safety

/-! # Register writes and LOCK (R42 to R49) -/

theorem pageBase_mod_four (p : Page) : pageBase p % 4 = 0 := by cases p <;> decide

/-- An access of 4 bytes at an offset that is a multiple of 4 has a width and an alignment of R42. -/
theorem widthOk_four {p : Page} {o : Nat} (ho : o % 4 = 0) : widthOk (pageBase p + o) 4 = true := by
  have hb := pageBase_mod_four p
  have h : (pageBase p + o) % 4 = 0 := by omega
  simp [widthOk, h]

theorem busWrite_four (m a : Nat) (v : BitVec 64) (s : State) (h : widthOk a 4 = true) :
    busWrite m a 4 v s = regWrite m a (v.setWidth 32) s := by
  unfold busWrite
  rw [h]
  rfl

/-- A 32-bit write to an offset of a page acts as the page's own write there. -/
theorem busWrite_page {p : Page} {o : Nat} (m : Nat) (v : BitVec 64) (s : State) (hp : pageOf (pageBase p + o) = some p)
    (ho : o % 4 = 0) : busWrite m (pageBase p + o) 4 v s = pageWrite m p o (v.setWidth 32) s := by
  rw [busWrite_four _ _ _ _ (widthOk_four ho), regWrite, hp]
  simp only [Nat.add_sub_cancel_left]

/-- R43: outside every page, an access of a width of R42 is UNMAPPED. -/
theorem busWrite_unmapped {m a : Nat} {v : BitVec 64} {s : State} (hp : pageOf a = none) (ha : a % 4 = 0) (hr : s.hostRefused m = false) :
    busWrite m a 4 v s = s.raise .sys 0x0003 m := by
  have hw : widthOk a 4 = true := by simp [widthOk, ha]
  rw [busWrite_four _ _ _ _ hw, regWrite, hp]
  simp [hr]

/-- What a write of a wrong width or alignment to a page does. -/
theorem busWrite_width {m a bytes : Nat} {p : Page} {v : BitVec 64} {s : State} (hw : widthOk a bytes = false) (hp : pageOf a = some p)
    (hb : s.bootGate m p = false) : busWrite m a bytes v s = s.raise p 0x0002 m := by
  simp [busWrite, hw, widthFault, hp, ungated_open _ _ _ _ hb]

theorem pageWrite_headerHole {m o : Nat} {p : Page} {v : Word} {s : State} (hl : 0x028 ≤ o) (hh : o < 0x040)
    (hb : s.bootGate m p = false) : pageWrite m p o v s = s.raise p 0x0003 m := by
  have e : ∀ k : Nat, k < 0x028 → o ≠ k := fun k hk => by omega
  simp [pageWrite, e, hl, hh, ungated_open _ _ _ _ hb]

/-- A write to CTRL or at 0x040 or above goes by LOCK. -/
theorem pageWrite_guarded {m o : Nat} {p : Page} {v : Word} {s : State} (ho : o = 0x008 ∨ 0x040 ≤ o) :
    pageWrite m p o v s = s.guarded m p (fun t =>
      if o = 0x008 ∨ (regRow (pageBase p + o)).isSome then pageFx m p o v t else t.raise p 0x0003 m) := by
  unfold pageWrite
  rw [if_neg (by omega), if_neg (by omega), if_neg (by omega), if_neg (by omega), if_neg (by omega), if_neg (by omega)]

theorem hostRefused_of_bootGate {m : Nat} {p : Page} {s : State} (hb : s.bootGate m p = false) : s.hostRefused m = false := by
  unfold State.bootGate at hb
  exact (Bool.or_eq_false_iff.mp hb).1

theorem exec_registerWrite (m : Master) (a n : Nat) (v : BitVec 64) (s : State) :
    exec (.registerWrite m a n v) s = done (busWrite m.val a n v s) := rfl

/-- Settles O6: each kind of access takes one branch of the bus write. -/
theorem registerWidthsAndHoles : Obligations.RegisterWidthsAndHoles := by
  intro m p o v s hb hp
  refine ⟨fun n hw => ?_, fun ho hl hh => ?_, fun ho hl hu hr => ?_, fun a ha hal => ?_⟩ <;> rw [exec_registerWrite]
  · rw [busWrite_width hw hp hb]; rfl
  · rw [busWrite_page _ _ _ hp ho, pageWrite_headerHole hl hh hb]; rfl
  · have hne : o ≠ 0x008 := by omega
    rw [busWrite_page _ _ _ hp ho, pageWrite_guarded (.inr hl), guarded_unlocked _ _ _ _ hb hu, hr]
    simp only [hne, Option.isSome_none, Bool.false_eq_true, or_self, if_false]
    rfl
  · rw [busWrite_unmapped ha hal (hostRefused_of_bootGate hb)]; rfl

/-! ## Writes under LOCK (R47) -/

/-- Every command that is a write to one register under LOCK is a guarded effect on its page. -/
theorem exec_of_writePage {c : Instr} {m : Master} {p : Page} (s : State) (h : writePage c = some (m, p)) :
    ∃ f : State → State, exec c s = done (s.guarded m.val p f) := by
  cases c <;> cases h <;> exact ⟨_, rfl⟩

/-- A write that LOCK drops: the page is LOCKED and WR_LOCKED recorded. -/
def State.dropWrite (s : State) (p : Page) (m : Nat) : State := (s.updHdr p (fun h => { h with lock := .locked })).raise p 0x0001 m

theorem exec_writePage_locked {c : Instr} {m : Master} {p : Page} {s : State} (h : writePage c = some (m, p))
    (hb : s.bootGate m.val p = false) (hu : s.unlocked p = false) : exec c s = done (s.dropWrite p m.val) := by
  obtain ⟨f, hf⟩ := exec_of_writePage s h
  rw [hf, guarded_locked _ _ _ _ hb hu]
  rfl

theorem exec_registerWrite_locked {m : Master} {p : Page} {o : Nat} {v : BitVec 64} {s : State} (hb : s.bootGate m.val p = false)
    (hu : s.unlocked p = false) (hp : pageOf (pageBase p + o) = some p) (ho : o % 4 = 0) (hl : o = 0x008 ∨ 0x040 ≤ o) :
    exec (.registerWrite m (pageBase p + o) 4 v) s = done (s.dropWrite p m.val) := by
  rw [exec_registerWrite, busWrite_page _ _ _ hp ho, pageWrite_guarded hl, guarded_locked _ _ _ _ hb hu]
  rfl

/-- Settles O4: both kinds of write are guarded, and LOCK drops them. -/
theorem lockedWritesAreDropped : Obligations.LockedWritesAreDropped := by
  intro m p s hb hu
  exact ⟨fun c hc => exec_writePage_locked hc hb hu, fun o v hp ho hl => exec_registerWrite_locked hb hu hp ho hl⟩

/-! ## Header registers (R44 to R48) -/

/-- A change of a page's header that keeps CODE keeps every LEVEL source. -/
theorem levels_updHdr (s : State) (p q : Page) (f : PageHdr → PageHdr) (hf : (f (s.hdr p)).errCode = (s.hdr p).errCode) :
    levels (s.updHdr p f) q = levels s q := by
  have he : ((s.updHdr p f).hdr q).errCode = (s.hdr q).errCode := by
    by_cases hq : q = p
    · rw [hq, hdr_updHdr_same, hf]
    · rw [hdr_updHdr_ne _ _ _ _ hq]
  have hl : blockLevels (s.updHdr p f) q = blockLevels s q := by cases q <;> rfl
  rw [levels, levels, he, hl]

/-- A command that changes one page's header and ends changes nothing else. -/
theorem frame_updHdr (s : State) (p : Page) (f : PageHdr → PageHdr) : Frame [] [] [p] s (s.updHdr p f).fin :=
  frame_fin (fun _ _ => rfl) (fun q _ => Part.same_refl q s)
    (hdrs_updHdr f (fun _ _ => rfl) (List.mem_singleton_self p))

theorem exec_errWrite {m : Master} {p : Page} (v : Word) {s : State} (hb : s.bootGate m.val p = false) :
    exec (.errWrite m p v) s = done (errEffect p s) := congrArg done (ungated_open _ _ _ _ hb)
theorem exec_irqPendClear {m : Master} {p : Page} (v : Word) {s : State} (hb : s.bootGate m.val p = false) :
    exec (.irqPendClear m p v) s = done (pendEffect p v s) := congrArg done (ungated_open _ _ _ _ hb)
theorem exec_irqEnWrite {m : Master} {p : Page} (v : Word) {s : State} (hb : s.bootGate m.val p = false) :
    exec (.irqEnWrite m p v) s = done (irqEnEffect p v s) := congrArg done (ungated_open _ _ _ _ hb)

/-- What IRQ_PEND holds after the bits written 1 were cleared: the LEVEL sources that read 1 stand. -/
theorem irqPend_pendEffect_fin (s : State) (p : Page) (v : Word) :
    ((pendEffect p v s).fin.hdr p).irqPend = ((s.hdr p).irqPend &&& ~~~v) ||| levels s p := by
  rw [fin_irqPend, pendEffect, levels_updHdr _ _ _ _ rfl, hdr_updHdr_same]

theorem irqPend_irqEnEffect_fin (s : State) (p : Page) (v : Word) :
    ((irqEnEffect p v s).fin.hdr p).irqPend = (s.hdr p).irqPend ||| levels s p := by
  rw [fin_irqPend, irqEnEffect, levels_updHdr _ _ _ _ rfl, hdr_updHdr_same]

theorem irqEn_irqEnEffect_fin (s : State) (p : Page) (v : Word) : ((irqEnEffect p v s).fin.hdr p).irqEn = v := by
  rw [fin_hdr, irqEnEffect, hdr_updHdr_same]

theorem irqEn_pendEffect_fin (s : State) (p : Page) (v : Word) : ((pendEffect p v s).fin.hdr p).irqEn = (s.hdr p).irqEn := by
  rw [fin_hdr, pendEffect, hdr_updHdr_same]

/-- What ERR and IRQ_EN hold after a write to ERR. -/
theorem hdr_errEffect_fin (s : State) (p : Page) : ((errEffect p s).fin.hdr p).errCode = 0 ∧ ((errEffect p s).fin.hdr p).errMaster = 0 ∧
    ((errEffect p s).fin.hdr p).errMore = false ∧ ((errEffect p s).fin.hdr p).irqEn = (s.hdr p).irqEn := by
  rw [fin_hdr, errEffect, hdr_updHdr_same]
  exact ⟨rfl, rfl, rfl, rfl⟩

/-- R45: the block interrupt stands exactly while a bit is pending and enabled. -/
theorem blockIrq_iff (s : State) (p : Page) :
    s.blockIrq p = true ↔ ∃ b : Nat, (s.hdr p).irqPend.getLsbD b = true ∧ (s.hdr p).irqEn.getLsbD b = true := by
  have hz : s.blockIrq p = true ↔ (s.hdr p).irqPend &&& (s.hdr p).irqEn ≠ 0#32 := by simp [State.blockIrq]
  rw [hz]
  constructor
  · intro h
    by_contra hn
    refine h (BitVec.eq_of_getLsbD_eq fun i _ => ?_)
    rw [BitVec.getLsbD_and, BitVec.getLsbD_zero, Bool.and_eq_false_iff]
    by_contra hc
    rw [not_or, Bool.not_eq_false, Bool.not_eq_false] at hc
    exact hn ⟨i, hc⟩
  · rintro ⟨b, hp, he⟩ h
    have hb := congrArg (BitVec.getLsbD · b) h
    simp [hp, he] at hb

/-- Settles O5: each header write is one change of the page's header, and the end of the command latches the LEVEL sources. -/
theorem blockInterruptsFollowPendAndEnable : Obligations.BlockInterruptsFollowPendAndEnable := by
  intro m p v s
  refine ⟨blockIrq_iff s, fun hb => ⟨completes_of_done (exec_irqPendClear v hb) ⟨fun b hb' => ?_, fun b hl => ?_, ?_, frame_updHdr ..⟩,
    completes_of_done (exec_irqEnWrite v hb) ⟨irqEn_irqEnEffect_fin .., irqPend_irqEnEffect_fin .., fun b hp hv => ?_, frame_updHdr ..⟩,
    completes_of_done (exec_errWrite v hb) ?_⟩⟩
  · rw [irqPend_pendEffect_fin]
    simp [hb']
  · rw [Pends, irqPend_pendEffect_fin, BitVec.getLsbD_or, hl, Bool.or_true]
  · exact irqEn_pendEffect_fin ..
  · refine (blockIrq_iff _ p).mpr ⟨b, ?_, ?_⟩
    · rw [irqPend_irqEnEffect_fin, BitVec.getLsbD_or, hp, Bool.true_or]
    · rw [irqEn_irqEnEffect_fin]; exact hv
  · obtain ⟨hc, hm, hmo, he⟩ := hdr_errEffect_fin s p
    exact ⟨hc, hm, hmo, he, frame_updHdr ..⟩
end Sys2Proof.Machine

namespace Sys2Proof.Machine
open Safety

/-! # Forward messages (R56) -/

/-- Raising the forward OR is no change of a part. -/
theorem within_fwdOr {F : Foot} (s : State) (b : Bool) : F.Within s { s with host := { s.host with fwdOr := b } } :=
  within_of_parts s rfl rfl fun p _ => by
    cases p
    case mem => exact fun _ => rfl
    all_goals rfl

/-- What ends every command only adds pending bits, so a block interrupt that stands keeps standing. -/
theorem blockIrq_of_pend_mono {s t : State} {p : Page} (hp : ∀ b, Pends s p b → Pends t p b) (he : (t.hdr p).irqEn = (s.hdr p).irqEn)
    (h : s.blockIrq p = true) : t.blockIrq p = true := by
  rw [blockIrq_iff] at h ⊢
  obtain ⟨b, hb, hen⟩ := h
  exact ⟨b, hp b hb, he ▸ hen⟩

theorem source_fin {s : State} {k : Nat} (h : s.source k = true) : s.fin.source k = true := by
  unfold State.source at h ⊢
  simp only [fin_get, fin_bit, fin_reg] at h ⊢
  by_cases hk : k < 27
  · rw [if_pos hk, List.any_eq_true] at h ⊢
    obtain ⟨p, hp, hs⟩ := h
    obtain ⟨hi, hb⟩ := Bool.and_eq_true_iff.mp hs
    exact ⟨p, hp, Bool.and_eq_true_iff.mpr ⟨hi, blockIrq_of_pend_mono (fin_pend_keeps s p) (fin_irqEn s p) hb⟩⟩
  · rwa [if_neg hk] at h ⊢

/-- An enabled source that is asserted stays so at the end of a command. -/
theorem anyRouted_fin {s : State} (h : s.anyRouted = true) : s.fin.anyRouted = true := by
  unfold State.anyRouted State.routed at h ⊢
  rw [List.any_eq_true] at h ⊢
  obtain ⟨k, hk, hr⟩ := h
  obtain ⟨hs, he⟩ := Bool.and_eq_true_iff.mp hr
  have hm : s.fin.route k = s.route k := by simp only [State.route, fin_reg]
  exact ⟨k, hk, Bool.and_eq_true_iff.mpr ⟨source_fin hs, by rw [hm]; exact he⟩⟩

/-- The forward OR stands at the end of a command while an enabled source does. -/
theorem fwdOr_fin {s : State} (h : s.anyRouted = true) : s.fin.host.fwdOr = s.host.fwdOr := by
  have ha := anyRouted_fin h
  unfold State.fin at ha ⊢
  dsimp only at ha ⊢
  split at ha
  · next hr => rw [if_pos hr]
  · next hr => exact absurd ha hr

/-- A forward message leaves, and the forward OR stands. -/
def State.sendForward (s : State) : State := { s.emit .forward with host := { s.host with fwdOr := true } }

theorem sendForward_completes {s : State} (h : s.anyRouted = true) :
    s.sendForward.fin.out = s.out ++ [.forward] ∧ s.sendForward.fin.host.fwdOr = true ∧ Frame [] [.out] [] s s.sendForward.fin := by
  have hs : s.sendForward.anyRouted = true := h
  have hw : (⟨[], [.out], []⟩ : Foot).Within s s.sendForward := (within_emit s .forward).trans (within_fwdOr _ true)
  exact ⟨fin_out _, (fwdOr_fin hs).trans rfl, hw.frame⟩

theorem exec_forwardRepeat (s : State) :
    exec .forwardRepeat s = done (if !s.isRoot && s.anyRouted then s.sendForward else s) := rfl

theorem exec_vectorAssert_member {s : State} (v : Fin 64) (h : s.isRoot = false) : exec (.vectorAssert v) s =
    done (if s.anyRouted && !s.host.fwdOr then s.sendForward else s) := by
  show done (if s.isRoot then vecTry v.val s else forwardRise s) = _
  simp only [h, forwardRise, Bool.not_false, Bool.true_and, Bool.false_eq_true, if_false]
  rfl

theorem exec_forwardMessage (m : Fin 64) (s : State) :
    exec (.forwardMessage m) s = done (if s.isRoot && m.val != 0 then s.setArrBit R.sysRmtPendLo m.val true else s) := rfl

/-- Bits of one run of registers are those of different registers or different bits. -/
theorem arr_apart {a i j : Nat} (h : j ≠ i) : a + 4 * (j / 32) ≠ a + 4 * (i / 32) ∨ j % 32 ≠ i % 32 := by omega

@[simp] theorem fin_arrBit (s : State) (a i : Nat) : s.fin.arrBit a i = s.arrBit a i := fin_regBit s _ _

/-- A bit of a run is a write to its register. -/
theorem frame_setArrBit (s : State) (a i : Nat) (b : Bool) : Frame [a + 4 * (i / 32)] [] [] s (s.setArrBit a i b).fin :=
  (within_setArrBit (F := ⟨[regZone (a + 4 * (i / 32)) (a + 4 * (i / 32))], [], []⟩) s a i b (by simp [Foot.has, Zone.holds])).frame
    (by simp [regZone]) (by simp) (by simp)

/-- Settles O10: the sending commands turn on the OR of the enabled sources and on the role; the root's collection is one bit of its run. -/
theorem forwardMessagesReachTheRoot : Obligations.ForwardMessagesReachTheRoot := by
  intro s
  refine ⟨fun hr ha v => ⟨?_, ?_⟩, fun hr ha v => ⟨?_, ?_⟩, fun hr => ?_, fun m => ⟨fun hr hm => ?_, fun h => ?_⟩⟩
  · refine completes_of_done (exec_vectorAssert_member v hr) ?_
    by_cases hf : s.host.fwdOr = true
    · simp only [ha, hf, Bool.not_true, Bool.and_false, Bool.false_eq_true, if_false, if_true]
      exact ⟨fin_out s, (fwdOr_fin ha).trans hf, frame_same ..⟩
    · simp only [ha, hf, Bool.not_false, Bool.and_true, Bool.false_eq_true, if_false, if_true]
      exact sendForward_completes ha
  · refine completes_of_done (exec_forwardRepeat s) ?_
    simp only [hr, ha, Bool.not_false, Bool.and_true, if_true]
    exact sendForward_completes ha
  · rw [exec_vectorAssert_member v hr, ha]; rfl
  · rw [exec_forwardRepeat, ha, Bool.and_false]; rfl
  · rw [exec_forwardRepeat, hr]; rfl
  · refine completes_of_done (exec_forwardMessage m s) ?_
    simp only [hr, bne_iff_ne, ne_eq, hm, not_false_eq_true, Bool.true_and, if_true]
    exact ⟨(fin_arrBit ..).trans (arrBit_setArrBit_same ..),
      fun n hn => (fin_arrBit ..).trans (arrBit_setArrBit_ne _ _ _ _ _ _ (arr_apart fun e => hn (Fin.ext e))), frame_setArrBit ..⟩
  · have hc : (s.isRoot && m.val != 0) = false := by
      rcases h with h | h <;> simp [h]
    rw [exec_forwardMessage, hc]; rfl

/-! # 64-bit fields (R52) -/

/-- A register that is read as the latched high word of a 64-bit field: none of the registers whose value is made at the read. -/
def highPlain (a : Nat) : Bool :=
  match pageOf a with
  | none => false
  | some p => !([0, 0x010, 0x014, 0x018, 0x01C, 0x020, 0x024].any fun o => a == pageBase p + o)
      && !([R.sysIrqSrcLo, R.sysIrqSrcHi, R.sysStat, R.dupStat].contains a) && !(decide (0x03100 ≤ a) && decide (a < 0x031C0))

theorem highPlain_of_latchLows : ∀ a ∈ latchLows, highPlain (a + 4) = true := by decide

/-- The high word of a 64-bit field reads as its latch. -/
theorem readReg_high (s : State) (m : Nat) {a : Nat} (h : a ∈ latchLows) : s.readReg m (a + 4) = tget 0 s.latches (latchKey m (a + 4)) := by
  have hp := highPlain_of_latchLows a h
  cases hq : pageOf (a + 4) with
  | none =>
    rw [highPlain, hq] at hp
    cases hp
  | some p =>
    rw [highPlain, hq] at hp
    rw [State.readReg, hq]
    simp only [List.any_cons, List.any_nil, List.contains_cons, List.contains_nil, Bool.and_eq_true, Bool.not_eq_true', Bool.or_eq_false_iff,
      beq_eq_false_iff_ne, Bool.and_eq_false_iff, decide_eq_false_iff_not] at hp
    obtain ⟨⟨⟨h0, h1, h2, h3, h4, h5, h6, -⟩, g0, g1, g2, g3, -⟩, hb⟩ := hp
    have h0' : a + 4 ≠ pageBase p := h0
    have hb' : ¬ (0x03100 ≤ a + 4 ∧ a + 4 < 0x031C0) := fun hc => hb.elim (· hc.1) (· hc.2)
    have hl : latchLows.contains (a + 4 - 4) = true := by rw [Nat.add_sub_cancel]; exact List.contains_iff_mem.mpr h
    simp only [h0', h1, h2, h3, h4, h5, h6, g0, g1, g2, g3, hb', hl, if_false, if_true]

/-- Latches of other masters, or of other registers, have other keys. -/
theorem latchKey_inj {m n : Master} {a b : Nat} (ha : a < 2 ^ 32) (hb : b < 2 ^ 32) (h : latchKey m.val a = latchKey n.val b) : m = n ∧ a = b := by
  unfold latchKey at h
  exact ⟨Fin.ext (by omega), by omega⟩

theorem latchLows_lt : ∀ a ∈ latchLows, a + 4 < 2 ^ 32 := by decide

theorem latchHigh_eq (s : State) (m : Nat) {a : Nat} (h : a ∈ latchLows) :
    s.latchHigh m a = { s with latches := tset 0 s.latches (latchKey m (a + 4)) (s.reg (a + 4)) } :=
  if_pos (List.contains_iff_mem.mpr h)

theorem exec_resultLowWordRead {m : Master} {a : Nat} {s : State} {p : Page} (hp : pageOf a = some p) (hb : s.bootGate m.val p = false) :
    exec (.resultLowWordRead m a) s = done ((s.latchHigh m.val a).emit (.readData m.val a (leBytes 4 (s.readReg m.val a).toNat))) := by
  show execResultLowWordRead m a s = _
  unfold execResultLowWordRead
  rw [hp]
  simp only [hostRefused_of_bootGate hb, hb, Bool.false_eq_true, if_false]

theorem within_latches {F : Foot} (s : State) (x : Table Word) (hp : .latches ∈ F.parts := by decide) : F.Within s { s with latches := x } :=
  within_of_part s .latches hp rfl rfl fun p => by
    cases p
    case latches => exact .inl rfl
    case mem => exact .inr fun _ => rfl
    all_goals exact .inr rfl

theorem within_latchHigh {F : Foot} (s : State) (m a : Nat) (hp : .latches ∈ F.parts := by decide) : F.Within s (s.latchHigh m a) := by
  unfold State.latchHigh
  exact .ite (within_latches s _ hp) (.refl _ s)

/-- Settles O8: the read sets the one latch under the key of its master and its high word, and no two keys are equal. -/
theorem lowWordReadLatchesTheHighWord : Obligations.LowWordReadLatchesTheHighWord := by
  intro m a s p hp hb ha
  have hk : ∀ (n : Master) (b : Nat), b ∈ latchLows → (n ≠ m ∨ b ≠ a) → latchKey n.val (b + 4) ≠ latchKey m.val (a + 4) := fun n b hl h e => by
    obtain ⟨hm, hab⟩ := latchKey_inj (latchLows_lt b hl) (latchLows_lt a ha) e
    exact h.elim (· hm) (· (Nat.add_right_cancel hab))
  have ho : ∀ (n : Master) (b : Nat), b ∈ latchLows → (n ≠ m ∨ b ≠ a) →
      (((s.latchHigh m.val a).emit (.readData m.val a (leBytes 4 (s.readReg m.val a).toNat))).fin).readReg n.val (b + 4) = s.readReg n.val (b + 4) :=
    fun n b hl h => by
      rw [readReg_high _ _ hl, readReg_high _ _ hl, fin_latches, latchHigh_eq s _ ha]
      exact tget_tset_ne _ _ _ _ _ (hk n b hl h)
  refine ⟨completes_of_done (exec_resultLowWordRead hp hb) ⟨?_, ?_, ?_, fun n b hn hl => ho n b hl (.inl hn), fun b hl hne => ho m b hl (.inr hne)⟩, ?_⟩
  · rw [readReg_high _ _ ha, fin_latches, latchHigh_eq s _ ha]
    exact tget_tset_same ..
  · have hw : (⟨[], [.latches, .out], []⟩ : Foot).Within s ((s.latchHigh m.val a).emit (.readData m.val a (leBytes 4 (s.readReg m.val a).toNat))) :=
      (within_latchHigh s _ _).trans (within_emit _ _)
    exact hw.frame
  · rw [fin_out, latchHigh_eq s _ ha]; rfl
  · rw [readReg_high _ _ ha]; rfl
end Sys2Proof.Machine

namespace Sys2Proof.Machine
open Safety

/-! # A reset command that does not reach the member (R34, R46) -/

/-- An endpoint in D3hot while SYS is UNLOCKED. -/
def asleepUnlocked : State :=
  { State.reset with hdrs := tset {} State.reset.hdrs Page.sys.idx { lock := .unlocked }, host := { State.reset.host with d3hot := true } }

/-- SYS_RST_CMD with GO and the key. -/
def resetWord : Word := 0xB5EF0001#32

/-- In D3hot the endpoint refuses the host's write, so the command has no effect. -/
theorem exec_sysRstCmd_asleep : exec (.sysRstCmd 0 resetWord) asleepUnlocked = done asleepUnlocked :=
  congrArg done (guarded_gated _ _ _ _ (by decide))

/-- Refutes O3: its clause on resets has no premise against a gated master, and the host's SYS_RST_CMD in D3hot (R34) resets nothing,
so SYS stays UNLOCKED. -/
theorem not_lockStatesFollowTheTable : ¬ Obligations.LockStatesFollowTheTable := by
  intro h
  obtain ⟨-, -, -, -, hreset⟩ := h 0 .sys resetWord asleepUnlocked
  obtain ⟨t, ht, hlock⟩ := hreset (.sysRstCmd 0 resetWord) (by decide)
  obtain rfl := Host.Outcome.next.inj (exec_sysRstCmd_asleep.symm.trans ht)
  have hs := hlock .sys
  rw [fin_lock] at hs
  exact absurd hs (by decide)
end Sys2Proof.Machine

namespace Sys2Proof.Machine
open Safety

/-! # A function level reset under a running DMA descriptor (R34, R338) -/

/-- Channel 0 of the DMA runs, and its descriptor lies in host memory. -/
def hostDescriptor : State := (State.reset.put (R.dmaChStat_state 0) chRUNNING).setChan 0 { desc := 0x800000000000 }

/-- A function level reset before its end: the descriptors on host memory fail, then the page and the vectors return to reset. -/
def State.functionReset (s : State) : State :=
  let t := iterUp 16 (fun n (s : State) => if s.chOnHost n then chFail n 5 s else s) { s with host := { s.host with perst := true } }
  vecClear (pciPageReset { t with host := { t.host with perst := s.host.perst } })

theorem exec_functionLevelReset (s : State) : exec .functionLevelReset s = done s.functionReset := rfl

theorem functionReset_hostDescriptor : hostDescriptor.functionReset.reg (R.dmaChStat 0) = 43#32 ∧ hostDescriptor.reg (R.dmaChStat 0) = 1#32 := by
  decide +kernel

/-- Refutes O11: its clause that a function level reset leaves every register outside the PCI page and the vector words holds only where no
DMA descriptor addresses host memory. Here one does, and its channel's STAT goes from RUNNING to ERROR with CODE 5 (R338). -/
theorem not_endpointEventsActAsListed : ¬ Obligations.EndpointEventsActAsListed := by
  intro h
  obtain ⟨-, -, -, -, -, -, -, t, ht, hreg, -⟩ := h hostDescriptor
  obtain rfl := Host.Outcome.next.inj ((exec_functionLevelReset hostDescriptor).symm.trans ht)
  obtain ⟨hafter, hbefore⟩ := functionReset_hostDescriptor
  have hs := hreg (R.dmaChStat 0) (by decide) (by decide) (by decide)
  rw [fin_reg, hafter, hbefore] at hs
  exact absurd hs (by decide)
end Sys2Proof.Machine

namespace Sys2Proof.Machine
open Safety

/-! # MSI-X vectors (R54, R55) -/

/-! ## What the vectors' own bits leave alone -/

theorem pba_word (v : Nat) : R.pciPba 0 + 4 * (v / 32) = R.pciPba (v / 32) := by simp [R.pciPba]

/-- The bits of vector `v`, and the outward record. -/
def vecFoot (v : Nat) : Foot where
  zones := [⟨R.sysIrqVstatLo + 4 * (v / 32), R.sysIrqVstatLo + 4 * (v / 32), v % 32, v % 32⟩, ⟨R.pciPba (v / 32), R.pciPba (v / 32), v % 32, v % 32⟩]
  parts := [.out]

/-- The words of all vectors, and the outward record. -/
def vecsFoot : Foot where
  zones := [regZone R.sysIrqVstatLo R.sysIrqVstatLo, regZone (R.sysIrqVstatLo + 4) (R.sysIrqVstatLo + 4),
    regZone (R.pciPba 0) (R.pciPba 0), regZone (R.pciPba 1) (R.pciPba 1)]
  parts := [.out]

/-- The words of all vectors and the MSI-X table. -/
def tableFoot : Foot := { vecsFoot with zones := regZone (R.pciMsix 0) (R.pciMsix 255) :: vecsFoot.zones }

theorem vecFoot_le {v : Nat} (hv : v < 64) : (vecFoot v).le vecsFoot = true := by
  have hk : v / 32 = 0 ∨ v / 32 = 1 := by omega
  rcases hk with h | h <;> simp [vecFoot, h, Foot.le, Foot.has, vecsFoot, Zone.holds] <;> omega

/-- Registers that no vector's word and no table entry is. -/
theorem clear_tableFoot {f : Fld} (h : f.addr < R.sysIrqVstatLo ∨ R.sysIrqVstatLo + 4 < f.addr) (h' : f.addr < R.pciMsix 0) : tableFoot.clear f = true := by
  simp only [R.pciMsix, R.sysIrqVstatLo] at h h'
  simp only [tableFoot, vecsFoot, Foot.clear, List.all_cons, List.all_nil, Bool.and_true, Bool.and_eq_true, Zone.apart_iff, R.sysIrqVstatLo, R.pciPba,
    R.pciMsix]
  omega

section
variable {s t : State}

/-- A source is asserted as before where its registers and the headers are. -/
theorem source_tableFoot (h : tableFoot.Within s t) {k : Nat} : t.source k = s.source k := by
  have hb (p : Page) : t.blockIrq p = s.blockIrq p := by unfold State.blockIrq; rw [h.header p List.not_mem_nil]
  unfold State.source
  simp only [hb]
  rw [h.bit R.pciLink_root, h.reg R.sysRmtPendLo, h.reg R.sysRmtPendHi]
  by_cases hk : 32 ≤ k ∧ k < 48
  · have hp := h.get (R.dmaChIrq_pend (k - 32)) (clear_tableFoot (by simp only [R.dmaChIrq_pend, R.dmaChIrq, R.sysIrqVstatLo]; omega)
      (by simp only [R.dmaChIrq_pend, R.dmaChIrq, R.pciMsix]; omega))
    have he := h.get (R.dmaChIrqen_en (k - 32)) (clear_tableFoot (by simp only [R.dmaChIrqen_en, R.dmaChIrqen, R.sysIrqVstatLo]; omega)
      (by simp only [R.dmaChIrqen_en, R.dmaChIrqen, R.pciMsix]; omega))
    simp only [hp, he]
  · simp only [hk, if_false]

theorem vecAsserted_tableFoot (h : tableFoot.Within s t) (v : Nat) : t.vecAsserted v = s.vecAsserted v := by
  have hr (k : Nat) (hk : k < 49) : t.route k = s.route k := by
    unfold State.route
    rw [h.reg _ (clear_tableFoot (by simp only [R.sysIrqMap, R.sysIrqVstatLo]; omega) (by simp only [R.sysIrqMap, R.pciMsix]; omega))]
  have he : ∀ k ∈ List.range 49, (t.routed k && t.route k % 64 == v) = (s.routed k && s.route k % 64 == v) := fun k hk => by
    rw [State.routed, State.routed, source_tableFoot h, hr k (List.mem_range.mp hk)]
  unfold State.vecAsserted
  rw [Bool.eq_iff_iff, List.any_eq_true, List.any_eq_true]
  exact exists_congr fun k => and_congr_right fun hk => by rw [he k hk]

theorem host_within {F : Foot} (h : F.Within s t) (hp : Part.host ∉ F.parts := by decide) : t.host = { s.host with fwdOr := t.host.fwdOr } := h.part .host hp

theorem hostOk_tableFoot (h : tableFoot.Within s t) : t.hostOk = s.hostOk := by
  unfold State.hostOk
  rw [host_within h, h.bit R.pciLink_up]

theorem within_table_of_vecs (h : vecsFoot.Within s t) : tableFoot.Within s t := h.mono rfl

theorem vecMasked_vecsFoot (h : vecsFoot.Within s t) (v : Fin 64) : t.vecMasked v.val = s.vecMasked v.val := by
  unfold State.vecMasked
  rw [host_within h, h.regBit _ _ (by simp only [vecsFoot, Foot.clear, List.all_cons, List.all_nil, Bool.and_true, Bool.and_eq_true, Zone.apart_iff,
    R.sysIrqVstatLo, R.pciPba, R.pciMsix]; omega)]

end

/-! ## One vector -/

section
variable (v : Nat) (s : State)

theorem within_setSent (b : Bool) : (vecFoot v).Within s (s.setArrBit R.sysIrqVstatLo v b) :=
  within_setRegBit s _ _ b (by simp [Foot.has, vecFoot, Zone.holds]) (Nat.mod_lt _ (by decide))

theorem within_setPend (b : Bool) : (vecFoot v).Within s (s.setArrBit (R.pciPba 0) v b) :=
  within_setRegBit s _ _ b (by simp [Foot.has, vecFoot, Zone.holds, R.pciPba]) (Nat.mod_lt _ (by decide))

theorem within_vecSend : (vecFoot v).Within s (vecSend v s) :=
  ((within_emit s _ (List.mem_singleton_self _)).trans (within_setPend v _ false)).trans (within_setSent v _ true)

theorem within_vecMessage : (vecFoot v).Within s (vecMessage v s) := .ite (within_setPend v s true) (within_vecSend v s)

theorem within_vecTry : (vecFoot v).Within s (vecTry v s) := .ite (within_vecMessage v s) (.refl _ s)

theorem within_vecUnmask : (vecFoot v).Within s (vecUnmask v s) :=
  .ite (.refl _ s) (.ite (within_setPend v s false) (.ite (.ite (within_vecSend v s) (.refl _ s)) (within_vecTry v s)))

/-- The words of the vectors' states and of their pending bits are apart. -/
theorem vstat_ne_pba {i j : Nat} (hi : i < 64) : R.sysIrqVstatLo + 4 * (i / 32) ≠ R.pciPba 0 + 4 * (j / 32) := by
  simp only [R.sysIrqVstatLo, R.pciPba]
  omega

variable {v s} (hv : v < 64)

@[simp] theorem vecSent_setSent (b : Bool) : (s.setArrBit R.sysIrqVstatLo v b).vecSent v = b := arrBit_setArrBit_same ..
@[simp] theorem vecPend_setPend (b : Bool) : (s.setArrBit (R.pciPba 0) v b).vecPend v = b := arrBit_setArrBit_same ..

include hv

theorem vecSent_setPend (b : Bool) : (s.setArrBit (R.pciPba 0) v b).vecSent v = s.vecSent v :=
  arrBit_setArrBit_ne _ _ _ _ _ _ (.inl (vstat_ne_pba hv))
theorem vecPend_setSent (b : Bool) : (s.setArrBit R.sysIrqVstatLo v b).vecPend v = s.vecPend v :=
  arrBit_setArrBit_ne _ _ _ _ _ _ (.inl (vstat_ne_pba hv).symm)

/-- What a message that leaves does. -/
theorem vecSend_shows : (vecSend v s).out = s.out ++ [.msix v] ∧ (vecSend v s).vecSent v = true ∧ (vecSend v s).vecPend v = false :=
  ⟨rfl, vecSent_setSent _, (vecPend_setSent hv _).trans (vecPend_setPend _)⟩

end

@[simp] theorem fin_vecSent (s : State) (v : Nat) : s.fin.vecSent v = s.vecSent v := fin_arrBit ..
@[simp] theorem fin_vecPend (s : State) (v : Nat) : s.fin.vecPend v = s.vecPend v := fin_arrBit ..

theorem frame_of_vecFoot {v : Nat} {s u : State} (h : (vecFoot v).Within s u) :
    Frame [R.sysIrqVstatLo + 4 * (v / 32), R.pciPba (v / 32)] [.out] [] s u.fin :=
  h.frame (by simp [vecFoot]) (fun _ hp => hp) (fun _ hq => hq)

/-- What a message does that leaves, when its command has ended. -/
theorem vecSend_completes {v : Nat} (hv : v < 64) (s : State) : (vecSend v s).fin.out = s.out ++ [.msix v] ∧ (vecSend v s).fin.vecSent v = true ∧
    (vecSend v s).fin.vecPend v = false ∧ Frame [R.sysIrqVstatLo + 4 * (v / 32), R.pciPba (v / 32)] [.out] [] s (vecSend v s).fin := by
  obtain ⟨ho, hs, hp⟩ := vecSend_shows (s := s) hv
  exact ⟨(fin_out _).trans ho, (fin_vecSent ..).trans hs, (fin_vecPend ..).trans hp, frame_of_vecFoot (within_vecSend v s)⟩

theorem vecMessage_sends {v : Nat} {s : State} (hm : s.vecMasked v = false) (ho : s.hostOk = true) : vecMessage v s = vecSend v s := by
  simp [vecMessage, hm, ho]

theorem vecMessage_holds {v : Nat} {s : State} (h : s.vecMasked v = true ∨ s.hostOk = false) : vecMessage v s = s.setArrBit (R.pciPba 0) v true := by
  rcases h with h | h <;> simp [vecMessage, h]

theorem vecTry_acts {v : Nat} {s : State} (hr : s.isRoot = true) (he : s.host.msixEn = true) (ha : s.vecAsserted v = true) (hs : s.vecSent v = false) :
    vecTry v s = vecMessage v s := by simp [vecTry, hr, he, ha, hs]

theorem vecTry_idle {v : Nat} {s : State} (h : s.host.msixEn = false ∨ s.vecAsserted v = false ∨ s.vecSent v = true) : vecTry v s = s := by
  rcases h with h | h | h <;> simp [vecTry, h]

theorem exec_vectorAssert_root {s : State} (v : Fin 64) (hr : s.isRoot = true) : exec (.vectorAssert v) s = done (vecTry v.val s) := by
  show done (if s.isRoot then vecTry v.val s else forwardRise s) = _
  rw [hr]
  rfl

/-- VECTOR_ASSERT at the root (R55). -/
theorem vectorAssert_root {v : Fin 64} {s : State} (hr : s.isRoot = true) :
    (s.host.msixEn = true → s.vecAsserted v.val = true → s.vecSent v.val = false →
      (s.vecMasked v.val = false → s.hostOk = true → Completes (.vectorAssert v) s (fun t => t.out = s.out ++ [.msix v.val] ∧
        t.vecSent v.val = true ∧ t.vecPend v.val = false ∧ Frame [R.sysIrqVstatLo + 4 * (v.val / 32), R.pciPba (v.val / 32)] [.out] [] s t)) ∧
      ((s.vecMasked v.val = true ∨ s.hostOk = false) → Completes (.vectorAssert v) s (fun t => t.vecSent v.val = false ∧
        t.vecPend v.val = true ∧ Frame [R.pciPba (v.val / 32)] [] [] s t))) ∧
    ((s.host.msixEn = false ∨ s.vecAsserted v.val = false ∨ s.vecSent v.val = true) → exec (.vectorAssert v) s = .next s.fin) := by
  refine ⟨fun he ha hs => ⟨fun hm ho => ?_, fun h => ?_⟩, fun h => ?_⟩
  · refine completes_of_done (exec_vectorAssert_root v hr) ?_
    rw [vecTry_acts hr he ha hs, vecMessage_sends hm ho]
    exact vecSend_completes v.isLt s
  · refine completes_of_done (exec_vectorAssert_root v hr) ?_
    rw [vecTry_acts hr he ha hs, vecMessage_holds h, ← pba_word]
    exact ⟨((fin_vecSent ..).trans (vecSent_setPend v.isLt _)).trans hs, (fin_vecPend ..).trans (vecPend_setPend _), frame_setArrBit ..⟩
  · rw [exec_vectorAssert_root v hr, vecTry_idle h]
    rfl

/-! ## SYS_IRQ_ACK -/

theorem exec_sysIrqAck {m : Master} {w : Word} {s : State} (h : Reaches s m .sys) : exec (.sysIrqAck m w) s = done (irqAckEffect w s) :=
  congrArg done (guarded_unlocked _ _ _ _ h.1 h.2)

theorem irqAckEffect_eq {w : Word} {s : State} {v : Nat} (hw : R.sysIrqAck_vec.of w = v) : irqAckEffect w s =
    if s.vecSent v then (if s.vecAsserted v then vecMessage v s else s.setArrBit R.sysIrqVstatLo v false) else s := by
  unfold irqAckEffect
  rw [hw]
  dsimp only
  cases s.vecSent v <;> rfl

/-- SYS_IRQ_ACK where it takes effect (R55). -/
theorem sysIrqAck_completes {v : Fin 64} {s : State} {m : Master} {w : Word} (hr : Reaches s m .sys) (hw : R.sysIrqAck_vec.of w = v.val) :
    (s.vecSent v.val = true → s.vecAsserted v.val = true → s.vecMasked v.val = false → s.hostOk = true →
      Completes (.sysIrqAck m w) s (fun t => t.out = s.out ++ [.msix v.val] ∧ t.vecSent v.val = true ∧
        Frame [R.sysIrqVstatLo + 4 * (v.val / 32), R.pciPba (v.val / 32)] [.out] [] s t)) ∧
    (s.vecSent v.val = true → s.vecAsserted v.val = true → (s.vecMasked v.val = true ∨ s.hostOk = false) →
      Completes (.sysIrqAck m w) s (fun t => t.vecSent v.val = true ∧ t.vecPend v.val = true ∧ Frame [R.pciPba (v.val / 32)] [] [] s t)) ∧
    (s.vecSent v.val = true → s.vecAsserted v.val = false → Completes (.sysIrqAck m w) s (fun t => t.vecSent v.val = false ∧
      Frame [R.sysIrqVstatLo + 4 * (v.val / 32)] [] [] s t)) ∧
    (s.vecSent v.val = false → exec (.sysIrqAck m w) s = .next s.fin) := by
  refine ⟨fun hs ha hm ho => ?_, fun hs ha h => ?_, fun hs ha => ?_, fun hs => ?_⟩
  · refine completes_of_done (exec_sysIrqAck hr) ?_
    rw [irqAckEffect_eq hw, if_pos hs, if_pos ha, vecMessage_sends hm ho]
    obtain ⟨hout, hsent, -, hf⟩ := vecSend_completes v.isLt s
    exact ⟨hout, hsent, hf⟩
  · refine completes_of_done (exec_sysIrqAck hr) ?_
    rw [irqAckEffect_eq hw, if_pos hs, if_pos ha, vecMessage_holds h, ← pba_word]
    exact ⟨((fin_vecSent ..).trans (vecSent_setPend v.isLt _)).trans hs, (fin_vecPend ..).trans (vecPend_setPend _), frame_setArrBit ..⟩
  · refine completes_of_done (exec_sysIrqAck hr) ?_
    rw [irqAckEffect_eq hw, if_pos hs, if_neg (by rw [ha]; exact Bool.false_ne_true)]
    exact ⟨(fin_vecSent ..).trans (vecSent_setSent _), frame_setArrBit ..⟩
  · rw [exec_sysIrqAck hr, irqAckEffect_eq hw, if_neg (by rw [hs]; exact Bool.false_ne_true)]
    rfl

/-! ## MSIX_UNMASK of one entry -/

/-- An entry of the table is no word of a vector. -/
theorem msix_lt_pba (v : Fin 64) : R.sysIrqVstatLo + 4 < R.pciMsix (4 * v.val + 3) ∧ R.pciMsix (4 * v.val + 3) < R.pciPba 0 := by
  simp only [R.sysIrqVstatLo, R.pciMsix, R.pciPba]
  omega

theorem within_table_entryMask (v : Fin 64) (s : State) (b : Bool) : tableFoot.Within s (s.setRegBit (R.pciMsix (4 * v.val + 3)) 0 b) :=
  within_setRegBit s _ _ b (Foot.has_mono (z := regZone (R.pciMsix 0) (R.pciMsix 255)) (by decide)
    (by simp only [Zone.holds_iff, R.pciMsix]; omega))

/-- A pending vector whose entry is unmasked sends while it is asserted, and else drops its pending bit. -/
theorem vecUnmask_of_vecPend {v : Nat} {s : State} (hm : s.vecMasked v = false) (hp : s.vecPend v = true) :
    vecUnmask v s = if s.vecAsserted v then (if s.hostOk then vecSend v s else s) else s.setArrBit (R.pciPba 0) v false := by
  simp only [vecUnmask, hm, hp]
  cases s.vecAsserted v <;> rfl

theorem exec_msixUnmask_entry (v : Fin 64) {s : State} (h : Reaches s 0 .pci) :
    exec (.msixUnmask (some v)) s = done (vecUnmask v.val (s.setRegBit (R.pciMsix (4 * v.val + 3)) 0 false)) :=
  congrArg done (guarded_unlocked _ _ _ _ h.1 h.2)

theorem host_fin (s : State) : s.fin.host = { s.host with fwdOr := s.fin.host.fwdOr } := (frame_same [] [] [] s).2.1 .host List.not_mem_nil

theorem vecMasked_fin (s : State) (v : Nat) : s.fin.vecMasked v = s.vecMasked v := by
  unfold State.vecMasked
  rw [fin_regBit, host_fin]

/-- MSIX_UNMASK of a pending vector's entry (R55). -/
theorem msixUnmask_entry {v : Fin 64} {s : State} (hr : Reaches s 0 .pci) (hf : s.host.funcMask = false) (hp : s.vecPend v.val = true) :
    (s.vecAsserted v.val = false → Completes (.msixUnmask (some v)) s (fun t => t.vecPend v.val = false ∧ t.vecMasked v.val = false ∧
      Frame [R.pciMsix (4 * v.val + 3), R.pciPba (v.val / 32)] [] [] s t)) ∧
    (s.vecAsserted v.val = true → s.hostOk = true → Completes (.msixUnmask (some v)) s (fun t => t.out = s.out ++ [.msix v.val] ∧
      t.vecSent v.val = true ∧ t.vecPend v.val = false ∧ t.vecMasked v.val = false ∧
      Frame [R.pciMsix (4 * v.val + 3), R.pciPba (v.val / 32), R.sysIrqVstatLo + 4 * (v.val / 32)] [.out] [] s t)) := by
  have hne := msix_lt_pba v
  have ht := within_table_entryMask v s false
  have hw {F : Foot} (hz : F.has ⟨R.pciMsix (4 * v.val + 3), R.pciMsix (4 * v.val + 3), 0, 0⟩ = true) :
      F.Within s (s.setRegBit (R.pciMsix (4 * v.val + 3)) 0 false) := within_setRegBit s _ _ _ hz
  have hm : (s.setRegBit (R.pciMsix (4 * v.val + 3)) 0 false).vecMasked v.val = false := by
    unfold State.vecMasked
    rw [regBit_setRegBit_same _ _ _ _ (by decide)]
    exact Bool.or_eq_false_iff.mpr ⟨hf, rfl⟩
  have hpe : (s.setRegBit (R.pciMsix (4 * v.val + 3)) 0 false).vecPend v.val = true :=
    (regBit_setRegBit_ne _ _ _ _ _ _ (by decide) (.inl (by omega))).trans hp
  have ha := vecAsserted_tableFoot ht v.val
  have ho := hostOk_tableFoot ht
  have he := exec_msixUnmask_entry v hr
  rw [vecUnmask_of_vecPend hm hpe, ha, ho] at he
  generalize s.setRegBit (R.pciMsix (4 * v.val + 3)) 0 false = u at hw hm he
  refine ⟨fun hn => ?_, fun hn hok => ?_⟩
  · rw [hn, if_neg Bool.false_ne_true] at he
    have hp' := within_setPend v.val u false
    have hm' : (u.setArrBit (R.pciPba 0) v.val false).vecMasked v.val = false :=
      (vecMasked_vecsFoot (hp'.mono (vecFoot_le v.isLt)) v).trans hm
    refine completes_of_done he ⟨(fin_vecPend ..).trans (vecPend_setPend _), (vecMasked_fin ..).trans hm', ?_⟩
    have hz : (⟨[regZone (R.pciMsix (4 * v.val + 3)) (R.pciMsix (4 * v.val + 3)), regZone (R.pciPba (v.val / 32)) (R.pciPba (v.val / 32))], [], []⟩ : Foot).Within s
        (u.setArrBit (R.pciPba 0) v.val false) :=
      (hw (by simp [Foot.has, Zone.holds])).trans (within_setArrBit u _ _ _ (by simp [Foot.has, Zone.holds, pba_word]))
    exact hz.frame (by simp) (by simp) (by simp)
  · rw [hn, hok, if_pos rfl, if_pos rfl] at he
    obtain ⟨hout, hsent, hpend, -⟩ := vecSend_completes v.isLt u
    have hm' : (vecSend v.val u).vecMasked v.val = false := (vecMasked_vecsFoot ((within_vecSend v.val u).mono (vecFoot_le v.isLt)) v).trans hm
    have hz : (⟨regZone (R.pciMsix (4 * v.val + 3)) (R.pciMsix (4 * v.val + 3)) :: (vecFoot v.val).zones, [.out], []⟩ : Foot).Within s (vecSend v.val u) :=
      (hw (by simp [Foot.has, Zone.holds])).then (within_vecSend v.val u)
        (Foot.le_of_subset (fun _ hz => List.mem_cons_of_mem _ hz) (fun _ hp => hp) (fun _ hq => hq))
    have hou : u.out = s.out := (hw (F := ⟨[⟨R.pciMsix (4 * v.val + 3), R.pciMsix (4 * v.val + 3), 0, 0⟩], [], []⟩) (by simp [Foot.has, Zone.holds])).part .out List.not_mem_nil
    exact completes_of_done he ⟨by rw [hout, hou], hsent, hpend, (vecMasked_fin ..).trans hm', hz.frame (by simp [vecFoot]) (by simp) (by simp)⟩

/-! ## Commands that act on every vector -/

/-- Two states agree on vector `v`: between them only vectors' words changed, those of `v` not at all, and messages were added. -/
structure AgreesOn (v : Nat) (s u : State) : Prop where
  within : vecsFoot.Within s u
  sent : u.vecSent v = s.vecSent v
  pend : u.vecPend v = s.vecPend v
  out : s.out <+: u.out

theorem AgreesOn.refl (v : Nat) (s : State) : AgreesOn v s s := ⟨.refl _ s, rfl, rfl, List.prefix_refl _⟩

theorem AgreesOn.trans {v : Nat} {s t u : State} (h : AgreesOn v s t) (h' : AgreesOn v t u) : AgreesOn v s u :=
  ⟨h.within.trans h'.within, h'.sent.trans h.sent, h'.pend.trans h.pend, h.out.trans h'.out⟩

/-- A step on one vector: its bits and messages. -/
structure VectorStep (f : Nat → State → State) : Prop where
  within : ∀ i u, (vecFoot i).Within u (f i u)
  out : ∀ i u, u.out <+: (f i u).out

theorem out_vecMessage (v : Nat) (s : State) : s.out <+: (vecMessage v s).out := by
  unfold vecMessage
  split
  · exact List.prefix_refl _
  · exact List.prefix_append _ _

theorem out_vecTry (v : Nat) (s : State) : s.out <+: (vecTry v s).out := by
  unfold vecTry
  split
  · exact out_vecMessage v s
  · exact List.prefix_refl _

theorem out_vecUnmask (v : Nat) (s : State) : s.out <+: (vecUnmask v s).out := by
  unfold vecUnmask
  split
  · exact List.prefix_refl _
  · split
    · exact List.prefix_refl _
    · split
      · split
        · exact List.prefix_append _ _
        · exact List.prefix_refl _
      · exact out_vecTry v s

theorem vectorStep_try : VectorStep vecTry := ⟨within_vecTry, out_vecTry⟩
theorem vectorStep_unmask : VectorStep vecUnmask := ⟨within_vecUnmask, out_vecUnmask⟩

/-- A step on another vector. -/
theorem VectorStep.agrees {f : Nat → State → State} (hf : VectorStep f) {i v : Nat} (hi : i < 64) (hv : v < 64) (hne : i ≠ v) (s : State) :
    AgreesOn v s (f i s) := by
  have hw := hf.within i s
  have hs : (vecFoot i).clear ⟨R.sysIrqVstatLo + 4 * (v / 32), v % 32, v % 32⟩ = true := by
    simp only [vecFoot, Foot.clear, List.all_cons, List.all_nil, Bool.and_true, Bool.and_eq_true, Zone.apart_iff, R.sysIrqVstatLo, R.pciPba]
    omega
  have hp : (vecFoot i).clear ⟨R.pciPba 0 + 4 * (v / 32), v % 32, v % 32⟩ = true := by
    simp only [vecFoot, Foot.clear, List.all_cons, List.all_nil, Bool.and_true, Bool.and_eq_true, Zone.apart_iff, R.sysIrqVstatLo, R.pciPba]
    omega
  exact ⟨hw.mono (vecFoot_le hi), hw.regBit _ _ hs, hw.regBit _ _ hp, hf.out i s⟩

/-- A pass over the vectors before `v` leaves `v` as it was. -/
theorem VectorStep.before {f : Nat → State → State} (hf : VectorStep f) {n v : Nat} (hn : n ≤ v) (hv : v < 64) (s : State) :
    AgreesOn v s (iterUp n f s) := by
  induction n with
  | zero => exact .refl v s
  | succ n ih =>
    rw [iterUp_succ]
    exact (ih (by omega)).trans (hf.agrees (by omega) hv (by omega) _)

/-- A pass beyond `v` leaves `v` as its own step left it. -/
theorem VectorStep.after {f : Nat → State → State} (hf : VectorStep f) {n v : Nat} (hv : v < n) (hn : n ≤ 64) (s : State) :
    AgreesOn v (f v (iterUp v f s)) (iterUp n f s) := by
  induction n with
  | zero => omega
  | succ n ih =>
    rw [iterUp_succ]
    rcases Nat.lt_succ_iff_lt_or_eq.mp hv with h | h
    · exact (ih h (by omega)).trans (hf.agrees (by omega) (by omega) (by omega) _)
    · rw [h]; exact .refl ..

/-- A pass over all vectors acts on each by its own step, from a state that agrees with the first. -/
theorem VectorStep.all {f : Nat → State → State} (hf : VectorStep f) {v : Nat} (hv : v < 64) (s : State) :
    ∃ u, AgreesOn v s u ∧ AgreesOn v (f v u) (iterUp 64 f s) :=
  ⟨_, hf.before (Nat.le_refl v) hv s, hf.after hv (Nat.le_refl 64) s⟩

/-- A pass over all vectors changes their words and sends messages. -/
theorem VectorStep.within_all {f : Nat → State → State} (hf : VectorStep f) (s : State) : vecsFoot.Within s (iterUp 64 f s) :=
  (Foot.Within.refl _ s).iterUp fun i hi u => (hf.within i u).mono (vecFoot_le hi)

/-- A change of the endpoint followed by a change of the vectors' words. -/
theorem frame_host_vecs {s u : State} (x : HostState) (h : vecsFoot.Within { s with host := x } u) :
    u.fin.host = { x with fwdOr := u.fin.host.fwdOr } ∧
    Frame [R.sysIrqVstatLo, R.sysIrqVstatLo + 4, R.pciPba 0, R.pciPba 1] [.host, .out] [] s u.fin := by
  have hw : (⟨vecsFoot.zones, [.host, .out], []⟩ : Foot).Within s u := (within_host s x).then h
  exact ⟨by rw [host_fin, host_within h], hw.frame⟩

theorem exec_msixUnmask_all (s : State) : exec (.msixUnmask none) s = done (iterUp 64 vecUnmask { s with host := { s.host with funcMask := false } }) := rfl

theorem exec_msixEnable (b : Bool) (s : State) :
    exec (.msixEnable b) s = done (iterUp 64 vecUnmask (iterUp 64 vecTry { s with host := { s.host with msixEn := true, funcMask := b } })) := rfl

theorem exec_msixDisable (s : State) : exec .msixDisable s = done (vecClear { s with host := { s.host with msixEn := false } }) := rfl

/-- MSIX_UNMASK of the function (R55). -/
theorem msixUnmask_all (v : Fin 64) (s : State) : Completes (.msixUnmask none) s (fun t =>
    t.host = { s.host with funcMask := false, fwdOr := t.host.fwdOr } ∧
    (s.regBit (R.pciMsix (4 * v.val + 3)) 0 = false → s.vecPend v.val = true → s.vecAsserted v.val = false → t.vecPend v.val = false) ∧
    Frame [R.sysIrqVstatLo, R.sysIrqVstatLo + 4, R.pciPba 0, R.pciPba 1] [.host, .out] [] s t) := by
  obtain ⟨hh, hf⟩ := frame_host_vecs { s.host with funcMask := false } (vectorStep_unmask.within_all { s with host := { s.host with funcMask := false } })
  refine completes_of_done (exec_msixUnmask_all s) ⟨hh, fun hm hp ha => ?_, hf⟩
  obtain ⟨u, hu, ht⟩ := vectorStep_unmask.all v.isLt { s with host := { s.host with funcMask := false } }
  have hm' : u.vecMasked v.val = false := (vecMasked_vecsFoot hu.within v).trans hm
  have ha' : u.vecAsserted v.val = false := (vecAsserted_tableFoot (within_table_of_vecs hu.within) v.val).trans ha
  rw [fin_vecPend, ht.pend, vecUnmask_of_vecPend hm' (hu.pend.trans hp), ha', if_neg Bool.false_ne_true]
  exact vecPend_setPend _

theorem vecClear_eq (s : State) : vecClear s =
    (((s.setReg R.sysIrqVstatLo 0).setReg (R.pciPba 0) 0).setReg (R.sysIrqVstatLo + 4) 0).setReg (R.pciPba 1) 0 := rfl

theorem within_vecClear {F : Foot} (s : State) (h0 : F.has (regZone R.sysIrqVstatLo R.sysIrqVstatLo) = true := by decide)
    (h1 : F.has (regZone (R.sysIrqVstatLo + 4) (R.sysIrqVstatLo + 4)) = true := by decide)
    (h2 : F.has (regZone (R.pciPba 0) (R.pciPba 0)) = true := by decide) (h3 : F.has (regZone (R.pciPba 1) (R.pciPba 1)) = true := by decide) :
    F.Within s (vecClear s) := by
  rw [vecClear_eq]
  exact (((within_setReg s _ _ h0).trans (within_setReg _ _ _ h2)).trans (within_setReg _ _ _ h1)).trans (within_setReg _ _ _ h3)

theorem reg_setReg_zero {s : State} {a b : Nat} (h : b = a ∨ s.reg b = 0) : (s.setReg a 0).reg b = 0 := by
  by_cases e : b = a
  · rw [e]; exact reg_setReg_same ..
  · rw [reg_setReg_ne _ _ _ _ e]; exact h.resolve_left e

/-- Every vector is in IDLE with no pending bit. -/
theorem vecClear_shows {v : Nat} (hv : v < 64) (s : State) : (vecClear s).vecSent v = false ∧ (vecClear s).vecPend v = false := by
  have hk : v / 32 = 0 ∨ v / 32 = 1 := by omega
  have z {t : State} {a b : Nat} := @reg_setReg_zero t a b
  have hs : (vecClear s).reg (R.sysIrqVstatLo + 4 * (v / 32)) = 0 := by
    rw [vecClear_eq]
    rcases hk with h | h <;> rw [h]
    · exact z (.inr (z (.inr (z (.inr (z (.inl rfl)))))))
    · exact z (.inr (z (.inl rfl)))
  have hp : (vecClear s).reg (R.pciPba 0 + 4 * (v / 32)) = 0 := by
    rw [vecClear_eq]
    rcases hk with h | h <;> rw [h]
    · exact z (.inr (z (.inr (z (.inl rfl)))))
    · exact z (.inl rfl)
  constructor
  · rw [State.vecSent, State.arrBit, State.regBit, hs]; exact BitVec.getLsbD_zero
  · rw [State.vecPend, State.arrBit, State.regBit, hp]; exact BitVec.getLsbD_zero

/-- MSIX_DISABLE (R55). -/
theorem msixDisable_completes (v : Fin 64) (s : State) : Completes .msixDisable s (fun t => t.vecSent v.val = false ∧ t.vecPend v.val = false ∧
    t.host = { s.host with msixEn := false, fwdOr := t.host.fwdOr } ∧
    Frame [R.sysIrqVstatLo, R.sysIrqVstatLo + 4, R.pciPba 0, R.pciPba 1] [.host] [] s t) := by
  have hw : (⟨vecsFoot.zones, [.host], []⟩ : Foot).Within s (vecClear { s with host := { s.host with msixEn := false } }) :=
    (within_host s _).trans (within_vecClear _)
  obtain ⟨hs, hp⟩ := vecClear_shows v.isLt { s with host := { s.host with msixEn := false } }
  exact completes_of_done (exec_msixDisable s) ⟨(fin_vecSent ..).trans hs, (fin_vecPend ..).trans hp, host_fin _, hw.frame⟩

/-- MSIX_ENABLE (R55). -/
theorem msixEnable_completes (v : Fin 64) (b : Bool) (s : State) : Completes (.msixEnable b) s (fun t =>
    t.host = { s.host with msixEn := true, funcMask := b, fwdOr := t.host.fwdOr } ∧
    (s.isRoot = true → b = false → s.vecAsserted v.val = true → s.vecSent v.val = false → s.regBit (R.pciMsix (4 * v.val + 3)) 0 = false →
      s.hostOk = true → t.vecSent v.val = true ∧ t.vecPend v.val = false ∧ .msix v.val ∈ t.out) ∧
    Frame [R.sysIrqVstatLo, R.sysIrqVstatLo + 4, R.pciPba 0, R.pciPba 1] [.host, .out] [] s t) := by
  have hx := exec_msixEnable b s
  have htry := vectorStep_try.within_all { s with host := { s.host with msixEn := true, funcMask := b } }
  obtain ⟨hh, hf⟩ := frame_host_vecs _ (htry.trans (vectorStep_unmask.within_all _))
  refine completes_of_done hx ⟨hh, fun hr hb ha hs hm ho => ?_, hf⟩
  obtain ⟨u, hu, ht⟩ := vectorStep_try.all v.isLt { s with host := { s.host with msixEn := true, funcMask := b } }
  obtain ⟨w, hw, hz⟩ := vectorStep_unmask.all v.isLt (iterUp 64 vecTry { s with host := { s.host with msixEn := true, funcMask := b } })
  have hut := within_table_of_vecs hu.within
  have hr' : u.isRoot = true := (hu.within.bit R.pciLink_root).trans hr
  have he' : u.host.msixEn = true := by rw [host_within hu.within]
  have ha' : u.vecAsserted v.val = true := (vecAsserted_tableFoot hut v.val).trans ha
  have hm' : u.vecMasked v.val = false := by
    rw [vecMasked_vecsFoot hu.within v, State.vecMasked]
    exact Bool.or_eq_false_iff.mpr ⟨hb, hm⟩
  have ho' : u.hostOk = true := (hostOk_tableFoot hut).trans ho
  rw [vecTry_acts hr' he' ha' (hu.sent.trans hs), vecMessage_sends hm' ho'] at ht
  obtain ⟨hout, hsent, hpend⟩ := vecSend_shows (s := u) v.isLt
  have hws : w.vecSent v.val = true := hw.sent.trans (ht.sent.trans hsent)
  have hwp : w.vecPend v.val = false := hw.pend.trans (ht.pend.trans hpend)
  have hkeep : vecUnmask v.val w = w := by
    simp [vecUnmask, hwp, vecTry_idle (.inr (.inr hws))]
  rw [hkeep] at hz
  refine ⟨(fin_vecSent ..).trans (hz.sent.trans hws), (fin_vecPend ..).trans (hz.pend.trans hwp), ?_⟩
  rw [fin_out]
  refine ((ht.out.trans hw.out).trans hz.out).subset ?_
  rw [hout]
  exact List.mem_append_right _ (List.mem_singleton_self _)

/-- Settles O9: each command is one vector's step, or a pass of such steps over all vectors, in which no step touches another vector. -/
theorem vectorsMoveAsTheTableSays : Obligations.VectorsMoveAsTheTableSays := fun v s =>
  ⟨fun hr => vectorAssert_root hr, fun _ _ hr hw => sysIrqAck_completes hr hw, fun hr hf hp => msixUnmask_entry hr hf hp, msixUnmask_all v s,
    msixDisable_completes v s, fun b => msixEnable_completes v b s⟩
end Sys2Proof.Machine

namespace Sys2Proof.Machine
open Safety

/-! # Accesses of the host and of other members (R35 to R37, R267) -/

/-! ## Memory at its own address -/

theorem memBytes_eq {m : List Host.Cell} {a : Nat} {bs : List Byte} (h : ∀ i, i < bs.length → memByte m (a + i) = bs.getD i emptyByte) :
    memBytes m a bs.length = bs := by
  induction bs generalizing a with
  | nil => rfl
  | cons b bs ih =>
    have hb : memByte m a = b := h 0 (Nat.succ_pos _)
    have ht : memBytes m (a + 1) bs.length = bs := ih fun i hi => by
      have := h (i + 1) (Nat.succ_lt_succ hi)
      rwa [← Nat.add_assoc, Nat.add_right_comm] at this
    show memByte m a :: memBytes m (a + 1) bs.length = b :: bs
    rw [hb, ht]

/-- Bytes just written read back. -/
theorem memBytes_memWrite (m : List Host.Cell) (a : Nat) (bs : List Byte) : memBytes (memWrite m a bs) a bs.length = bs :=
  memBytes_eq fun i hi => memByte_memWrite_in m a bs i hi

section
variable {s : State} {m a : Nat} (ha : 0x800000 ≤ a) (hb : a < 0x2000000)
include ha hb

/-- A granted access to SRAM outside the windows is plain (R36, R332). -/
theorem plainAccess_sram {n : Nat} {w : Bool} (hc : s.memCheck m a n w = none) (hw : s.atomWin a = 0)
    (hr : w = true ∨ (s.poisoned a n = false ∧ s.lgeOpen a n = false)) : PlainAccess s m a n w := by
  have ht := target_sram s a ha hb
  refine ⟨hc, ?_, ?_, fun x hx => ?_, hr⟩
  · rw [State.remoteOf, ht]
  · rw [State.localAddr, ht]
  · rw [ht] at hx
    cases hx
    exact hw

theorem memStore_sram (bs : List Byte) (hw : s.atomWin a = 0) : s.memStore m a bs = (s.setBytes a bs).unpoison a bs.length := by
  have ht := target_sram s a ha hb
  have hl : s.localAddr a = a := by rw [State.localAddr, ht]
  unfold State.memStore
  simp only [ht, hl, hw]

/-- A plain store to SRAM: what its command shows at its end. -/
theorem memStore_sram_shows (bs : List Byte) (hw : s.atomWin a = 0) :
    memBytes (s.memStore m a bs).mem a bs.length = bs ∧ SameMemoryBut a bs.length s (s.memStore m a bs) ∧
    (⟨[], [.mem, .sram], []⟩ : Foot).Within s (s.memStore m a bs) := by
  rw [memStore_sram ha hb bs hw]
  exact ⟨memBytes_memWrite .., fun x hx => memByte_memWrite_out s.mem a bs x hx, (within_setBytes s a bs).trans (within_unpoison _ a bs.length)⟩

end

/-! ## Accesses at an address of this member -/

/-- Register space is written as by REGISTER_WRITE. -/
theorem localAccess_regWrite {m a : Nat} (n : Nat) (bs : List Byte) (s : State) (ha : a < 0x800000) :
    localAccess m a n (some bs) s = (some [], busWrite m a n (BitVec.ofNat 64 (leNat bs)) s) := if_pos ha

theorem busLoad_four {m a : Nat} (s : State) (ha : a % 4 = 0) : busLoad m a 4 s = (leBytes 4 (s.busRead m a).toNat, regReadFx m a s) := by
  simp [busLoad, widthOk, ha]

theorem localAccess_regRead {m a : Nat} (s : State) (h : a < 0x800000) (ha : a % 4 = 0) :
    localAccess m a 4 none s = (some (leBytes 4 (s.busRead m a).toNat), regReadFx m a s) := by
  rw [localAccess, if_pos h]
  simp only [busLoad_four s ha]

theorem localAccess_memRead {m a n : Nat} {s : State} (ha : 0x800000 ≤ a) (h : PlainAccess s m a n false) :
    localAccess m a n none s = (some (memBytes s.mem a n), s) := by
  rw [localAccess, if_neg (Nat.not_lt.mpr ha)]
  simp only [devRead_plain s m a n h]
  rfl

theorem localAccess_memWrite {m a n : Nat} {bs : List Byte} {s : State} (ha : 0x800000 ≤ a) (h : PlainAccess s m a bs.length true) :
    localAccess m a n (some bs) s = (some [], s.memStore m a bs) := by
  rw [localAccess, if_neg (Nat.not_lt.mpr ha)]
  simp only [devWrite_plain s m a bs h]
  rfl

/-- A register read by a master other than an engine latches at most a high word. -/
theorem within_regReadFx {m a : Nat} (s : State) (hm : m ≠ 1) : (⟨[], [.latches], []⟩ : Foot).Within s (regReadFx m a s) := by
  have hc : ¬ (m = 1 ∧ a = R.hkaFifoData) := fun h => hm h.1
  unfold regReadFx
  simp only [hc, if_false]
  split
  · exact .ite (.refl _ s) (within_latchHigh s _ _)
  · exact .refl _ s

/-! ## Accesses of the host -/

/-- The endpoint takes the host's requests. -/
structure HostOpen (s : State) : Prop where
  perst : s.host.perst = false
  d3hot : s.host.d3hot = false
  up : s.bit R.pciLink_up = true

theorem exec_hostAccess_closed {s : State} (h : s.host.perst = true ∨ s.host.d3hot = true ∨ s.bit R.pciLink_up = false) (bar0 : Bool) (off : BitVec 31)
    (n : Nat) (data ans : Option (List Byte)) (errs : List (Nat × Bool)) : exec (.hostRemoteAccess bar0 off n data errs ans) s = .next s.fin := by
  have hc : (s.host.perst || s.host.d3hot || !s.bit R.pciLink_up) = true := by rcases h with h | h | h <;> simp [h]
  show execHostRemoteAccess bar0 off n data errs ans s = _
  unfold execHostRemoteAccess
  rw [if_pos hc]
  rfl

section
variable {s : State} (h : HostOpen s) (off : BitVec 31) (n : Nat) (data ans : Option (List Byte)) (errs : List (Nat × Bool))
include h

theorem HostOpen.gate : (s.host.perst || s.host.d3hot || !s.bit R.pciLink_up) = false := by simp [h.perst, h.d3hot, h.up]

/-- An access through BAR0, or to the root's own part of BAR2. -/
theorem exec_hostAccess_own (bar0 : Bool) (hb : bar0 = true ∨ (s.isRoot = true ∧ off.toNat < 0x2000000)) :
    exec (.hostRemoteAccess bar0 off n data errs ans) s =
      done (hostAnswer (off.toNat % 0x2000000) (accessLen n data) data
        (localAccess 0 (off.toNat % 0x2000000) (accessLen n data) data (errs.foldl (fun s e => eccFound 0 e s) s))) := by
  have h1 : ¬ ((!bar0 && !s.isRoot) = true) := by rcases hb with hb | ⟨hb, -⟩ <;> simp [hb]
  have h2 : (bar0 || off.toNat / 0x2000000 == 0) = true := by
    rcases hb with hb | ⟨-, hb⟩
    · rw [hb]; rfl
    · rw [Nat.div_eq_of_lt hb]; exact Bool.or_true _
  show execHostRemoteAccess bar0 off n data errs ans s = _
  unfold execHostRemoteAccess
  simp only [h.gate, Bool.false_eq_true, if_false, h1, h2, if_true]
  rfl

/-- An access through BAR2 at a member that is not the root. -/
theorem exec_hostAccess_notRoot (hr : s.isRoot = false) : exec (.hostRemoteAccess false off n data errs ans) s =
    done (hostAnswer (0x10000000000 + off.toNat) (accessLen n data) data (none, s.raise .pci 0x0101 0)) := by
  have h1 : (!false && !s.isRoot) = true := by rw [hr]; rfl
  show execHostRemoteAccess false off n data errs ans s = _
  unfold execHostRemoteAccess
  simp only [h.gate, Bool.false_eq_true, if_false, h1, if_true]
  rfl

/-- An access through the root's BAR2 to another member. -/
theorem exec_hostAccess_remote (hr : s.isRoot = true) (ho : 0x2000000 ≤ off.toNat) : exec (.hostRemoteAccess false off n data errs ans) s =
    done (hostSend (off.toNat / 0x2000000) (off.toNat % 0x2000000) (accessLen n data) data ans s) := by
  have h1 : ¬ ((!false && !s.isRoot) = true) := by rw [hr]; exact Bool.false_ne_true
  have h2 : ¬ ((false || off.toNat / 0x2000000 == 0) = true) := by
    rw [Bool.false_or, beq_iff_eq]
    omega
  show execHostRemoteAccess false off n data errs ans s = _
  unfold execHostRemoteAccess
  simp only [h.gate, Bool.false_eq_true, if_false, h1, h2]
  rfl

end

/-! ### Through BAR0 -/

section
variable {s : State} (h : HostOpen s) {off : BitVec 31} (ho : off.toNat < 0x2000000) (ans : Option (List Byte))
include h ho

theorem exec_hostAccess_bar0 (n : Nat) (data : Option (List Byte)) : exec (.hostRemoteAccess true off n data [] ans) s =
    done (hostAnswer off.toNat (accessLen n data) data (localAccess 0 off.toNat (accessLen n data) data s)) := by
  have he := exec_hostAccess_own h off n data ans [] true (.inl rfl)
  rwa [Nat.mod_eq_of_lt ho] at he

/-- A 4-byte read of register space. -/
theorem hostRead_register (hr : off.toNat < 0x800000) (ha : off.toNat % 4 = 0) : Completes (.hostRemoteAccess true off 4 none [] ans) s (fun t =>
    t.out = s.out ++ [.readData 0 off.toNat (leBytes 4 (s.busRead 0 off.toNat).toNat)] ∧ Frame [] [.out, .latches] [] s t) := by
  have hl := within_regReadFx (m := 0) (a := off.toNat) s (by decide)
  have hw : (⟨[], [.out, .latches], []⟩ : Foot).Within s
      ((regReadFx 0 off.toNat s).emit (.readData 0 off.toNat (leBytes 4 (s.busRead 0 off.toNat).toNat))) :=
    (Foot.Within.refl _ s).then hl |>.trans (within_emit _ _)
  have hout : (regReadFx 0 off.toNat s).out = s.out := hl.part .out (by decide)
  refine completes_of_done (exec_hostAccess_bar0 h ho ans 4 none) ?_
  rw [show accessLen 4 none = 4 from rfl, localAccess_regRead s hr ha]
  exact ⟨(fin_out _).trans (congrArg (· ++ _) hout), hw.frame⟩

/-- A write to register space. -/
theorem hostWrite_register (n : Nat) (bs : List Byte) (hr : off.toNat < 0x800000) : exec (.hostRemoteAccess true off n (some bs) [] ans) s =
    exec (.registerWrite 0 off.toNat bs.length (BitVec.ofNat 64 (leNat bs))) s := by
  rw [exec_hostAccess_bar0 h ho, show accessLen n (some bs) = bs.length from rfl, localAccess_regWrite _ bs s hr]
  rfl

/-- A granted read of memory. -/
theorem hostRead_memory (n : Nat) (ha : 0x800000 ≤ off.toNat) (hc : s.memCheck 0 off.toNat n false = none) (hw : s.atomWin off.toNat = 0)
    (hp : s.poisoned off.toNat n = false) (hl : s.lgeOpen off.toNat n = false) : Completes (.hostRemoteAccess true off n none [] ans) s (fun t =>
      t.out = s.out ++ [.readData 0 off.toNat (memBytes s.mem off.toNat n)] ∧ Frame [] [.out] [] s t) := by
  have hf : (⟨[], [.out], []⟩ : Foot).Within s (s.emit (.readData 0 off.toNat (memBytes s.mem off.toNat n))) := within_emit s _
  refine completes_of_done (exec_hostAccess_bar0 h ho ans n none) ?_
  rw [show accessLen n none = n from rfl, localAccess_memRead ha (plainAccess_sram ha ho hc hw (.inr ⟨hp, hl⟩))]
  exact ⟨fin_out _, hf.frame⟩

/-- A granted write to memory. -/
theorem hostWrite_memory (n : Nat) (bs : List Byte) (ha : 0x800000 ≤ off.toNat) (hc : s.memCheck 0 off.toNat bs.length true = none)
    (hw : s.atomWin off.toNat = 0) : Completes (.hostRemoteAccess true off n (some bs) [] ans) s (fun t => memBytes t.mem off.toNat bs.length = bs ∧
      SameMemoryBut off.toNat bs.length s t ∧ Frame [] [.mem, .sram] [] s t) := by
  obtain ⟨hm, ho', hf⟩ := memStore_sram_shows (s := s) (m := 0) ha ho bs hw
  refine completes_of_done (exec_hostAccess_bar0 h ho ans n (some bs)) ?_
  rw [show accessLen n (some bs) = bs.length from rfl, localAccess_memWrite ha (plainAccess_sram ha ho hc hw (.inl rfl))]
  exact ⟨by rw [fin_mem]; exact hm, fun x hx => by rw [fin_mem]; exact ho' x hx, hf.frame⟩

/-- The root's own part of BAR2 acts as BAR0. -/
theorem hostAccess_ownBar2 (n : Nat) (data : Option (List Byte)) (errs : List (Nat × Bool)) (hr : s.isRoot = true) :
    exec (.hostRemoteAccess false off n data errs ans) s = exec (.hostRemoteAccess true off n data errs ans) s :=
  (exec_hostAccess_own h off n data ans errs false (.inr ⟨hr, ho⟩)).trans (exec_hostAccess_own h off n data ans errs true (.inl rfl)).symm

end

/-! ### Through BAR2 -/

/-- The CODE of an error recorded where none stood. -/
theorem errCode_raise_fin {s : State} {p : Page} {c m : Nat} {u : State} (hu : u.hdr p = (s.raise p c m).hdr p) (h : (s.hdr p).errCode = 0) :
    (u.fin.hdr p).errCode = BitVec.ofNat 16 c := by rw [fin_errCode, hu, raise_hdr, if_pos h]

/-- A read through BAR2 at a member that is not the root. -/
theorem hostRead_notRoot {s : State} (h : HostOpen s) (hr : s.isRoot = false) (off : BitVec 31) (len : Nat) (ans : Option (List Byte)) :
    Completes (.hostRemoteAccess false off len none [] ans) s (fun t =>
      t.out = s.out ++ [.readData 0 (0x10000000000 + off.toNat) (allOnes len)] ∧
      ((s.hdr .pci).errCode = 0 → (t.hdr .pci).errCode = 0x0101) ∧ Frame [] [.out] [.pci] s t) := by
  have hf : (⟨[], [.out], [.pci]⟩ : Foot).Within s ((s.raise .pci 0x0101 0).emit (.readData 0 (0x10000000000 + off.toNat) (allOnes len))) :=
    (within_raise s _ _ _).trans (within_emit _ _)
  exact completes_of_done (exec_hostAccess_notRoot h off len none ans [] hr) ⟨fin_out _, fun he => errCode_raise_fin rfl he, hf.frame⟩

/-- An access of up to 256 bytes is one frame. -/
theorem remoteFrames_one {n : Nat} (k o : Nat) (data : Option (List Byte)) (s : State) (h0 : 0 < n) (h1 : n ≤ 256) (hd : (data.getD []).length ≤ 256) :
    remoteFrames k o n data s =
      { s.emit (.remoteReq s.host.nextTag k o data.isSome (data.getD [])) with host := { s.host with nextTag := s.host.nextTag + 1 } } := by
  have hn : (n + 255) / 256 = 1 := by omega
  unfold remoteFrames
  rw [hn, iterUp_succ]
  simp only [Nat.mul_zero, Nat.add_zero, List.drop_zero, List.take_of_length_le hd]
  rfl

theorem length_getD_le {data : Option (List Byte)} {len : Nat} (h : accessLen len data ≤ 256) : (data.getD []).length ≤ 256 := by
  cases data with
  | none => exact Nat.zero_le _
  | some bs => exact h

/-- An access that regions allow and nobody answers leaves as a frame and stays in flight. -/
theorem hostSend_unanswered {n : Nat} (k o : Nat) (data : Option (List Byte)) (s : State) (h0 : 0 < n) (h1 : n ≤ 256) (hd : (data.getD []).length ≤ 256)
    (hr : s.regionOk 0 (0x10000000000 + k * 0x2000000 + o) n data.isSome = true) : hostSend k o n data none s =
      { s.emit (.remoteReq s.host.nextTag k o data.isSome (data.getD [])) with
        host := { s.host with nextTag := s.host.nextTag + 1, remote := s.host.remote ++ [⟨s.host.nextTag, k, o, data.isSome, n⟩] } } := by
  unfold hostSend
  simp only [hr, Bool.not_true, Bool.false_eq_true, if_false, ite_self]
  rw [remoteFrames_one k o data s h0 h1 hd]

theorem hostAccess_member {s : State} (h : HostOpen s) (hr : s.isRoot = true) {off : BitVec 31} {len : Nat} {data : Option (List Byte)}
    (ho : 0x2000000 ≤ off.toNat) (h0 : 0 < accessLen len data) (h1 : accessLen len data ≤ 256)
    (hg : s.regionOk 0 (0x10000000000 + off.toNat / 0x2000000 * 0x2000000 + off.toNat % 0x2000000) (accessLen len data) data.isSome = true) :
    Completes (.hostRemoteAccess false off len data [] none) s (fun t =>
      t.out = s.out ++ [.remoteReq s.host.nextTag (off.toNat / 0x2000000) (off.toNat % 0x2000000) data.isSome (data.getD [])] ∧
      t.host.remote = s.host.remote ++ [⟨s.host.nextTag, off.toNat / 0x2000000, off.toNat % 0x2000000, data.isSome, accessLen len data⟩] ∧
      t.host.nextTag = s.host.nextTag + 1 ∧ Frame [] [.out, .host] [] s t) := by
  have he := exec_hostAccess_remote h off len data none [] hr ho
  rw [hostSend_unanswered _ _ data s h0 h1 (length_getD_le h1) hg] at he
  refine completes_of_done he ⟨fin_out _, by rw [host_fin], by rw [host_fin], ?_⟩
  exact Foot.Within.frame (F := ⟨[], [.out, .host], []⟩) ((within_emit s _).trans (within_host _ _))

/-! ### Timeouts and late answers -/

theorem exec_remoteAccessTimeout_none {s : State} {tag : Nat} (h : ∀ r ∈ s.host.remote, r.tag ≠ tag) :
    exec (.remoteAccessTimeout tag) s = .next s.fin := by
  have hf : s.host.remote.find? (fun r => r.tag == tag) = none := List.find?_eq_none.mpr fun r hr hc => h r hr (beq_iff_eq.mp hc)
  show execRemoteAccessTimeout tag s = _
  rw [execRemoteAccessTimeout, hf]
  rfl

/-- The one access in flight runs out of time. -/
theorem remoteAccessTimeout_one {s : State} {r : RemoteReq} (h : s.host.remote = [r]) : Completes (.remoteAccessTimeout r.tag) s (fun t =>
    t.host.remote = [] ∧ r.tag ∈ t.host.late ∧ ((s.hdr .pci).errCode = 0 → (t.hdr .pci).errCode = 0x0004) ∧
    t.out = (if r.write then s.out else s.out ++ [.readData 0 (0x10000000000 + r.member * 0x2000000 + r.addr) (allOnes r.len)]) ∧
    Frame [] [.out, .host] [.pci] s t) := by
  have he : exec (.remoteAccessTimeout r.tag) s = done
      (if r.write then { s with host := { s.host with remote := [], late := s.host.late ++ [r.tag] } }.raise .pci 0x0004 0
       else ({ s with host := { s.host with remote := [], late := s.host.late ++ [r.tag] } }.raise .pci 0x0004 0).emit
         (.readData 0 (0x10000000000 + r.member * 0x2000000 + r.addr) (allOnes r.len))) := by
    show execRemoteAccessTimeout r.tag s = _
    unfold execRemoteAccessTimeout
    simp [h]
  have hw : (⟨[], [.out, .host], [.pci]⟩ : Foot).Within s ({ s with host := { s.host with remote := [], late := s.host.late ++ [r.tag] } }.raise .pci 0x0004 0) :=
    (within_host s _).trans (within_raise _ _ _ _)
  have hl : r.tag ∈ s.host.late ++ [r.tag] := List.mem_append_right _ (List.mem_singleton_self _)
  refine completes_of_done he ?_
  cases r.write
  · exact ⟨by rw [host_fin]; rfl, by rw [host_fin]; exact hl, fun hc => errCode_raise_fin rfl hc, fin_out _, (hw.trans (within_emit _ _)).frame⟩
  · exact ⟨by rw [host_fin]; rfl, by rw [host_fin]; exact hl, fun hc => errCode_raise_fin rfl hc, fin_out _, hw.frame⟩

theorem lateAnswerDiscard_completes (tag : Nat) (s : State) : Completes (.lateAnswerDiscard tag) s (fun t =>
    tag ∉ t.host.late ∧ t.host.remote = s.host.remote ∧ Frame [] [.host] [] s t) := by
  refine ⟨_, rfl, ?_, by rw [host_fin], Foot.Within.frame (F := ⟨[], [.host], []⟩) (within_host s _)⟩
  rw [host_fin]
  intro hm
  simp at hm

/-! ## Accesses of other members -/

/-- What leaves does not move how a command ends. -/
theorem fin_emit (s : State) (e : Emit) : (s.emit e).fin = { s.fin with out := s.fin.out ++ [e] } := by
  have hl (p : Page) : levels (s.emit e) p = levels s p := by cases p <;> rfl
  have hh : latchLevels (s.emit e) Page.all s.hdrs = latchLevels s Page.all s.hdrs := by simp only [latchLevels, hl]
  have hr : ({ s.emit e with hdrs := latchLevels s Page.all s.hdrs } : State).anyRouted = ({ s with hdrs := latchLevels s Page.all s.hdrs } : State).anyRouted := rfl
  unfold State.fin
  dsimp only [State.emit] at hh hr ⊢
  rw [hh, hr]
  split <;> rfl

theorem exec_remoteAccessFrame_unnumbered {s : State} (h : s.get R.galStat_num ≠ 1) (src : Fin 64) (off : BitVec 25) (n : Nat) (data : Option (List Byte))
    (errs : List (Nat × Bool)) : exec (.remoteAccessFrame src off n data errs) s = .next s.fin := by
  show execRemoteAccessFrame src off n data errs s = _
  unfold execRemoteAccessFrame
  exact if_pos h

/-- The answer to an access frame: what the access brings, and nothing where it fails. -/
def frameAnswer (src a : Nat) (r : Option (List Byte) × State) : State :=
  match r.1 with
  | some bs => r.2.emit (.remoteAnswer src a bs)
  | none => r.2

section
variable {s : State} (h : s.get R.galStat_num = 1) (src : Fin 64) {off : BitVec 25}
include h

theorem exec_remoteAccessFrame_numbered (n : Nat) (data : Option (List Byte)) : exec (.remoteAccessFrame src off n data []) s =
    if 0x800000 ≤ off.toNat ∨ s.regionOk 6 off.toNat (accessLen n data) data.isSome = true then
      done (frameAnswer src.val off.toNat (localAccess 6 off.toNat (accessLen n data) data s))
    else done (s.memFault .region 6 off.toNat data.isSome) := by
  have hn : ¬ (s.get R.galStat_num ≠ 1) := not_not.mpr h
  show execRemoteAccessFrame src off n data [] s = _
  unfold execRemoteAccessFrame
  rw [if_neg hn]
  rfl

/-- An access frame that the regions allow is answered with what the access brings. -/
theorem exec_remoteAccessFrame_answered {n : Nat} {data : Option (List Byte)} {bs : List Byte} {u : State}
    (hg : 0x800000 ≤ off.toNat ∨ s.regionOk 6 off.toNat (accessLen n data) data.isSome = true)
    (hl : localAccess 6 off.toNat (accessLen n data) data s = (some bs, u)) :
    exec (.remoteAccessFrame src off n data []) s = done (u.emit (.remoteAnswer src.val off.toNat bs)) := by
  rw [exec_remoteAccessFrame_numbered h, if_pos hg, hl]
  rfl

/-- A register read by a frame, as by master 6. -/
theorem frameRead_register (hr : off.toNat < 0x800000) (ha : off.toNat % 4 = 0) (hg : s.regionOk 6 off.toNat 4 false = true) :
    Completes (.remoteAccessFrame src off 4 none []) s (fun t =>
      t.out = s.out ++ [.remoteAnswer src.val off.toNat (leBytes 4 (s.busRead 6 off.toNat).toNat)] ∧ Frame [] [.out, .latches] [] s t) := by
  have hl := within_regReadFx (m := 6) (a := off.toNat) s (by decide)
  have hw : (⟨[], [.out, .latches], []⟩ : Foot).Within s
      ((regReadFx 6 off.toNat s).emit (.remoteAnswer src.val off.toNat (leBytes 4 (s.busRead 6 off.toNat).toNat))) :=
    (Foot.Within.refl _ s).then hl |>.trans (within_emit _ _)
  have hout : (regReadFx 6 off.toNat s).out = s.out := hl.part .out (by decide)
  exact completes_of_done (exec_remoteAccessFrame_answered h src (.inr hg) (localAccess_regRead s hr ha))
    ⟨(fin_out _).trans (congrArg (· ++ _) hout), hw.frame⟩

/-- A register written by a frame, as by REGISTER_WRITE of master 6. -/
theorem frameWrite_register (n : Nat) (bs : List Byte) (hr : off.toNat < 0x800000) (hg : s.regionOk 6 off.toNat bs.length true = true) :
    ∃ u : State, exec (.registerWrite 6 off.toNat bs.length (BitVec.ofNat 64 (leNat bs))) s = .next u ∧
      exec (.remoteAccessFrame src off n (some bs) []) s = .next { u with out := u.out ++ [.remoteAnswer src.val off.toNat []] } := by
  have hl : localAccess 6 off.toNat (accessLen n (some bs)) (some bs) s =
      (some [], busWrite 6 off.toNat bs.length (BitVec.ofNat 64 (leNat bs)) s) := localAccess_regWrite bs.length bs s hr
  have he := exec_remoteAccessFrame_answered h src (n := n) (data := some bs) (.inr hg) hl
  have hb := exec_registerWrite 6 off.toNat bs.length (BitVec.ofNat 64 (leNat bs)) s
  rw [done, fin_emit] at he
  exact ⟨_, hb, he⟩

/-- Memory read by a frame. -/
theorem frameRead_memory (n : Nat) (ha : 0x800000 ≤ off.toNat) (hc : s.memCheck 6 off.toNat n false = none) (hw : s.atomWin off.toNat = 0)
    (hp : s.poisoned off.toNat n = false) (hl : s.lgeOpen off.toNat n = false) : Completes (.remoteAccessFrame src off n none []) s (fun t =>
      t.out = s.out ++ [.remoteAnswer src.val off.toNat (memBytes s.mem off.toNat n)] ∧ Frame [] [.out] [] s t) := by
  have ho : off.toNat < 0x2000000 := off.isLt
  have hf : (⟨[], [.out], []⟩ : Foot).Within s (s.emit (.remoteAnswer src.val off.toNat (memBytes s.mem off.toNat n))) := within_emit s _
  exact completes_of_done (exec_remoteAccessFrame_answered h src (.inl ha) (localAccess_memRead ha (plainAccess_sram ha ho hc hw (.inr ⟨hp, hl⟩))))
    ⟨fin_out _, hf.frame⟩

/-- Memory written by a frame. -/
theorem frameWrite_memory (n : Nat) (bs : List Byte) (ha : 0x800000 ≤ off.toNat) (hc : s.memCheck 6 off.toNat bs.length true = none)
    (hw : s.atomWin off.toNat = 0) : Completes (.remoteAccessFrame src off n (some bs) []) s (fun t => memBytes t.mem off.toNat bs.length = bs ∧
      SameMemoryBut off.toNat bs.length s t ∧ t.out = s.out ++ [.remoteAnswer src.val off.toNat []] ∧ Frame [] [.mem, .sram, .out] [] s t) := by
  have ho : off.toNat < 0x2000000 := off.isLt
  obtain ⟨hm, hb, hf⟩ := memStore_sram_shows (s := s) (m := 6) ha ho bs hw
  have hz : (⟨[], [.mem, .sram, .out], []⟩ : Foot).Within s ((s.memStore 6 off.toNat bs).emit (.remoteAnswer src.val off.toNat [])) :=
    ((Foot.Within.refl _ s).then hf).trans (within_emit _ _)
  have hout : (s.memStore 6 off.toNat bs).out = s.out := hf.part .out (by decide)
  refine completes_of_done (exec_remoteAccessFrame_answered h src (.inl ha) (localAccess_memWrite ha (plainAccess_sram ha ho hc hw (.inl rfl))))
    ⟨by rw [fin_mem]; exact hm, fun x hx => by rw [fin_mem]; exact hb x hx, (fin_out _).trans (congrArg (· ++ _) hout), hz.frame⟩

end

/-- Settles O12: each clause is one branch of the access, and the accesses at an address of this member share `localAccess`. -/
theorem remoteAccessesSettle : Obligations.RemoteAccessesSettle := by
  intro s
  refine ⟨fun hc bar0 off n data ans errs => exec_hostAccess_closed hc bar0 off n data ans errs, fun hp hd hu => ?_,
    fun r hr => remoteAccessTimeout_one hr, fun tag ht => exec_remoteAccessTimeout_none ht, fun tag => lateAnswerDiscard_completes tag s,
    fun src off => ⟨fun hn n data errs => exec_remoteAccessFrame_unnumbered hn src off n data errs, fun hn =>
      ⟨frameRead_register hn src, frameWrite_register hn src, frameRead_memory hn src, frameWrite_memory hn src⟩⟩⟩
  have ho : HostOpen s := ⟨hp, hd, hu⟩
  exact ⟨fun off ans hb => ⟨hostRead_register ho hb ans, hostWrite_register ho hb ans, hostRead_memory ho hb ans, hostWrite_memory ho hb ans,
      fun n data errs hr => hostAccess_ownBar2 ho hb ans n data errs hr⟩,
    hostRead_notRoot ho, fun hr off len data h1 h2 h3 h4 => hostAccess_member ho hr h1 h2 h3 h4⟩
end Sys2Proof.Machine
